-- ==== Sys2Proof/Word.lean ====
section
/-! DEFINITION. The bytes, the wire values and the few plain arithmetic helpers every other file uses. -/

namespace Sys2Proof

/-- One byte. -/
abbrev Byte := BitVec 8

/-- A value of the object dictionary (R46): a number (every fixed-size type, TIME96 and the Q types as
their raw value) or a byte string (OCTETS and STRING). -/
inductive DVal where
  | num (n : Int)
  | bytes (b : List Byte)
  deriving DecidableEq, Repr, Inhabited

/-- The number a value holds; a byte string holds none and gives 0. -/
def DVal.int : DVal → Int
  | .num n => n
  | .bytes _ => 0

/-- The byte string a value holds; a number holds none and gives the empty string. -/
def DVal.str : DVal → List Byte
  | .num _ => []
  | .bytes b => b

/-- The address of an entry as one number: index × 256 + subindex (R43). -/
def key (idx sub : Nat) : Nat := idx * 256 + sub

/-- Big-endian value of a byte string (R46). -/
def beNat (b : List Byte) : Nat := b.foldl (fun a x => a * 256 + x.toNat) 0

/-- The `n` low bytes of a number, most significant first (R46). -/
def beBytes : Nat → Nat → List Byte
  | 0, _ => []
  | n + 1, v => BitVec.ofNat 8 (v / 256 ^ n) :: beBytes n v

/-- Two's complement reading of an `n`-byte big-endian number (R46). -/
def signedOf (bytes v : Nat) : Int :=
  if v < 256 ^ bytes / 2 then (v : Int) else (v : Int) - (256 ^ bytes : Nat)

/-- Bit `i` of a number. -/
def bit (v i : Nat) : Bool := v.testBit i

/-- The `w` bits of `v` from bit `lo` upwards: field [lo+w-1:lo]. -/
def field (v lo w : Nat) : Nat := v / 2 ^ lo % 2 ^ w

/-- `v` with bit `i` set. -/
def setBit (v i : Nat) : Nat := v ||| 2 ^ i

/-- `v` with bit `i` cleared. -/
def clearBit (v i : Nat) : Nat := if v.testBit i then v - 2 ^ i else v

/-- `v` with bit `i` equal to `b`. -/
def putBit (v i : Nat) (b : Bool) : Nat := if b then setBit v i else clearBit v i

/-- Ceiling division; 0 for a zero divisor. -/
def ceilDiv (a b : Nat) : Nat := if b = 0 then 0 else (a + b - 1) / b

/-- `n` bytes of `b` from offset `o`, short where the string ends. -/
def slice (b : List Byte) (o n : Nat) : List Byte := (b.drop o).take n

/-- `b` padded with zero bytes to `n` bytes. -/
def padTo (n : Nat) (b : List Byte) : List Byte := b ++ List.replicate (n - b.length) 0

/-- The bytes of an ASCII string. -/
def ascii (s : String) : List Byte := s.toList.map fun c => BitVec.ofNat 8 c.toNat

/-- A big-endian field of `n` bytes at offset `o` of a message. -/
def beField (b : List Byte) (o n : Nat) : Nat := beNat (slice b o n)

/-- Wrapping addition of one on a `w`-bit counter. -/
def wrapInc (w v : Nat) : Nat := (v + 1) % 2 ^ w

end Sys2Proof
end

