-- ==== Sys2Proof/Syntax.lean ====
section
/-! DEFINITION. The commands of the block: one constructor of `Instr` per row of spec/opcode_table.json, in the
table's order. The table gives a row no operands; the operands here are what the rule of the row says the event
or command carries, and every quantity measured outside the digital core (a voltage, a margin, a verdict of an
analogue measurement, received symbols) is an operand. -/

namespace Sys2Proof

/-- Where a Drida request came from (R73), and the channels of the DMA engine, which write dictionary entries as blocks
(R473). -/
inductive Source where
  | udp (addr port : Nat)
  | mdio
  | mailbox
  | dma (channel : Nat)
  deriving DecidableEq, Repr

/-- The destination address of a UDP request (R65, R66). -/
inductive Dest where
  | own          -- the device's link-local address
  | allNodes     -- ff02::1
  | otherMulticast
  | otherUnicast
  deriving DecidableEq, Repr

/-- The authentication part of a message (R77). -/
structure Auth where
  slot : Nat
  counter : Nat
  tag : List Byte
  deriving DecidableEq, Repr

/-- What the header and the path of a request say, with the UDP port it is sent to (R56, R65, R66). -/
structure Req where
  src : Source
  dst : Dest
  port : Nat
  version : Nat
  seq : Nat
  auth : Option Auth
  deriving DecidableEq, Repr

/-- One item of a READ (R57). -/
structure RdItem where
  idx : Nat
  sub : Nat
  deriving DecidableEq, Repr

/-- One item of a WRITE or TRANSACTION (R57): the type code sent and the value as bytes. -/
structure WrItem where
  idx : Nat
  sub : Nat
  ty : Nat
  val : List Byte
  deriving DecidableEq, Repr

/-- The body of a request: its opcode with its items (R57). -/
inductive Body where
  | read (items : List RdItem)
  | write (items : List WrItem)
  | readBlock (idx sub off len : Nat)
  | writeBlock (idx sub off : Nat) (data : List Byte)
  | transaction (target : Nat) (items : List WrItem)
  | subscribe (items : List (RdItem × Nat))
  deriving DecidableEq, Repr

/-- A write of WIN_CTRL with go = 1, with the window registers as the host has written them before it (R69). -/
structure MdioOp where
  prtad : Nat
  dev : Nat
  index : Nat
  sub : Nat
  ty : Nat
  len : Nat
  off : Nat
  deriving DecidableEq, Repr

/-- A Clause 45 access to one register: the port and device address, the register, and the value of a write (R69). -/
structure RegAccess where
  prtad : Nat
  dev : Nat
  reg : Nat
  write : Option (BitVec 16)
  deriving DecidableEq, Repr

/-- The line-visible part of a transaction, as the transaction channel carries it (R241). -/
structure Propose where
  num : Nat
  target : Nat
  entMask : Nat
  stateMask : Nat
  newStates : Nat
  mapMask : Nat
  codes : List Nat
  digests : List Nat
  deriving DecidableEq, Repr

/-- An Ethernet frame as the ingress MAC stores it (R272, R281): its bytes, the outer tag as VLAN ID and PCP, the top MPLS label
with its TC, and whether it is a PAUSE or PFC frame. -/
structure Frame where
  id : Nat
  len : Nat
  bytes : List Byte
  fcsOk : Bool
  vlan : Option (Nat × Nat)
  mpls : Option (Nat × Nat)
  control : Bool
  deriving DecidableEq, Repr

/-- A request for cells (R289, R291). `writer` is its position in the rotating order: the client ports, the two bobbin
ports, then the four framer islands. `seqNo` is the protection tag of an egress frame (R437), and `bytes` what one from a bobbin
port or the line has brought: from the first of those of the line its class is found again (R283). -/
structure CellReq where
  writer : Fin 22
  egress : Bool
  tenant : Fin 4096
  cls : Fin 8
  port : Fin 16
  id : Nat
  len : Nat
  seqNo : Option Nat
  bytes : List Byte
  deriving DecidableEq, Repr

/-- A thread LF as the decoder hands it to the framer (R195, R229, R231, R237): its header, its overhead bytes, the stamp of the
block that holds reference symbol 0 and the sample's index in it, and by tenant the bytes of its stitches in the LF, in
ascending position, as the line carries them, and the numbers of the frames admitted to egress queues that have a byte in it
(R248, R289, R310). -/
structure LfIn where
  header : BitVec 64
  overhead : List Byte
  stamp : Nat
  index : Nat
  payload : List (Nat × List Byte)
  frames : List (Nat × List Nat)
  deriving DecidableEq, Repr

/-- A slice's residual error relative to the mean of its ADC (R123): offset in 1/256 LSB, gain in 1/16384, skew in fs, and
bandwidth in parts per million of magnitude at 100 GHz. -/
structure Residual where
  offset : Int
  gain : Int
  skew : Int
  bandwidth : Int
  deriving DecidableEq, Repr

/-- What foreground calibration found (R124): faulty slices as (ADC, slice), the time it took, CALREF_V. -/
structure ForeResult where
  left : List ((Nat × Nat) × Residual)
  durationUs : Nat
  calrefUv : Nat
  deriving DecidableEq, Repr

/-- A slice's measured corrections (R120, R140). -/
structure SliceCorr where
  trim : Nat
  offset : Int
  gain : Int
  skew : Int
  bandwidth : List Byte
  deriving DecidableEq, Repr

/-- What the measurement of a slice gives: the residual found, the one left after it, and the trim and corrections
(R126 step 2). -/
structure SliceMeasure where
  found : Residual
  left : Residual
  corr : SliceCorr
  deriving DecidableEq, Repr

/-- What hardware sees of a live slice (R130): its run of samples with one code, its ADC's mean absolute input and how far its mean
over 65 536 samples lies from its ADC's, both in 1/256 LSB. -/
structure SliceWatch where
  run : Nat
  input : Nat
  meanOff : Int
  deriving DecidableEq, Repr

/-- A DPD_FEEDBACK message (R161). -/
structure DpdMsg where
  pol : Fin 2
  first : Nat
  last : Nat
  corr : List Byte
  residual : Int
  cd : Int
  deriving DecidableEq, Repr

/-- The type field of a bobbin flit with what its payload says (R428): of a TENANT flit the frame it is of, that frame's class
and the sequence of its tag, and the bytes of the frame that it carries (R283, R437). -/
inductive FlitBody where
  | null
  | init (position size code : Nat) (digest : List Byte)
  | tenant (tenant : Nat) (start last : Bool) (valid piece : Nat) (frame cls : Nat) (tag : Option Nat)
    (data : List Byte)
  | request (write : Bool) (tag len addr : Nat) (data : List Byte)
  | response (tag status : Nat) (data : List Byte)
  | nak (expected : Nat)
  | time (t1 t2 t3 t4 : Int) (ql : Nat) (holdover : Bool)
  | prot (group cmd number : Nat) (report : Bool) (sfWorking sfProtect : Bool)
  deriving DecidableEq, Repr

/-- A bobbin flit (R428). `seqNo` and `acked` are modulo 4 096. -/
structure Flit where
  source : Nat
  dest : Nat
  seqNo : Nat
  acked : Nat
  vc0 : Nat
  vc1 : Nat
  body : FlitBody
  deriving DecidableEq, Repr

/-- The fields of a bobbin alignment marker (R402), with what its receiver measured over the marker period that it ends:
the lane's skew and its codewords uncorrectable and corrected, and symbols corrected (R403, R413). -/
structure Marker where
  lane : Nat
  port : Nat
  position : Nat
  idle : Bool
  maskNow : Nat
  maskNext : Nat
  retire : Nat
  switchAt : Nat
  counter : Nat
  crcOk : Bool
  skewPs : Nat
  uncorrectable : Nat
  corrected : Nat
  symbols : Nat
  deriving DecidableEq, Repr

/-- Why a HITLESS RESTART happens (1000:07). -/
inductive RestartCause where
  | host | lockstep | update | memory
  deriving DecidableEq, Repr

/-- A wake cause (R420), in the order of the bits of 9080:08. -/
inductive WakeCause where
  | safe | shed | notification | alert
  deriving DecidableEq, Repr

/-- Why a reference candidate fails: activity lost, its frequency measured outside the limit, in 0.01 ppb against XO_IN, its QL,
a defect of its source, or no exchange accepted for a second (R367, R390). -/
inductive RefFail where
  | activity
  | frequency (offset : Int)
  | dnu | source | exchange
  deriving DecidableEq, Repr

/-- What the picot receiver measured ahead of a packet (R351): the normalised correlation of the preamble in thousandths, the
frequency estimate in kHz, and the 32 symbols at the place of the sync word. -/
structure PicotRx where
  correlation : Nat
  afc : Int
  sync : BitVec 32
  deriving DecidableEq, Repr

/-- The commands and events of the Tiesh. -/
inductive Instr where
  | por
  | railGroupGood (group : Fin 3)
  | porRelease (straps : BitVec 16) (vddCoreMv : Nat) (romOk : Bool)
  | pinReset (lowNs : Nat)
  | mainSupplyLoss (rail : Fin 9)
  | warmRequest
  | warmReset (vddCoreMv : Nat) (romOk : Bool)
  | restartRequest
  | hitlessRestart
  | hitlessRestartComplete
  | lockstepMismatch
  | requestQuiet
  | requestDiscover
  | requestService
  | requestTest
  | requestSafe
  | modeTransitionComplete
  | discoverAdvance
  | discoverTimeout
  | bootComplete
  | canvasPhaseComplete (failed : BitVec 12)
  | manifestChecked (bank : Fin 2) (answers : Bool)
  | multiframeBoundary (arrived : List (Nat × List Bool))
  | read (r : Req) (items : List RdItem)
  | write (r : Req) (items : List WrItem)
  | readBlock (r : Req) (idx sub off len : Nat)
  | writeBlock (r : Req) (idx sub off : Nat) (data : List Byte)
  | pendingCopyExpiry (entry : Nat)
  | transaction (r : Req) (target : Nat) (items : List WrItem)
  | subscribe (r : Req) (items : List (RdItem × Nat))
  | notify (number : Nat)
  | neighbourSolicitation (target : Nat)
  | icmpEcho (dst ident seqNo : Nat) (data : List Byte)
  | dadComplete (duplicate : Bool)
  | plcaBeacon
  | mdioRead (op : MdioOp)
  | mdioWrite (op : MdioOp)
  | mdioReadBlock (op : MdioOp)
  | mdioWriteBlock (op : MdioOp)
  | mdioBadOpcode (op : MdioOp) (opcode : Nat)
  | winDataAccess (a : RegAccess)
  | mailboxDoorbell (ctrl : BitVec 32) (len : Nat) (msg : List Byte)
  | mailboxStatusClear (mask : BitVec 32)
  | proposeReceive (p : Propose) (pages : List (Nat × List Byte))
  | ackReceive (num target : Nat)
  | refuseReceive (num target reason : Nat)
  | confirmReceive (num target : Nat)
  | withdrawReceive (num : Nat)
  | ackDeadline (num : Nat)
  | confirmDeadline (num : Nat)
  | referenceModeWrite (m : Nat)
  | threadRetireDark (k : Fin 32)
  | threadIslandGate (k : Fin 32)
  | readmissionTimeout (k : Fin 32)
  | foregroundCalibrationDone (r : ForeResult)
  | synthLockLoss
  | synthLockReturn
  | calrefCheck (measuredUv : Nat)
  | rotationStart (a : Fin 4)
  | spareMeasurementDone (a : Fin 4) (m : SliceMeasure)
  | shadowWindowEnd (a : Fin 4) (r : Residual) (taps : List Int)
  | releasedSliceMeasured (a : Fin 4) (m : SliceMeasure)
  | sliceFault (a : Fin 4) (slice : Fin 152) (watch : SliceWatch)
  | sliceRetire
  | sliceReadmit (m : SliceMeasure)
  | dacTrimStep (d : Fin 4) (timing gain offset : Int)
  | dacImageTimer (d : Fin 4) (level : Int)
  | gainLoopUpdate (j : Fin 8) (measured : Nat) (readback : Nat)
  | fespiRetry (j : Fin 8) (readback : Nat)
  | hostMute
  | hostUnmute
  | muteRampEnd
  | enableSettleExpiry
  | dpdLocalProposal (p : Fin 2) (set : List Byte) (residual : Int)
  | dpdFeedbackReceive (rx : PicotRx) (m : DpdMsg)
  | dpdFbTimeout
  | lowPowerExit
  | lowPowerRiseStep
  | acqSignalConfirmed
  | acqFrequencyFound (mhz : Int)
  | warmVerifyDone (pass : Bool) (metrics : List Nat)
  | cdCandidateDone (metric : Nat)
  | cdSweepDone
  | clockToneLock
  | blindEqConverged (k : Fin 32)
  | pilotSearchDone (k : Fin 32)
  | carrierLock (k : Fin 32) (timeUs : Nat)
  | acqStepTimeout (step : Nat) (k : Fin 32)
  | rxLosSet
  | rxLosClear
  | rxClkLolSet
  | rxClkLolClear
  | foHighTimer (above : Bool)
  | thrLolSet (k : Fin 32)
  | thrSnrLowTimer (k : Fin 32) (below : Bool)
  | frontEndUpdate (c : Fin 4) (skew gain quad : Int)
  | cdTrackUpdate (residual : Int)
  | nlScaleAdapt (k : Fin 32) (scale : Int)
  | cycleSlip (k : Fin 32)
  | easelArm
  | easelAbort
  | easelTrigger
  | easelCaptureDone (data : List (List Int))
  | codewordRelease (k : Fin 32) (llrs : List Int)
  | budgetCapUpdate (power : Nat)
  | fecWindowEnd (k : Fin 32)
  | forcedFailure (c : Nat)
  | lfReceive (k : Fin 32) (lf : LfIn)
  | lfLofTimer (k : Fin 32) (oof : Bool)
  | lfOhlTimer
  | pageAdopt (k : Fin 32) (page : List Byte)
  | tenOvfClear (n : Fin 4096)
  | pmVerdictCommit
  | ingressFrame (p : Fin 16) (id : Nat) (b : List Byte)
  | cellRequest (cycle : Nat) (rs : List CellReq)
  | egressFrameStart (p : Fin 16) (fcsOk : Bool)
  | shaperPosition (n : Fin 4096) (first : Bool)
  | pauseRepeat (p : Fin 16)
  | pauseReceive (p : Fin 16) (quanta : Nat)
  | pfcReceive (p : Fin 16) (cls : List (Fin 8 × Nat))
  | pauseExpiry (p : Fin 16) (cls : Option (Fin 8))
  | localFaultTimer (p : Fin 16) (clear : Bool)
  | tenantAllocate (n : Fin 4096)
  | tenantFree (n : Fin 4096)
  | exactAdd
  | exactDelete
  | exactLookUp
  | resizeCalendarBuild (num : Nat)
  | s3DarkenFirstSet
  | s3DarkenSecondSet
  | s3Relight
  | shedMaskTimeout (k : Fin 32)
  | wrappedKeyLoad (n : Fin 4096) (data : List Byte)
  | eraseEvenSlot (n : Fin 4096)
  | eraseOddSlot (n : Fin 4096)
  | sealHeaderReceive (n : Fin 4096) (h : BitVec 64) (m : Nat)
  | tagReceive (n : Fin 4096) (tag : List Byte) (lfsAccepted : Bool) (frames : List Nat)
  | derivedKeyWrite (n : Fin 4096)
  | receiveKeyDerive (n : Fin 4096)
  | keyPairGenerated
  | keyshareShareReceive (rx : PicotRx) (payload : List Byte)
  | ecdhDone
  | keyshareConfirmReceive (rx : PicotRx) (payload : List Byte)
  | loadByDeviceKey (s : Fin 64) (data : List Byte)
  | loadByKek (s : Fin 64) (data : List Byte)
  | managementSlotErase (s : Fin 64)
  | entropyTestFail (bits : List Bool)
  | entropyRetest (bits : List Bool)
  | drbgReseed
  | helloReceive (rx : PicotRx) (payload : List Byte)
  | offerReceive (rx : PicotRx) (payload : List Byte)
  | acceptReceive (rx : PicotRx) (payload : List Byte)
  | faultReceive (rx : PicotRx) (payload : List Byte)
  | timeReceive (rx : PicotRx) (payload : List Byte) (arrival : Nat)
  | picotBadPacket (rx : PicotRx) (body : List Int)
  | picotPacketSent
  | helloTimer
  | offerRepeat
  | shareRepeat
  | faultPeriodic
  | timePeriod
  | dpdWindowComplete (x y : List Byte × Int)
  | picotLosTimer
  | candidateFail (r : Fin 9) (cause : RefFail)
  | waitToRestoreExpiry (r : Fin 9) (offset : Int)
  | dpllLock
  | holdoverUpdate (u : Nat)
  | xoFailDetect
  | xoRecovery
  | timeExchange
  | transferSecond
  | crossingCalibration (ps : Int)
  | timeStep
  | setTime (t : Nat)
  | phaseAdjust (ns : Int)
  | ppsOutEdge
  | timeOfDayUpdate
  | laneSignalDetect (l : Fin 16)
  | laneAdaptationDone (l : Fin 16) (ok : Bool) (state : List Byte)
  | laneRetryTimer (l : Fin 16)
  | pcsAligned (p : Fin 16)
  | markerReceive (b : Fin 16) (m : Marker)
  | markerTransmit (q : Fin 2)
  | laneRetireCommand (b : Fin 16)
  | laneReadmitCommand (b : Fin 16)
  | laneReadmitTimer (b : Fin 16)
  | portIdleEnter (q : Fin 2)
  | portIdleExit (q : Fin 2)
  | injectSingle (l : Fin 32)
  | injectContinuous (l : Fin 32)
  | perstAssert
  | perstDeassert
  | wakeCause (c : WakeCause)
  | pmeStatusClear
  | pmeTurnOff
  | initReceive (q : Fin 2) (f : Flit) (distributed : List (Nat × DVal))
  | tenantFlitReceive (q : Fin 2) (f : Flit)
  | requestFlitReceive (q : Fin 2) (f : Flit)
  | responseFlitReceive (q : Fin 2) (f : Flit)
  | nakReceive (q : Fin 2) (f : Flit)
  | flitCrcFail (q : Fin 2)
  | nullFlitDue (q : Fin 2)
  | timeFlitReceive (q : Fin 2) (f : Flit)
  | protFlitReceive (q : Fin 2) (f : Flit)
  | creditTimeout (q : Fin 2) (vc : Fin 2)
  | errorCounterLeak (q : Fin 2)
  | linkRestartTimer (q : Fin 2)
  | linkTakeDown (q : Fin 2)
  | linkRestart (q : Fin 2)
  | dridaWriteGroupWide (item : WrItem) (fromMaster : Bool)
  | resequenceTimeout (n : Fin 4096)
  | holdOffExpiry (j : Fin 256) (protect : Bool)
  | protectionWtrExpiry (j : Fin 256)
  | protectionClear (j : Fin 256)
  | protectionLockout (j : Fin 256)
  | protectionForced (j : Fin 256)
  | protectionManual (j : Fin 256)
  | alertReport (causes : List Nat) (low : Bool)
  | clearAlerts (mask : BitVec 32)
  | heartbeatMiss (n : Fin 12) (engine : Fin 8)
  | engineTrap (n : Fin 12)
  | moveSourceStopped
  | moveDestinationRunning
  | clusterCheckDone (n : Fin 12) (pass : Bool)
  | historyWrite (w : Fin 11)
  | clusterMoveOff (n : Fin 12)
  | clusterRetire (n : Fin 12)
  | clusterReadmit (n : Fin 12)
  | matrixDecodeFault (master : Fin 18) (channel : Fin 64) (addr : Nat)
  | targetTimeout (target : Nat)
  | dmaStart (c : Fin 64)
  | dmaStop (c : Fin 64)
  | dmaBurst (c : Fin 64) (host : List Byte) (pcieOk matrixOk memoryOk : Bool)
  | dmaComplete (c : Fin 64)
  | dmaSettled (c : Fin 64)
  | dmaLateError (c : Fin 64)
  | correctedError (mem : Fin 18) (addr syndrome inst : Nat)
  | uncorrectableRead (mem : Fin 18) (addr syndrome inst : Nat) (master : Fin 18) (both : Bool)
  | scrubRead (mem : Fin 18) (word stored inst : Nat)
  | marchTestLine (mem : Fin 18) (line inst : Nat) (mismatch : Bool)
  | retirePage
  | retireBank
  | clearLog
  | commitSettings
  | commitComplete (ok : Bool)
  | erasePersistence
  | flashEraseSector
  | flashEraseBlock
  | flashProgram
  | flashRead
  | flashBlankCheck
  | flashCommandDone (ok : Bool)
  | flashWindowTimeout
  | bankCheck (answers : Bool)
  | bankActivateHitless (answers : Bool)
  | bankActivateAtReset (answers : Bool)
  | updateStepDone (ok : Bool) (flashAnswers : Bool)
  | bootRecordWriteDone
  | acceptTrial
  | raiseSecurityFuse
  | rewriteBootRecord
  | avsTargetUpdate (pathMv : Nat)
  | setPointWrite (mv : Nat)
  | voltageStepRise (step : Fin 4) (mv : Nat)
  | voltageStepReturn (mv : Nat)
  | pwrWarnAssert (widthNs : Nat)
  | pwrWarnReturn
  | thermalSample (temps : List Int)
  | shedEntry
  | shedExit
  | pmBoundary
  | pmSyncEdge (sinceNs : Nat)
  | pmSyncMissing
  | dumpNow
  | dumpComplete
  | dumpStreamCopy
  | hkRegularPass
  | hkSlotDone (slot : Fin 72) (conversions : List (BitVec 16 × Nat))
  | hkInjectTrigger (source : Fin 4)
  | hkInjectNow
  | pinResetRelease (straps : BitVec 16) (vddCoreMv : Nat) (romOk : Bool)
  | laneSignalLoss (l : Fin 16)
  | requestAcceptTimeout (q : Fin 2) (f : Flit)
  | bobbinTimeExchange (q : Fin 2)
  | deviceStateWrite (d3 msix : Bool) (table : List (Nat × Byte))
  | pcieLinkTrained (width speed : Nat)
  deriving DecidableEq, Repr

end Sys2Proof
end

