-- ==== Sys2Proof/Machine/Crypto.lean ====
section
/-! DEFINITION. The published primitives that the spec names: SHA-384 and HMAC (FIPS 180-4, R77), AES-256 (FIPS 197), key
unwrap (SP 800-38F, R321), GCM (SP 800-38D, R309), and the curve P-384 (R334 to R337). -/

namespace Sys2Proof.Machine

/-! ### SHA-384 -/

/-- The whole part of the `n`-th root of `v`, one bit at a time from bit `w` − 1 down. -/
def wholeRoot (n v w : Nat) : Nat :=
  (List.range w).foldl (fun r i =>
    let c := r + 2 ^ (w - 1 - i)
    if c ^ n ≤ v then c else r) 0

/-- Whether a number is prime, by trial division. -/
def isPrime (n : Nat) : Bool := decide (2 ≤ n) && (List.range n).all fun d => decide (d < 2) || decide (n % d ≠ 0)

/-- The first 80 primes. -/
def primes : List Nat := (List.range 410).filter isPrime

/-- Round constants of SHA-512: 64 fraction bits of the cube roots of the first 80 primes. -/
def shaRound : List Nat := primes.map fun p => wholeRoot 3 (p * 2 ^ 192) 67 % 2 ^ 64

/-- Initial hash value of SHA-384: 64 fraction bits of the square roots of the ninth to sixteenth primes. -/
def sha384Start : List Nat := ((primes.drop 8).take 8).map fun p => wholeRoot 2 (p * 2 ^ 128) 67 % 2 ^ 64

/-- Rotation to the right of a 64-bit word. -/
def rotr (x n : Nat) : Nat := x / 2 ^ n + x * 2 ^ (64 - n) % 2 ^ 64

/-- The message schedule: `left` words more after those held, newest first. -/
def shaSchedule : Nat → List Nat → List Nat
  | 0, w => w
  | left + 1, w =>
    let a := w.getD 1 0
    let b := w.getD 14 0
    let s1 := (rotr a 19) ^^^ (rotr a 61) ^^^ (a / 2 ^ 6)
    let s0 := (rotr b 1) ^^^ (rotr b 8) ^^^ (b / 2 ^ 7)
    shaSchedule left ((s1 + w.getD 6 0 + s0 + w.getD 15 0) % 2 ^ 64 :: w)

/-- One round of the compression function on the eight working words. -/
def shaStep (v : List Nat) (kw : Nat) : List Nat :=
  match v with
  | [a, b, c, d, e, f, g, h] =>
    let t1 := h + ((rotr e 14) ^^^ (rotr e 18) ^^^ (rotr e 41)) + ((e &&& f) ^^^ ((2 ^ 64 - 1 - e) &&& g)) + kw
    let t2 := ((rotr a 28) ^^^ (rotr a 34) ^^^ (rotr a 39)) + ((a &&& b) ^^^ (a &&& c) ^^^ (b &&& c))
    [(t1 + t2) % 2 ^ 64, a, b, c, (d + t1) % 2 ^ 64, e, f, g]
  | v => v

/-- The compression function on one block of 128 bytes. -/
def shaBlock (round : List Nat) (h : List Nat) (block : List Byte) : List Nat :=
  let w0 := ((List.range 16).map fun i => beField block (8 * i) 8).reverse
  let w := (shaSchedule 64 w0).reverse
  List.zipWith (fun a b => (a + b) % 2 ^ 64) h ((List.zipWith (· + ·) round w).foldl shaStep h)

/-- The blocks of a padded message. -/
def shaBlocks (round : List Nat) : Nat → List Nat → List Byte → List Nat
  | 0, h, _ => h
  | n + 1, h, b => shaBlocks round n (shaBlock round h (b.take 128)) (b.drop 128)

/-- SHA-384 of a byte string: 48 bytes. -/
def sha384 (b : List Byte) : List Byte :=
  let z := (239 - b.length % 128) % 128
  let m := b ++ [0x80] ++ List.replicate z 0 ++ beBytes 16 (8 * b.length)
  ((shaBlocks shaRound (m.length / 128) sha384Start m).flatMap fun x => beBytes 8 x).take 48

/-- HMAC-SHA-384. -/
def hmac (k m : List Byte) : List Byte :=
  let k0 := padTo 128 (if 128 < k.length then sha384 k else k)
  sha384 ((k0.map fun x => x ^^^ 0x5C) ++ sha384 ((k0.map fun x => x ^^^ 0x36) ++ m))

/-! ### AES-256 -/

/-- Product in the field of AES, `n` bits of the second factor left. -/
def gfMul : Nat → Nat → Nat → Nat
  | 0, _, _ => 0
  | n + 1, a, b =>
    let d := if bit a 7 then (a * 2 % 256) ^^^ 0x1B else a * 2
    (if bit b 0 then a else 0) ^^^ gfMul n d (b / 2)

/-- Power in the field of AES. -/
def gfPow (a : Nat) : Nat → Nat
  | 0 => 1
  | n + 1 => gfMul 8 a (gfPow a n)

/-- One entry of the S-box: the inverse, then the affine map. -/
def sboxOf (x : Nat) : Nat :=
  let y := gfPow x 254
  let r := fun (n : Nat) => (y * 2 ^ n + y * 2 ^ n / 256) % 256
  y ^^^ r 1 ^^^ r 2 ^^^ r 3 ^^^ r 4 ^^^ 0x63

/-- The S-box. -/
def sbox : List Byte := (List.range 256).map fun x => BitVec.ofNat 8 (sboxOf x)
/-- The inverse S-box. -/
def invSbox : List Byte := (List.range 256).map fun y => BitVec.ofNat 8 (sbox.idxOf (BitVec.ofNat 8 y))

/-- A byte through a table. -/
def through (t : List Byte) (b : Byte) : Byte := t.getD b.toNat 0
/-- Two byte strings added bit by bit. -/
def xorBytes (a b : List Byte) : List Byte := List.zipWith (· ^^^ ·) a b

/-- The key schedule: words of four bytes, newest first, `left` more to make; `i` is the number of the next. -/
def aesSchedule (sb : List Byte) : Nat → Nat → List (List Byte) → List (List Byte)
  | 0, _, w => w
  | left + 1, i, w =>
    let prev := w.headD []
    let t :=
      if i % 8 = 0 then
        xorBytes ((prev.drop 1 ++ prev.take 1).map (through sb)) [BitVec.ofNat 8 (gfPow 2 (i / 8 - 1)), 0, 0, 0]
      else if i % 8 = 4 then prev.map (through sb) else prev
    aesSchedule sb left (i + 1) (xorBytes (w.getD 7 []) t :: w)

/-- The 15 round keys of a 32-byte key. -/
def roundKeys (k : List Byte) : List (List Byte) :=
  let w0 := ((List.range 8).map fun i => slice k (4 * i) 4).reverse
  let w := (aesSchedule sbox 52 8 w0).reverse
  (List.range 15).map fun r => (slice4 w (4 * r)).flatten
where slice4 (w : List (List Byte)) (o : Nat) : List (List Byte) := (w.drop o).take 4

/-- Row `r` of the state moves `r` columns to the left, or by `s` = 3 to the right. -/
def shiftRows (s : Nat) (b : List Byte) : List Byte :=
  (List.range 16).map fun i => b.getD (i % 4 + 4 * ((i / 4 + s * (i % 4)) % 4)) 0

/-- The columns of the state multiplied by a circulant of the field. -/
def mixColumns (m : List Nat) (b : List Byte) : List Byte :=
  (List.range 16).map fun i =>
    BitVec.ofNat 8 ((List.range 4).foldl (fun a j =>
      a ^^^ gfMul 8 (b.getD (4 * (i / 4) + j) 0).toNat (m.getD ((j + 4 - i % 4) % 4) 0)) 0)

/-- One block enciphered under round keys. -/
def aesEnc (ks : List (List Byte)) (b : List Byte) : List Byte :=
  let s := xorBytes b (ks.headD [])
  let s := (List.range 13).foldl (fun s r =>
    xorBytes (mixColumns [2, 3, 1, 1] (shiftRows 1 (s.map (through sbox)))) (ks.getD (r + 1) [])) s
  xorBytes (shiftRows 1 (s.map (through sbox))) (ks.getD 14 [])

/-- One block deciphered under round keys. -/
def aesDec (ks : List (List Byte)) (b : List Byte) : List Byte :=
  let s := (shiftRows 3 (xorBytes b (ks.getD 14 []))).map (through invSbox)
  let s := (List.range 13).foldl (fun s r =>
    (shiftRows 3 (mixColumns [14, 11, 13, 9] (xorBytes s (ks.getD (13 - r) [])))).map (through invSbox)) s
  xorBytes s (ks.headD [])

/-- One step of the unwrapping function: register A and the semiblocks, at step number `t` and semiblock `i`. -/
def unwrapStep (ks : List (List Byte)) (a : List Byte) (r : List (List Byte)) (t i : Nat) : List Byte × List (List Byte) :=
  let b := aesDec ks (xorBytes a (beBytes 8 t) ++ r.getD i [])
  (b.take 8, r.set i (b.drop 8))

/-- Steps `t` down to 1 of the unwrapping function. -/
def unwrapFrom (ks : List (List Byte)) (n : Nat) : Nat → List Byte → List (List Byte) → List Byte × List (List Byte)
  | 0, a, r => (a, r)
  | t + 1, a, r =>
    let x := unwrapStep ks a r (t + 1) (t % n)
    unwrapFrom ks n t x.1 x.2

/-- KW unwrap of SP 800-38F: the plaintext where the integrity check passes (R321, R331). -/
def kwUnwrap (kek c : List Byte) : Option (List Byte) :=
  let n := c.length / 8 - 1
  let x := unwrapFrom (roundKeys kek) n (6 * n) (c.take 8) ((List.range n).map fun i => slice c (8 * (i + 1)) 8)
  if x.1 = List.replicate 8 0xA6 then some x.2.flatten else none

/-- Steps of the wrapping function from number `t` on, `m` of them left. -/
def wrapFrom (ks : List (List Byte)) (n : Nat) : Nat → Nat → List Byte → List (List Byte) → List Byte × List (List Byte)
  | 0, _, a, r => (a, r)
  | m + 1, t, a, r =>
    let b := aesEnc ks (a ++ r.getD (t % n) [])
    wrapFrom ks n m (t + 1) (xorBytes (b.take 8) (beBytes 8 (t + 1))) (r.set (t % n) (b.drop 8))

/-- KW wrap of SP 800-38F (R332). -/
def kwWrap (kek p : List Byte) : List Byte :=
  let n := p.length / 8
  let x := wrapFrom (roundKeys kek) n (6 * n) 0 (List.replicate 8 0xA6) ((List.range n).map fun i => slice p (8 * i) 8)
  x.1 ++ x.2.flatten

/-! ### GCM -/

/-- Product of GHASH, on numbers whose bit 127 is the first bit of the block; `n` bits of `x` left. -/
def ghashMul : Nat → Nat → Nat → Nat → Nat
  | 0, _, _, z => z
  | n + 1, x, v, z =>
    ghashMul n x (if bit v 0 then (v / 2) ^^^ (0xE1 * 2 ^ 120) else v / 2) (if bit x n then z ^^^ v else z)

/-- GHASH of blocks, `n` blocks left. -/
def ghashFrom (h : Nat) : Nat → Nat → List Byte → Nat
  | 0, y, _ => y
  | n + 1, y, b => ghashFrom h n (ghashMul 128 (y ^^^ beNat (padTo 16 (b.take 16))) h 0) (b.drop 16)

/-- Bytes filled with zeros to a whole number of blocks. -/
def blockPad (b : List Byte) : List Byte := padTo (16 * ceilDiv b.length 16) b

/-- The tag of GCM over additional data and ciphertext, with a 96-bit IV; `cbits` is the ciphertext's length in bits
(R309). -/
def gcmTag (key iv aad cipher : List Byte) (cbits : Nat) : List Byte :=
  let ks := roundKeys key
  let h := beNat (aesEnc ks (List.replicate 16 0))
  let m := blockPad aad ++ blockPad cipher ++ beBytes 8 (8 * aad.length) ++ beBytes 8 cbits
  xorBytes (beBytes 16 (ghashFrom h (m.length / 16) 0 m)) (aesEnc ks (iv ++ beBytes 4 1))

/-- GCM's encryption, which is its decryption too: the key stream of the counters from 2 on added to `bits` bits of data
(R309). -/
def gcmCrypt (key iv data : List Byte) : List Byte :=
  let ks := roundKeys key
  xorBytes data ((List.range (ceilDiv data.length 16)).flatMap fun i => aesEnc ks (iv ++ beBytes 4 (i + 2)))

/-! ### P-384 -/

/-- The field prime of P-384. -/
def p384 : Nat := 2 ^ 384 - 2 ^ 128 - 2 ^ 96 + 2 ^ 32 - 1
/-- The order of the group. -/
def n384 : Nat := 0xffffffffffffffffffffffffffffffffffffffffffffffffc7634d81f4372ddf581a0db248b0a77aecec196accc52973
/-- The coefficient b of the curve. -/
def b384 : Nat := 0xb3312fa7e23ee7e4988e056be3f82d19181d9c6efe8141120314088f5013875ac656398d8a2ed19d2a85c8edd3ec2aef
/-- The base point. -/
def g384 : Nat × Nat :=
  (0xaa87ca22be8b05378eb1c71ef320ad746e1d3b628ba79b9859f741e082542a385502f25dbf55296c3a545e3872760ab7,
   0x3617de4a96262c6f5d9e98bf9292dc29f8f41dbd289a147ce9da3113b5f0b8c00a60b1ce1d7e819d7a431d7c90ea0e5f)

/-- Power modulo `m`, with `bits` bits of the exponent. -/
def powMod (m : Nat) : Nat → Nat → Nat → Nat
  | 0, _, _ => 1 % m
  | n + 1, a, e =>
    let r := powMod m n (a * a % m) (e / 2)
    if e % 2 = 1 then r * a % m else r

/-- The inverse modulo a prime. -/
def invMod (m a : Nat) : Nat := powMod m 384 a (m - 2)

/-- Sum of two points; `none` is the point at infinity. -/
def ecAdd (p q : Option (Nat × Nat)) : Option (Nat × Nat) :=
  match p, q with
  | none, q => q
  | p, none => p
  | some (x1, y1), some (x2, y2) =>
    if x1 = x2 ∧ (y1 + y2) % p384 = 0 then none
    else
      let l :=
        if x1 = x2 then (3 * x1 * x1 + p384 - 3) * invMod p384 (2 * y1) % p384
        else (y2 + p384 - y1) * invMod p384 (x2 + p384 - x1) % p384
      let x := (l * l + 2 * p384 - x1 - x2) % p384
      some (x, (l * (x1 + p384 - x) + p384 - y1) % p384)

/-- A multiple of a point, with `n` bits of the scalar left. -/
def ecMul : Nat → Nat → Option (Nat × Nat) → Option (Nat × Nat)
  | 0, _, _ => none
  | n + 1, k, p =>
    let r := ecMul n (k / 2) (ecAdd p p)
    if k % 2 = 1 then ecAdd r p else r

/-- The encoding of a point: 0x04, x, y. -/
def pointBytes (p : Option (Nat × Nat)) : List Byte :=
  match p with
  | some (x, y) => 0x04 :: (beBytes 48 x ++ beBytes 48 y)
  | none => [0]

/-- Why a public key from outside is rejected: causes 1 to 3 of R336; 0 where it is accepted (R337). -/
def keyCause (b : List Byte) : Nat :=
  let x := beField b 1 48
  let y := beField b 49 48
  if b.length ≠ 97 ∨ b.headD 0 ≠ 0x04 then 1
  else if p384 ≤ x ∨ p384 ≤ y then 2
  else if y * y % p384 ≠ (x * x * x + (p384 - 3) * x + b384) % p384 then 3
  else 0

/-- The point of an accepted key. -/
def keyPoint (b : List Byte) : Option (Nat × Nat) := some (beField b 1 48, beField b 49 48)

/-- ECDH: the x coordinate of the product, 48 bytes; `none` at the point at infinity, cause 4 (R336). -/
def ecdh (scalar : Nat) (b : List Byte) : Option (List Byte) :=
  (ecMul 384 scalar (keyPoint b)).map fun p => beBytes 48 p.1

/-- ECDSA verification with SHA-384: the cause of a rejection, 5 to 7, or 0 (R336). -/
def ecdsaCause (key msg : List Byte) (r s : Nat) : Nat :=
  if r = 0 ∨ s = 0 then 5
  else if n384 ≤ r ∨ n384 ≤ s then 6
  else
    let w := invMod n384 s
    let u1 := beNat (sha384 msg) * w % n384
    let u2 := r * w % n384
    match ecAdd (ecMul 384 u1 (some g384)) (ecMul 384 u2 (keyPoint key)) with
    | some (x, _) => if x % n384 = r then 0 else 7
    | none => 7

end Sys2Proof.Machine
end

