-- ==== Sys2Proof/Config.lean ====
section
/-! DEFINITION. What the spec leaves to the silicon, the factory or the canvas bundle, or leaves open: constants
with no body, so that a statement holds whatever they are. None of them is a number this model chose. -/

namespace Sys2Proof.Config

/-- A free value: what the spec says results, without saying which value (log entry 3). `n` is the count of
free values drawn so far (State.free), so two draws are unrelated. -/
opaque freeNat : Nat → Nat

/-- A free truth value, as `freeNat` (a PWR_WARN_N pulse of 20 to 100 ns, R572). -/
opaque freeBool : Nat → Bool

/-- The values the tables give as Factory, Per canvas, Per template, Per device, Per event or Fixed, by the key of
the entry (log entry 4). -/
opaque factory : Nat → DVal

/-- The base matrix of the native code, as free numbers that `baseShift` brings to R203's bounds. -/
opaque baseRaw (row column : Nat) : Nat

/-- Whether a check-to-variable message of the decoder, three quarters of the smallest magnitude, is rounded up where it
is not a whole number: R210 gives the factor and the width, not the rounding. -/
opaque minSumUp : Nat → Bool

/-- The columns of the memories' Hsiao code, as free numbers that `dataColumns` and `addrColumns` bring to what R480 says of them:
the spec does not list them. -/
opaque columnRaw : Nat → Nat

/-- The order of the events inside the groups of R543, as free numbers that `eventCode` makes into an order: the pattern book names
the events, and the spec does not list their order. -/
opaque eventOrder : Nat → Nat

/-- The phase of the rotating order of the cell writers (R291: not specified, may differ between resets). -/
opaque rankPhase : Nat → Nat

/-- The fused storage key (R332, R505). -/
opaque storageKey : List Byte

/-- The device private key, fused at manufacture (R331). -/
opaque deviceKey : Nat

/-- The SHA-384 digest fused for Umamos key index `i`, and whether the index is revoked (R499). -/
opaque keyDigest : Nat → List Byte
opaque keyRevoked : Nat → Bool

/-- The gaps between the template numbers in use: the canvas decides (R53, log entry 129). -/
opaque templateGap : Nat → Nat

/-- Fields of the descriptors that only the canvas gives: unit code and scale, the bounds of a TIME96 entry and a default
that differs from instance to instance (R54, log entry 129). -/
opaque canvasField : Nat → Nat

/-- The milliseconds left of the voltage step's return at uptime `t`: when VDD_CORE rose is not seen by the model (1011:08,
R533). -/
opaque returnLeft (t : Nat) : Nat

/-- What an entry that the hardware measures, estimates or counts by itself shows, by the key of the entry and the uptime:
no row of the table brings these values (log entry 119). -/
opaque reading (k t : Nat) : Nat

/-- How far the bound on the energy of a block of 256 amplitude indices lies above the least one, in units of 8, for m and an
entropy code (R146: "the bound set for the thread's entropy code"). -/
opaque energySlack (m code : Nat) : Nat

/-- Filter responses the spec names and does not list: the transmit interpolators, the receive half-band stage and the resampler by
its length and phase (R113, R175). -/
opaque interpTap (factor : Nat) (lag : Int) : Rat
opaque halfBandTap (lag : Nat) : Rat
opaque resampleTap (length phase lag : Nat) : Rat

/-- The linearised code of a DAC, from its foreground calibration (R145 operation 13). -/
opaque linearCode (component : Nat) (code : Int) : Int

/-- Whether a number that is not whole is rounded up to a code. -/
opaque roundUp : Rat → Bool

/-- The response of the dispersion filter at a bin of its FFT, and its overlap (R177). -/
opaque cdResponse (cd : Int) (rate bin : Nat) : Rat × Rat
opaque cdOverlap : Nat

/-- What the hardware tracks by itself, by the uptime: the deviation of the far end's symbol clock in 2^-32 and the timing phase
in 64ths of a sample (R175). -/
opaque clockRatio (t : Nat) : Int
opaque timingPhase (t : Nat) : Int

/-- Step size of an equaliser and weight of a loop, from what the engine has set (R27, R182). -/
opaque stepSize : Nat → Rat

/-- The weight with which a pilot's phase error moves the frequency followed (R183). -/
opaque loopGain : Rat

/-- The logarithm of the prior probability of an amplitude index at m and an entropy code (R185). -/
opaque logPrior (m code index : Nat) : Rat

/-- The numbers of a nonlinearity compensation table, from the dispersion and the launch power (R156, R184). -/
opaque nlField : Int → Int → Nat → Int

/-- How far the frequency offset has drifted from its coarse value, in MHz, at an uptime (R183). -/
opaque drift (t : Nat) : Int

/-- The analogue input delay in ps, calibrated at manufacture (R195). -/
opaque analogueDelay : Nat

/-- The transmit latency of a configuration beyond its encoder's, in ps, by the numbers of the configuration: R169 has it constant for a
configuration and gives no figure. -/
opaque transmitLatency : List Nat → Nat

/-- The time without a BEACON after which a node falls back to CSMA/CD, in µs: IEEE 802.3cg gives it, not the spec (R67). -/
opaque csmaAfter : Nat

/-- The part of a client bit that waits in a CBR mapper beside the whole ones, in 1/256 bit, by tenant and multiframe: the client's
clock gives it (R254). -/
opaque mapperPhase (n mf : Nat) : Nat

/-- What stands in the place of the tag where Tag valid is 0, by tenant and multiframe (R310, R311). -/
opaque unsentTag (n mf : Nat) : List Byte

/-- The device and package identifiers of Clause 45 registers 2, 3, 14 and 15 (R69). -/
opaque mdioIdentifier (reg : Nat) : Nat

end Sys2Proof.Config
end

