-- ==== Sys2Proof/Machine/Entries.lean ====
section
/-! DEFINITION. The object dictionary: every record and every entry of the spec's tables, with its type, access,
class, default, range and descriptor flags (R43 to R55), transcribed from the tables of spec/00 to spec/19. -/

namespace Sys2Proof

/-- The type of an entry (R46). -/
inductive Ty where
  | bool | u8 | u16 | u32 | u64 | i16 | i32 | i64 | q (int frac : Nat) | enum8 | bits32
  | octets (n : Nat) | str (n : Nat) | time96
  deriving DecidableEq, Repr

/-- The access of an entry (R49). -/
inductive Acc where
  | ro | rw | wo | rwq | rwt | key
  deriving DecidableEq, Repr

/-- The persistence class of an entry (R50). -/
inductive Cls where
  | v | w | a | n
  deriving DecidableEq, Repr

/-- The default column: a number, a byte string, `n` bytes of one value, or one of the named contents the text of a
record gives. -/
inductive Dflt where
  | n (v : Int)
  | bytes (b : List Byte)
  | rep (count : Nat) (b : Byte)
  | identity        -- the identity DPD set (R158)
  | centreTap       -- a bandwidth tap set with unit centre tap (R118)
  | factory         -- fixed at manufacture, per canvas, per code or per template
  | inst            -- the number of the instance
  | clusterItem     -- cluster n carries item n, C11 none (R451)
  | rank            -- eviction rank of a work item (R456)
  deriving DecidableEq, Repr

/-- The range column: any value, number intervals, length intervals, or the bits a BITS32 entry defines. -/
inductive Rng where
  | any
  | ints (r : List (Int × Int))
  | lens (r : List (Nat × Nat))
  | bits (mask : Nat)
  deriving DecidableEq, Repr

/-- One line of a record's table, with its name. `flags` are the descriptor flags of R54: bit 0 committable, bit 1 line-visible,
bit 2 group-wide, bit 3 wrapping. -/
structure Entry where
  sub : Nat
  ty : Ty
  acc : Acc
  cls : Cls
  dflt : Dflt
  rng : Rng
  flags : Nat
  name : String
  deriving DecidableEq, Repr

/-- A record and its `count` instances from index `base` on. -/
structure Rec where
  base : Nat
  count : Nat
  entries : List Entry
  deriving DecidableEq, Repr

/-- Record 0000 (R5, spec/00_scope.md). -/
def rec0000 : List Entry := [
    ⟨0x00, .u8, .ro, .v, (.n 4), (.ints [(4, 4)]), 0, "Highest subindex"⟩,
    ⟨0x01, .u32, .ro, .v, .factory, (.ints [(1, 262144)]), 0, "Entry count"⟩,
    ⟨0x02, .enum8, .ro, .v, .factory, (.ints [(0, 2)]), 0, "Ordering code"⟩,
    ⟨0x03, (.str 4), .ro, .v, (.bytes [65, 49, 0, 0]), .any, 0, "Silicon revision"⟩,
    ⟨0x04, .u16, .ro, .v, (.n 256), (.ints [(256, 65535)]), 0, "Pattern book version"⟩
  ]

/-- Record 0001 (R51, spec/02_dictionary.md). -/
def rec0001 : List Entry := [
    ⟨0x00, .u8, .ro, .v, (.n 3), (.ints [(3, 3)]), 0, "Highest subindex"⟩,
    ⟨0x01, (.octets 6), .ro, .v, .factory, .any, 0, "Management MAC address"⟩,
    ⟨0x02, (.str 16), .ro, .v, .factory, .any, 0, "Serial number"⟩,
    ⟨0x03, (.octets 8), .ro, .v, .factory, .any, 0, "Layout digest"⟩
  ]

/-- Record 0010 (R53, spec/02_dictionary.md). -/
def rec0010 : List Entry := [
    ⟨0x00, .u8, .ro, .v, (.n 2), (.ints [(2, 2)]), 0, "Highest subindex"⟩,
    ⟨0x01, .u16, .ro, .v, .factory, (.ints [(1, 4096)]), 0, "Directory length"⟩,
    ⟨0x02, (.octets 32768), .ro, .v, .factory, .any, 0, "Directory"⟩
  ]

/-- Record 0011 (R53, spec/02_dictionary.md). -/
def rec0011 : List Entry := [
    ⟨0x00, .u8, .ro, .v, (.n 1), (.ints [(1, 1)]), 0, "Highest subindex"⟩,
    ⟨0x01, (.str 2048), .ro, .v, .factory, .any, 0, "Unit names"⟩
  ]

/-- Record 0100 and the 3840 instances from it (R53, spec/02_dictionary.md). -/
def rec0100 : List Entry := [
    ⟨0x00, .u8, .ro, .v, (.n 4), (.ints [(4, 4)]), 0, "Highest subindex"⟩,
    ⟨0x01, .u16, .ro, .v, .inst, (.ints [(0, 3839)]), 0, "Template number"⟩,
    ⟨0x02, .u8, .ro, .v, .factory, (.ints [(1, 255)]), 0, "Descriptor count"⟩,
    ⟨0x03, (.octets 12240), .ro, .v, .factory, .any, 0, "Descriptors"⟩,
    ⟨0x04, (.str 8192), .ro, .v, .factory, .any, 0, "Names"⟩
  ]

/-- Record 1000 (R539, spec/18_power_reset.md). -/
def rec1000 : List Entry := [
    ⟨0x00, .u8, .ro, .v, (.n 17), (.ints [(17, 17)]), 0, "Highest subindex"⟩,
    ⟨0x01, .enum8, .ro, .v, (.n 1), (.ints [(1, 6)]), 0, "Last reset"⟩,
    ⟨0x02, .u32, .ro, .a, (.n 0), .any, 8, "Warm resets"⟩,
    ⟨0x03, .u32, .ro, .w, (.n 0), .any, 8, "Hitless restarts"⟩,
    ⟨0x04, .u32, .ro, .w, (.n 0), .any, 8, "Island resets"⟩,
    ⟨0x05, .u8, .ro, .w, (.n 255), (.ints [(0, 111), (255, 255)]), 0, "Last island"⟩,
    ⟨0x06, .enum8, .ro, .w, (.n 0), (.ints [(0, 3)]), 0, "Last island cause"⟩,
    ⟨0x07, .enum8, .ro, .w, (.n 0), (.ints [(0, 4)]), 0, "Last restart cause"⟩,
    ⟨0x08, .time96, .ro, .v, (.n 0), .any, 0, "Last reset time"⟩,
    ⟨0x09, .bits32, .ro, .v, (.n 0), .any, 0, "Straps"⟩,
    ⟨0x0A, .bits32, .ro, .v, (.n 0), .any, 0, "Start-up defects"⟩,
    ⟨0x10, .u16, .wo, .v, (.n 0), (.ints [(42330, 42330)]), 0, "WARM request"⟩,
    ⟨0x11, .u16, .wo, .v, (.n 0), (.ints [(42330, 42330)]), 0, "Restart request"⟩
  ]

/-- Record 1001 (R39, spec/01_architecture.md). -/
def rec1001 : List Entry := [
    ⟨0x00, .u8, .ro, .v, (.n 8), (.ints [(8, 8)]), 0, "Highest subindex"⟩,
    ⟨0x01, .enum8, .ro, .v, (.n 2), (.ints [(0, 7)]), 0, "Current mode"⟩,
    ⟨0x02, .enum8, .rw, .v, (.n 2), (.ints [(2, 2), (3, 3), (4, 4), (6, 6), (7, 7)]), 0, "Requested mode"⟩,
    ⟨0x03, .time96, .ro, .v, (.n 0), .any, 0, "Mode entry time"⟩,
    ⟨0x04, .enum8, .ro, .a, (.n 0), (.ints [(0, 5)]), 0, "Last SAFE cause"⟩,
    ⟨0x05, .enum8, .ro, .v, (.n 0), (.ints [(0, 0), (2, 2), (3, 3), (4, 4), (6, 6)]), 0, "Mode before SHED"⟩,
    ⟨0x06, .u32, .ro, .v, (.n 0), (.ints [(0, 4294967295)]), 8, "Transition count"⟩,
    ⟨0x07, .bits32, .ro, .v, (.n 0), .any, 0, "Discover progress"⟩,
    ⟨0x08, .bool, .ro, .v, (.n 0), (.ints [(0, 1)]), 0, "Transition in progress"⟩
  ]

/-- Record 1010 (R540, spec/18_power_reset.md). -/
def rec1010 : List Entry := [
    ⟨0x00, .u8, .ro, .v, (.n 7), (.ints [(7, 7)]), 0, "Highest subindex"⟩,
    ⟨0x01, .u16, .ro, .v, (.n 750), (.ints [(600, 750)]), 0, "VDD_CORE target"⟩,
    ⟨0x02, .u16, .rw, .a, (.n 750), (.ints [(600, 750)]), 0, "VDD_CORE set point"⟩,
    ⟨0x03, .u16, .ro, .v, (.n 0), .any, 0, "VDD_CORE measured"⟩,
    ⟨0x04, .u16, .ro, .v, (.n 0), .any, 0, "Power estimate"⟩,
    ⟨0x05, .bits32, .ro, .v, (.n 511), .any, 0, "Rails good"⟩,
    ⟨0x06, .bits32, .ro, .v, (.n 0), .any, 0, "Supply defects"⟩,
    ⟨0x07, .u32, .ro, .v, (.n 0), .any, 8, "Set point changes"⟩
  ]

/-- Record 1011 (R540, spec/18_power_reset.md). -/
def rec1011 : List Entry := [
    ⟨0x00, .u8, .ro, .v, (.n 13), (.ints [(13, 13)]), 0, "Highest subindex"⟩,
    ⟨0x01, .enum8, .ro, .v, (.n 0), (.ints [(0, 4)]), 0, "Step in force"⟩,
    ⟨0x02, .enum8, .ro, .v, (.n 0), (.ints [(0, 4)]), 0, "Voltage step"⟩,
    ⟨0x03, .enum8, .ro, .v, (.n 0), (.ints [(0, 4)]), 0, "Warning step"⟩,
    ⟨0x04, .enum8, .ro, .v, (.n 0), (.ints [(0, 3)]), 0, "Thermal step"⟩,
    ⟨0x05, .enum8, .rw, .n, (.n 2), (.ints [(1, 4)]), 0, "PWR_WARN_N step"⟩,
    ⟨0x06, .bool, .rw, .n, (.n 1), (.ints [(0, 1)]), 0, "PWR_WARN_N enable"⟩,
    ⟨0x07, .enum8, .ro, .v, (.n 0), (.ints [(0, 2)]), 0, "S3 sets dark"⟩,
    ⟨0x08, .u16, .ro, .v, (.n 0), (.ints [(0, 100)]), 0, "Return remaining"⟩,
    ⟨0x09, (.octets 16), .ro, .v, (.rep 16 0), (.lens [(16, 16)]), 8, "Step entries"⟩,
    ⟨0x0A, .u16, .ro, .v, (.n 0), .any, 0, "Lowest VDD_CORE"⟩,
    ⟨0x0B, .time96, .ro, .v, (.n 0), .any, 0, "Last step change"⟩,
    ⟨0x0C, .u32, .ro, .v, (.n 0), .any, 8, "Time in SHED"⟩,
    ⟨0x0D, .bool, .ro, .v, (.n 0), (.ints [(0, 1)]), 0, "PWR_WARN_N asserted"⟩
  ]

/-- Record 1012 (R540, spec/18_power_reset.md). -/
def rec1012 : List Entry := [
    ⟨0x00, .u8, .ro, .v, (.n 8), (.ints [(8, 8)]), 0, "Highest subindex"⟩,
    ⟨0x01, .i16, .ro, .v, (.n 0), .any, 0, "Hottest junction"⟩,
    ⟨0x02, .u8, .ro, .v, (.n 0), (.ints [(0, 15)]), 0, "Hottest sensor"⟩,
    ⟨0x03, .i16, .rw, .n, (.n 1050), (.ints [(700, 1100)]), 0, "Warning threshold"⟩,
    ⟨0x04, .enum8, .rw, .n, (.n 0), (.ints [(0, 3)]), 0, "Warning step"⟩,
    ⟨0x05, .i16, .rw, .n, (.n 1200), (.ints [(1100, 1250)]), 0, "Shutdown limit"⟩,
    ⟨0x06, .bits32, .ro, .v, (.n 0), .any, 0, "Thermal defects"⟩,
    ⟨0x07, .i16, .ro, .v, (.n 0), .any, 0, "Peak junction"⟩,
    ⟨0x08, (.octets 32), .ro, .v, (.rep 32 0), (.lens [(32, 32)]), 0, "Sensor readings"⟩
  ]

/-- Record 1020 (R91, spec/02_dictionary.md). -/
def rec1020 : List Entry := [
    ⟨0x00, .u8, .ro, .v, (.n 10), (.ints [(10, 10)]), 0, "Highest subindex"⟩,
    ⟨0x01, .u64, .ro, .v, (.n 0), .any, 0, "Transmit multiframe"⟩,
    ⟨0x02, .u16, .ro, .v, (.n 4), (.ints [(4, 4)]), 0, "One-ended lead"⟩,
    ⟨0x03, .u32, .ro, .v, (.n 4294967295), (.ints [(9, 4294967295)]), 0, "Two-ended lead"⟩,
    ⟨0x04, .u32, .ro, .v, (.n 4294967295), (.ints [(1, 4294967295)]), 0, "Round trip"⟩,
    ⟨0x05, .u8, .ro, .v, (.n 0), (.ints [(0, 8)]), 0, "Staged count"⟩,
    ⟨0x06, .u8, .ro, .v, (.n 0), (.ints [(0, 15)]), 0, "Last outcome"⟩,
    ⟨0x07, .u32, .ro, .v, (.n 0), .any, 0, "Last number"⟩,
    ⟨0x08, .u8, .ro, .v, (.n 0), (.ints [(0, 64)]), 0, "Failed position"⟩,
    ⟨0x09, .u8, .ro, .v, (.n 0), (.ints [(0, 15)]), 0, "Far-end reason"⟩,
    ⟨0x0A, .u32, .rw, .n, (.n 0), (.ints [(0, 1000000)]), 0, "Declared round trip"⟩
  ]

/-- Record 1030 (R91, spec/02_dictionary.md). -/
def rec1030 : List Entry := [
    ⟨0x00, .u8, .ro, .v, (.n 10), (.ints [(10, 10)]), 0, "Highest subindex"⟩,
    ⟨0x01, .u16, .rwq, .n, (.n 49312), (.ints [(1, 65535)]), 0, "UDP port"⟩,
    ⟨0x02, .bool, .rwq, .n, (.n 0), (.ints [(0, 1)]), 0, "Authentication required"⟩,
    ⟨0x03, .u8, .rwq, .n, (.n 32), (.ints [(1, 255)]), 0, "PLCA TO timer"⟩,
    ⟨0x04, .u8, .rwq, .n, (.n 8), (.ints [(1, 64)]), 0, "PLCA node count"⟩,
    ⟨0x05, .u8, .rwq, .n, (.n 0), (.ints [(0, 255)]), 0, "PLCA burst count"⟩,
    ⟨0x06, .u32, .ro, .v, (.n 0), .any, 8, "Requests served"⟩,
    ⟨0x07, .u32, .ro, .v, (.n 0), .any, 8, "BUSY answers"⟩,
    ⟨0x08, .u32, .ro, .v, (.n 0), .any, 8, "AUTH_FAIL answers"⟩,
    ⟨0x09, .u32, .ro, .v, (.n 0), .any, 8, "Requests discarded"⟩,
    ⟨0x0A, .u8, .ro, .v, (.n 0), (.ints [(0, 32)]), 0, "Queue high-water"⟩
  ]

/-- Record 1040 (R342, spec/10_sealing.md). -/
def rec1040 : List Entry := [
    ⟨0x00, .u8, .ro, .v, (.n 11), (.ints [(11, 11)]), 0, "Highest subindex"⟩,
    ⟨0x01, (.octets 97), .ro, .v, .factory, (.lens [(97, 97)]), 0, "Device public key"⟩,
    ⟨0x02, .enum8, .ro, .v, (.n 1), (.ints [(0, 2)]), 0, "Entropy state"⟩,
    ⟨0x03, .u32, .ro, .v, (.n 0), .any, 8, "Entropy failures"⟩,
    ⟨0x04, .u32, .ro, .v, (.n 0), .any, 8, "DRBG reseeds"⟩,
    ⟨0x05, .u32, .ro, .v, (.n 0), .any, 8, "Foundry operations"⟩,
    ⟨0x06, .u64, .ro, .v, (.n 0), .any, 8, "Key bus writes"⟩,
    ⟨0x07, .u32, .ro, .v, (.n 0), .any, 8, "ECDH operations"⟩,
    ⟨0x08, .u32, .ro, .v, (.n 0), .any, 8, "ECDSA verifications"⟩,
    ⟨0x09, .u32, .ro, .v, (.n 0), .any, 8, "Public-key rejections"⟩,
    ⟨0x0A, .enum8, .ro, .v, (.n 0), (.ints [(0, 7)]), 0, "Last rejection cause"⟩,
    ⟨0x0B, .u32, .ro, .v, (.n 0), .any, 8, "Slot erasures"⟩
  ]

/-- Record 1050 and the 64 instances from it (R343, spec/10_sealing.md). -/
def rec1050 : List Entry := [
    ⟨0x00, .u8, .ro, .v, (.n 7), (.ints [(7, 7)]), 0, "Highest subindex"⟩,
    ⟨0x01, .enum8, .ro, .a, (.n 0), (.ints [(0, 5)]), 0, "Role"⟩,
    ⟨0x02, (.octets 145), .key, .v, (.bytes []), (.lens [(145, 145)]), 0, "Load by device key"⟩,
    ⟨0x03, (.octets 49), .key, .v, (.bytes []), (.lens [(49, 49)]), 0, "Load by KEK"⟩,
    ⟨0x04, .u32, .ro, .a, (.n 0), .any, 0, "Key identifier"⟩,
    ⟨0x05, (.octets 4), .ro, .a, (.bytes []), (.lens [(0, 0), (4, 4)]), 0, "Check value"⟩,
    ⟨0x06, .bool, .rw, .n, (.n 0), (.ints [(0, 1)]), 0, "Persist"⟩,
    ⟨0x07, .enum8, .wo, .v, (.n 0), (.ints [(1, 1)]), 0, "Command"⟩
  ]

/-- Record 2000 (R138, spec/04_converters.md). -/
def rec2000 : List Entry := [
    ⟨0x00, .u8, .ro, .v, (.n 12), (.ints [(12, 12)]), 0, "Highest subindex"⟩,
    ⟨0x01, .enum8, .rwq, .n, (.n 0), (.ints [(0, 3)]), 0, "ADC rate factor"⟩,
    ⟨0x02, .enum8, .rwq, .n, (.n 0), (.ints [(0, 3)]), 0, "DAC rate factor"⟩,
    ⟨0x03, .u32, .ro, .v, (.n 337500), (.ints [(36000, 337500)]), 0, "ADC sample rate"⟩,
    ⟨0x04, .u32, .ro, .v, (.n 337500), (.ints [(36000, 337500)]), 0, "DAC sample rate"⟩,
    ⟨0x05, .u32, .ro, .v, (.n 2343750), (.ints [(250000, 2343750)]), 0, "Slice rate"⟩,
    ⟨0x06, .u32, .rwq, .n, (.n 156250), (.ints [(100000, 250000)]), 0, "SYNTH_REF frequency"⟩,
    ⟨0x07, .u32, .rwq, .n, (.n 500000), (.ints [(450000, 550000)]), 0, "CALREF_V declared"⟩,
    ⟨0x08, .u32, .ro, .v, (.n 0), .any, 0, "CALREF_V measured"⟩,
    ⟨0x09, .enum8, .ro, .v, (.n 0), (.ints [(0, 4)]), 0, "Calibration state"⟩,
    ⟨0x0A, .u16, .rw, .n, (.n 50), (.ints [(0, 0), (5, 10000)]), 0, "Rotation interval"⟩,
    ⟨0x0B, .u32, .ro, .v, (.n 0), .any, 0, "Foreground duration"⟩,
    ⟨0x0C, .bits32, .ro, .v, (.n 0), .any, 0, "Converter defects"⟩
  ]

/-- Record 2010 and the 4 instances from it (R139, spec/04_converters.md). -/
def rec2010 : List Entry := [
    ⟨0x00, .u8, .ro, .v, (.n 14), (.ints [(14, 14)]), 0, "Highest subindex"⟩,
    ⟨0x01, .enum8, .rwq, .n, (.n 2), (.ints [(0, 3)]), 0, "Full scale"⟩,
    ⟨0x02, (.octets 1216), .rwq, .a, (.bytes []), (.lens [(0, 0), (1216, 1216)]), 0, "Trim record"⟩,
    ⟨0x03, .u32, .rwq, .a, (.n 0), (.ints [(0, 337500)]), 0, "Trim rate"⟩,
    ⟨0x04, .u8, .ro, .v, (.n 144), (.ints [(0, 144)]), 0, "Live positions"⟩,
    ⟨0x05, .u8, .ro, .v, (.n 0), (.ints [(0, 8)]), 0, "Spares ready"⟩,
    ⟨0x06, .u8, .ro, .v, (.n 0), (.ints [(0, 152)]), 0, "Faulty slices"⟩,
    ⟨0x07, .u8, .ro, .v, (.n 0), (.ints [(0, 7)]), 0, "Retired slices"⟩,
    ⟨0x08, .u64, .ro, .v, (.n 0), .any, 8, "Clipped samples"⟩,
    ⟨0x09, .u16, .ro, .v, (.n 0), .any, 0, "Input RMS"⟩,
    ⟨0x0A, .u32, .ro, .v, (.n 0), .any, 8, "Rotations completed"⟩,
    ⟨0x0B, .u32, .ro, .v, (.n 0), .any, 8, "Rotations abandoned"⟩,
    ⟨0x0C, .u32, .ro, .v, (.n 0), .any, 8, "Emergency replacements"⟩,
    ⟨0x0D, .u8, .ro, .v, (.n 0), (.ints [(0, 143)]), 0, "Next position"⟩,
    ⟨0x0E, .u8, .ro, .v, (.n 0), (.ints [(0, 144)]), 0, "Degraded positions"⟩
  ]

/-- Record 2020 (R140, spec/04_converters.md). -/
def rec2020 : List Entry := [
    ⟨0x00, .u8, .ro, .v, (.n 2), (.ints [(2, 2)]), 0, "Highest subindex"⟩,
    ⟨0x01, .u8, .rw, .v, (.n 0), (.ints [(0, 3)]), 0, "ADC select"⟩,
    ⟨0x02, .u8, .rw, .v, (.n 0), (.ints [(0, 151)]), 0, "Slice select"⟩
  ]

/-- Record 2021 (R140, spec/04_converters.md). -/
def rec2021 : List Entry := [
    ⟨0x00, .u8, .ro, .v, (.n 11), (.ints [(11, 11)]), 0, "Highest subindex"⟩,
    ⟨0x01, .enum8, .ro, .v, (.n 0), (.ints [(0, 7)]), 0, "Role"⟩,
    ⟨0x02, .u8, .ro, .v, (.n 255), (.ints [(0, 143), (255, 255)]), 0, "Position"⟩,
    ⟨0x03, .u64, .ro, .v, (.n 0), .any, 0, "Trim word"⟩,
    ⟨0x04, (.q 8 8), .ro, .v, (.n 0), .any, 0, "Offset correction"⟩,
    ⟨0x05, (.q 2 14), .ro, .v, (.n 16384), .any, 0, "Gain correction"⟩,
    ⟨0x06, .i16, .ro, .v, (.n 0), .any, 0, "Skew residual"⟩,
    ⟨0x07, (.octets 10), .ro, .v, (.bytes [0, 0, 0, 0, 0x7F, 0xFF, 0, 0, 0, 0]), (.lens [(10, 10)]), 0, "Bandwidth correction"⟩,
    ⟨0x08, .u32, .ro, .v, (.n 0), .any, 0, "Measurement age"⟩,
    ⟨0x09, .enum8, .wo, .v, (.n 0), (.ints [(1, 2)]), 0, "Command"⟩,
    ⟨0x0A, .enum8, .ro, .v, (.n 0), (.ints [(0, 4)]), 0, "Fault cause"⟩,
    ⟨0x0B, .u32, .ro, .v, (.n 0), .any, 8, "Times made live"⟩
  ]

/-- Record 2030 and the 4 instances from it (R141, spec/04_converters.md). -/
def rec2030 : List Entry := [
    ⟨0x00, .u8, .ro, .v, (.n 10), (.ints [(10, 10)]), 0, "Highest subindex"⟩,
    ⟨0x01, .u16, .rwq, .n, (.n 600), (.ints [(300, 900)]), 0, "Output swing"⟩,
    ⟨0x02, (.octets 16), .rwq, .a, (.bytes []), (.lens [(0, 0), (16, 16)]), 0, "Trim record"⟩,
    ⟨0x03, .u32, .rwq, .a, (.n 0), (.ints [(0, 337500)]), 0, "Trim rate"⟩,
    ⟨0x04, (.q 2 14), .ro, .v, (.n 16384), .any, 0, "Gain correction"⟩,
    ⟨0x05, (.q 8 8), .ro, .v, (.n 0), .any, 0, "Offset correction"⟩,
    ⟨0x06, .i16, .ro, .v, (.n 0), .any, 0, "Timing residual"⟩,
    ⟨0x07, .i16, .ro, .v, (.n 0), .any, 0, "Image level"⟩,
    ⟨0x08, .u32, .ro, .v, (.n 0), .any, 8, "Background steps"⟩,
    ⟨0x09, .i16, .rw, .n, (.n (-450)), (.ints [(-700, -200)]), 0, "Image threshold"⟩,
    ⟨0x0A, .enum8, .ro, .v, (.n 2), (.ints [(0, 2)]), 0, "Background state"⟩
  ]

/-- Record 2040 (R143, spec/04_converters.md). -/
def rec2040 : List Entry := [
    ⟨0x00, .u8, .ro, .v, (.n 3), (.ints [(3, 3)]), 0, "Highest subindex"⟩,
    ⟨0x01, .u32, .rwq, .n, (.n 25000), (.ints [(1000, 50000)]), 0, "SCLK frequency"⟩,
    ⟨0x02, .u32, .ro, .v, (.n 0), .any, 8, "Transfers"⟩,
    ⟨0x03, .u32, .ro, .v, (.n 0), .any, 8, "Readback mismatches"⟩
  ]

/-- Record 2041 and the 4 instances from it (R143, spec/04_converters.md). -/
def rec2041 : List Entry := [
    ⟨0x00, .u8, .ro, .v, (.n 6), (.ints [(6, 6)]), 0, "Highest subindex"⟩,
    ⟨0x01, .bool, .rwq, .n, (.n 0), (.ints [(0, 1)]), 0, "Enable"⟩,
    ⟨0x02, .enum8, .rwq, .n, (.n 0), (.ints [(0, 0), (3, 3)]), 0, "SPI mode"⟩,
    ⟨0x03, .u8, .rwq, .n, (.n 1), (.ints [(1, 2)]), 0, "Address bytes"⟩,
    ⟨0x04, .u8, .rwq, .n, (.n 1), (.ints [(1, 2)]), 0, "Data bytes"⟩,
    ⟨0x05, .u8, .rwq, .n, (.n 128), (.ints [(0, 255)]), 0, "Read flag"⟩,
    ⟨0x06, (.octets 256), .rwq, .n, (.bytes []), (.lens [(0, 256)]), 0, "Initialisation sequence"⟩
  ]

/-- Record 2050 and the 8 instances from it (R144, spec/04_converters.md). -/
def rec2050 : List Entry := [
    ⟨0x00, .u8, .ro, .v, (.n 11), (.ints [(11, 11)]), 0, "Highest subindex"⟩,
    ⟨0x01, .bool, .rw, .n, (.n 0), (.ints [(0, 1)]), 0, "Enable"⟩,
    ⟨0x02, .u8, .rwq, .n, (.n 0), (.ints [(0, 3)]), 0, "Chip select"⟩,
    ⟨0x03, .u16, .rwq, .n, (.n 0), (.ints [(0, 65535)]), 0, "Gain register"⟩,
    ⟨0x04, .u16, .rwq, .n, (.n 0), (.ints [(0, 65535)]), 0, "Gain code minimum"⟩,
    ⟨0x05, .u16, .rwq, .n, (.n 255), (.ints [(0, 65535)]), 0, "Gain code maximum"⟩,
    ⟨0x06, .enum8, .rwq, .n, (.n 0), (.ints [(0, 1)]), 0, "Gain sense"⟩,
    ⟨0x07, .u16, .rwq, .n, (.n 0), (.ints [(0, 65535)]), 0, "Detector register"⟩,
    ⟨0x08, .u16, .rw, .n, (.n 8192), (.ints [(1, 65535)]), 0, "Target"⟩,
    ⟨0x09, .u16, .ro, .v, (.n 0), .any, 0, "Gain code in force"⟩,
    ⟨0x0A, .bool, .ro, .v, (.n 0), (.ints [(0, 1)]), 0, "At limit"⟩,
    ⟨0x0B, .u32, .ro, .v, (.n 0), .any, 8, "Updates"⟩
  ]

/-- Record 2400 (R169, spec/05_transmit.md). -/
def rec2400_0 : List Entry := [
    ⟨0x00, .u8, .ro, .v, (.n 17), (.ints [(17, 17)]), 0, "Highest subindex"⟩,
    ⟨0x01, .bool, .rw, .v, (.n 0), (.ints [(0, 1)]), 0, "Host mute"⟩,
    ⟨0x02, .u16, .rw, .n, (.n 100), (.ints [(0, 10000)]), 0, "Mute ramp"⟩,
    ⟨0x03, .enum8, .rwq, .n, (.n 0), (.ints [(0, 1)]), 0, "TX_ENABLE polarity"⟩,
    ⟨0x04, .u8, .rwq, .n, (.n 100), (.ints [(0, 200)]), 0, "Low-power attenuation"⟩,
    ⟨0x05, .enum8, .ro, .v, (.n 0), (.ints [(0, 5)]), 0, "Transmit state"⟩,
    ⟨0x06, .bits32, .ro, .v, (.n 16), .any, 0, "Mute causes"⟩,
    ⟨0x07, .bool, .ro, .v, (.n 0), (.ints [(0, 1)]), 0, "TX_ENABLE active"⟩,
    ⟨0x08, .enum8, .rwq, .v, (.n 0), (.ints [(0, 4)]), 0, "Test pattern"⟩,
    ⟨0x09, .i32, .rwq, .v, (.n 0), (.ints [(-168000, 168000)]), 0, "Test tone offset"⟩,
    ⟨0x0A, .u32, .ro, .v, (.n 0), .any, 0, "Transmit latency"⟩,
    ⟨0x0B, .u8, .rwq, .n, (.n 0), (.ints [(0, 30)]), 0, "Pilot boost"⟩,
    ⟨0x0C, .bool, .rw, .n, (.n 0), (.ints [(0, 1)]), 0, "Nonlinearity pre-compensation"⟩,
    ⟨0x0D, .u8, .rwq, .n, (.n 50), (.ints [(0, 100)]), 0, "Pre-compensation share"⟩,
    ⟨0x0E, .u32, .ro, .v, (.n 0), .any, 8, "Mute events"⟩,
    ⟨0x0F, .u16, .rw, .n, (.n 7168), (.ints [(2560, 12800)]), 0, "Output RMS"⟩
  ]

/-- Record 2400, continued. -/
def rec2400_1 : List Entry := [
    ⟨0x10, .i16, .rw, .n, (.n 0), (.ints [(-100, 200)]), 0, "Launch power"⟩,
    ⟨0x11, .u16, .rw, .n, (.n 1000), (.ints [(0, 50000)]), 0, "Enable settle"⟩
  ]

/-- Record 2400 whole. -/
def rec2400 : List Entry := rec2400_0 ++ rec2400_1

/-- Record 2401 (R170, spec/05_transmit.md). -/
def rec2401 : List Entry := [
    ⟨0x00, .u8, .ro, .v, (.n 11), (.ints [(11, 11)]), 0, "Highest subindex"⟩,
    ⟨0x01, .enum8, .rw, .n, (.n 1), (.ints [(0, 3)]), 0, "DPD mode"⟩,
    ⟨0x02, .u8, .rw, .n, (.n 3), (.ints [(1, 10)]), 0, "Step exponent"⟩,
    ⟨0x03, .u32, .rw, .n, (.n 10000), (.ints [(1000, 60000)]), 0, "Feedback timeout"⟩,
    ⟨0x04, .u32, .ro, .v, (.n 0), .any, 8, "Set number"⟩,
    ⟨0x05, .u64, .ro, .v, (.n 0), .any, 0, "Set start"⟩,
    ⟨0x06, .u32, .ro, .v, (.n 0), .any, 8, "Feedback accepted"⟩,
    ⟨0x07, .u32, .ro, .v, (.n 0), .any, 8, "Feedback discarded"⟩,
    ⟨0x08, .u32, .ro, .v, (.n 0), .any, 8, "Reversions"⟩,
    ⟨0x09, .bits32, .ro, .v, (.n 0), .any, 0, "DPD defects"⟩,
    ⟨0x0A, .i16, .ro, .v, (.n 0), .any, 0, "Local residual"⟩,
    ⟨0x0B, .i16, .ro, .v, (.n 0), .any, 0, "Far-end residual"⟩
  ]

/-- Record 2402 and the 2 instances from it (R170, spec/05_transmit.md). -/
def rec2402 : List Entry := [
    ⟨0x00, .u8, .ro, .v, (.n 4), (.ints [(4, 4)]), 0, "Highest subindex"⟩,
    ⟨0x01, (.octets 192), .ro, .v, .identity, (.lens [(192, 192)]), 0, "Active set"⟩,
    ⟨0x02, (.octets 192), .rwt, .v, .identity, (.lens [(192, 192)]), 1, "Set to commit"⟩,
    ⟨0x03, (.octets 192), .rwq, .a, (.bytes []), (.lens [(0, 0), (192, 192)]), 0, "Start set"⟩,
    ⟨0x04, .i16, .rwt, .n, (.n 0), (.ints [(-1000, 1000)]), 1, "Quadrature phase"⟩
  ]

/-- Record 2404 and the 4 instances from it (R171, spec/05_transmit.md). -/
def rec2404 : List Entry := [
    ⟨0x00, .u8, .ro, .v, (.n 4), (.ints [(4, 4)]), 0, "Highest subindex"⟩,
    ⟨0x01, .i16, .rwt, .n, (.n 0), (.ints [(-1000, 1000)]), 1, "Skew"⟩,
    ⟨0x02, (.q 2 14), .rwt, .n, (.n 16384), (.ints [(8192, 24576)]), 1, "Gain"⟩,
    ⟨0x03, (.octets 34), .rwt, .n, .centreTap, (.lens [(34, 34)]), 1, "Pre-emphasis"⟩,
    ⟨0x04, .u64, .ro, .v, (.n 0), .any, 8, "Clipped samples"⟩
  ]

/-- Record 2410 and the 32 instances from it (R171, spec/05_transmit.md). -/
def rec2410 : List Entry := [
    ⟨0x00, .u8, .ro, .v, (.n 3), (.ints [(3, 3)]), 0, "Highest subindex"⟩,
    ⟨0x01, .i16, .rwt, .n, (.n 0), (.ints [(-30, 30)]), 1, "Power offset"⟩,
    ⟨0x02, .bool, .ro, .v, (.n 0), (.ints [(0, 1)]), 0, "Muted by shed"⟩,
    ⟨0x03, .u8, .ro, .v, (.n 0), (.ints [(0, 64)]), 0, "Pre-compensation pairs"⟩
  ]

/-- Record 2800 (R198, spec/06_receive.md). -/
def rec2800_0 : List Entry := [
    ⟨0x00, .u8, .ro, .v, (.n 23), (.ints [(23, 23)]), 0, "Highest subindex"⟩,
    ⟨0x01, .enum8, .ro, .v, (.n 0), (.ints [(0, 6)]), 0, "Receiver state"⟩,
    ⟨0x02, .enum8, .rwq, .n, (.n 1), (.ints [(0, 2)]), 0, "Resampler length"⟩,
    ⟨0x03, .u16, .rw, .n, (.n 512), (.ints [(64, 8192)]), 0, "LOS threshold"⟩,
    ⟨0x04, .enum8, .rw, .n, (.n 0), (.ints [(0, 2)]), 0, "CD search mode"⟩,
    ⟨0x05, .i32, .rw, .n, (.n 0), (.ints [(-400000, 400000)]), 0, "CD search centre"⟩,
    ⟨0x06, .u32, .rw, .n, (.n 0), (.ints [(0, 400000)]), 0, "CD search half-width"⟩,
    ⟨0x07, .i32, .rwq, .a, (.n 0), (.ints [(-400000, 400000)]), 0, "Stored CD"⟩,
    ⟨0x08, .u32, .ro, .v, (.n 25000), .any, 0, "CD range"⟩,
    ⟨0x09, .i32, .ro, .v, (.n 0), (.ints [(-5000, 5000)]), 0, "Frequency offset"⟩,
    ⟨0x0A, .u16, .rw, .n, (.n 3000), (.ints [(100, 5000)]), 0, "Frequency offset limit"⟩,
    ⟨0x0B, .u32, .ro, .v, (.n 0), .any, 0, "Acquisition time"⟩,
    ⟨0x0C, .u32, .ro, .v, (.n 0), .any, 8, "Acquisitions"⟩,
    ⟨0x0D, .bits32, .ro, .v, (.n 0), .any, 0, "Receive defects"⟩,
    ⟨0x0E, .u32, .ro, .v, (.n 889780), .any, 0, "Pipeline latency"⟩,
    ⟨0x0F, .u32, .ro, .v, .factory, .any, 0, "Timestamp correction"⟩
  ]

/-- Record 2800, continued. -/
def rec2800_1 : List Entry := [
    ⟨0x10, .bool, .rw, .n, (.n 0), (.ints [(0, 1)]), 0, "Nonlinearity compensation"⟩,
    ⟨0x11, .u8, .rw, .n, (.n 50), (.ints [(0, 100)]), 0, "Compensation share"⟩,
    ⟨0x12, .bool, .ro, .v, (.n 0), (.ints [(0, 1)]), 0, "Compensation in force"⟩,
    ⟨0x13, .u32, .rwq, .a, (.n 0), (.ints [(0, 300000)]), 0, "Stored CD rate"⟩,
    ⟨0x14, .u16, .ro, .v, (.n 0), .any, 0, "DGD"⟩,
    ⟨0x15, .u32, .ro, .v, (.n 0), .any, 0, "SOP rate"⟩,
    ⟨0x16, .u16, .ro, .v, (.n 800), .any, 0, "DGD tolerance"⟩,
    ⟨0x17, .i32, .ro, .v, (.n 0), .any, 0, "CD measured"⟩
  ]

/-- Record 2800 whole. -/
def rec2800 : List Entry := rec2800_0 ++ rec2800_1

/-- Record 2801 and the 4 instances from it (R199, spec/06_receive.md). -/
def rec2801 : List Entry := [
    ⟨0x00, .u8, .ro, .v, (.n 6), (.ints [(6, 6)]), 0, "Highest subindex"⟩,
    ⟨0x01, .i16, .rwq, .n, (.n 0), (.ints [(-2000, 2000)]), 0, "Input skew"⟩,
    ⟨0x02, (.octets 34), .rwq, .n, .centreTap, (.lens [(34, 34)]), 0, "Front-end response"⟩,
    ⟨0x03, .i16, .ro, .v, (.n 0), (.ints [(-50, 50)]), 0, "Skew residual"⟩,
    ⟨0x04, (.q 8 8), .ro, .v, (.n 0), .any, 0, "DC offset"⟩,
    ⟨0x05, (.q 2 14), .ro, .v, (.n 16384), .any, 0, "Gain correction"⟩,
    ⟨0x06, .i16, .ro, .v, (.n 0), .any, 0, "Quadrature correction"⟩
  ]

/-- Record 2810 and the 32 instances from it (R200, spec/06_receive.md). -/
def rec2810 : List Entry := [
    ⟨0x00, .u8, .ro, .v, (.n 11), (.ints [(11, 11)]), 0, "Highest subindex"⟩,
    ⟨0x01, .enum8, .ro, .v, (.n 0), (.ints [(0, 5)]), 0, "Lock state"⟩,
    ⟨0x02, .i16, .ro, .v, (.n 0), .any, 0, "SNR"⟩,
    ⟨0x03, .i32, .ro, .v, (.n 0), .any, 0, "Frequency residual"⟩,
    ⟨0x04, .u16, .ro, .v, (.n 0), .any, 0, "DGD"⟩,
    ⟨0x05, .u32, .ro, .v, (.n 0), .any, 8, "Cycle slips"⟩,
    ⟨0x06, .u32, .ro, .v, (.n 0), .any, 8, "Losses of lock"⟩,
    ⟨0x07, .u8, .ro, .v, (.n 15), (.ints [(0, 0), (15, 47)]), 0, "Equaliser taps"⟩,
    ⟨0x08, .u16, .ro, .v, (.n 0), .any, 0, "Pilot error ratio"⟩,
    ⟨0x09, (.q 4 12), .ro, .v, (.n 0), .any, 0, "Compensation scale"⟩,
    ⟨0x0A, .bits32, .ro, .v, (.n 0), .any, 0, "Thread defects"⟩,
    ⟨0x0B, .i16, .rw, .n, (.n 0), (.ints [(0, 4000)]), 0, "SNR threshold"⟩
  ]

/-- Record 2840 (R201, spec/06_receive.md). -/
def rec2840 : List Entry := [
    ⟨0x00, .u8, .ro, .v, (.n 13), (.ints [(13, 13)]), 0, "Highest subindex"⟩,
    ⟨0x01, .enum8, .rw, .v, (.n 0), (.ints [(0, 4)]), 0, "Capture point"⟩,
    ⟨0x02, .u8, .rw, .v, (.n 0), (.ints [(0, 31)]), 0, "Thread"⟩,
    ⟨0x03, .u32, .rw, .v, (.n 4096), (.ints [(1, 524288)]), 0, "Length"⟩,
    ⟨0x04, .u16, .rw, .v, (.n 64), (.ints [(1, 65535)]), 0, "Spacing"⟩,
    ⟨0x05, .enum8, .rw, .v, (.n 0), (.ints [(0, 4)]), 0, "Trigger"⟩,
    ⟨0x06, .u8, .rw, .v, (.n 0), (.ints [(0, 100)]), 0, "Pre-trigger share"⟩,
    ⟨0x07, .enum8, .wo, .v, (.n 0), (.ints [(1, 2)]), 0, "Command"⟩,
    ⟨0x08, .enum8, .ro, .v, (.n 0), (.ints [(0, 4)]), 0, "State"⟩,
    ⟨0x09, .u16, .rw, .v, (.n 64), (.ints [(1, 4096)]), 0, "Spectrum averages"⟩,
    ⟨0x0A, (.octets 2097152), .ro, .v, (.bytes []), .any, 0, "Capture data"⟩,
    ⟨0x0B, .time96, .ro, .v, (.n 0), .any, 0, "Capture time"⟩,
    ⟨0x0C, .u32, .ro, .v, (.n 0), .any, 0, "Elements captured"⟩,
    ⟨0x0D, .u32, .ro, .v, (.n 0), .any, 8, "Captures"⟩
  ]

/-- Record 3000 (R227, spec/07_fec.md). -/
def rec3000_0 : List Entry := [
    ⟨0x00, .u8, .ro, .v, (.n 17), (.ints [(17, 17)]), 0, "Highest subindex"⟩,
    ⟨0x01, .u8, .rwq, .n, (.n 10), (.ints [(4, 16)]), 0, "Latency iterations"⟩,
    ⟨0x02, .u8, .rw, .n, (.n 10), (.ints [(4, 16)]), 0, "Host cap"⟩,
    ⟨0x03, .u8, .ro, .v, (.n 10), (.ints [(4, 16)]), 0, "Cap in force"⟩,
    ⟨0x04, .enum8, .ro, .v, (.n 0), (.ints [(0, 2)]), 0, "Cap limiter"⟩,
    ⟨0x05, .u16, .rw, .n, (.n 0), (.ints [(0, 0), (80, 250)]), 0, "Power budget"⟩,
    ⟨0x06, .u16, .ro, .v, (.n 0), .any, 0, "Decoder power"⟩,
    ⟨0x07, .u8, .ro, .v, (.n 10), (.ints [(4, 16)]), 0, "Budget cap"⟩,
    ⟨0x08, .u32, .ro, .v, (.n 9093120), .any, 0, "Decoder latency"⟩,
    ⟨0x09, .u32, .ro, .v, (.n 6608213), .any, 0, "Encoder latency"⟩,
    ⟨0x0A, .enum8, .rwq, .v, (.n 0), (.ints [(0, 2)]), 0, "Loopback"⟩,
    ⟨0x0B, .enum8, .rw, .v, (.n 0), (.ints [(0, 3)]), 0, "Injection mode"⟩,
    ⟨0x0C, .u8, .rw, .v, (.n 10), (.ints [(3, 40)]), 0, "Injection rate exponent"⟩,
    ⟨0x0D, .bits32, .rw, .v, (.n 4294967295), (.bits 0xFFFFFFFF), 0, "Injection threads"⟩,
    ⟨0x0E, .u16, .wo, .v, (.n 0), (.ints [(1, 65535)]), 0, "Forced failures"⟩,
    ⟨0x0F, .bits32, .ro, .v, (.n 0), .any, 0, "FEC global defects"⟩
  ]

/-- Record 3000, continued. -/
def rec3000_1 : List Entry := [
    ⟨0x10, .u32, .rw, .n, (.n 180000000), (.ints [(1, 250000000)]), 0, "Degrade threshold"⟩,
    ⟨0x11, .u16, .rw, .n, (.n 0), (.ints [(0, 65535)]), 0, "Excess threshold"⟩
  ]

/-- Record 3000 whole. -/
def rec3000 : List Entry := rec3000_0 ++ rec3000_1

/-- Record 3002 (R227, spec/07_fec.md). -/
def rec3002 : List Entry := [
    ⟨0x00, .u8, .ro, .v, (.n 1), (.ints [(1, 1)]), 0, "Highest subindex"⟩,
    ⟨0x01, (.octets 1920), .ro, .v, .factory, (.lens [(1920, 1920)]), 0, "Base matrix"⟩
  ]

/-- Record 3010 and the 32 instances from it (R228, spec/07_fec.md). -/
def rec3010 : List Entry := [
    ⟨0x00, .u8, .ro, .v, (.n 12), (.ints [(12, 12)]), 0, "Highest subindex"⟩,
    ⟨0x01, .u64, .ro, .v, (.n 0), .any, 8, "Codewords decoded"⟩,
    ⟨0x02, .u64, .ro, .v, (.n 0), .any, 8, "Codewords uncorrectable"⟩,
    ⟨0x03, .u64, .ro, .v, (.n 0), .any, 8, "Bits corrected"⟩,
    ⟨0x04, .u32, .ro, .v, (.n 0), (.ints [(0, 4294967295)]), 0, "Pre-FEC BER"⟩,
    ⟨0x05, .i16, .ro, .v, (.n (-32768)), .any, 0, "Post-FEC BER"⟩,
    ⟨0x06, (.q 8 8), .ro, .v, (.n 0), .any, 0, "Mean iterations"⟩,
    ⟨0x07, .u64, .ro, .v, (.n 0), .any, 8, "Codewords at cap"⟩,
    ⟨0x08, .u64, .ro, .v, (.n 0), .any, 8, "Uncorrected LFs"⟩,
    ⟨0x09, .i16, .ro, .v, (.n 0), (.ints [(0, 2000)]), 0, "Q-factor"⟩,
    ⟨0x0A, .i16, .ro, .v, (.n 0), .any, 0, "Margin"⟩,
    ⟨0x0B, .bits32, .ro, .v, (.n 0), .any, 0, "Thread FEC defects"⟩,
    ⟨0x0C, (.octets 68), .ro, .v, (.bytes []), (.lens [(68, 68)]), 0, "Iteration histogram"⟩
  ]

/-- Record 3400 (R100, spec/03_line_modes.md). -/
def rec3400 : List Entry := [
    ⟨0x00, .u8, .ro, .v, (.n 13), (.ints [(13, 13)]), 0, "Highest subindex"⟩,
    ⟨0x01, .enum8, .rwq, .n, (.n 0), (.ints [(0, 2)]), 0, "Profile"⟩,
    ⟨0x02, .u32, .rwq, .n, (.n 300000), (.ints [(32000, 300000)]), 0, "Symbol rate"⟩,
    ⟨0x03, .u8, .rwq, .n, (.n 16), (.ints [(1, 32)]), 0, "Thread count"⟩,
    ⟨0x04, .u8, .rwq, .n, (.n 8), (.ints [(2, 8)]), 0, "Bits per symbol"⟩,
    ⟨0x05, .enum8, .rwq, .v, (.n 1), (.ints [(0, 6)]), 0, "Reference mode"⟩,
    ⟨0x06, .u32, .ro, .v, (.n 122880), .any, 0, "LF length"⟩,
    ⟨0x07, .u64, .ro, .v, (.n 6553600000), .any, 0, "Thread LF duration"⟩,
    ⟨0x08, .u64, .ro, .v, (.n 104857600000), .any, 0, "Multiframe duration"⟩,
    ⟨0x09, .u64, .ro, .v, (.n 9765625), .any, 0, "Tenant grain"⟩,
    ⟨0x0A, .u64, .ro, .v, (.n 0), .any, 0, "Payload capacity"⟩,
    ⟨0x0B, .u32, .ro, .v, (.n 303000), .any, 0, "Occupied bandwidth"⟩,
    ⟨0x0C, .u32, .ro, .v, (.n 325000), .any, 0, "Slot width required"⟩,
    ⟨0x0D, .enum8, .ro, .v, (.n 0), (.ints [(0, 9)]), 0, "Configuration check"⟩
  ]

/-- Record 3410 and the 32 instances from it (R101, spec/03_line_modes.md). -/
def rec3410 : List Entry := [
    ⟨0x00, .u8, .ro, .v, (.n 13), (.ints [(13, 13)]), 0, "Highest subindex"⟩,
    ⟨0x01, .u8, .rwq, .n, (.n 55), (.ints [(16, 64)]), 0, "Configured entropy"⟩,
    ⟨0x02, .u8, .rwt, .v, (.n 55), (.ints [(16, 64)]), 3, "Entropy in force"⟩,
    ⟨0x03, .enum8, .rwq, .n, (.n 1), (.ints [(0, 1)]), 0, "Configured state"⟩,
    ⟨0x04, .enum8, .rwt, .v, (.n 1), (.ints [(0, 1)]), 3, "State in force"⟩,
    ⟨0x05, .enum8, .ro, .v, (.n 1), (.ints [(0, 4)]), 0, "Transmit status"⟩,
    ⟨0x06, .enum8, .ro, .v, (.n 1), (.ints [(0, 4)]), 0, "Receive status"⟩,
    ⟨0x07, .u8, .rwq, .n, (.n 1), (.ints [(1, 20)]), 0, "Roll-off"⟩,
    ⟨0x08, .u16, .ro, .v, (.n 1303), (.ints [(0, 1565)]), 0, "Stitches per LF"⟩,
    ⟨0x09, .u16, .ro, .v, (.n 448), (.ints [(0, 1023)]), 0, "Fill bits"⟩,
    ⟨0x0A, .u64, .ro, .v, (.n 203593750000), .any, 0, "Thread capacity"⟩,
    ⟨0x0B, .i32, .ro, .v, (.n 0), .any, 0, "Centre offset"⟩,
    ⟨0x0C, .u32, .ro, .a, (.n 0), .any, 8, "Re-admission failures"⟩,
    ⟨0x0D, .u32, .ro, .v, (.n 0), (.ints [(0, 25040)]), 0, "Stitch slots allocated"⟩
  ]

/-- Record 3440 (R266, spec/08_line_frame.md). -/
def rec3440 : List Entry := [
    ⟨0x00, .u8, .ro, .v, (.n 14), (.ints [(14, 14)]), 0, "Highest subindex"⟩,
    ⟨0x01, (.octets 64), .rw, .n, (.bytes []), (.lens [(0, 64)]), 0, "Expected trace"⟩,
    ⟨0x02, (.octets 64), .ro, .v, (.bytes []), (.lens [(64, 64)]), 0, "Received trace"⟩,
    ⟨0x03, .bool, .rw, .n, (.n 0), (.ints [(0, 1)]), 0, "Trace compare"⟩,
    ⟨0x04, .bool, .rw, .n, (.n 0), (.ints [(0, 1)]), 0, "TIM consequent"⟩,
    ⟨0x05, (.octets 64), .rw, .n, (.bytes []), (.lens [(0, 64)]), 0, "Transmitted trace"⟩,
    ⟨0x06, .u8, .ro, .v, (.n 15), (.ints [(0, 15)]), 0, "Received SSM"⟩,
    ⟨0x07, .bits32, .ro, .v, (.n 0), .any, 0, "Carrier frame defects"⟩,
    ⟨0x08, .u32, .ro, .v, (.n 0), .any, 8, "Proposals sent"⟩,
    ⟨0x09, .u32, .ro, .v, (.n 0), .any, 8, "Acknowledgements received"⟩,
    ⟨0x0A, .u32, .ro, .v, (.n 0), .any, 8, "Refusals received"⟩,
    ⟨0x0B, .u32, .ro, .v, (.n 0), .any, 8, "Proposals received"⟩,
    ⟨0x0C, .u32, .ro, .v, (.n 0), .any, 8, "Refusals sent"⟩,
    ⟨0x0D, .u64, .ro, .v, (.n 0), .any, 0, "Received multiframe"⟩,
    ⟨0x0E, .u8, .ro, .v, (.n 255), (.ints [(0, 31), (255, 255)]), 0, "Overhead thread"⟩
  ]

/-- Record 3450 and the 32 instances from it (R267, spec/08_line_frame.md). -/
def rec3450 : List Entry := [
    ⟨0x00, .u8, .ro, .v, (.n 12), (.ints [(12, 12)]), 0, "Highest subindex"⟩,
    ⟨0x01, .enum8, .ro, .v, (.n 0), (.ints [(0, 4)]), 0, "Hunt state"⟩,
    ⟨0x02, .bits32, .ro, .v, (.n 0), .any, 0, "Frame defects"⟩,
    ⟨0x03, .u64, .ro, .v, (.n 0), .any, 8, "LFs received"⟩,
    ⟨0x04, .u64, .ro, .v, (.n 0), .any, 8, "LFs accepted"⟩,
    ⟨0x05, .u32, .ro, .v, (.n 0), .any, 8, "Header CRC errors"⟩,
    ⟨0x06, .u32, .ro, .v, (.n 0), .any, 8, "OOF events"⟩,
    ⟨0x07, .u32, .ro, .v, (.n 0), .any, 8, "Entropy mismatches"⟩,
    ⟨0x08, .enum8, .ro, .v, (.n 0), (.ints [(0, 3)]), 0, "Received thread state"⟩,
    ⟨0x09, .u8, .ro, .v, (.n 0), (.ints [(0, 0), (16, 64)]), 0, "Received entropy"⟩,
    ⟨0x0A, .u8, .ro, .v, (.n 0), (.ints [(0, 1)]), 0, "Receive page in force"⟩,
    ⟨0x0B, .u32, .ro, .v, (.n 0), .any, 8, "Page adoptions"⟩,
    ⟨0x0C, .u64, .ro, .v, (.n 0), .any, 8, "Unmapped stitches"⟩
  ]

/-- Record 3480 (R269, spec/08_line_frame.md). -/
def rec3480 : List Entry := [
    ⟨0x00, .u8, .ro, .v, (.n 7), (.ints [(7, 7)]), 0, "Highest subindex"⟩,
    ⟨0x01, .u32, .ro, .v, (.n 0), .any, 8, "ES"⟩,
    ⟨0x02, .u32, .ro, .v, (.n 0), .any, 8, "SES"⟩,
    ⟨0x03, .u32, .ro, .v, (.n 0), .any, 8, "UAS"⟩,
    ⟨0x04, .u64, .ro, .v, (.n 0), .any, 8, "BBE"⟩,
    ⟨0x05, .bool, .ro, .v, (.n 1), (.ints [(0, 1)]), 0, "Available"⟩,
    ⟨0x06, .u32, .ro, .v, (.n 0), .any, 8, "Seconds counted"⟩,
    ⟨0x07, .u32, .ro, .v, (.n 0), .any, 8, "Seconds excluded"⟩
  ]

/-- Record 3490 and the 32 instances from it (R269, spec/08_line_frame.md). -/
def rec3490 : List Entry := [
    ⟨0x00, .u8, .ro, .v, (.n 7), (.ints [(7, 7)]), 0, "Highest subindex"⟩,
    ⟨0x01, .u32, .ro, .v, (.n 0), .any, 8, "ES"⟩,
    ⟨0x02, .u32, .ro, .v, (.n 0), .any, 8, "SES"⟩,
    ⟨0x03, .u32, .ro, .v, (.n 0), .any, 8, "UAS"⟩,
    ⟨0x04, .u64, .ro, .v, (.n 0), .any, 8, "BBE"⟩,
    ⟨0x05, .bool, .ro, .v, (.n 1), (.ints [(0, 1)]), 0, "Available"⟩,
    ⟨0x06, .u32, .ro, .v, (.n 0), .any, 8, "Seconds counted"⟩,
    ⟨0x07, .u32, .ro, .v, (.n 0), .any, 8, "Seconds excluded"⟩
  ]

/-- Record 34C0 and the 32 instances from it (R268, spec/08_line_frame.md). -/
def rec34C0 : List Entry := [
    ⟨0x00, .u8, .ro, .v, (.n 6), (.ints [(6, 6)]), 0, "Highest subindex"⟩,
    ⟨0x01, (.octets 16388), .ro, .v, (.bytes [0, 0, 0, 0]), (.lens [(4, 16388)]), 0, "Transmit page in force"⟩,
    ⟨0x02, (.octets 16388), .ro, .v, (.bytes [0, 0, 0, 0]), (.lens [(4, 16388)]), 0, "Transmit standby page"⟩,
    ⟨0x03, (.octets 16388), .ro, .v, (.bytes [0, 0, 0, 0]), (.lens [(4, 16388)]), 0, "Receive page in force"⟩,
    ⟨0x04, (.octets 16388), .ro, .v, (.bytes [0, 0, 0, 0]), (.lens [(4, 16388)]), 0, "Receive standby page"⟩,
    ⟨0x05, .u8, .ro, .v, (.n 0), (.ints [(0, 1)]), 0, "Transmit page number"⟩,
    ⟨0x06, .bool, .ro, .v, (.n 0), (.ints [(0, 1)]), 0, "Map change staged"⟩
  ]

/-- Record 3800 (R341, spec/10_sealing.md). -/
def rec3800 : List Entry := [
    ⟨0x00, .u8, .ro, .v, (.n 13), (.ints [(13, 13)]), 0, "Highest subindex"⟩,
    ⟨0x01, .bool, .rwq, .n, (.n 1), (.ints [(0, 1)]), 0, "Sealing offered"⟩,
    ⟨0x02, .bool, .ro, .v, (.n 0), (.ints [(0, 1)]), 0, "Sealing agreed"⟩,
    ⟨0x03, .u8, .rwq, .n, (.n 0), (.ints [(0, 62)]), 0, "Link PSK slot"⟩,
    ⟨0x04, .u8, .rw, .n, (.n 1), (.ints [(0, 62)]), 0, "KEK slot"⟩,
    ⟨0x05, .enum8, .rwq, .n, (.n 0), (.ints [(0, 1)]), 0, "Root source"⟩,
    ⟨0x06, .u8, .rwq, .n, (.n 2), (.ints [(0, 62)]), 0, "Root slot"⟩,
    ⟨0x07, (.str 16), .rwq, .n, (.bytes [82, 73, 78, 69, 90, 45, 84, 69, 78, 65, 78, 84]), (.lens [(1, 16)]), 0, "Label"⟩,
    ⟨0x08, .enum8, .ro, .v, (.n 0), (.ints [(0, 4)]), 0, "Link key state"⟩,
    ⟨0x09, .u8, .ro, .v, (.n 0), (.ints [(0, 255)]), 8, "Root generation"⟩,
    ⟨0x0A, .u8, .ro, .v, (.n 255), (.ints [(0, 0), (1, 1), (255, 255)]), 0, "Direction role"⟩,
    ⟨0x0B, .enum8, .ro, .v, (.n 0), (.ints [(0, 6)]), 0, "Link failure cause"⟩,
    ⟨0x0C, .u32, .ro, .v, (.n 0), .any, 8, "Key exchanges"⟩,
    ⟨0x0D, .u32, .ro, .v, (.n 0), .any, 8, "Exchange failures"⟩
  ]

/-- Record 4000 and the 4096 instances from it (R278, spec/09_tenants.md). -/
def rec4000_0 : List Entry := [
    ⟨0x00, .u8, .ro, .v, (.n 63), (.ints [(63, 63)]), 0, "Highest subindex"⟩,
    ⟨0x01, .enum8, .rw, .n, (.n 0), (.ints [(0, 1)]), 0, "State"⟩,
    ⟨0x02, .enum8, .rw, .n, (.n 0), (.ints [(0, 1)]), 0, "Container type"⟩,
    ⟨0x03, .bool, .rw, .n, (.n 0), (.ints [(0, 1)]), 0, "Sealed"⟩,
    ⟨0x04, .u8, .rw, .n, (.n 0), (.ints [(0, 15)]), 0, "Client port"⟩,
    ⟨0x05, .enum8, .rw, .n, (.n 1), (.ints [(0, 6)]), 0, "Queue block size"⟩,
    ⟨0x06, .u32, .ro, .n, (.n 4294967295), (.ints [(0, 262142), (4294967295, 4294967295)]), 0, "Queue base"⟩,
    ⟨0x07, (.octets 8), .rw, .n, (.rep 8 0), (.lens [(8, 8)]), 0, "Class map"⟩,
    ⟨0x08, .u8, .rw, .n, (.n 0), (.ints [(0, 3)]), 0, "Shed priority"⟩,
    ⟨0x09, .u64, .rw, .n, (.n 0), (.ints [(0, 1700000000000)]), 0, "Nominal client rate"⟩,
    ⟨0x0A, (.octets 64), .rwq, .n, (.rep 64 0), (.lens [(64, 64)]), 0, "Configured placement"⟩,
    ⟨0x0B, .u32, .ro, .v, (.n 0), (.ints [(0, 801280)]), 0, "Transmit positions"⟩,
    ⟨0x0C, .u32, .ro, .v, (.n 0), (.ints [(0, 801280)]), 0, "Receive positions"⟩,
    ⟨0x0D, .u64, .ro, .v, (.n 0), .any, 0, "Transmit container rate"⟩,
    ⟨0x0E, .u64, .ro, .v, (.n 0), .any, 0, "Receive container rate"⟩,
    ⟨0x0F, .u64, .ro, .v, (.n 0), .any, 8, "Ingress frames"⟩
  ]

/-- Record 4000, continued. -/
def rec4000_1 : List Entry := [
    ⟨0x10, .u64, .ro, .v, (.n 0), .any, 8, "Ingress drops"⟩,
    ⟨0x11, .u64, .ro, .v, (.n 0), .any, 8, "Egress frames"⟩,
    ⟨0x12, .u64, .ro, .v, (.n 0), .any, 8, "Egress drops"⟩,
    ⟨0x13, .bool, .ro, .v, (.n 0), (.ints [(0, 1)]), 0, "Shed-held"⟩,
    ⟨0x20, .u16, .rwt, .v, (.n 0), (.ints [(0, 25040)]), 3, "Positions on thread k 0"⟩,
    ⟨0x21, .u16, .rwt, .v, (.n 0), (.ints [(0, 25040)]), 3, "Positions on thread k 1"⟩,
    ⟨0x22, .u16, .rwt, .v, (.n 0), (.ints [(0, 25040)]), 3, "Positions on thread k 2"⟩,
    ⟨0x23, .u16, .rwt, .v, (.n 0), (.ints [(0, 25040)]), 3, "Positions on thread k 3"⟩,
    ⟨0x24, .u16, .rwt, .v, (.n 0), (.ints [(0, 25040)]), 3, "Positions on thread k 4"⟩,
    ⟨0x25, .u16, .rwt, .v, (.n 0), (.ints [(0, 25040)]), 3, "Positions on thread k 5"⟩,
    ⟨0x26, .u16, .rwt, .v, (.n 0), (.ints [(0, 25040)]), 3, "Positions on thread k 6"⟩,
    ⟨0x27, .u16, .rwt, .v, (.n 0), (.ints [(0, 25040)]), 3, "Positions on thread k 7"⟩,
    ⟨0x28, .u16, .rwt, .v, (.n 0), (.ints [(0, 25040)]), 3, "Positions on thread k 8"⟩,
    ⟨0x29, .u16, .rwt, .v, (.n 0), (.ints [(0, 25040)]), 3, "Positions on thread k 9"⟩,
    ⟨0x2A, .u16, .rwt, .v, (.n 0), (.ints [(0, 25040)]), 3, "Positions on thread k 10"⟩,
    ⟨0x2B, .u16, .rwt, .v, (.n 0), (.ints [(0, 25040)]), 3, "Positions on thread k 11"⟩
  ]

/-- Record 4000, continued. -/
def rec4000_2 : List Entry := [
    ⟨0x2C, .u16, .rwt, .v, (.n 0), (.ints [(0, 25040)]), 3, "Positions on thread k 12"⟩,
    ⟨0x2D, .u16, .rwt, .v, (.n 0), (.ints [(0, 25040)]), 3, "Positions on thread k 13"⟩,
    ⟨0x2E, .u16, .rwt, .v, (.n 0), (.ints [(0, 25040)]), 3, "Positions on thread k 14"⟩,
    ⟨0x2F, .u16, .rwt, .v, (.n 0), (.ints [(0, 25040)]), 3, "Positions on thread k 15"⟩,
    ⟨0x30, .u16, .rwt, .v, (.n 0), (.ints [(0, 25040)]), 3, "Positions on thread k 16"⟩,
    ⟨0x31, .u16, .rwt, .v, (.n 0), (.ints [(0, 25040)]), 3, "Positions on thread k 17"⟩,
    ⟨0x32, .u16, .rwt, .v, (.n 0), (.ints [(0, 25040)]), 3, "Positions on thread k 18"⟩,
    ⟨0x33, .u16, .rwt, .v, (.n 0), (.ints [(0, 25040)]), 3, "Positions on thread k 19"⟩,
    ⟨0x34, .u16, .rwt, .v, (.n 0), (.ints [(0, 25040)]), 3, "Positions on thread k 20"⟩,
    ⟨0x35, .u16, .rwt, .v, (.n 0), (.ints [(0, 25040)]), 3, "Positions on thread k 21"⟩,
    ⟨0x36, .u16, .rwt, .v, (.n 0), (.ints [(0, 25040)]), 3, "Positions on thread k 22"⟩,
    ⟨0x37, .u16, .rwt, .v, (.n 0), (.ints [(0, 25040)]), 3, "Positions on thread k 23"⟩,
    ⟨0x38, .u16, .rwt, .v, (.n 0), (.ints [(0, 25040)]), 3, "Positions on thread k 24"⟩,
    ⟨0x39, .u16, .rwt, .v, (.n 0), (.ints [(0, 25040)]), 3, "Positions on thread k 25"⟩,
    ⟨0x3A, .u16, .rwt, .v, (.n 0), (.ints [(0, 25040)]), 3, "Positions on thread k 26"⟩,
    ⟨0x3B, .u16, .rwt, .v, (.n 0), (.ints [(0, 25040)]), 3, "Positions on thread k 27"⟩
  ]

/-- Record 4000, continued. -/
def rec4000_3 : List Entry := [
    ⟨0x3C, .u16, .rwt, .v, (.n 0), (.ints [(0, 25040)]), 3, "Positions on thread k 28"⟩,
    ⟨0x3D, .u16, .rwt, .v, (.n 0), (.ints [(0, 25040)]), 3, "Positions on thread k 29"⟩,
    ⟨0x3E, .u16, .rwt, .v, (.n 0), (.ints [(0, 25040)]), 3, "Positions on thread k 30"⟩,
    ⟨0x3F, .u16, .rwt, .v, (.n 0), (.ints [(0, 25040)]), 3, "Positions on thread k 31"⟩
  ]

/-- Record 4000 whole. -/
def rec4000 : List Entry := rec4000_0 ++ rec4000_1 ++ rec4000_2 ++ rec4000_3

/-- Record 5000 and the 4096 instances from it (R344, spec/10_sealing.md). -/
def rec5000_0 : List Entry := [
    ⟨0x00, .u8, .ro, .v, (.n 21), (.ints [(21, 21)]), 0, "Highest subindex"⟩,
    ⟨0x01, .enum8, .rw, .n, (.n 0), (.ints [(0, 1)]), 0, "Key mode"⟩,
    ⟨0x02, .u32, .rwt, .v, (.n 0), (.ints [(0, 4294967295)]), 1, "Epoch in force"⟩,
    ⟨0x03, .u32, .ro, .a, (.n 0), .any, 0, "Last transmit epoch"⟩,
    ⟨0x04, (.octets 56), .key, .v, (.bytes []), (.lens [(56, 56)]), 0, "Wrapped key"⟩,
    ⟨0x05, .enum8, .wo, .v, (.n 0), (.ints [(1, 2)]), 0, "Slot command"⟩,
    ⟨0x06, .enum8, .ro, .v, (.n 0), (.ints [(0, 3)]), 0, "Slot 0 state"⟩,
    ⟨0x07, .u32, .ro, .v, (.n 0), .any, 0, "Slot 0 epoch"⟩,
    ⟨0x08, (.octets 4), .ro, .v, (.bytes []), (.lens [(0, 0), (4, 4)]), 0, "Slot 0 check"⟩,
    ⟨0x09, .enum8, .ro, .v, (.n 0), (.ints [(0, 3)]), 0, "Slot 1 state"⟩,
    ⟨0x0A, .u32, .ro, .v, (.n 0), .any, 0, "Slot 1 epoch"⟩,
    ⟨0x0B, (.octets 4), .ro, .v, (.bytes []), (.lens [(0, 0), (4, 4)]), 0, "Slot 1 check"⟩,
    ⟨0x0C, .u32, .ro, .v, (.n 0), .any, 0, "Receive epoch"⟩,
    ⟨0x0D, .u64, .ro, .v, (.n 0), .any, 0, "Receive hold"⟩,
    ⟨0x0E, .u64, .ro, .v, (.n 0), .any, 8, "Tags sent"⟩,
    ⟨0x0F, .u64, .ro, .v, (.n 0), .any, 8, "Tags passed"⟩
  ]

/-- Record 5000, continued. -/
def rec5000_1 : List Entry := [
    ⟨0x10, .u64, .ro, .v, (.n 0), .any, 8, "Tag failures"⟩,
    ⟨0x11, .u64, .ro, .v, (.n 0), .any, 8, "Failures in LFs not accepted"⟩,
    ⟨0x12, .u64, .ro, .v, (.n 0), .any, 8, "Key misses"⟩,
    ⟨0x13, .u64, .ro, .v, (.n 0), .any, 8, "Unverified multiframes"⟩,
    ⟨0x14, .bits32, .ro, .v, (.n 0), .any, 0, "Seal defects"⟩,
    ⟨0x15, .u64, .ro, .v, (.n 0), .any, 8, "Frames discarded"⟩
  ]

/-- Record 5000 whole. -/
def rec5000 : List Entry := rec5000_0 ++ rec5000_1

/-- Record 6000 and the 4096 instances from it (R270, spec/08_line_frame.md). -/
def rec6000 : List Entry := [
    ⟨0x00, .u8, .ro, .v, (.n 13), (.ints [(13, 13)]), 0, "Highest subindex"⟩,
    ⟨0x01, .u32, .ro, .v, (.n 0), .any, 8, "ES"⟩,
    ⟨0x02, .u32, .ro, .v, (.n 0), .any, 8, "SES"⟩,
    ⟨0x03, .u32, .ro, .v, (.n 0), .any, 8, "UAS"⟩,
    ⟨0x04, .u64, .ro, .v, (.n 0), .any, 8, "BBE"⟩,
    ⟨0x05, .bool, .ro, .v, (.n 1), (.ints [(0, 1)]), 0, "Available"⟩,
    ⟨0x06, .u32, .ro, .v, (.n 0), .any, 8, "Seconds counted"⟩,
    ⟨0x07, .u32, .ro, .v, (.n 0), .any, 8, "Seconds excluded"⟩,
    ⟨0x08, .u64, .ro, .v, (.n 0), .any, 8, "FEC discards"⟩,
    ⟨0x09, .u64, .ro, .v, (.n 0), .any, 8, "Errored CBR stitches"⟩,
    ⟨0x0A, .u32, .ro, .v, (.n 0), .any, 8, "Delineation losses"⟩,
    ⟨0x0B, .u32, .ro, .v, (.n 0), .any, 8, "Header corrections"⟩,
    ⟨0x0C, .u32, .ro, .v, (.n 0), .any, 8, "JC failures"⟩,
    ⟨0x0D, .bits32, .ro, .v, (.n 0), .any, 0, "Tenant line defects"⟩
  ]

/-- Record 7000 (R308, spec/09_tenants.md). -/
def rec7000 : List Entry := [
    ⟨0x00, .u8, .ro, .v, (.n 12), (.ints [(12, 12)]), 0, "Highest subindex"⟩,
    ⟨0x01, .u32, .ro, .v, (.n 262144), (.ints [(0, 262144)]), 0, "Shared cells free"⟩,
    ⟨0x02, .u32, .ro, .v, (.n 0), (.ints [(0, 262144)]), 0, "Cells in use"⟩,
    ⟨0x03, .u32, .ro, .v, (.n 0), (.ints [(0, 245760)]), 0, "Reserved cells"⟩,
    ⟨0x04, .u32, .ro, .v, (.n 0), (.ints [(0, 245760)]), 0, "Headroom cells"⟩,
    ⟨0x05, .u32, .ro, .v, (.n 262144), (.ints [(16384, 262144)]), 0, "Shared part"⟩,
    ⟨0x06, .u64, .ro, .v, (.n 0), .any, 8, "Pool-empty drops"⟩,
    ⟨0x07, .u32, .ro, .v, (.n 262144), (.ints [(0, 262144)]), 0, "Queues free"⟩,
    ⟨0x08, .u8, .ro, .v, (.n 64), (.ints [(0, 64)]), 0, "Largest free block"⟩,
    ⟨0x09, .u16, .ro, .v, (.n 0), (.ints [(0, 4096)]), 0, "Tenants configured"⟩,
    ⟨0x0A, .enum8, .ro, .v, (.n 0), (.ints [(0, 4)]), 0, "Placement check"⟩,
    ⟨0x0B, .u16, .ro, .v, (.n 4096), (.ints [(0, 4096)]), 0, "Placement check tenant"⟩,
    ⟨0x0C, .u32, .ro, .v, (.n 0), (.ints [(0, 65536)]), 0, "Exact entries in use"⟩
  ]

/-- Record 7010 and the 16 instances from it (R275, spec/09_tenants.md). -/
def rec7010_0 : List Entry := [
    ⟨0x00, .u8, .ro, .v, (.n 20), (.ints [(20, 20)]), 0, "Highest subindex"⟩,
    ⟨0x01, .enum8, .rwq, .n, (.n 0), (.ints [(0, 2)]), 0, "Port mode"⟩,
    ⟨0x02, .enum8, .rwq, .n, (.n 3), (.ints [(1, 5)]), 0, "Ethernet rate"⟩,
    ⟨0x03, .enum8, .rw, .n, (.n 0), (.ints [(0, 2)]), 0, "Key kind"⟩,
    ⟨0x04, .u16, .rw, .n, (.n 4096), (.ints [(0, 4096)]), 0, "Default tenant"⟩,
    ⟨0x05, .u8, .rw, .n, (.n 0), (.ints [(0, 7)]), 0, "Default class"⟩,
    ⟨0x06, .u16, .rw, .n, (.n 9600), (.ints [(64, 16000)]), 0, "Maximum frame"⟩,
    ⟨0x07, .enum8, .rwq, .n, (.n 0), (.ints [(0, 2)]), 0, "Flow control"⟩,
    ⟨0x08, .bits32, .rw, .n, (.n 0), (.bits 0xFF), 0, "PFC classes"⟩,
    ⟨0x09, .u32, .rw, .n, (.n 2048), (.ints [(16, 65536)]), 0, "XOFF threshold"⟩,
    ⟨0x0A, .u32, .rw, .n, (.n 1536), (.ints [(0, 65535)]), 0, "XON threshold"⟩,
    ⟨0x0B, .u32, .rw, .n, (.n 0), (.ints [(0, 32768)]), 0, "Headroom"⟩,
    ⟨0x0C, .bool, .rw, .n, (.n 1), (.ints [(0, 1)]), 0, "Fault signalling"⟩,
    ⟨0x0D, .u64, .ro, .v, (.n 0), .any, 8, "Frames received"⟩,
    ⟨0x0E, .u64, .ro, .v, (.n 0), .any, 8, "Frames sent"⟩,
    ⟨0x0F, .u64, .ro, .v, (.n 0), .any, 8, "Ingress frame errors"⟩
  ]

/-- Record 7010, continued. -/
def rec7010_1 : List Entry := [
    ⟨0x10, .u64, .ro, .v, (.n 0), .any, 8, "Unclassified drops"⟩,
    ⟨0x11, .u64, .ro, .v, (.n 0), .any, 8, "Egress FCS discards"⟩,
    ⟨0x12, .u64, .ro, .v, (.n 0), .any, 8, "Flow-control frames sent"⟩,
    ⟨0x13, .u64, .ro, .v, (.n 0), .any, 8, "Flow-control frames received"⟩,
    ⟨0x14, .bits32, .ro, .v, (.n 0), .any, 0, "Port defects"⟩
  ]

/-- Record 7010 whole. -/
def rec7010 : List Entry := rec7010_0 ++ rec7010_1

/-- Record 7100 (R285, spec/09_tenants.md). -/
def rec7100 : List Entry := [
    ⟨0x00, .u8, .ro, .v, (.n 6), (.ints [(6, 6)]), 0, "Highest subindex"⟩,
    ⟨0x01, .u8, .rw, .v, (.n 0), (.ints [(0, 15)]), 0, "Port"⟩,
    ⟨0x02, .enum8, .rw, .v, (.n 1), (.ints [(1, 2)]), 0, "Key kind"⟩,
    ⟨0x03, .u32, .rw, .v, (.n 0), (.ints [(0, 1048575)]), 0, "Key value"⟩,
    ⟨0x04, .u16, .rw, .v, (.n 0), (.ints [(0, 4096)]), 0, "Tenant"⟩,
    ⟨0x05, .enum8, .wo, .v, (.n 0), (.ints [(1, 3)]), 0, "Command"⟩,
    ⟨0x06, .u16, .ro, .v, (.n 4096), (.ints [(0, 4096)]), 0, "Looked-up tenant"⟩
  ]

/-- Record 7200 and the 1024 instances from it (R286, spec/09_tenants.md). -/
def rec7200 : List Entry := [
    ⟨0x00, .u8, .ro, .v, (.n 8), (.ints [(8, 8)]), 0, "Highest subindex"⟩,
    ⟨0x01, .bool, .rw, .n, (.n 0), (.ints [(0, 1)]), 0, "Enable"⟩,
    ⟨0x02, .bits32, .rw, .n, (.n 0), (.bits 0xFFFF), 0, "Port mask"⟩,
    ⟨0x03, .enum8, .rw, .n, (.n 0), (.ints [(0, 3)]), 0, "Key kind"⟩,
    ⟨0x04, .u32, .rw, .n, (.n 0), (.ints [(0, 1048575)]), 0, "Value"⟩,
    ⟨0x05, .u32, .rw, .n, (.n 0), (.ints [(0, 1048575)]), 0, "Mask"⟩,
    ⟨0x06, .u16, .rw, .n, (.n 4096), (.ints [(0, 4096)]), 0, "Tenant"⟩,
    ⟨0x07, .u8, .rw, .n, (.n 8), (.ints [(0, 8)]), 0, "Class override"⟩,
    ⟨0x08, .u64, .ro, .v, (.n 0), .any, 8, "Matches"⟩
  ]

/-- Record 7800 (R288, spec/09_tenants.md). -/
def rec7800 : List Entry := [
    ⟨0x00, .u8, .ro, .v, (.n 1), (.ints [(1, 1)]), 0, "Highest subindex"⟩,
    ⟨0x01, .u32, .rw, .v, (.n 0), (.ints [(0, 262143)]), 0, "Queue select"⟩
  ]

/-- Record 7801 (R288, spec/09_tenants.md). -/
def rec7801 : List Entry := [
    ⟨0x00, .u8, .ro, .v, (.n 14), (.ints [(14, 14)]), 0, "Highest subindex"⟩,
    ⟨0x01, .u16, .ro, .v, (.n 4096), (.ints [(0, 4096)]), 0, "Owner"⟩,
    ⟨0x02, .enum8, .ro, .v, (.n 0), (.ints [(0, 1)]), 0, "Direction"⟩,
    ⟨0x03, .u8, .rw, .n, (.n 0), (.ints [(0, 3)]), 0, "Level"⟩,
    ⟨0x04, .u8, .rw, .n, (.n 1), (.ints [(1, 255)]), 0, "Weight"⟩,
    ⟨0x05, .u16, .rw, .n, (.n 0), (.ints [(0, 8192)]), 0, "Reserve"⟩,
    ⟨0x06, .u32, .rw, .n, (.n 0), (.ints [(0, 262144)]), 0, "Depth limit"⟩,
    ⟨0x07, .enum8, .rw, .n, (.n 4), (.ints [(0, 7)]), 0, "Threshold code"⟩,
    ⟨0x08, .u32, .ro, .v, (.n 0), (.ints [(0, 262144)]), 0, "Depth"⟩,
    ⟨0x09, .u32, .ro, .v, (.n 0), .any, 0, "Frames queued"⟩,
    ⟨0x0A, .u64, .ro, .v, (.n 0), .any, 8, "Frames admitted"⟩,
    ⟨0x0B, .u64, .ro, .v, (.n 0), .any, 8, "Threshold drops"⟩,
    ⟨0x0C, .u64, .ro, .v, (.n 0), .any, 8, "Pool-empty drops"⟩,
    ⟨0x0D, .u64, .ro, .v, (.n 0), .any, 8, "Frames dequeued"⟩,
    ⟨0x0E, .u32, .ro, .v, (.n 0), .any, 0, "Peak depth"⟩
  ]

/-- Record 8000 (R389, spec/12_timing.md). -/
def rec8000 : List Entry := [
    ⟨0x00, .u8, .ro, .v, (.n 12), (.ints [(12, 12)]), 0, "Highest subindex"⟩,
    ⟨0x01, .u8, .ro, .v, (.n 255), (.ints [(0, 8), (255, 255)]), 0, "Frequency selection"⟩,
    ⟨0x02, .u8, .ro, .v, (.n 255), (.ints [(4, 8), (255, 255)]), 0, "Time selection"⟩,
    ⟨0x03, .enum8, .rw, .n, (.n 0), (.ints [(0, 1)]), 0, "Selection mode"⟩,
    ⟨0x04, .u16, .rw, .n, (.n 300), (.ints [(0, 720)]), 0, "Wait-to-restore"⟩,
    ⟨0x05, .bool, .rw, .n, (.n 1), (.ints [(0, 1)]), 0, "Revertive"⟩,
    ⟨0x06, .u8, .rw, .n, (.n 255), (.ints [(0, 8), (255, 255)]), 0, "Forced frequency candidate"⟩,
    ⟨0x07, .u8, .rw, .n, (.n 255), (.ints [(4, 8), (255, 255)]), 0, "Forced time candidate"⟩,
    ⟨0x08, .u8, .rw, .n, (.n 11), (.ints [(2, 2), (4, 4), (8, 8), (11, 11)]), 0, "Own clock QL"⟩,
    ⟨0x09, .u8, .ro, .v, (.n 15), (.ints [(0, 15)]), 0, "SSM sent"⟩,
    ⟨0x0A, .bool, .rwq, .n, (.n 0), (.ints [(0, 1)]), 0, "Line frequency traceable"⟩,
    ⟨0x0B, .u32, .ro, .v, (.n 0), .any, 8, "Selection changes"⟩,
    ⟨0x0C, .bits32, .ro, .v, (.n 12), .any, 0, "Timing defects"⟩
  ]

/-- Record 8010 and the 9 instances from it (R390, spec/12_timing.md). -/
def rec8010 : List Entry := [
    ⟨0x00, .u8, .ro, .v, (.n 13), (.ints [(13, 13)]), 0, "Highest subindex"⟩,
    ⟨0x01, .bool, .rw, .n, (.n 0), (.ints [(0, 1)]), 0, "Enable"⟩,
    ⟨0x02, .u32, .rwq, .n, (.n 10000000), (.ints [(1000, 800000000)]), 0, "Nominal frequency"⟩,
    ⟨0x03, .u8, .rw, .n, (.n 11), (.ints [(2, 15)]), 0, "Declared QL"⟩,
    ⟨0x04, .u8, .rw, .n, (.n 128), (.ints [(1, 255)]), 0, "Priority"⟩,
    ⟨0x05, .u16, .rw, .n, (.n 120), (.ints [(10, 500)]), 0, "Offset limit"⟩,
    ⟨0x06, .i32, .rw, .n, (.n 0), (.ints [(-10000000, 10000000)]), 0, "Input delay"⟩,
    ⟨0x07, .enum8, .ro, .v, (.n 0), (.ints [(0, 7)]), 0, "Status"⟩,
    ⟨0x08, .u8, .ro, .v, (.n 15), (.ints [(0, 15)]), 0, "QL in use"⟩,
    ⟨0x09, .i32, .ro, .v, (.n 0), (.ints [(-5000000, 5000000)]), 0, "Frequency offset"⟩,
    ⟨0x0A, .i64, .ro, .v, (.n 0), .any, 0, "Phase offset"⟩,
    ⟨0x0B, .u16, .ro, .v, (.n 0), (.ints [(0, 720)]), 0, "Wait-to-restore remaining"⟩,
    ⟨0x0C, .u32, .ro, .v, (.n 0), .any, 8, "Failures"⟩,
    ⟨0x0D, .enum8, .ro, .v, (.n 0), (.ints [(0, 5)]), 0, "Fail cause"⟩
  ]

/-- Record 8020 (R391, spec/12_timing.md). -/
def rec8020 : List Entry := [
    ⟨0x00, .u8, .ro, .v, (.n 14), (.ints [(14, 14)]), 0, "Highest subindex"⟩,
    ⟨0x01, .enum8, .rw, .n, (.n 0), (.ints [(0, 3)]), 0, "Loop mode"⟩,
    ⟨0x02, .enum8, .rw, .n, (.n 1), (.ints [(0, 3)]), 0, "Bandwidth"⟩,
    ⟨0x03, .enum8, .ro, .v, (.n 0), (.ints [(0, 4)]), 0, "DPLL state"⟩,
    ⟨0x04, .u32, .rw, .n, (.n 1000), (.ints [(1, 50000)]), 0, "Phase slope limit"⟩,
    ⟨0x05, .u32, .rw, .n, (.n 1000000), (.ints [(100, 1000000000)]), 0, "Step threshold"⟩,
    ⟨0x06, .i32, .rw, .v, (.n 0), (.ints [(-5000000, 5000000)]), 0, "Steering frequency"⟩,
    ⟨0x07, .u16, .rw, .n, (.n 60), (.ints [(10, 3600)]), 0, "Holdover averaging"⟩,
    ⟨0x08, .i32, .ro, .v, (.n 0), .any, 0, "Holdover frequency"⟩,
    ⟨0x09, .u32, .ro, .v, (.n 0), .any, 0, "Holdover age"⟩,
    ⟨0x0A, .u16, .rw, .n, (.n 10), (.ints [(0, 10000)]), 0, "XO aging"⟩,
    ⟨0x0B, .u64, .ro, .v, (.n 0), .any, 0, "Holdover time-error estimate"⟩,
    ⟨0x0C, .u32, .rw, .n, (.n 1500), (.ints [(10, 1000000)]), 0, "Holdover limit"⟩,
    ⟨0x0D, .i32, .ro, .v, (.n 0), .any, 0, "Output frequency"⟩,
    ⟨0x0E, .u32, .rwq, .n, (.n 10000000), (.ints [(10000000, 100000000)]), 0, "XO_IN frequency"⟩
  ]

/-- Record 8030 (R391, spec/12_timing.md). -/
def rec8030 : List Entry := [
    ⟨0x00, .u8, .ro, .v, (.n 6), (.ints [(6, 6)]), 0, "Highest subindex"⟩,
    ⟨0x01, .time96, .ro, .v, (.n 0), .any, 0, "Device time"⟩,
    ⟨0x02, .time96, .wo, .v, (.n 0), .any, 0, "Set time"⟩,
    ⟨0x03, .i32, .wo, .v, (.n 0), (.ints [(-1000000000, 1000000000)]), 0, "Phase adjust"⟩,
    ⟨0x04, .enum8, .ro, .v, (.n 0), (.ints [(0, 5)]), 0, "Time status"⟩,
    ⟨0x05, .time96, .ro, .v, (.n 0), .any, 0, "Time of next PPS"⟩,
    ⟨0x06, .u32, .ro, .v, (.n 0), .any, 8, "Time steps"⟩
  ]

/-- Record 8040 (R392, spec/12_timing.md). -/
def rec8040 : List Entry := [
    ⟨0x00, .u8, .ro, .v, (.n 12), (.ints [(12, 12)]), 0, "Highest subindex"⟩,
    ⟨0x01, .bool, .rw, .n, (.n 1), (.ints [(0, 1)]), 0, "Enable"⟩,
    ⟨0x02, .i32, .rw, .n, (.n 0), (.ints [(-100000000, 100000000)]), 0, "Asymmetry"⟩,
    ⟨0x03, .u32, .rw, .n, (.n 0), (.ints [(0, 10000000)]), 0, "Board transmit delay"⟩,
    ⟨0x04, .u32, .rw, .n, (.n 0), (.ints [(0, 10000000)]), 0, "Board receive delay"⟩,
    ⟨0x05, .u64, .ro, .v, (.n 0), .any, 0, "Round trip"⟩,
    ⟨0x06, .i64, .ro, .v, (.n 0), .any, 0, "Far-end offset"⟩,
    ⟨0x07, .u32, .ro, .v, (.n 0), .any, 8, "Exchanges accepted"⟩,
    ⟨0x08, .u32, .ro, .v, (.n 0), .any, 8, "Exchanges rejected"⟩,
    ⟨0x09, .i32, .ro, .v, (.n 0), .any, 0, "Crossing calibration"⟩,
    ⟨0x0A, .bool, .rw, .n, (.n 0), (.ints [(0, 1)]), 0, "Picot fallback"⟩,
    ⟨0x0B, .i64, .ro, .v, (.n 0), .any, 0, "Picot offset"⟩,
    ⟨0x0C, .enum8, .ro, .v, (.n 0), (.ints [(0, 3)]), 0, "Transfer state"⟩
  ]

/-- Record 8050 (R392, spec/12_timing.md). -/
def rec8050 : List Entry := [
    ⟨0x00, .u8, .ro, .v, (.n 7), (.ints [(7, 7)]), 0, "Highest subindex"⟩,
    ⟨0x01, .bool, .rw, .n, (.n 1), (.ints [(0, 1)]), 0, "PPS_OUT enable"⟩,
    ⟨0x02, .u16, .rw, .n, (.n 100), (.ints [(1, 500)]), 0, "PPS width"⟩,
    ⟨0x03, .i32, .rw, .n, (.n 0), (.ints [(-1000000, 1000000)]), 0, "PPS offset"⟩,
    ⟨0x04, .u32, .rw, .n, (.n 156250000), (.ints [(1000, 800000000)]), 0, "CLK_OUT0 frequency"⟩,
    ⟨0x05, .u32, .rw, .n, (.n 10000000), (.ints [(1000, 800000000)]), 0, "CLK_OUT1 frequency"⟩,
    ⟨0x06, .bits32, .rw, .n, (.n 3), (.bits 0x3), 0, "CLK_OUT enable"⟩,
    ⟨0x07, .enum8, .rw, .n, (.n 0), (.ints [(0, 2)]), 0, "Squelch"⟩
  ]

/-- Record 8800 (R365, spec/11_picot.md). -/
def rec8800 : List Entry := [
    ⟨0x00, .u8, .ro, .v, (.n 8), (.ints [(8, 8)]), 0, "Highest subindex"⟩,
    ⟨0x01, .enum8, .rwq, .n, (.n 0), (.ints [(0, 1)]), 0, "Offset mode"⟩,
    ⟨0x02, .i32, .rwq, .n, (.n 152250), (.ints [(-168500, 168500)]), 0, "Fixed offset"⟩,
    ⟨0x03, .enum8, .rw, .n, (.n 4), (.ints [(2, 2), (4, 4)]), 0, "Service body level"⟩,
    ⟨0x04, .u16, .rwq, .n, (.n 250), (.ints [(200, 350)]), 0, "Picot level"⟩,
    ⟨0x05, .u8, .rw, .n, (.n 3), (.ints [(0, 6)]), 0, "Sync errors allowed"⟩,
    ⟨0x06, .i32, .ro, .v, (.n 152250), .any, 0, "Offset in force"⟩,
    ⟨0x07, .enum8, .ro, .v, (.n 0), (.ints [(0, 3)]), 0, "Offset check"⟩,
    ⟨0x08, .u16, .rw, .n, (.n 1000), (.ints [(100, 10000)]), 0, "TIME period"⟩
  ]

/-- Record 8801 (R365, spec/11_picot.md). -/
def rec8801 : List Entry := [
    ⟨0x00, .u8, .ro, .v, (.n 14), (.ints [(14, 14)]), 0, "Highest subindex"⟩,
    ⟨0x01, .enum8, .ro, .v, (.n 0), (.ints [(0, 3)]), 0, "Picot state"⟩,
    ⟨0x02, .bits32, .ro, .v, (.n 0), .any, 0, "Picot defects"⟩,
    ⟨0x03, .u32, .ro, .v, (.n 0), .any, 8, "Packets sent"⟩,
    ⟨0x04, .u32, .ro, .v, (.n 0), .any, 8, "Packets received"⟩,
    ⟨0x05, .u32, .ro, .v, (.n 0), .any, 8, "CRC failures"⟩,
    ⟨0x06, .u32, .ro, .v, (.n 0), .any, 8, "Packets discarded"⟩,
    ⟨0x07, .i32, .ro, .v, (.n 0), (.ints [(-3000000, 3000000)]), 0, "AFC estimate"⟩,
    ⟨0x08, .enum8, .ro, .v, (.n 0), (.ints [(0, 6)]), 0, "Mismatch cause"⟩,
    ⟨0x09, .u32, .ro, .v, (.n 0), .any, 8, "DPD pairs replaced"⟩,
    ⟨0x0A, (.octets 6), .ro, .v, (.bytes []), (.lens [(0, 0), (6, 6)]), 0, "Far-end MAC address"⟩,
    ⟨0x0B, .enum8, .ro, .v, (.n 0), (.ints [(0, 2)]), 0, "Far-end ordering code"⟩,
    ⟨0x0C, (.str 4), .ro, .v, (.bytes []), .any, 0, "Far-end revision"⟩,
    ⟨0x0D, .enum8, .ro, .v, (.n 0), (.ints [(0, 7)]), 0, "Far-end mode"⟩,
    ⟨0x0E, (.octets 12), .ro, .v, (.bytes []), (.lens [(0, 0), (12, 12)]), 0, "Last FAULT"⟩
  ]

/-- Record 8C00 (R446, spec/14_bobbin_group.md). -/
def rec8C00 : List Entry := [
    ⟨0x00, .u8, .ro, .v, (.n 14), (.ints [(14, 14)]), 0, "Highest subindex"⟩,
    ⟨0x01, .enum8, .ro, .v, (.n 0), (.ints [(0, 3)]), 0, "Role"⟩,
    ⟨0x02, .u8, .ro, .v, (.n 0), (.ints [(0, 3)]), 0, "Position"⟩,
    ⟨0x03, .u8, .rwq, .n, (.n 2), (.ints [(2, 4)]), 4, "Group size"⟩,
    ⟨0x04, (.octets 4), .ro, .v, (.bytes []), (.lens [(4, 4)]), 0, "Group-wide digest"⟩,
    ⟨0x05, .bits32, .ro, .v, (.n 0), .any, 0, "Members reachable"⟩,
    ⟨0x06, .bits32, .rw, .n, (.n 31), (.bits 0xFFFFFFFF), 0, "Alert mask"⟩,
    ⟨0x07, .bits32, .ro, .v, (.n 0), .any, 0, "Alert causes"⟩,
    ⟨0x08, .bits32, .wo, .v, (.n 0), (.bits 0x13), 0, "Clear alerts"⟩,
    ⟨0x09, .bool, .ro, .v, (.n 0), (.ints [(0, 1)]), 0, "GRP_ALERT_N low"⟩,
    ⟨0x0A, (.octets 16), .ro, .v, (.bytes []), (.lens [(0, 0), (16, 16)]), 0, "Member causes"⟩,
    ⟨0x0B, .u16, .rw, .n, (.n 64), (.ints [(8, 256)]), 4, "Deskew limit"⟩,
    ⟨0x0C, (.octets 4096), .rwq, .n, (.rep 4096 255), (.lens [(4096, 4096)]), 4, "Tenant homes"⟩,
    ⟨0x0D, .bits32, .ro, .v, (.n 0), .any, 0, "Group defects"⟩,
    ⟨0x0E, .u64, .ro, .v, (.n 0), .any, 8, "Sequences skipped"⟩
  ]

/-- Record 8C10 and the 2 instances from it (R447, spec/14_bobbin_group.md). -/
def rec8C10 : List Entry := [
    ⟨0x00, .u8, .ro, .v, (.n 14), (.ints [(14, 14)]), 0, "Highest subindex"⟩,
    ⟨0x01, .enum8, .ro, .v, (.n 0), (.ints [(0, 5)]), 0, "Link state"⟩,
    ⟨0x02, .u8, .ro, .v, (.n 255), (.ints [(0, 3), (255, 255)]), 0, "Neighbour"⟩,
    ⟨0x03, .u16, .ro, .v, (.n 0), (.ints [(0, 1024)]), 0, "Error counter"⟩,
    ⟨0x04, .u16, .rw, .n, (.n 32), (.ints [(1, 1024)]), 0, "Error limit"⟩,
    ⟨0x05, .u16, .rw, .n, (.n 10), (.ints [(1, 1000)]), 0, "Leak interval"⟩,
    ⟨0x06, .u32, .ro, .v, (.n 0), .any, 8, "Retries"⟩,
    ⟨0x07, .u64, .ro, .v, (.n 0), .any, 8, "Flits sent"⟩,
    ⟨0x08, .u64, .ro, .v, (.n 0), .any, 8, "Flits received"⟩,
    ⟨0x09, .u32, .ro, .v, (.n 0), .any, 8, "CRC failures"⟩,
    ⟨0x0A, .u32, .ro, .v, (.n 0), .any, 8, "Credit timeouts"⟩,
    ⟨0x0B, .u32, .ro, .v, (.n 0), .any, 8, "Link failures"⟩,
    ⟨0x0C, .enum8, .ro, .v, (.n 0), (.ints [(0, 6)]), 0, "Failure cause"⟩,
    ⟨0x0D, .enum8, .wo, .v, (.n 0), (.ints [(1, 2)]), 0, "Command"⟩,
    ⟨0x0E, .u32, .ro, .v, (.n 0), .any, 0, "Round trip"⟩
  ]

/-- Record 8D00 and the 256 instances from it (R448, spec/14_bobbin_group.md). -/
def rec8D00_0 : List Entry := [
    ⟨0x00, .u8, .ro, .v, (.n 17), (.ints [(17, 17)]), 0, "Highest subindex"⟩,
    ⟨0x01, .bool, .rw, .n, (.n 0), (.ints [(0, 1)]), 4, "Enable"⟩,
    ⟨0x02, .u16, .rw, .n, (.n 0), (.ints [(0, 4095)]), 4, "Working tenant"⟩,
    ⟨0x03, .u16, .rw, .n, (.n 0), (.ints [(0, 4095)]), 4, "Protect tenant"⟩,
    ⟨0x04, .bool, .rw, .n, (.n 0), (.ints [(0, 1)]), 4, "Bidirectional"⟩,
    ⟨0x05, .bool, .rw, .n, (.n 1), (.ints [(0, 1)]), 4, "Revertive"⟩,
    ⟨0x06, .u16, .rw, .n, (.n 0), (.ints [(0, 10000)]), 4, "Hold-off"⟩,
    ⟨0x07, .u16, .rw, .n, (.n 300), (.ints [(0, 720)]), 4, "Wait-to-restore"⟩,
    ⟨0x08, .enum8, .wo, .v, (.n 0), (.ints [(1, 4)]), 4, "Command"⟩,
    ⟨0x09, .enum8, .ro, .v, (.n 0), (.ints [(0, 1)]), 0, "Selected"⟩,
    ⟨0x0A, .enum8, .ro, .v, (.n 7), (.ints [(1, 7)]), 0, "Request in force"⟩,
    ⟨0x0B, .enum8, .ro, .v, (.n 0), (.ints [(0, 7)]), 0, "Far-end request"⟩,
    ⟨0x0C, .u32, .ro, .v, (.n 0), .any, 8, "Switches"⟩,
    ⟨0x0D, .time96, .ro, .v, (.n 0), .any, 0, "Last switch time"⟩,
    ⟨0x0E, .u32, .ro, .v, (.n 0), (.ints [(0, 10000)]), 0, "Last switch duration"⟩,
    ⟨0x0F, .u64, .ro, .v, (.n 0), .any, 8, "Sequences skipped"⟩
  ]

/-- Record 8D00, continued. -/
def rec8D00_1 : List Entry := [
    ⟨0x10, .i32, .ro, .v, (.n 0), .any, 0, "Differential delay"⟩,
    ⟨0x11, .enum8, .ro, .v, (.n 0), (.ints [(0, 2)]), 0, "Command status"⟩
  ]

/-- Record 8D00 whole. -/
def rec8D00 : List Entry := rec8D00_0 ++ rec8D00_1

/-- Record 9000 (R412, spec/13_lanes.md). -/
def rec9000 : List Entry := [
    ⟨0x00, .u8, .ro, .v, (.n 4), (.ints [(4, 4)]), 0, "Highest subindex"⟩,
    ⟨0x01, .enum8, .ro, .v, (.n 0), (.ints [(0, 5)]), 0, "Host lane check"⟩,
    ⟨0x02, .u8, .ro, .v, (.n 255), (.ints [(0, 15), (255, 255)]), 0, "Check port"⟩,
    ⟨0x03, .bits32, .ro, .v, (.n 0), .any, 0, "Lanes powered"⟩,
    ⟨0x04, .u8, .rw, .n, (.n 4), (.ints [(4, 8)]), 0, "Bobbin lane minimum"⟩
  ]

/-- Record 9010 and the 16 instances from it (R412, spec/13_lanes.md). -/
def rec9010 : List Entry := [
    ⟨0x00, .u8, .ro, .v, (.n 5), (.ints [(5, 5)]), 0, "Highest subindex"⟩,
    ⟨0x01, .u8, .rwq, .n, (.n 0), (.ints [(0, 15)]), 0, "First lane"⟩,
    ⟨0x02, .u8, .rwq, .n, (.n 0), (.ints [(0, 0), (1, 1), (2, 2), (4, 4), (8, 8), (16, 16)]), 0, "Width"⟩,
    ⟨0x03, .enum8, .rwq, .n, (.n 4), (.ints [(1, 4)]), 0, "Lane rate"⟩,
    ⟨0x04, .enum8, .rwq, .n, (.n 0), (.ints [(0, 1)]), 0, "Reach"⟩,
    ⟨0x05, .u32, .ro, .v, (.n 0), .any, 0, "Ingress skew"⟩
  ]

/-- Record 9020 and the 16 instances from it (R413, spec/13_lanes.md). -/
def rec9020_0 : List Entry := [
    ⟨0x00, .u8, .ro, .v, (.n 16), .any, 0, "Highest subindex"⟩,
    ⟨0x01, .enum8, .ro, .v, (.n 0), (.ints [(0, 6)]), 0, "Lane state"⟩,
    ⟨0x02, (.octets 4), .rw, .n, (.rep 4 0), (.lens [(4, 4)]), 0, "Transmit FFE"⟩,
    ⟨0x03, .u16, .rw, .n, (.n 800), (.ints [(400, 1200)]), 0, "Transmit swing"⟩,
    ⟨0x04, .bits32, .rwq, .n, (.n 0), (.bits 0x3), 0, "Polarity"⟩,
    ⟨0x05, .enum8, .rw, .n, (.n 0), (.ints [(0, 2)]), 0, "Receive adaptation"⟩,
    ⟨0x06, .u8, .rw, .n, (.n 255), (.ints [(0, 15), (255, 255)]), 0, "CTLE peaking"⟩,
    ⟨0x07, (.octets 32), .rwq, .a, (.bytes []), (.lens [(0, 0), (32, 32)]), 0, "Stored adaptation"⟩,
    ⟨0x08, .i16, .ro, .v, (.n 0), .any, 0, "Electrical SNR"⟩,
    ⟨0x09, .u32, .ro, .v, (.n 0), .any, 8, "Acquisition failures"⟩,
    ⟨0x0A, .enum8, .rw, .v, (.n 0), (.ints [(0, 8)]), 0, "Generator"⟩,
    ⟨0x0B, .enum8, .rw, .v, (.n 0), (.ints [(0, 8)]), 0, "Checker"⟩,
    ⟨0x0C, .bool, .ro, .v, (.n 0), (.ints [(0, 1)]), 0, "Checker lock"⟩,
    ⟨0x0D, .u64, .ro, .v, (.n 0), .any, 8, "Bits checked"⟩,
    ⟨0x0E, .u64, .ro, .v, (.n 0), .any, 8, "Bit errors"⟩,
    ⟨0x0F, .enum8, .rw, .v, (.n 0), (.ints [(0, 2)]), 0, "Injection"⟩
  ]

/-- Record 9020, continued. -/
def rec9020_1 : List Entry := [
    ⟨0x10, .u8, .rw, .v, (.n 20), (.ints [(3, 40)]), 0, "Injection exponent"⟩
  ]

/-- Record 9020 whole. -/
def rec9020 : List Entry := rec9020_0 ++ rec9020_1

/-- Record 9040 and the 16 instances from it (R413, spec/13_lanes.md). -/
def rec9040_0 : List Entry := [
    ⟨0x00, .u8, .ro, .v, (.n 23), .any, 0, "Highest subindex"⟩,
    ⟨0x01, .enum8, .ro, .v, (.n 0), (.ints [(0, 6)]), 0, "Lane state"⟩,
    ⟨0x02, (.octets 4), .rw, .n, (.rep 4 0), (.lens [(4, 4)]), 0, "Transmit FFE"⟩,
    ⟨0x03, .u16, .rw, .n, (.n 800), (.ints [(400, 1200)]), 0, "Transmit swing"⟩,
    ⟨0x04, .bits32, .rwq, .n, (.n 0), (.bits 0x3), 0, "Polarity"⟩,
    ⟨0x05, .enum8, .rw, .n, (.n 0), (.ints [(0, 2)]), 0, "Receive adaptation"⟩,
    ⟨0x06, .u8, .rw, .n, (.n 255), (.ints [(0, 15), (255, 255)]), 0, "CTLE peaking"⟩,
    ⟨0x07, (.octets 32), .rwq, .a, (.bytes []), (.lens [(0, 0), (32, 32)]), 0, "Stored adaptation"⟩,
    ⟨0x08, .i16, .ro, .v, (.n 0), .any, 0, "Electrical SNR"⟩,
    ⟨0x09, .u32, .ro, .v, (.n 0), .any, 8, "Acquisition failures"⟩,
    ⟨0x0A, .enum8, .rw, .v, (.n 0), (.ints [(0, 8)]), 0, "Generator"⟩,
    ⟨0x0B, .enum8, .rw, .v, (.n 0), (.ints [(0, 8)]), 0, "Checker"⟩,
    ⟨0x0C, .bool, .ro, .v, (.n 0), (.ints [(0, 1)]), 0, "Checker lock"⟩,
    ⟨0x0D, .u64, .ro, .v, (.n 0), .any, 8, "Bits checked"⟩,
    ⟨0x0E, .u64, .ro, .v, (.n 0), .any, 8, "Bit errors"⟩,
    ⟨0x0F, .enum8, .rw, .v, (.n 0), (.ints [(0, 2)]), 0, "Injection"⟩
  ]

/-- Record 9040, continued. -/
def rec9040_1 : List Entry := [
    ⟨0x10, .u8, .rw, .v, (.n 20), (.ints [(3, 40)]), 0, "Injection exponent"⟩,
    ⟨0x11, .u64, .ro, .v, (.n 0), .any, 8, "Codewords"⟩,
    ⟨0x12, .u64, .ro, .v, (.n 0), .any, 8, "Codewords corrected"⟩,
    ⟨0x13, .u64, .ro, .v, (.n 0), .any, 8, "Codewords uncorrectable"⟩,
    ⟨0x14, .u64, .ro, .v, (.n 0), .any, 8, "Symbols corrected"⟩,
    ⟨0x15, .bool, .ro, .v, (.n 0), (.ints [(0, 1)]), 0, "Marker lock"⟩,
    ⟨0x16, .enum8, .wo, .v, (.n 0), (.ints [(1, 2)]), 0, "Lane command"⟩,
    ⟨0x17, .enum8, .ro, .v, (.n 0), (.ints [(0, 4)]), 0, "Retirement cause"⟩
  ]

/-- Record 9040 whole. -/
def rec9040 : List Entry := rec9040_0 ++ rec9040_1

/-- Record 9060 and the 2 instances from it (R414, spec/13_lanes.md). -/
def rec9060 : List Entry := [
    ⟨0x00, .u8, .ro, .v, (.n 9), (.ints [(9, 9)]), 0, "Highest subindex"⟩,
    ⟨0x01, .bits32, .ro, .v, (.n 255), .any, 0, "Transmit mask"⟩,
    ⟨0x02, .bits32, .ro, .v, (.n 255), .any, 0, "Receive mask"⟩,
    ⟨0x03, .bits32, .ro, .v, (.n 0), .any, 0, "Retire request"⟩,
    ⟨0x04, .u64, .ro, .v, (.n 0), .any, 0, "Marker counter"⟩,
    ⟨0x05, .u32, .ro, .v, (.n 0), (.ints [(0, 40000)]), 0, "Lane skew"⟩,
    ⟨0x06, .bool, .rw, .n, (.n 1), (.ints [(0, 1)]), 0, "Automatic re-admission"⟩,
    ⟨0x07, .u8, .rw, .n, (.n 4), (.ints [(1, 255)]), 0, "Uncorrectable limit"⟩,
    ⟨0x08, .bool, .ro, .v, (.n 0), (.ints [(0, 1)]), 0, "Port idle"⟩,
    ⟨0x09, .u64, .ro, .v, (.n 0), .any, 0, "Payload rate"⟩
  ]

/-- Record 9080 (R422, spec/13_lanes.md). -/
def rec9080 : List Entry := [
    ⟨0x00, .u8, .ro, .v, (.n 14), (.ints [(14, 14)]), 0, "Highest subindex"⟩,
    ⟨0x01, .enum8, .ro, .v, (.n 0), (.ints [(0, 5)]), 0, "Link state"⟩,
    ⟨0x02, .u8, .ro, .v, (.n 0), (.ints [(0, 0), (1, 1), (2, 2), (4, 4)]), 0, "Link width"⟩,
    ⟨0x03, .enum8, .ro, .v, (.n 0), (.ints [(0, 5)]), 0, "Link speed"⟩,
    ⟨0x04, .enum8, .rwq, .n, (.n 5), (.ints [(1, 5)]), 0, "Maximum speed"⟩,
    ⟨0x05, .u8, .rwq, .n, (.n 4), (.ints [(1, 1), (2, 2), (4, 4)]), 0, "Maximum width"⟩,
    ⟨0x06, .enum8, .ro, .v, (.n 0), (.ints [(0, 0), (3, 3)]), 0, "Device state"⟩,
    ⟨0x07, .bits32, .rw, .n, (.n 1), (.bits 0xF), 0, "Wake enable"⟩,
    ⟨0x08, .bits32, .ro, .v, (.n 0), .any, 0, "Wake causes"⟩,
    ⟨0x09, .u32, .ro, .v, (.n 0), .any, 8, "WAKE_N assertions"⟩,
    ⟨0x0A, .u32, .ro, .v, (.n 0), .any, 8, "PM_PME sent"⟩,
    ⟨0x0B, .u32, .ro, .v, (.n 0), .any, 8, "Correctable errors"⟩,
    ⟨0x0C, .u32, .ro, .v, (.n 0), .any, 8, "Uncorrectable errors"⟩,
    ⟨0x0D, .u16, .rwq, .n, (.n 0), .any, 0, "Subsystem Vendor ID"⟩,
    ⟨0x0E, .u16, .rwq, .n, (.n 0), .any, 0, "Subsystem ID"⟩
  ]

/-- Record 9400 (R459, spec/15_engines_matrix_dma.md). -/
def rec9400 : List Entry := [
    ⟨0x00, .u8, .ro, .v, (.n 8), (.ints [(8, 8)]), 0, "Highest subindex"⟩,
    ⟨0x01, .u8, .ro, .v, (.n 1), (.ints [(0, 12)]), 0, "Spares ready"⟩,
    ⟨0x02, .bits32, .ro, .v, (.n 0), .any, 0, "Suspended items"⟩,
    ⟨0x03, .u32, .ro, .v, (.n 0), .any, 8, "Planned moves"⟩,
    ⟨0x04, .u32, .ro, .v, (.n 0), .any, 8, "Fault moves"⟩,
    ⟨0x05, .u32, .ro, .v, (.n 0), .any, 8, "Evictions"⟩,
    ⟨0x06, .bits32, .ro, .v, (.n 0), .any, 0, "Engine defects"⟩,
    ⟨0x07, .u16, .rw, .n, (.n 100), (.ints [(10, 1000)]), 0, "History interval"⟩,
    ⟨0x08, .bits32, .ro, .n, (.n 0), .any, 0, "Retired clusters"⟩
  ]

/-- Record 9410 and the 12 instances from it (R459, spec/15_engines_matrix_dma.md). -/
def rec9410 : List Entry := [
    ⟨0x00, .u8, .ro, .v, (.n 8), (.ints [(8, 8)]), 0, "Highest subindex"⟩,
    ⟨0x01, .enum8, .ro, .v, (.n 0), (.ints [(0, 6)]), 0, "State"⟩,
    ⟨0x02, .u8, .ro, .v, .clusterItem, (.ints [(0, 10), (255, 255)]), 0, "Work item"⟩,
    ⟨0x03, .u8, .ro, .v, (.n 0), (.ints [(0, 100)]), 0, "Utilisation"⟩,
    ⟨0x04, .u32, .ro, .v, (.n 0), .any, 8, "Heartbeat misses"⟩,
    ⟨0x05, .u32, .ro, .v, (.n 0), .any, 8, "Faults"⟩,
    ⟨0x06, .enum8, .ro, .v, (.n 0), (.ints [(0, 5)]), 0, "Fault cause"⟩,
    ⟨0x07, .enum8, .wo, .v, (.n 0), (.ints [(1, 3)]), 0, "Command"⟩,
    ⟨0x08, .u32, .ro, .v, (.n 0), .any, 8, "Times made running"⟩
  ]

/-- Record 9420 and the 11 instances from it (R459, spec/15_engines_matrix_dma.md). -/
def rec9420 : List Entry := [
    ⟨0x00, .u8, .ro, .v, (.n 5), (.ints [(5, 5)]), 0, "Highest subindex"⟩,
    ⟨0x01, .u8, .ro, .v, .inst, (.ints [(0, 11), (255, 255)]), 0, "Cluster"⟩,
    ⟨0x02, .u8, .ro, .v, .rank, (.ints [(1, 6)]), 0, "Rank"⟩,
    ⟨0x03, .enum8, .ro, .v, (.n 0), (.ints [(0, 2)]), 0, "Item state"⟩,
    ⟨0x04, .u32, .ro, .v, (.n 0), .any, 8, "Moves"⟩,
    ⟨0x05, .time96, .ro, .v, (.n 0), .any, 0, "Last history"⟩
  ]

/-- Record 9480 (R470, spec/15_engines_matrix_dma.md). -/
def rec9480 : List Entry := [
    ⟨0x00, .u8, .ro, .v, (.n 7), (.ints [(7, 7)]), 0, "Highest subindex"⟩,
    ⟨0x01, .bool, .ro, .v, (.n 0), (.ints [(0, 1)]), 0, "Remap"⟩,
    ⟨0x02, .u32, .ro, .v, (.n 0), .any, 8, "Decode faults"⟩,
    ⟨0x03, .enum8, .ro, .v, (.n 0), (.ints [(0, 17)]), 0, "Last fault master"⟩,
    ⟨0x04, .u64, .ro, .v, (.n 0), .any, 0, "Last fault address"⟩,
    ⟨0x05, .enum8, .ro, .v, (.n 0), (.ints [(0, 3)]), 0, "Last fault action"⟩,
    ⟨0x06, .u32, .ro, .v, (.n 0), .any, 8, "Target timeouts"⟩,
    ⟨0x07, .bits32, .ro, .v, (.n 0), .any, 0, "Matrix defects"⟩
  ]

/-- Record 9481 (R470, spec/15_engines_matrix_dma.md). -/
def rec9481 : List Entry := [
    ⟨0x00, .u8, .ro, .v, (.n 5), (.ints [(5, 5)]), 0, "Highest subindex"⟩,
    ⟨0x01, .u8, .rw, .n, (.n 8), (.ints [(0, 14)]), 0, "DMA level QoS level 0"⟩,
    ⟨0x02, .u8, .rw, .n, (.n 6), (.ints [(0, 14)]), 0, "DMA level QoS level 1"⟩,
    ⟨0x03, .u8, .rw, .n, (.n 4), (.ints [(0, 14)]), 0, "DMA level QoS level 2"⟩,
    ⟨0x04, .u8, .rw, .n, (.n 2), (.ints [(0, 14)]), 0, "DMA level QoS level 3"⟩,
    ⟨0x05, .u8, .rw, .n, (.n 9), (.ints [(0, 14)]), 0, "PCIe inbound QoS"⟩
  ]

/-- Record 94A0 and the 16 instances from it (R470, spec/15_engines_matrix_dma.md). -/
def rec94A0 : List Entry := [
    ⟨0x00, .u8, .ro, .v, (.n 5), (.ints [(5, 5)]), 0, "Highest subindex"⟩,
    ⟨0x01, .bool, .rw, .n, (.n 0), (.ints [(0, 1)]), 0, "Enable"⟩,
    ⟨0x02, .u64, .rw, .n, (.n 0), .any, 0, "Match base"⟩,
    ⟨0x03, .enum8, .rw, .n, (.n 0), (.ints [(0, 12)]), 0, "Size"⟩,
    ⟨0x04, .u64, .rw, .n, (.n 0), .any, 0, "Target base"⟩,
    ⟨0x05, .u64, .ro, .v, (.n 0), .any, 8, "Hits"⟩
  ]

/-- Record 9500 and the 64 instances from it (R478, spec/15_engines_matrix_dma.md). -/
def rec9500_0 : List Entry := [
    ⟨0x00, .u8, .ro, .v, (.n 17), (.ints [(17, 17)]), 0, "Highest subindex"⟩,
    ⟨0x01, .u8, .rw, .v, (.n 2), (.ints [(0, 3)]), 0, "Priority level"⟩,
    ⟨0x02, .enum8, .rw, .v, (.n 1), (.ints [(0, 1)]), 0, "List space"⟩,
    ⟨0x03, .enum8, .rw, .v, (.n 0), (.ints [(0, 2)]), 0, "Source space"⟩,
    ⟨0x04, .u64, .rw, .v, (.n 0), .any, 0, "Source list"⟩,
    ⟨0x05, .enum8, .rw, .v, (.n 1), (.ints [(0, 2)]), 0, "Destination space"⟩,
    ⟨0x06, .u64, .rw, .v, (.n 0), .any, 0, "Destination list"⟩,
    ⟨0x07, .u64, .rw, .v, (.n 0), .any, 0, "Writeback address"⟩,
    ⟨0x08, .bool, .rw, .v, (.n 1), (.ints [(0, 1)]), 0, "Interrupt enable"⟩,
    ⟨0x09, .enum8, .wo, .v, (.n 0), (.ints [(1, 2)]), 0, "Command"⟩,
    ⟨0x0A, .enum8, .ro, .v, (.n 0), (.ints [(0, 4)]), 0, "State"⟩,
    ⟨0x0B, .bool, .ro, .v, (.n 0), (.ints [(0, 1)]), 0, "Settled"⟩,
    ⟨0x0C, .u64, .ro, .v, (.n 0), .any, 0, "Bytes moved"⟩,
    ⟨0x0D, .enum8, .ro, .v, (.n 0), (.ints [(0, 9)]), 0, "Error"⟩,
    ⟨0x0E, .u32, .ro, .v, (.n 0), .any, 0, "Failing entry"⟩,
    ⟨0x0F, .u8, .ro, .v, (.n 0), (.ints [(0, 15)]), 0, "Dictionary status"⟩
  ]

/-- Record 9500, continued. -/
def rec9500_1 : List Entry := [
    ⟨0x10, .u32, .ro, .v, (.n 0), .any, 8, "Job number"⟩,
    ⟨0x11, .u32, .ro, .v, (.n 0), .any, 8, "Late errors"⟩
  ]

/-- Record 9500 whole. -/
def rec9500 : List Entry := rec9500_0 ++ rec9500_1

/-- Record 9540 (R478, spec/15_engines_matrix_dma.md). -/
def rec9540 : List Entry := [
    ⟨0x00, .u8, .ro, .v, (.n 3), (.ints [(3, 3)]), 0, "Highest subindex"⟩,
    ⟨0x01, .u8, .ro, .v, (.n 0), (.ints [(0, 64)]), 0, "Channels running"⟩,
    ⟨0x02, .u64, .ro, .v, (.n 0), .any, 8, "Bytes moved"⟩,
    ⟨0x03, .u32, .ro, .v, (.n 0), .any, 8, "Channel errors"⟩
  ]

/-- Record 9800 (R492, spec/16_memories.md). -/
def rec9800 : List Entry := [
    ⟨0x00, .u8, .ro, .v, (.n 6), (.ints [(6, 6)]), 0, "Highest subindex"⟩,
    ⟨0x01, .u16, .rw, .n, (.n 10), (.ints [(1, 3600)]), 0, "Scrub period"⟩,
    ⟨0x02, .bool, .rw, .n, (.n 1), (.ints [(0, 1)]), 0, "Background test"⟩,
    ⟨0x03, .u16, .rw, .n, (.n 100), (.ints [(1, 10000)]), 0, "Test line interval"⟩,
    ⟨0x04, .u16, .rw, .n, (.n 8), (.ints [(1, 1000)]), 0, "Weak threshold"⟩,
    ⟨0x05, .bits32, .ro, .v, (.n 0), .any, 0, "Memory defects"⟩,
    ⟨0x06, .enum8, .ro, .v, (.n 0), (.ints [(0, 2)]), 0, "Test state"⟩
  ]

/-- Record 9808 (R492, spec/16_memories.md). -/
def rec9808 : List Entry := [
    ⟨0x00, .u8, .ro, .v, (.n 3), (.ints [(3, 3)]), 0, "Highest subindex"⟩,
    ⟨0x01, .u8, .ro, .a, (.n 0), (.ints [(0, 64)]), 0, "Log entries"⟩,
    ⟨0x02, (.octets 2048), .ro, .a, (.bytes []), (.lens [(0, 2048)]), 0, "Log"⟩,
    ⟨0x03, .bool, .wo, .v, (.n 0), (.ints [(1, 1)]), 0, "Clear log"⟩
  ]

/-- Record 9810 and the 18 instances from it (R492, spec/16_memories.md). -/
def rec9810 : List Entry := [
    ⟨0x00, .u8, .ro, .v, (.n 7), (.ints [(7, 7)]), 0, "Highest subindex"⟩,
    ⟨0x01, .u64, .ro, .v, (.n 0), .any, 8, "Corrected"⟩,
    ⟨0x02, .u64, .ro, .v, (.n 0), .any, 8, "Uncorrectable"⟩,
    ⟨0x03, .u32, .ro, .v, (.n 0), .any, 0, "Poisoned words"⟩,
    ⟨0x04, .u32, .ro, .v, (.n 0), .any, 8, "Test passes"⟩,
    ⟨0x05, .u32, .ro, .v, (.n 0), .any, 8, "Test failures"⟩,
    ⟨0x06, .u64, .ro, .v, (.n 0), .any, 8, "Port busies"⟩,
    ⟨0x07, .u32, .ro, .n, (.n 0), .any, 0, "Retired units"⟩
  ]

/-- Record 9830 (R492, spec/16_memories.md). -/
def rec9830 : List Entry := [
    ⟨0x00, .u8, .ro, .v, (.n 5), (.ints [(5, 5)]), 0, "Highest subindex"⟩,
    ⟨0x01, .u8, .rw, .v, (.n 4), (.ints [(1, 1), (4, 6)]), 0, "Memory"⟩,
    ⟨0x02, .u32, .rw, .v, (.n 0), .any, 0, "Unit"⟩,
    ⟨0x03, .u32, .rw, .v, (.n 0), .any, 0, "Spare page"⟩,
    ⟨0x04, .enum8, .wo, .v, (.n 0), (.ints [(1, 2)]), 0, "Command"⟩,
    ⟨0x05, .u8, .ro, .v, (.n 0), (.ints [(0, 15)]), 0, "Last result"⟩
  ]

/-- Record 9831 (R492, spec/16_memories.md). -/
def rec9831 : List Entry := [
    ⟨0x00, .u8, .ro, .v, (.n 1), (.ints [(1, 1)]), 0, "Highest subindex"⟩,
    ⟨0x01, (.octets 32), .rwq, .n, (.rep 32 0), (.lens [(32, 32)]), 0, "Retired banks"⟩
  ]

/-- Record 9840 and the 18 instances from it (R492, spec/16_memories.md). -/
def rec9840 : List Entry := [
    ⟨0x00, .u8, .ro, .v, (.n 2), (.ints [(2, 2)]), 0, "Highest subindex"⟩,
    ⟨0x01, .u64, .ro, .v, (.n 0), .any, 8, "Pieces delayed"⟩,
    ⟨0x02, .u64, .ro, .v, (.n 0), .any, 8, "Cycles waited"⟩
  ]

/-- Record 9C00 (R516, spec/17_boot_firmware.md). -/
def rec9C00 : List Entry := [
    ⟨0x00, .u8, .ro, .v, (.n 13), (.ints [(13, 13)]), 0, "Highest subindex"⟩,
    ⟨0x01, .enum8, .ro, .v, (.n 0), (.ints [(0, 3)]), 0, "Boot source"⟩,
    ⟨0x02, .enum8, .ro, .v, (.n 0), (.ints [(0, 1)]), 0, "Bank in use"⟩,
    ⟨0x03, .enum8, .ro, .v, (.n 0), (.ints [(0, 8)]), 0, "Bank A result"⟩,
    ⟨0x04, .enum8, .ro, .v, (.n 0), (.ints [(0, 8)]), 0, "Bank B result"⟩,
    ⟨0x05, .u32, .ro, .v, .factory, .any, 0, "Bundle version"⟩,
    ⟨0x06, .u8, .ro, .v, .factory, (.ints [(0, 64)]), 0, "Security version"⟩,
    ⟨0x07, .u8, .ro, .v, .factory, (.ints [(0, 64)]), 0, "Security fuse"⟩,
    ⟨0x08, .u32, .ro, .v, (.n 0), .any, 0, "Boot duration"⟩,
    ⟨0x09, .enum8, .ro, .v, (.n 0), (.ints [(0, 2)]), 0, "Trial state"⟩,
    ⟨0x0A, .u8, .ro, .v, (.n 0), (.ints [(0, 64)]), 0, "Trial boots"⟩,
    ⟨0x0B, .bits32, .ro, .v, (.n 0), .any, 0, "Boot defects"⟩,
    ⟨0x0C, .u32, .ro, .v, (.n 0), .any, 0, "Entries skipped"⟩,
    ⟨0x0D, .enum8, .wo, .v, (.n 0), (.ints [(1, 3)]), 0, "Command"⟩
  ]

/-- Record 9C10 (R516, spec/17_boot_firmware.md). -/
def rec9C10 : List Entry := [
    ⟨0x00, .u8, .ro, .v, (.n 7), (.ints [(7, 7)]), 0, "Highest subindex"⟩,
    ⟨0x01, .enum8, .wo, .v, (.n 0), (.ints [(1, 3)]), 0, "Bank command"⟩,
    ⟨0x02, .enum8, .ro, .v, (.n 0), (.ints [(0, 6)]), 0, "Update state"⟩,
    ⟨0x03, .enum8, .ro, .v, (.n 0), (.ints [(0, 8)]), 0, "Other bank result"⟩,
    ⟨0x04, .u32, .ro, .v, (.n 0), .any, 0, "Other bank version"⟩,
    ⟨0x05, .u8, .ro, .v, (.n 0), (.ints [(0, 11)]), 0, "Items updated"⟩,
    ⟨0x06, .u8, .ro, .v, (.n 0), (.ints [(0, 15)]), 0, "Last result"⟩,
    ⟨0x07, .u32, .ro, .v, (.n 0), .any, 8, "Updates completed"⟩
  ]

/-- Record 9C20 (R517, spec/17_boot_firmware.md). -/
def rec9C20 : List Entry := [
    ⟨0x00, .u8, .ro, .v, (.n 13), (.ints [(13, 13)]), 0, "Highest subindex"⟩,
    ⟨0x01, .u32, .rw, .v, (.n 0), (.ints [(0, 268435455)]), 0, "Address"⟩,
    ⟨0x02, .u16, .rw, .v, (.n 4096), (.ints [(1, 4096)]), 0, "Length"⟩,
    ⟨0x03, (.octets 4096), .rw, .v, (.bytes []), (.lens [(0, 4096)]), 0, "Buffer"⟩,
    ⟨0x04, .enum8, .wo, .v, (.n 0), (.ints [(1, 5)]), 0, "Command"⟩,
    ⟨0x05, .enum8, .ro, .v, (.n 0), (.ints [(0, 4)]), 0, "State"⟩,
    ⟨0x06, .u8, .ro, .v, (.n 0), (.ints [(0, 15)]), 0, "Result"⟩,
    ⟨0x07, .u32, .ro, .v, (.n 4294967295), .any, 0, "First unerased"⟩,
    ⟨0x08, .u8, .rwq, .a, (.n 26), (.ints [(26, 28)]), 0, "Size code"⟩,
    ⟨0x09, .u32, .ro, .v, (.n 0), .any, 8, "Erases"⟩,
    ⟨0x0A, .u32, .ro, .v, (.n 0), .any, 8, "Programs"⟩,
    ⟨0x0B, .u32, .ro, .v, (.n 0), .any, 8, "Flash errors"⟩,
    ⟨0x0C, .u8, .rwq, .a, (.n 1), (.ints [(1, 2)]), 0, "Interface profile"⟩,
    ⟨0x0D, .u8, .rwq, .a, (.n 20), (.ints [(4, 31)]), 0, "Dummy cycles"⟩
  ]

/-- Record 9C30 (R517, spec/17_boot_firmware.md). -/
def rec9C30 : List Entry := [
    ⟨0x00, .u8, .ro, .v, (.n 8), (.ints [(8, 8)]), 0, "Highest subindex"⟩,
    ⟨0x01, .enum8, .wo, .v, (.n 0), (.ints [(1, 2)]), 0, "Command"⟩,
    ⟨0x02, .enum8, .ro, .v, (.n 0), (.ints [(0, 5)]), 0, "Commit state"⟩,
    ⟨0x03, .u32, .ro, .v, (.n 0), .any, 0, "Sequence in force"⟩,
    ⟨0x04, .u32, .ro, .v, (.n 0), (.ints [(0, 4194304)]), 0, "Image length"⟩,
    ⟨0x05, .time96, .ro, .v, (.n 0), .any, 0, "Last commit time"⟩,
    ⟨0x06, .u8, .ro, .v, (.n 0), (.ints [(0, 15)]), 0, "Last result"⟩,
    ⟨0x07, .enum8, .ro, .v, (.n 255), (.ints [(0, 0), (1, 1), (255, 255)]), 0, "Slot in force"⟩,
    ⟨0x08, .u32, .ro, .v, (.n 0), .any, 0, "Changes since snapshot"⟩
  ]

/-- Record A000 (R546, spec/19_telemetry.md). -/
def recA000 : List Entry := [
    ⟨0x00, .u8, .ro, .v, (.n 6), (.ints [(6, 6)]), 0, "Highest subindex"⟩,
    ⟨0x01, .enum8, .rw, .n, (.n 0), (.ints [(0, 1)]), 0, "PM source"⟩,
    ⟨0x02, .i32, .rw, .n, (.n 0), (.ints [(-1000000, 1000000)]), 0, "PM_SYNC delay"⟩,
    ⟨0x03, .time96, .ro, .v, (.n 0), .any, 0, "Last boundary"⟩,
    ⟨0x04, .u32, .ro, .v, (.n 0), .any, 8, "Edges rejected"⟩,
    ⟨0x05, .u32, .ro, .v, (.n 0), .any, 8, "PM second number"⟩,
    ⟨0x06, .bits32, .ro, .v, (.n 0), .any, 0, "PM defects"⟩
  ]

/-- Record A010 (R552, spec/19_telemetry.md). -/
def recA010 : List Entry := [
    ⟨0x00, .u8, .ro, .v, (.n 11), (.ints [(11, 11)]), 0, "Highest subindex"⟩,
    ⟨0x01, .u32, .ro, .v, (.n 0), .any, 0, "Last dump number"⟩,
    ⟨0x02, .u16, .rw, .n, (.n 0), (.ints [(0, 3600)]), 0, "Period"⟩,
    ⟨0x03, .enum8, .wo, .v, (.n 0), (.ints [(1, 1)]), 0, "Command"⟩,
    ⟨0x04, .bool, .rw, .n, (.n 0), (.ints [(0, 1)]), 0, "Stream enable"⟩,
    ⟨0x05, .u64, .rw, .n, (.n 0), .any, 0, "Host ring base"⟩,
    ⟨0x06, .u8, .rw, .n, (.n 8), (.ints [(1, 64)]), 0, "Ring buffers"⟩,
    ⟨0x07, .u32, .rw, .v, (.n 0), .any, 0, "Host read index"⟩,
    ⟨0x08, .u32, .ro, .v, (.n 0), .any, 8, "Dumps skipped"⟩,
    ⟨0x09, .u32, .ro, .v, (.n 0), .any, 8, "Device write index"⟩,
    ⟨0x0A, .bits32, .ro, .v, (.n 0), .any, 0, "Dump defects"⟩,
    ⟨0x0B, .bool, .rw, .n, (.n 1), (.ints [(0, 1)]), 0, "Stream interrupt"⟩
  ]

/-- Record A020 (R557, spec/19_telemetry.md). -/
def recA020 : List Entry := [
    ⟨0x00, .u8, .ro, .v, (.n 15), (.ints [(15, 15)]), 0, "Highest subindex"⟩,
    ⟨0x01, .enum8, .rw, .n, (.n 0), (.ints [(0, 1)]), 0, "Reference"⟩,
    ⟨0x02, .u16, .rw, .n, (.n 2500), (.ints [(1000, 2500)]), 0, "HK_VREF declared"⟩,
    ⟨0x03, .u8, .rw, .n, (.n 0), (.ints [(0, 64)]), 0, "Regular slots"⟩,
    ⟨0x04, .u32, .rw, .n, (.n 0), (.ints [(0, 10000000)]), 0, "Regular interval"⟩,
    ⟨0x05, .u8, .rw, .n, (.n 0), (.ints [(0, 8)]), 0, "Injected slots"⟩,
    ⟨0x06, .enum8, .rw, .n, (.n 0), (.ints [(0, 3)]), 0, "Injected trigger"⟩,
    ⟨0x07, .enum8, .rw, .n, (.n 0), (.ints [(0, 1)]), 0, "Injected start"⟩,
    ⟨0x08, .enum8, .wo, .v, (.n 0), (.ints [(1, 1)]), 0, "Command"⟩,
    ⟨0x09, .u32, .ro, .v, (.n 0), .any, 8, "Regular passes"⟩,
    ⟨0x0A, .u32, .ro, .v, (.n 0), .any, 8, "Injected passes"⟩,
    ⟨0x0B, .u32, .ro, .v, (.n 0), .any, 8, "Triggers missed"⟩,
    ⟨0x0C, .u32, .ro, .v, (.n 0), (.ints [(10, 1010)]), 0, "Injected latency"⟩,
    ⟨0x0D, .bits32, .ro, .v, (.n 0), .any, 0, "Housekeeping defects"⟩,
    ⟨0x0E, .enum8, .rw, .n, (.n 0), (.ints [(0, 4)]), 0, "HK_IEXC0 current"⟩,
    ⟨0x0F, .enum8, .rw, .n, (.n 0), (.ints [(0, 4)]), 0, "HK_IEXC1 current"⟩
  ]

/-- Record A030 and the 64 instances from it (R558, spec/19_telemetry.md). -/
def recA030 : List Entry := [
    ⟨0x00, .u8, .ro, .v, (.n 10), (.ints [(10, 10)]), 0, "Highest subindex"⟩,
    ⟨0x01, .u8, .rw, .n, (.n 0), (.ints [(0, 31)]), 0, "Input"⟩,
    ⟨0x02, .enum8, .rw, .n, (.n 0), (.ints [(0, 5)]), 0, "Curve"⟩,
    ⟨0x03, .u16, .rw, .n, (.n 0), (.ints [(0, 10000)]), 0, "Settling"⟩,
    ⟨0x04, .bool, .rw, .n, (.n 0), (.ints [(0, 1)]), 0, "Discharge"⟩,
    ⟨0x05, .enum8, .rw, .n, (.n 0), (.ints [(0, 2)]), 0, "Excitation"⟩,
    ⟨0x06, .u8, .rw, .n, (.n 1), (.ints [(1, 1), (2, 2), (4, 4), (8, 8), (16, 16)]), 0, "Averaging"⟩,
    ⟨0x07, .i32, .ro, .v, (.n 0), (.ints [(0, 2500000)]), 0, "Raw result"⟩,
    ⟨0x08, .i32, .ro, .v, (.n 0), .any, 0, "Value"⟩,
    ⟨0x09, .bits32, .ro, .v, (.n 0), .any, 0, "Flags"⟩,
    ⟨0x0A, .time96, .ro, .v, (.n 0), .any, 0, "Sample time"⟩
  ]

/-- Record A070 and the 8 instances from it (R558, spec/19_telemetry.md). -/
def recA070 : List Entry := [
    ⟨0x00, .u8, .ro, .v, (.n 10), (.ints [(10, 10)]), 0, "Highest subindex"⟩,
    ⟨0x01, .u8, .rw, .n, (.n 0), (.ints [(0, 31)]), 0, "Input"⟩,
    ⟨0x02, .enum8, .rw, .n, (.n 0), (.ints [(0, 5)]), 0, "Curve"⟩,
    ⟨0x03, .u16, .rw, .n, (.n 0), (.ints [(0, 10000)]), 0, "Settling"⟩,
    ⟨0x04, .bool, .rw, .n, (.n 0), (.ints [(0, 1)]), 0, "Discharge"⟩,
    ⟨0x05, .enum8, .rw, .n, (.n 0), (.ints [(0, 2)]), 0, "Excitation"⟩,
    ⟨0x06, .u8, .rw, .n, (.n 1), (.ints [(1, 1), (2, 2), (4, 4), (8, 8), (16, 16)]), 0, "Averaging"⟩,
    ⟨0x07, .i32, .ro, .v, (.n 0), (.ints [(0, 2500000)]), 0, "Raw result"⟩,
    ⟨0x08, .i32, .ro, .v, (.n 0), .any, 0, "Value"⟩,
    ⟨0x09, .bits32, .ro, .v, (.n 0), .any, 0, "Flags"⟩,
    ⟨0x0A, .time96, .ro, .v, (.n 0), .any, 0, "Sample time"⟩
  ]

/-- Record A400 and the 1600 instances from it (R544, spec/19_telemetry.md). -/
def recA400 : List Entry := [
    ⟨0x00, .u8, .ro, .v, (.n 4), (.ints [(4, 4)]), 0, "Highest subindex"⟩,
    ⟨0x01, .u64, .ro, .a, (.n 0), (.ints [(0, 281474976710655)]), 8, "Count"⟩,
    ⟨0x02, .enum8, .rw, .n, (.n 0), (.ints [(0, 1)]), 0, "Mode"⟩,
    ⟨0x03, .u64, .ro, .a, (.n 0), (.ints [(0, 281474976710655)]), 0, "Count at PM boundary"⟩,
    ⟨0x04, .enum8, .ro, .v, .factory, (.ints [(0, 1)]), 0, "Kind"⟩
  ]

/-- The records, part 0 of the index space (R44). -/
def records0 : List Rec := [
  ⟨0x0000, 1, rec0000⟩,
  ⟨0x0001, 1, rec0001⟩,
  ⟨0x0010, 1, rec0010⟩,
  ⟨0x0011, 1, rec0011⟩,
  ⟨0x0100, 3840, rec0100⟩,
  ⟨0x1000, 1, rec1000⟩,
  ⟨0x1001, 1, rec1001⟩,
  ⟨0x1010, 1, rec1010⟩,
  ⟨0x1011, 1, rec1011⟩,
  ⟨0x1012, 1, rec1012⟩,
  ⟨0x1020, 1, rec1020⟩,
  ⟨0x1030, 1, rec1030⟩,
  ⟨0x1040, 1, rec1040⟩,
  ⟨0x1050, 64, rec1050⟩,
  ⟨0x2000, 1, rec2000⟩
  ]

/-- The records, part 1 of the index space (R44). -/
def records1 : List Rec := [
  ⟨0x2010, 4, rec2010⟩,
  ⟨0x2020, 1, rec2020⟩,
  ⟨0x2021, 1, rec2021⟩,
  ⟨0x2030, 4, rec2030⟩,
  ⟨0x2040, 1, rec2040⟩,
  ⟨0x2041, 4, rec2041⟩,
  ⟨0x2050, 8, rec2050⟩,
  ⟨0x2400, 1, rec2400⟩,
  ⟨0x2401, 1, rec2401⟩,
  ⟨0x2402, 2, rec2402⟩,
  ⟨0x2404, 4, rec2404⟩,
  ⟨0x2410, 32, rec2410⟩,
  ⟨0x2800, 1, rec2800⟩,
  ⟨0x2801, 4, rec2801⟩,
  ⟨0x2810, 32, rec2810⟩
  ]

/-- The records, part 2 of the index space (R44). -/
def records2 : List Rec := [
  ⟨0x2840, 1, rec2840⟩,
  ⟨0x3000, 1, rec3000⟩,
  ⟨0x3002, 1, rec3002⟩,
  ⟨0x3010, 32, rec3010⟩,
  ⟨0x3400, 1, rec3400⟩,
  ⟨0x3410, 32, rec3410⟩,
  ⟨0x3440, 1, rec3440⟩,
  ⟨0x3450, 32, rec3450⟩,
  ⟨0x3480, 1, rec3480⟩,
  ⟨0x3490, 32, rec3490⟩,
  ⟨0x34C0, 32, rec34C0⟩,
  ⟨0x3800, 1, rec3800⟩,
  ⟨0x4000, 4096, rec4000⟩,
  ⟨0x5000, 4096, rec5000⟩,
  ⟨0x6000, 4096, rec6000⟩
  ]

/-- The records, part 3 of the index space (R44). -/
def records3 : List Rec := [
  ⟨0x7000, 1, rec7000⟩,
  ⟨0x7010, 16, rec7010⟩,
  ⟨0x7100, 1, rec7100⟩,
  ⟨0x7200, 1024, rec7200⟩,
  ⟨0x7800, 1, rec7800⟩,
  ⟨0x7801, 1, rec7801⟩,
  ⟨0x8000, 1, rec8000⟩,
  ⟨0x8010, 9, rec8010⟩,
  ⟨0x8020, 1, rec8020⟩,
  ⟨0x8030, 1, rec8030⟩,
  ⟨0x8040, 1, rec8040⟩,
  ⟨0x8050, 1, rec8050⟩,
  ⟨0x8800, 1, rec8800⟩,
  ⟨0x8801, 1, rec8801⟩,
  ⟨0x8C00, 1, rec8C00⟩
  ]

/-- The records, part 4 of the index space (R44). -/
def records4 : List Rec := [
  ⟨0x8C10, 2, rec8C10⟩,
  ⟨0x8D00, 256, rec8D00⟩,
  ⟨0x9000, 1, rec9000⟩,
  ⟨0x9010, 16, rec9010⟩,
  ⟨0x9020, 16, rec9020⟩,
  ⟨0x9040, 16, rec9040⟩,
  ⟨0x9060, 2, rec9060⟩,
  ⟨0x9080, 1, rec9080⟩,
  ⟨0x9400, 1, rec9400⟩,
  ⟨0x9410, 12, rec9410⟩,
  ⟨0x9420, 11, rec9420⟩,
  ⟨0x9480, 1, rec9480⟩,
  ⟨0x9481, 1, rec9481⟩,
  ⟨0x94A0, 16, rec94A0⟩,
  ⟨0x9500, 64, rec9500⟩
  ]

/-- The records, part 5 of the index space (R44). -/
def records5 : List Rec := [
  ⟨0x9540, 1, rec9540⟩,
  ⟨0x9800, 1, rec9800⟩,
  ⟨0x9808, 1, rec9808⟩,
  ⟨0x9811, 18, rec9810⟩,
  ⟨0x9830, 1, rec9830⟩,
  ⟨0x9831, 1, rec9831⟩,
  ⟨0x9840, 18, rec9840⟩,
  ⟨0x9C00, 1, rec9C00⟩,
  ⟨0x9C10, 1, rec9C10⟩,
  ⟨0x9C20, 1, rec9C20⟩,
  ⟨0x9C30, 1, rec9C30⟩,
  ⟨0xA000, 1, recA000⟩,
  ⟨0xA010, 1, recA010⟩,
  ⟨0xA020, 1, recA020⟩,
  ⟨0xA030, 64, recA030⟩
  ]

/-- The records, part 6 of the index space (R44). -/
def records6 : List Rec := [
  ⟨0xA070, 8, recA070⟩,
  ⟨0xA400, 1600, recA400⟩
  ]

/-- Every record of the dictionary, in ascending index (R44). -/
def records : List Rec := records0 ++ records1 ++ records2 ++ records3 ++ records4 ++ records5 ++ records6

/-- The record that holds an index. -/
def recordOf (idx : Nat) : Option Rec := records.find? fun r => decide (r.base ≤ idx ∧ idx < r.base + r.count)

/-- The entry of an index and subindex, on a device that has every record. -/
def entryOf (idx sub : Nat) : Option Entry :=
  match recordOf idx with
  | some r => r.entries.find? fun e => e.sub == sub
  | none => none

/-- The instance number of an index inside its record. -/
def instOf (idx : Nat) : Nat :=
  match recordOf idx with
  | some r => idx - r.base
  | none => 0

/-- The identity DPD set of one polarisation: 48 words of four bytes, the first 0x4000 in its upper half (R158). -/
def identitySet : List Byte := 0x40 :: List.replicate 191 0

/-- The value the factory gave the entry under key `k`, free inside the entry's type and range (log entry 4). -/
def factoryValue (k : Nat) (ty : Ty) (rng : Rng) : DVal :=
  match ty, rng with
  | .octets _, .lens ((_, hi) :: _) => .bytes ((List.range hi).map fun j => (Config.factory k).str.getD j 0)
  | .octets n, _ => .bytes ((Config.factory k).str.take n)
  | .str n, _ => .bytes ((Config.factory k).str.take n)
  | _, .ints ((lo, hi) :: _) => .num (lo + (Config.factory k).int % (hi - lo + 1))
  | _, _ => .num ((Config.factory k).int % 4294967296)

/-- The value a Default column stands for at instance `i`, for the entry under key `k`. -/
def dfltValue (k i : Nat) (ty : Ty) (rng : Rng) : Dflt → DVal
  | .n v => .num v
  | .bytes b => .bytes b
  | .rep n b => .bytes (List.replicate n b)
  | .identity => .bytes identitySet
  | .centreTap => .bytes (List.replicate 16 0 ++ [0x7F, 0xFF] ++ List.replicate 16 0)
  | .factory => factoryValue k ty rng
  | .inst => .num i
  | .clusterItem => .num (if i = 11 then 255 else i)
  | .rank => .num (([4, 4, 4, 4, 2, 2, 3, 3, 5, 1, 6] : List Int).getD i 0)

/-- The default of the entry under key `k` (R43, R46); 0 where there is no entry. -/
def defaultOf (k : Nat) : DVal :=
  match entryOf (k / 256) (k % 256) with
  | some e => dfltValue k (instOf (k / 256)) e.ty e.rng e.dflt
  | none => .num 0

/-- The type code of R46. -/
def Ty.code : Ty → Nat
  | .bool => 1 | .u8 => 2 | .u16 => 3 | .u32 => 4 | .u64 => 5 | .i16 => 6 | .i32 => 7 | .i64 => 8
  | .q _ _ => 9 | .enum8 => 10 | .bits32 => 11 | .octets _ => 12 | .str _ => 13 | .time96 => 14

/-- The size in bytes of a fixed type, or the largest length of OCTETS and STRING (R46, R58). -/
def Ty.size : Ty → Nat
  | .bool => 1 | .u8 => 1 | .u16 => 2 | .u32 => 4 | .u64 => 8 | .i16 => 2 | .i32 => 4 | .i64 => 8
  | .q a b => (a + b) / 8 | .enum8 => 1 | .bits32 => 4 | .octets n => n | .str n => n | .time96 => 12

/-- Whether the type is OCTETS or STRING, the types blocks apply to (R58). -/
def Ty.isString : Ty → Bool
  | .octets _ => true
  | .str _ => true
  | _ => false

/-- Whether the type is signed (R46). -/
def Ty.isSigned : Ty → Bool
  | .i16 => true | .i32 => true | .i64 => true | .q _ _ => true
  | _ => false

/-- The access code of R49. -/
def Acc.code : Acc → Nat
  | .ro => 1 | .rw => 2 | .wo => 3 | .rwq => 4 | .rwt => 5 | .key => 6

/-- The class code of R50. -/
def Cls.code : Cls → Nat
  | .v => 1 | .w => 2 | .a => 3 | .n => 4

/-- The classes that the gating of their domain returns to the default (R529). -/
def Cls.volatile : Cls → Bool
  | .v => true
  | .w => true
  | _ => false

/-- Whether the value may be an item of a transaction (R54 bit 0, R83). -/
def Entry.committable (e : Entry) : Bool := e.flags.testBit 0
/-- Whether the entry makes a transaction two-ended (R54 bit 1, R83). -/
def Entry.lineVisible (e : Entry) : Bool := e.flags.testBit 1
/-- Whether the entry is group-wide (R54 bit 2). -/
def Entry.groupWide (e : Entry) : Bool := e.flags.testBit 2

/-! ### The pattern book (R53, R54)

The canvas gives the template numbers; the model takes one template for each record and numbers that rise with the
index, with free gaps (DESIGN CHOICE, log entry 129). -/

/-- The records the directory covers: those of 1000 to AFFF (R53). -/
def canvasRecords : List Rec := records.filter fun r => decide (0x1000 ≤ r.base)

/-- Template numbers for `m` records from `t` on: each lies above the one before by a free gap below 42, so that 87
records stay below 3 840. -/
def templateNumbers : Nat → Nat → List Nat
  | 0, _ => []
  | m + 1, t => (t + Config.templateGap m % 42) :: templateNumbers m (t + Config.templateGap m % 42 + 1)

/-- The directory: each template number with the record it describes, in ascending index. -/
def directory : List (Nat × Rec) := (templateNumbers canvasRecords.length 0).zip canvasRecords

/-- The record template `t` describes; `none` for a template that is not in use. -/
def templateRecord (t : Nat) : Option Rec := (directory.find? fun e => e.1 == t).map (·.2)

/-- Whether some device lacks an instance of the record (R3, R4, R366, R413): flags bit 0 of its directory line. -/
def Rec.partial (r : Rec) : Bool :=
  [0x3800, 0x5000, 0x8010, 0x8C00, 0x8C10, 0x8D00, 0x9040, 0x9060].contains r.base

/-- The 8 bytes of a directory line (R53). -/
def directoryLine (e : Nat × Rec) : List Byte :=
  beBytes 2 e.2.base ++ beBytes 2 (e.2.base + e.2.count - 1) ++ beBytes 2 e.1 ++ beBytes 2 (if e.2.partial then 1 else 0)

/-- A number as the 64 bits of a descriptor field: I64 for signed types, U64 for others (R54). -/
def wide (v : Int) : List Byte := beBytes 8 (v % 2 ^ 64).toNat

/-- The least and greatest number of a fixed type. TIME96 does not fit the field: its bounds are free (log entry 129). -/
def Ty.bounds (k : Nat) (t : Ty) : Int × Int :=
  match t with
  | .bool => (0, 1)
  | .octets n => (0, n)
  | .str n => (0, n)
  | .time96 => (Config.canvasField (4 * k), Config.canvasField (4 * k + 1))
  | t => if t.isSigned then (-(2 ^ (8 * t.size - 1) : Int), 2 ^ (8 * t.size - 1) - 1) else (0, 2 ^ (8 * t.size) - 1)

/-- Minimum and Maximum of a descriptor (R54): the ends of the Range column; the type's own where it gives none. -/
def Entry.bounds (k : Nat) (e : Entry) : Int × Int :=
  match e.rng with
  | .any => e.ty.bounds k
  | .ints r => ((r.head?.getD (0, 0)).1, (r.getLast?.getD (0, 0)).2)
  | .lens r => ((r.head?.getD (0, 0)).1, (r.getLast?.getD (0, 0)).2)
  | .bits mask => (0, mask)

/-- Default of a descriptor (R54): 0 for OCTETS, STRING, TIME96 and factory values; free where the default differs from
instance to instance (log entry 129). -/
def Entry.descriptorDefault (k : Nat) (e : Entry) : Int :=
  if e.ty.isString || decide (e.ty = .time96) then 0
  else match e.dflt with
    | .n v => v
    | .inst | .clusterItem | .rank => Config.canvasField (4 * k + 2)
    | _ => 0

/-- The 48-byte descriptor of the entry under key `k` (R54). Unit code and scale come from the canvas, free. -/
def Entry.descriptor (k : Nat) (e : Entry) : List Byte :=
  let q := match e.ty with | .q a b => (a, b) | _ => (0, 0)
  [BitVec.ofNat 8 e.sub, BitVec.ofNat 8 e.ty.code, BitVec.ofNat 8 e.acc.code, BitVec.ofNat 8 e.cls.code,
    BitVec.ofNat 8 (e.flags % 16), BitVec.ofNat 8 q.1, BitVec.ofNat 8 q.2, 0]
    ++ beBytes 4 e.ty.size ++ beBytes 4 0 ++ wide (e.bounds k).1 ++ wide (e.bounds k).2 ++ wide (e.descriptorDefault k)
    ++ beBytes 2 (Config.canvasField (4 * k + 3) % 65536) ++ beBytes 1 (Config.canvasField (4 * k + 3) / 65536 % 256)
    ++ beBytes 5 0

/-- The names of a record's entries, separated by NUL, in descriptor order (R53). -/
def Rec.names (r : Rec) : List Byte :=
  (r.entries.map fun e => e.name.toList.map fun c => BitVec.ofNat 8 c.toNat).intersperse [0] |>.flatten

/-- What the pattern book shows: 0010:01 and 02, and 0100+t:02 to 04 (R53); `none` for every other entry. -/
def patternBook (idx sub : Nat) : Option DVal :=
  if idx = 0x10 then
    match sub with
    | 1 => some (.num directory.length)
    | 2 => some (.bytes (directory.flatMap directoryLine))
    | _ => none
  else if 0x100 ≤ idx ∧ idx < 0x1000 then
    match templateRecord (idx - 0x100), sub with
    | some r, 2 => some (.num r.entries.length)
    | some r, 3 => some (.bytes (r.entries.flatMap fun e => e.descriptor (256 * r.base + e.sub)))
    | some r, 4 => some (.bytes r.names)
    | _, _ => none
  else none

end Sys2Proof
end

