-- ==== Sys2Proof/Machine/State.lean ====
section
/-! DEFINITION. The state of the block as plain data, the reasons a step can stop, and the state after reset.
Every dictionary-visible register has its home in `dict`, the dictionary store, under key index × 256 + subindex; what
the dictionary does not show is a named field of the block it belongs to. -/

namespace Sys2Proof.Machine

/-- The operating modes (R30), numbered as 1001:01. -/
inductive Mode where
  | reset | boot | quiet | discover | service | shed | test | safe
  deriving DecidableEq, Repr

/-- The number of a mode (R30). -/
def Mode.num : Mode → Nat
  | .reset => 0 | .boot => 1 | .quiet => 2 | .discover => 3
  | .service => 4 | .shed => 5 | .test => 6 | .safe => 7

/-- Drida status codes (R61). -/
inductive Status where
  | done | noEntry | noSubentry | readOnly | writeOnly | outOfRange | badType | wrongMode
  | busy | sealed | conflict | exhausted | notMaster | aborted | authFail | tooLate
  deriving DecidableEq, Repr

/-- The code of a status (R61). -/
def Status.code : Status → Nat
  | .done => 0 | .noEntry => 1 | .noSubentry => 2 | .readOnly => 3 | .writeOnly => 4
  | .outOfRange => 5 | .badType => 6 | .wrongMode => 7 | .busy => 8 | .sealed => 9
  | .conflict => 10 | .exhausted => 11 | .notMaster => 12 | .aborted => 13
  | .authFail => 14 | .tooLate => 15

/-- The status of a code (R61); a code above 15 is none of the table and reads as BAD_TYPE. -/
def Status.ofCode : Nat → Status
  | 0 => .done | 1 => .noEntry | 2 => .noSubentry | 3 => .readOnly | 4 => .writeOnly
  | 5 => .outOfRange | 6 => .badType | 7 => .wrongMode | 8 => .busy | 9 => .sealed
  | 10 => .conflict | 11 => .exhausted | 12 => .notMaster | 13 => .aborted
  | 14 => .authFail | 15 => .tooLate | _ => .badType

/-- One item of a response (R57): entry, status, type code, the offset of a block, and value. -/
structure RspItem where
  idx : Nat
  sub : Nat
  status : Status
  ty : Nat
  off : Nat
  val : List Byte
  deriving DecidableEq, Repr

/-- What the block sends out, in the terms of the rule that makes it send it. -/
inductive Out where
  | response (src : Source) (op seq : Nat) (status : Status) (retryMs tag : Nat) (auth : Option Auth)
      (items : List RspItem)                                -- R57, R62, R77
  | answer (entry : Nat) (status : Status) (retryMs : Nat)  -- the answer to one host command row (R61)
  | notify (number seq : Nat) (src : Source) (item : RspItem) -- R80, R81
  | mdio (status : Nat) (ty : Nat) (val : List Byte)        -- R69: the window's operation done
  | windowData (value : Nat)                                -- R69: what a read of WIN_DATA returns
  | neighbourAdvert (addr : Nat) | echoReply (dst ident seqNo : Nat) (data : List Byte) | beacon (nodes : Nat) -- R65, R67
  | neighbourSolicit (addr : Nat)                           -- R532 step 2
  | msix (vector addr data : Nat)                           -- R417, R418
  | training (port : Nat)                                   -- R407: a training burst on every lane
  | ackLine (num target : Nat) | refuseLine (num target reason : Nat) | confirmLine (num target : Nat)
  | withdrawLine (num : Nat) | proposeLine (p : Propose)    -- R241 to R243
  | feSpi (cs : Nat) (mosi : List Byte) (read : Nat)         -- R142: bytes sent, and bytes clocked in
  | coded (thread : Nat) (bits : List Byte)                  -- R224: a codeword encoded again and sent
  | frameOut (port : Nat) (id : Nat)                        -- R295
  | pause (port quanta : Nat) | pfc (port : Nat) (times : List (Nat × Nat)) -- R296
  | stitch (tenant : Nat) (bytes : List Byte)               -- R293, R310: what one position carries
  | lineFrame (tenant : Nat) (frame : List Byte)            -- R253: a frame delineated in SYNC
  | client (tenant : Nat) (bits : Option (List Bool))       -- R257: a multiframe's client bits; none is the generic AIS (R261)
  | picot (kind : Nat) (payload : List Byte)                -- R354
  | flit (port : Nat) (f : Flit)                            -- R428
  | marker (port : Nat) (m : Marker)                        -- R402
  | pulse (time : Nat) (ms : Nat)                             -- R385
  | localFault (port : Nat) (on : Bool)                     -- R274
  | bitFlip (lane exponent : Nat)                           -- R410
  | pmPme | pmeToAck | wakeN (low : Bool)                   -- R420, R421
  | hostWrite (addr : Nat) (data : List Byte)               -- R476: a PCIe memory write
  deriving DecidableEq, Repr

/-- A source's stored answer (R60). -/
structure Served where
  src : Source
  seq : Nat
  answer : Out
  deriving DecidableEq, Repr

/-- A subscription (R80, R81). -/
structure Sub where
  number : Nat
  src : Source
  idx : Nat
  sub : Nat
  period : Nat
  seq : Nat
  deriving DecidableEq, Repr

/-- A pending copy (R577). -/
structure Copy where
  entry : Nat
  src : Source
  data : List Byte
  deriving DecidableEq, Repr

/-- A request waiting in the server's queue: a message, or an operation of the MDIO window (R73). -/
inductive Waiting where
  | message (r : Req) (b : Body)
  | window (opcode : Nat)
  deriving DecidableEq, Repr

/-- The source of a waiting request (R73). -/
def Waiting.src : Waiting → Source
  | .message r _ => r.src
  | .window _ => .mdio

/-- The Drida server and the three management paths (R56 to R81). -/
structure Server where
  served : List Served          -- last 64 answered pairs, newest first
  queue : List Waiting          -- requests waiting, in arrival order (R73)
  ring : List Source            -- sources with a waiting request, the next in turn first (R73)
  engaged : Option Source       -- source of the request still in service (R73, log entry 121)
  beaconAt : Option Nat         -- uptime of the last BEACON sent or seen (R67)
  held : List (Source × Nat)    -- pairs whose request is pending an outcome
  busyAt : List (Source × Nat)  -- last BUSY answer per source, in µs of uptime
  subs : List Sub
  nextSub : Nat
  copies : List Copy
  rxCounter : List (Nat × Nat)  -- last counter accepted per slot (R78)
  txCounter : List (Nat × Nat)  -- own counter per slot (R78)
  addrValid : Bool              -- link-local address valid (R65, R532)
  silent : Bool                 -- duplicate reported (R532)
  mdioOn : Bool                 -- MDIO enabled (R532)
  identityOn : Bool             -- identity entries answered (R74)
  settings : List Nat           -- 1030:01 to 1030:05 in force (R91)
  winCtrl : Nat
  winStatus : Nat
  winIndex : Nat
  winSub : Nat
  winLen : Nat
  winOff : Nat
  winRetry : Nat
  winPtr : Nat
  winData : List Byte
  mbxCtrl : Nat
  mbxStatus : Nat
  mbxReqLen : Nat
  mbxRspLen : Nat
  mbxNtfLen : Nat
  mbxReq : List Byte
  mbxRsp : List Byte
  mbxNtf : List Byte
  deriving DecidableEq, Repr

/-- What holds BOOT (R33, R34, R506). -/
inductive BootHold where
  | none | noCanvas | lockstep | shutdown
  deriving DecidableEq, Repr

/-- Supplies, resets and domain power (R17, R18, R519 to R538). -/
structure Power where
  groups : Nat              -- rail groups good in sequence, 0 to 3
  released : Bool           -- POR released
  pinLow : Bool             -- RESET_N recognised low
  domains : Nat             -- bit d = PDd powered
  gatedIslands : List Nat   -- islands clock-gated or gated alone (R19, R94)
  straps : Nat              -- as latched, layout of 1000:09
  configured : Bool         -- outputs configured (R538)
  warmDue : Bool            -- WARM scheduled (R527)
  restartDue : Option RestartCause -- HITLESS RESTART scheduled, with its cause (R527, R539)
  restarting : Bool         -- HITLESS RESTART in progress
  lastMismatch : Option Nat -- uptime of the last lockstep mismatch (R23)
  hold : BootHold
  safeCauses : List Nat     -- SAFE causes now persisting (R40, R535)
  shutdownHot : Bool        -- the last sample lay above the shutdown limit (R525)
  warnLow : Bool            -- a recognised assertion of PWR_WARN_N, until it has been inactive for 100 ms (R533)
  deriving DecidableEq, Repr

/-- The mode and the transition in progress (R32, R40). -/
structure Control where
  mode : Mode
  target : Option Mode
  traffic : Bool            -- tenant traffic is sent: decided at each multiframe boundary (R41)
  deriving DecidableEq, Repr

/-- A transaction staged at the near end (R82 to R88). -/
structure Staged where
  num : Nat
  target : Nat
  twoEnded : Bool
  acked : Bool
  src : Source
  seq : Nat
  slot : Option Nat         -- slot that authenticated the request (R77)
  items : List (Nat × DVal)
  built : Bool              -- calendars built (R301)
  deriving DecidableEq, Repr

/-- A line-visible part staged for the far end's transmit direction (R244). -/
structure FarPart where
  prop : Propose
  confirmed : Bool
  pages : List (Nat × List Byte)
  deriving DecidableEq, Repr

/-- An answer to a PROPOSE: 1 ACK or 2 REFUSE, and why (R242). -/
structure Answer where
  type : Nat
  reason : Nat
  num : Nat
  target : Nat
  deriving DecidableEq, Repr

/-- Transactions, both directions (R82 to R90, R241 to R244). -/
structure Trans where
  staged : List Staged
  far : List FarPart
  nextNum : Nat
  withdrawn : List (Propose × Nat) -- a part withdrawn, and the multiframes of WITHDRAW left to send
  answers : List Answer            -- answers of the far end's part, kept until their targets (R242)
  deriving DecidableEq, Repr

/-- The carrier parameters latched at the last entry to DISCOVER or TEST (R102, R578). -/
structure LineCfg where
  profile : Nat
  rate : Nat
  threads : Nat
  bits : Nat
  codes : List Nat                -- 8 × H of each thread in force, as 3410+k:02 (R103)
  states : List Nat               -- states in force, as 3410+k:04
  rolls : List Nat
  adcFactor : Nat
  dacFactor : Nat
  retireAt : List (Nat × Nat)     -- thread, commit multiframe of a retirement (R106)
  readmitAt : List (Nat × Nat)    -- thread, commit multiframe of a re-admission (R107)
  rdiSeen : List Nat              -- threads whose remote defect was seen set since the commit
  rxRetireAt : List (Nat × Nat)   -- receive side of R106: thread, target multiframe
  rxReadmitAt : List (Nat × Nat)  -- receive side of R107: thread, target multiframe
  deriving DecidableEq, Repr

/-- One ADC slice (R117, R140). -/
structure Slice where
  role : Nat
  position : Nat
  corr : SliceCorr
  measuredAt : Nat
  cause : Nat
  timesLive : Nat
  deriving DecidableEq, Repr

/-- A rotation in progress (R126). -/
structure Rotation where
  spare : Nat
  position : Nat
  live : Nat
  windows : Nat
  shadowing : Bool
  swapped : Bool
  retire : Bool
  prev : SliceCorr
  deriving DecidableEq, Repr

/-- Converters and calibration (R113 to R144). -/
structure Conv where
  slices : List (Nat × Slice)        -- key 152 × ADC + slice
  rotations : List (Nat × Rotation)  -- by ADC
  degraded : List (Nat × Nat)        -- (ADC, position)
  calGood : Nat                      -- successive good CALREF checks
  bandgap : Bool                     -- calibration uses the bandgap
  frozen : Bool
  gainHold : List Nat                -- loops held by a readback mismatch
  retires : List (Nat × Nat)         -- retire commands of live slices waiting: ADC, slice (R132, R134)
  startDue : List Nat                -- ADCs whose next rotation fell due in a running one (R126)
  readmits : List ((Nat × Nat) × SliceMeasure) -- re-admissions waiting while the engines do not run: ADC, slice (R28, R132)
  dacWords : List (Nat × List Byte)  -- the two trim words in force of each DAC (R125, R137)
  deriving DecidableEq, Repr

/-- Muting, low power and DPD (R156 to R167). -/
structure Transmit where
  muted : Bool                       -- DAC outputs muted, until the ramp up has ended
  ramping : Option Bool              -- some true: ramping up, some false: ramping down
  settling : Bool                    -- waiting for 2400:11
  attenuation : Nat                  -- of the main signal below full level, in 0.1 dB
  rising : Bool
  dpdShadow : Option (Nat × List Byte × List Byte) -- target multiframe, X set, Y set
  dpdHeld : Option DpdMsg            -- one message of a window, waiting for the other
  dpdReversion : Bool                -- what is staged is a reversion (R162)
  dpdPrev : List (Nat × List Byte)   -- previous set, by polarisation
  dpdResidual : List (Nat × Int)     -- residual of the last window, by polarisation
  dpdCheck : List Nat                -- polarisations whose next residual is compared (R162)
  dpdReverted : Bool                 -- the last swap was a reversion
  nlOff : Bool                       -- S2 holds the correction at zero
  nlBasis : List (Nat × (Int × Int)) -- thread: dispersion and launch power its table in force was made from (R156)
  dpdMode : Nat                      -- DPD mode in force; 2401:01 takes effect at the next boundary (R159)
  farCd : Int                        -- accumulated dispersion of the last feedback, 10 ps/nm (R156, R161)
  deriving DecidableEq, Repr

/-- The acquisition step in progress (R186). -/
inductive AcqStep where
  | idle | signal | frequency | warm | cold | clock | threads
  deriving DecidableEq, Repr

/-- Receive acquisition, carrier and thread state (R172 to R201). -/
structure Receive where
  step : AcqStep
  since : Nat                        -- uptime at which the acquisition began
  cold : Bool                        -- warm verify is left out (R192, CD_FAIL)
  sweeps : Nat                       -- failed sweeps of step 4
  candidate : Nat                    -- candidates of the stage of the sweep measured
  best : Option (Int × Nat)          -- best candidate of the stage, in 2048ths of CD_max, and its metric in 0.01 dB
  fine : Option Int                  -- in the fine stage, the best coarse candidate
  metrics : List Nat                 -- metrics of the sweep's candidates
  cdDone : Bool                      -- steps 1 to 5 complete
  keepCd : Bool                      -- step 5 follows RX_CLK_LOL and keeps 2800:07 (R192)
  clkAt : Nat                        -- uptime at which RX_CLK_LOL was raised, whose timing phase is held (R175)
  eqLoop : List (Nat × (Nat × Nat))  -- thread: step size and filter length its engine has set (R27)
  nlBasis : List (Nat × Int)         -- thread: dispersion its compensation table in force was made from (R184)
  maskHeld : List Nat                -- threads whose shed mask holds after the bit cleared (R260)
  readmitFar : List Nat              -- threads staged or acquiring for re-admission by the far end (R107, R259)
  deriving DecidableEq, Repr

/-- Windows and pending work of the decoder (R210 to R225), by thread. -/
structure FecThread where
  cap : Nat                          -- cap with which the codeword in decoding started; 0 before the first
  forced : Bool                      -- that codeword is one to be marked (R225)
  force : Nat                        -- codewords still to be marked after it (R225)
  pos : Nat                          -- codeword within the LF
  lfMark : Bool                      -- an uncorrectable codeword of this LF
  sys : List (List Byte)             -- systematic decisions of this LF's codewords, newest first (R210)
  looped : List (List Byte)          -- systematic bits of the last whole LF, sent again in loopback 2 (R224)
  lfs : List (Bool × List (List Byte)) -- LFs delivered to the framer, oldest first: mark and systematic decisions (R218)
  winOk : Nat
  winAll : Nat
  winBits : Nat
  winUnc : Nat
  winLf : Nat
  sdRun : Nat
  sdClear : Nat
  uncClear : Nat
  excClear : Nat
  secOk : Nat
  secAll : Nat
  secBits : Nat
  secUnc : Nat
  secIter : Nat
  hist : List Nat
  perAll : Nat                       -- of this 100 ms period
  perCap : Nat
  perUnc : Nat
  deriving DecidableEq, Repr

/-- The decoder (R210 to R226). -/
structure Fec where
  threads : List (Nat × FecThread)
  lowPeriods : Nat                   -- 100 ms periods below budget − 1 W since the last change
  hostCap : Nat                      -- host cap in force; 3000:02 written during S2 waits for its end (R217)
  deriving DecidableEq, Repr

/-- The header hunt, predictions and defect runs of one thread (R234 to R258). -/
structure HuntState where
  expIdx : Nat
  expLow : Nat
  run : Nat                          -- consistent headers in PRESYNC or OOF
  miss : Nat                         -- successive inconsistent headers, or LFs in OOF
  entropy : Nat                      -- predicted entropy
  page : Nat                         -- predicted page
  mf : Option Nat                    -- multiframe number of the stream (R239)
  evalMf : Option Nat                -- last multiframe whose once-per-multiframe judgements ran
  lomRun : Nat                       -- successive accepted LFs with a counter other than expected
  lomCand : Option Nat               -- a counter that one accepted LF has shown, counted on
  rdiSet : Nat
  rdiClear : Nat
  cmmBad : Nat
  cmmGood : Nat
  digest : Nat                       -- received active page digest
  collected : Option (List Byte)     -- a page collected whole, to adopt at the next multiframe (R251)
  secLf : Nat                        -- LFs of this PM second
  secBad : Nat                       -- of them not accepted
  secExcluded : Bool                 -- the second is excluded under R264
  deriving DecidableEq, Repr

/-- A PM verdict waiting its ten seconds (R262, R263). -/
structure Verdict where
  level : Nat                        -- key of the PM record
  es : Bool
  ses : Bool
  excluded : Bool
  bbe : Nat
  unavailable : Bool
  deriving DecidableEq, Repr

/-- A PM run (R263): successive SES and successive non-SES seconds, and availability. -/
structure PmRun where
  ses : Nat
  good : Nat
  available : Bool
  deriving DecidableEq, Repr

/-- The delineation of a packet container (R253): 0 HUNT, 1 PRESYNC, 2 SYNC; the bytes of the core header collected, or the
bytes of the frame that are to come and those that have come, newest first; and whether one of them lies in an LF not
accepted. -/
structure Delin where
  st : Nat
  head : List Byte
  left : Nat
  frame : List Byte
  bad : Bool
  deriving DecidableEq, Repr

/-- Defect runs and delineation of one tenant (R253, R257, R258). -/
structure TenLine where
  delin : Delin
  parts : List (Nat × (Bool × List Byte)) -- stitches of this multiframe by 16 × thread + LF, and whether their LF was accepted
  cipher : List Byte                 -- payload area of the last whole multiframe of a sealed tenant, as received (R309)
  held : Option (Nat × List Byte)    -- container of a sealed CBR tenant that waits for its tag, with its P (R315)
  pendErr : Option Bool              -- a sealed multiframe that waits for its tag, and whether it is errored already (R262)
  lodBad : Nat
  lodGood : Nat
  csfSet : Nat
  csfClear : Nat
  jcBad : Nat
  jcGood : Nat
  rdiSet : Nat
  rdiClear : Nat
  lastC : Nat
  mfLost : Bool                      -- not in SYNC at some time of this multiframe
  mfSync : Bool                      -- in SYNC at some time of this multiframe
  mfCsf : Bool                       -- CSF received in this multiframe
  mfJc : Nat                         -- 0 none judged, 1 accepted, 2 not accepted
  mfErr : Bool                       -- this multiframe is errored (R262)
  secMf : Nat
  secBad : Nat
  secMapped : Bool                   -- held receive stitches at some time of this second
  waiting : List Bool                -- client bits waiting in the mapper, oldest first (R256)
  sent : List Bool                   -- the C client bits of the multiframe being sent
  sendCsf : Bool                     -- CSF and Replacement are sent in it
  deriving DecidableEq, Repr

/-- The framer (R229 to R265). -/
structure Framing where
  hunts : List (Nat × HuntState)
  ohAt : Option (Nat × Nat)          -- position 16 × multiframe + index last read, and the thread (R238)
  ohPend : Option (List Byte)        -- the overhead of that position, whose counted fields are judged when the next comes
  rdiMf : Option Nat                 -- multiframe whose remote defect field was judged last
  trace : List (Nat × List Byte)     -- trace segments collected
  traceBad : Nat
  traceGood : Nat
  remoteDefect : Nat                 -- last accepted remote defect field
  shedMuted : Nat                    -- last accepted shed-muted field
  aps : List Byte
  farStamps : List Byte              -- time-transfer channel last accepted (R240)
  verdicts : List (List Verdict)     -- one list per PM second, newest first
  runs : List (Nat × PmRun)
  tenants : List (Nat × TenLine)
  tenMf : Option Nat                 -- the received multiframe in progress
  seen : List (Nat × Nat)            -- defects raised at some time of this PM second, by defect entry (R262)
  carLf : Nat                        -- LFs of this second on threads of receive status 1
  carBad : Nat
  carExcluded : Bool
  deriving DecidableEq, Repr

/-- A frame held in a queue (R289 to R292). -/
structure QFrame where
  id : Nat
  len : Nat
  bytes : List Byte
  cells : Nat
  port : Nat
  cls : Nat
  headroom : Bool
  seqNo : Option Nat                 -- protection sequence (R437)
  ready : Bool                       -- released by the tag check (R315)
  deriving DecidableEq, Repr

/-- One hardware queue (R288). -/
structure Queue where
  owner : Nat
  egress : Bool
  level : Nat
  weight : Nat
  reserve : Nat
  limit : Nat
  threshold : Nat
  frames : List QFrame
  admitted : Nat
  thrDrops : Nat
  emptyDrops : Nat
  dequeued : Nat
  peak : Nat
  deficit : Nat
  deriving DecidableEq, Repr

/-- Flow control of one port (R296, R298). -/
structure Flow where
  xoff : List Nat                    -- classes (8 = the whole port) above XOFF
  stopped : List Nat                 -- classes stopped by received PAUSE or PFC (8 = port)
  tenant : Nat                       -- tenant the port's round robin stands at
  deficits : List (Nat × Nat)
  sending : Option (Nat × Nat)       -- queue and number of the frame that is leaving (R292)
  deriving DecidableEq, Repr

/-- Shaper of one tenant (R293): the frame in progress as its queue, unless that has lost it, and the bytes of it left to draw;
those left of an idle header or control frame; the position next due in the tenant's container, and the bytes drawn ahead of it;
and whether the multiframe's control frame has been drawn (R252). -/
structure Shaper where
  inProgress : Option (Option Nat × List Byte)
  idle : List Byte
  pos : Nat
  ready : List Byte
  control : Bool
  deriving DecidableEq, Repr

/-- A classified ingress frame that waits for its cells (R282, R283, R437). -/
structure Inboxed where
  port : Nat
  frame : Frame
  tenant : Nat
  cls : Nat
  seqNo : Option Nat
  deriving DecidableEq, Repr

/-- Grooming (R271 to R308). -/
structure Groom where
  queues : List (Nat × Queue)        -- allocated or changed queues
  blocks : List (Nat × Nat)          -- allocated buddy blocks: base, log2 size
  exact : List (Nat × Nat)           -- exact-match entries: packed key, tenant
  flows : List (Nat × Flow)
  shapers : List (Nat × Shaper)
  turns : List (Nat × Nat)           -- round robin of R294 by tenant, direction and level: the queue served last
  inbox : List Inboxed               -- classified frames waiting for cells
  darkAt : Nat                       -- uptime at which S3 darkened its first set (R534)
  darkened : List Nat                -- threads dark under S3
  holds : List Nat                   -- sealed CBR tenants whose hold buffer is reserved (R315, R339)
  phase : Nat                        -- number of the grooming islands' start, which picks the rotating order's phase
  deriving DecidableEq, Repr

/-- A tenant key slot (R318). -/
structure KeySlot where
  only : Bool                        -- loaded receive only: it never seals transmit traffic (R322)
  epoch : Nat
  key : List Byte
  deriving DecidableEq, Repr

/-- A management slot's key (R330). -/
structure MgmtSlot where
  role : Nat
  id : Nat
  key : List Byte
  deriving DecidableEq, Repr

/-- A received multiframe of a sealed tenant (R314): its seal header as read or predicted, its counter, the bits of its payload
area, the key its header chose, and whether its direction bit was the receiver's own. -/
structure SealMf where
  word : Nat
  mf : Nat
  bits : Nat
  key : Option (List Byte)
  reflect : Bool
  deriving DecidableEq, Repr

/-- Sealing of one tenant on the line (R310 to R326). -/
structure SealTen where
  rx : Option SealMf                 -- the multiframe whose header was read last
  prev : Option SealMf               -- the one before it, whose tag that header's stitch carries
  check : Bool                       -- the last header lets that tag be checked
  nextRun : Nat                      -- successive multiframes with Next epoch set
  due : Option Nat                   -- epoch whose receive key is to be derived
  later : Bool                       -- that key is written after the latch of the following multiframe (R325)
  derived : Option (Nat × List Byte) -- epoch and key derived that wait for that latch
  fails : Nat
  passes : Nat
  misses : Nat
  hits : Nat
  recent : List Nat                  -- epochs of the last 16 headers, newest first
  txKey : List Byte                  -- key latched for the multiframe being sent; empty where it goes unsealed as zeros
  txEpoch : Nat
  sealedMf : Option Nat              -- multiframe last sent with an epoch
  txHeader : Nat                     -- seal header of the multiframe being sent (R311)
  txCipher : List Byte               -- what has been sent of its payload area
  txTag : List Byte                  -- tag of the multiframe before it (R310)
  deriving DecidableEq, Repr

/-- The link key exchange (R328, R329). -/
structure LinkKey where
  step : Nat                         -- 0 idle, 1 generating, 2 sharing, 3 ECDH, 4 waiting CONFIRM, 5 failed until the next restart
  scalar : Nat
  own : List Byte                    -- own ephemeral public key
  far : List Byte
  farMac : List Byte
  root : List Byte
  key : List Byte                    -- confirmation key
  confirm : List Byte                -- own CONFIRM payload, answered to each SHARE of this exchange
  held : List Byte                   -- a CONFIRM that came before the ECDH was done
  deriving DecidableEq, Repr

/-- The sealing islands and the key foundry (R309 to R344). -/
structure Seal where
  slots : List (Nat × KeySlot)       -- K0000 to K8191
  mgmt : List (Nat × MgmtSlot)       -- M00 to M63
  tenants : List (Nat × SealTen)
  link : LinkKey
  drbgUp : Bool
  drbgCount : Nat
  derive : List Nat                  -- derived tenants whose transmit key is to be written
  epochs : List (Nat × Nat)          -- tenant, epoch a wrapped key puts in force at the next multiframe (R323)
  deriving DecidableEq, Repr

/-- The picot channel (R345 to R365). -/
structure Picot where
  sending : Option (Nat × List Byte × Nat) -- packet in progress: message kind, payload, bits per body symbol
  due : List (Nat × List Byte)       -- packets due
  heard : Bool
  cond1 : Bool
  offer : List Byte                  -- OFFER of the last entry to DISCOVER
  offerOn : Bool
  farOffer : List Byte
  acceptSent : Bool                  -- an ACCEPT of result 0 finished for the current far OFFER
  acceptGot : Bool
  shareOn : Bool
  timeSeq : Nat
  timeSent : List (Nat × Nat)        -- departure of the last TIME messages, by sequence
  farTimeSeq : Nat
  farTimeArrival : Nat
  lastFault : List Byte              -- fields of the last FAULT composed
  offset : Int                       -- f_p latched at the last entry to DISCOVER or TEST
  deriving DecidableEq, Repr

/-- One timing candidate (R367). -/
structure Cand where
  freq : Bool                        -- its frequency is qualified
  time : Bool                        -- its time part is qualified
  failed : Bool
  everFailed : Bool                  -- since it was enabled or since the last POR
  since : Nat                        -- uptime at which it was enabled, or a condition of failure was seen last
  holdover : Bool                    -- the sender announces holdover or free-run
  deriving DecidableEq, Repr

/-- The timing island (R366 to R392). -/
structure Timing where
  cands : List (Nat × Cand)
  freqSel : Option Nat
  timeSel : Option Nat
  xoFail : Bool
  lockedAt : Option Nat              -- uptime at which the DPLL became LOCKED
  outputs : List (Nat × Int)         -- output frequencies with the uptime of each, latest first (R376)
  slewing : Int                      -- part of the output frequency that slews an offset, 0.01 ppb (R374)
  setPending : Option Nat            -- device time at the next whole second (R386)
  stepPending : Option Int           -- offset to step at the next whole second (R374), ps
  slew : Option Int                  -- offset being slewed, ps
  departures : List (Nat × Nat)
  arrivals : List (Nat × Nat)
  lastDeparture : Option Nat         -- departure of the multiframe in progress, at the DAC balls
  sentStamps : List Byte             -- time-transfer channel of the multiframe in progress (R240)
  rtts : List Int                    -- last 16 accepted, ps × 65 536
  secOffset : Int                    -- sum over the second, ps × 131 072
  secRtt : Int                       -- sum over the second, ps × 65 536
  secCount : Nat
  goodFor : Nat                      -- seconds the offset stayed within 100 ns
  accepted16 : Nat
  lastPulse : Option Nat
  deriving DecidableEq, Repr

/-- One bobbin lane's receiver (R403 to R406). -/
structure BobLane where
  lockRun : Nat
  missRun : Nat
  lastCounter : Nat
  locked : Bool
  retired : Bool
  readmitting : Bool
  resume : Bool                      -- leaving electrical idle: one marker confirms the lock (R407)
  skew : Nat                         -- of its last marker, ps
  cleanAt : Nat                      -- uptime since which it has lock and no uncorrectable codeword (R406)
  deriving DecidableEq, Repr

/-- One bobbin port's lane layer (R404 to R407). -/
structure BobPort where
  pendingMask : Option (Nat × Nat)   -- next transmit mask and switch counter
  announced : Nat
  rxPending : Option (Nat × Nat)     -- mask and switch counter the far end announces
  rxSeen : Nat                       -- markers that announced it
  rxAt : Nat                         -- counter of the last of them
  farRequest : Nat                   -- retire request last received
  deriving DecidableEq, Repr

/-- Host, bobbin and PCIe lanes (R393 to R422). -/
structure Lanes where
  aligned : List Nat                 -- ports whose PCS is aligned
  warm : List Nat                    -- host lanes adapting warm
  bob : List (Nat × BobLane)
  ports : List (Nat × BobPort)
  pcieUp : Bool
  perst : Bool                       -- PERST_N asserted
  d3 : Bool
  pmeStatus : Bool
  msixEnabled : Bool
  msixTable : List (Nat × Byte)      -- what the host wrote to the MSI-X table, by its offset (R417)
  pba : Nat
  wakeLow : Bool
  l2 : Bool
  wakeDue : Option Nat               -- uptime at which L2 is 1 ms old (R421)
  crsUntil : Nat                     -- uptime until which configuration requests are retried (R419)
  signalled : Nat                    -- wake causes already signalled on this path
  deriving DecidableEq, Repr

/-- One bobbin link (R428 to R434). -/
structure Link where
  txSeq : Nat
  rxSeq : Nat                        -- expected
  retry : List Flit                  -- unacknowledged, oldest first
  vc0 : Nat                          -- credits held
  vc1 : Nat
  back0 : Nat                        -- credits to return
  back1 : Nat
  waiting : List Flit
  resends : Nat                      -- of the oldest unacknowledged flit
  outstanding : List (Nat × Nat × Bool) -- tags of outstanding REQUESTs, the DMA channel of each, and whether it writes (R469)
  nakAt : Option Nat                 -- uptime of the last NAK sent
  deriving DecidableEq, Repr

/-- One protection group at its home (R436 to R443). -/
structure Prot where
  command : Nat                      -- 0 none, 1 lockout, 3 forced, 5 manual
  sfWorking : Bool
  sfProtect : Bool
  rawWorking : Bool                  -- before the hold-off
  rawProtect : Bool
  wtr : Bool
  farReq : Nat
  lastNumber : Option Nat            -- command number applied last
  txSeqNo : Nat
  delivered : Option Nat             -- the sequence delivered last
  carrier : Nat                      -- member whose carrier holds the protect copy, as it reported; 255 none
  carrierW : Nat                     -- and the working copy
  nibble : Nat                       -- of R441: at the home the far end's as forwarded, at the carrier the one to send
  sent : Option Nat                  -- what was last told to the other member
  deriving DecidableEq, Repr

/-- A protection command carried to a home that has not acknowledged it, with the answer to send then (R443). -/
structure PendCmd where
  group : Nat
  cmd : Nat
  number : Nat
  answer : Option Out
  deriving DecidableEq, Repr

/-- A frame arriving in TENANT flits (R428). -/
structure Partial where
  len : Nat
  bytes : List Byte
  frame : Nat
  cls : Nat
  tag : Option Nat
  deriving DecidableEq, Repr

/-- The bobbin group (R423 to R448). -/
structure Bobbin where
  links : List (Nat × Link)
  prots : List (Nat × Prot)
  cmdNumber : Nat
  pendingCmd : List PendCmd
  latched : Nat                      -- latched alert causes (bits 0, 1, 4)
  alertSensed : Bool                 -- the line held low by another member
  spanSeq : List (Nat × Nat)         -- spanning tenant: next sequence to deliver
  spanTx : List (Nat × Nat)          -- spanning tenant: next sequence to give a frame
  partials : List (Nat × Partial)    -- frames arriving in flits, by source and tenant
  distUnacked : Bool
  awaited : Option (List Byte)       -- at a member: the group-wide digest that a neighbour's INIT announced and that differed (R426)
  deriving DecidableEq, Repr

/-- A cluster move in progress (R454). -/
structure Move where
  fault : Bool
  item : Nat
  src : Nat                          -- 255 where a suspended item is placed
  dst : Nat
  retire : Bool
  stopped : Bool
  follow : Option (Nat × Nat)        -- faulted item and its cluster: the item takes the source afterwards (R458)
  deriving DecidableEq, Repr

/-- Clusters and work items (R449 to R459). -/
structure Engines where
  move : Option Move
  waiting : List (Nat × Nat)         -- items that wait for a fault move, each with its cluster, 255 for none
  misses : List (Nat × (Nat × Nat))  -- successive misses and the uptime of the last, key 8 × cluster + engine
  heldFrom : List Nat                -- sources held in state 4 by S1 (R454)
  deriving DecidableEq, Repr

/-- Where a DMA list stands (R472). -/
structure Cursor where
  next : Nat                         -- address of the next entry to fetch
  addr : Nat
  left : Nat                         -- bytes of the entry left
  count : Nat                        -- data entries done with, links excluded
  last : Bool                        -- the entry carries the end-of-list flag
  deriving DecidableEq, Repr

/-- One DMA channel (R472 to R477). -/
structure Chan where
  src : Cursor
  dst : Cursor
  gathered : List (Nat × List Byte)  -- space 2: address and bytes of what the list has brought, oldest first (R473)
  deriving DecidableEq, Repr

/-- The control matrix and the DMA engine (R460 to R478). -/
structure Matrix where
  isolated : List Nat
  chans : List (Nat × Chan)
  deriving DecidableEq, Repr

/-- One memory log entry (R486). -/
structure LogEntry where
  time : Nat
  mem : Nat
  kind : Nat
  action : Nat
  syndrome : Nat
  addr : Nat
  inst : Nat
  count : Nat
  deriving DecidableEq, Repr

/-- On-chip memory protection (R479 to R492). -/
structure Memories where
  log : List LogEntry                -- oldest first
  lastAt : Nat                       -- uptime of the newest entry
  units : List (Nat × List Nat)      -- corrected events of a page or bank in 24 h, as uptimes, newest first
  weak : List Nat                    -- the pages and banks for which MEM_WEAK is raised
  poison : List (Nat × Nat)          -- poisoned words: memory, word address
  deriving DecidableEq, Repr

/-- A boot record (R495). -/
structure BootRecord where
  seq : Nat
  bank : Nat
  profile : Nat
  dummy : Nat
  size : Nat
  trial : Bool
  trialField : Nat
  deriving DecidableEq, Repr

/-- A flash command in progress (R508). -/
inductive FlashJob where
  | none | erase (addr len : Nat) | program (addr : Nat) (data : List Byte) | read (addr len : Nat)
  | blank (addr len : Nat)
  deriving DecidableEq, Repr

/-- An update in service (R512). -/
structure Update where
  manifest : List Byte               -- supervisor SRAM's copy of the other bank's manifest (R503)
  fresh : List Nat                   -- clusters that hold the new bank's image
  supervisor : Bool                  -- the supervisor half is loaded
  restarted : Bool
  reversing : Bool
  deriving DecidableEq, Repr

/-- Why a record write runs (R496, R511, R513). -/
inductive RecordWrite where
  | none | activate (bank : Nat) (hitless : Bool) | clearTrial | rewrite
  deriving DecidableEq, Repr

/-- Boot, flash and updates (R493 to R517). -/
structure Boot where
  startAt : Nat                      -- uptime of the reset release
  triedOther : Bool
  checked : Bool                     -- manifest of the bank passed
  manifest : List Byte               -- supervisor SRAM's copy of the manifest checked, then in use (R503)
  half : Nat                         -- half of supervisor SRAM in use (R498)
  restoreDue : Bool                  -- management slots wait for a healthy entropy source (R505)
  commit : Option (Nat × List Byte)  -- slot being written and its image
  job : FlashJob
  update : Option Update
  write : RecordWrite
  fuse : Nat                         -- security fuse as raised in the field (R513)
  deriving DecidableEq, Repr

/-- A sketch dump being written: its number, dump time, PM second, trigger and latched body (R547, R548). -/
structure Dump where
  number : Nat
  time : Nat
  second : Nat
  trigger : Nat
  body : List Nat
  deriving DecidableEq, Repr

/-- The settings of a housekeeping slot as the pass in progress took them (R556, R558). -/
structure HkSlot where
  input : Nat
  curve : Nat
  settling : Nat
  discharge : Nat
  excitation : Nat
  averaging : Nat
  deriving DecidableEq, Repr

/-- PM timing, dumps and housekeeping (R545 to R559). -/
structure Telem where
  source : Nat                       -- PM source in force
  placed : Nat                       -- successive placed boundaries
  accepted : Nat                     -- successive accepted edges
  nextDump : Nat
  due : Option (Nat × Nat)           -- dump time, still to come, and trigger of the next dump
  writing : Option Dump
  copied : List Nat                  -- complete dumps still to be copied, oldest first
  hkOn : Bool                        -- the housekeeping ADC runs (R553)
  regular : Option Nat               -- regular slot in progress
  injected : Option Nat              -- injected slot in progress
  passDue : Bool                     -- the pass in progress has overrun its interval
  regSlots : List HkSlot
  injSlots : List HkSlot
  interval : Nat                     -- A020:04 as the pass took it
  reference : Nat                    -- A020:01 as the pass took it
  declared : Nat                     -- A020:02 as the pass took it
  refAt : Option Nat                 -- uptime at which the reference in use last changed
  deriving DecidableEq, Repr

/-- Permanent device facts (R1, R51, R331): set at manufacture. -/
structure Fuse where
  code : Fin 3
  mac : List Byte
  serial : List Byte
  deriving DecidableEq, Repr

/-- The machine. -/
structure State where
  pending : List Instr               -- commands waiting, first in first out
  uptime : Nat                       -- µs since the supplies came, the model's own clock (log entry 2)
  devTime : Nat                      -- device time in units of 2^-16 ns (R372)
  free : Nat                         -- free values drawn (log entry 3)
  dict : List (Nat × DVal)           -- the object dictionary's values, where not the default
  events : List (Nat × Nat)          -- event counters by event code (R541)
  latched : List (Nat × Nat)         -- the same, latched at the last PM boundary
  levels : List Nat                  -- events counted in level mode (R542)
  out : List Out                     -- what was sent, newest first
  mem : List Host.Cell               -- studio, telemetry, SRAM and cluster memory by matrix address (R460)
  flash : List Host.Cell             -- the flash device by byte offset (R494)
  fuse : Fuse
  pow : Power
  ctl : Control
  srv : Server
  tra : Trans
  cfg : LineCfg
  cnv : Conv
  tx : Transmit
  rx : Receive
  fec : Fec
  frm : Framing
  grm : Groom
  sls : Seal
  pic : Picot
  tim : Timing
  lan : Lanes
  bob : Bobbin
  eng : Engines
  mat : Matrix
  mms : Memories
  boot : Boot
  tel : Telem
  deriving DecidableEq, Repr

/-- The faults. -/
inductive Fault where
  /-- Raised by PIN_RESET: a RESET_N pulse from 1 µs up to but not including 10 µs, 'whose effect is not defined' (R572).
  Safe: the model stops where the hardware does something the spec does not say. -/
  | undefinedResetPulse
  deriving DecidableEq, Repr

/-- The refusals. -/
inductive Refusal where
  /-- Raised by exec for a command that has no meaning yet. Safe. -/
  | notModelled (mnemonic : String)
  deriving DecidableEq, Repr

/-- No slice correction: nominal trims (R122), unit gain. -/
def SliceCorr.nominal : SliceCorr :=
  { trim := 0, offset := 0, gain := 16384, skew := 0, bandwidth := [0, 0, 0, 0, 0x7F, 0xFF, 0, 0, 0, 0] }

/-- The state after reset: the start of a POR, no rail good, no domain powered (R31, R519, R526). The one device
modelled is a UL-TSH3208 with an all-zero MAC address and serial number; the statements hold for every state, so for
every ordering code and address (log entry 5). Flash is erased. -/
def State.reset : State :=
  { pending := [], uptime := 0, devTime := 0, free := 0, dict := [], events := [], latched := [], levels := [],
    out := [], mem := [], flash := [],
    fuse := { code := 0, mac := [0, 0, 0, 0, 0, 0], serial := [] },
    pow := { groups := 0, released := false, pinLow := false, domains := 0, gatedIslands := [],
             straps := 0, configured := false, warmDue := false, restartDue := none, restarting := false,
             lastMismatch := none, hold := .none, safeCauses := [], shutdownHot := false,
             warnLow := false },
    ctl := { mode := .reset, target := none, traffic := false },
    srv := { served := [], queue := [], ring := [], engaged := none, beaconAt := none, held := [], busyAt := [], subs := [], nextSub := 1, copies := [],
             rxCounter := [], txCounter := [], addrValid := false, silent := false, mdioOn := false,
             identityOn := false, settings := [49312, 0, 32, 8, 0], winCtrl := 0, winStatus := 0, winIndex := 0, winSub := 0, winLen := 0, winOff := 0,
             winRetry := 0, winPtr := 0, winData := [], mbxCtrl := 0, mbxStatus := 0, mbxReqLen := 0, mbxRspLen := 0,
             mbxNtfLen := 0, mbxReq := [], mbxRsp := [], mbxNtf := [] },
    tra := { staged := [], far := [], nextNum := 1, withdrawn := [], answers := [] },
    cfg := { profile := 0, rate := 300000, threads := 16, bits := 8, codes := List.replicate 32 55,
             states := List.replicate 32 1, rolls := List.replicate 32 1, adcFactor := 0,
             dacFactor := 0, retireAt := [], readmitAt := [], rdiSeen := [],
             rxRetireAt := [], rxReadmitAt := [] },
    cnv := { slices := [], rotations := [], degraded := [], calGood := 0, bandgap := false, frozen := false,
             gainHold := [], retires := [], startDue := [], readmits := [], dacWords := [] },
    tx := { muted := true, ramping := none, settling := false, attenuation := 0, rising := false,
            dpdShadow := none, dpdHeld := none, dpdReversion := false, dpdPrev := [], dpdResidual := [], dpdCheck := [],
            dpdReverted := false, nlOff := false, nlBasis := [], dpdMode := 1, farCd := 0 },
    rx := { step := .idle, since := 0, cold := false, sweeps := 0, candidate := 0, best := none, fine := none, metrics := [],
            cdDone := false, keepCd := false, clkAt := 0, eqLoop := [], nlBasis := [], maskHeld := [], readmitFar := [] },
    fec := { threads := [], lowPeriods := 0, hostCap := 10 },
    frm := { hunts := [], ohAt := none, ohPend := none, rdiMf := none, trace := [], traceBad := 0, traceGood := 0, remoteDefect := 0, shedMuted := 0,
             aps := [], farStamps := [], verdicts := [], runs := [], tenants := [], tenMf := none, seen := [], carLf := 0, carBad := 0,
             carExcluded := true },
    grm := { queues := [], blocks := [], exact := [], flows := [], shapers := [], turns := [], inbox := [],
             darkAt := 0, darkened := [], holds := [], phase := 0 },
    sls := { slots := [], mgmt := [], tenants := [],
              link := { step := 0, scalar := 0, own := [], far := [], farMac := [], root := [], key := [], confirm := [],
                        held := [] },
              drbgUp := false, drbgCount := 0, derive := [], epochs := [] },
    pic := { sending := none, due := [], heard := false, cond1 := false, offer := [], offerOn := false,
             farOffer := [], acceptSent := false, acceptGot := false, shareOn := false, 
             timeSeq := 0, timeSent := [], farTimeSeq := 0, farTimeArrival := 0, lastFault := [],
             offset := 0 },
    tim := { cands := [], freqSel := none, timeSel := none, xoFail := false, lockedAt := none, outputs := [], slewing := 0, setPending := none,
             stepPending := none, slew := none, departures := [], arrivals := [], lastDeparture := none, sentStamps := [], rtts := [], secOffset := 0,
             secRtt := 0, secCount := 0, goodFor := 0, accepted16 := 0, lastPulse := none },
    lan := { aligned := [], warm := [], bob := [], ports := [], pcieUp := false, perst := true, d3 := false,
             pmeStatus := false, msixEnabled := false, msixTable := [], pba := 0,
             wakeLow := false, l2 := false, wakeDue := none, crsUntil := 0, signalled := 0 },
    bob := { links := [], prots := [], cmdNumber := 0, pendingCmd := [], latched := 0,
             alertSensed := false, spanSeq := [], spanTx := [], partials := [], distUnacked := false, awaited := none },
    eng := { move := none, waiting := [], misses := [], heldFrom := [] },
    mat := { isolated := [], chans := [] },
    mms := { log := [], lastAt := 0, units := [], weak := [], poison := [] },
    boot := { startAt := 0, triedOther := false, checked := false, manifest := [], half := 0, restoreDue := false, commit := none, job := .none,
              update := none, write := .none, fuse := 0 },
    tel := { source := 0, placed := 0, accepted := 0, nextDump := 1, due := none, writing := none, copied := [],
             hkOn := false, regular := none, injected := none, passDue := false, regSlots := [], injSlots := [],
             interval := 0, reference := 0, declared := 2500, refAt := none } }

end Sys2Proof.Machine
end

