-- ==== Sys2Proof/Machine/Ops.lean ====
section
/-! DEFINITION. The named operations over the state: the sparse stores, reading and writing dictionary values, the
byte memories, time, what is sent, and which device has which record. -/

namespace Sys2Proof.Machine

/-! ### Sparse stores in one canonical form (keys strictly rising) -/

/-- The value under a key. -/
def lget {α : Type} (k : Nat) : List (Nat × α) → Option α
  | [] => none
  | (a, v) :: r => if a = k then some v else lget k r

/-- The store without a key. -/
def ldel {α : Type} (k : Nat) (l : List (Nat × α)) : List (Nat × α) := l.filter fun p => decide (p.1 ≠ k)

/-- A key placed before the first larger key. -/
def lins {α : Type} (k : Nat) (v : α) : List (Nat × α) → List (Nat × α)
  | [] => [(k, v)]
  | p :: r => if k < p.1 then (k, v) :: p :: r else p :: lins k v r

/-- The store with the value of a key set. -/
def lput {α : Type} (k : Nat) (v : α) (l : List (Nat × α)) : List (Nat × α) := lins k v (ldel k l)

/-- The value under a key, or a given one. -/
def lgetD {α : Type} (k : Nat) (d : α) (l : List (Nat × α)) : α := (lget k l).getD d

/-- The store with the value under a key changed by a function (from `d` where it is absent). -/
def lmod {α : Type} (k : Nat) (d : α) (f : α → α) (l : List (Nat × α)) : List (Nat × α) := lput k (f (lgetD k d l)) l

/-- A set of numbers with one more member. -/
def addTo (n : Nat) (l : List Nat) : List Nat := if n ∈ l then l else l ++ [n]

/-- A set of numbers with one member less. -/
def dropFrom (n : Nat) (l : List Nat) : List Nat := l.filter fun x => decide (x ≠ n)

/-- `n` different ones of a list, by free numbers from `at_` on. -/
def pickFree {α : Type} (raw : Nat → Nat) : Nat → Nat → List α → List α
  | 0, _, _ => []
  | n + 1, at_, l =>
    let i := raw at_ % l.length
    match l[i]? with
    | some x => x :: pickFree raw n (at_ + 1) (l.eraseIdx i)
    | none => []

/-- A list with each member once, at its first place. -/
def uniq : List Nat → List Nat
  | [] => []
  | a :: r => a :: dropFrom a (uniq r)

/-- Keys strictly rising. -/
def rising {α : Type} : List (Nat × α) → Bool
  | [] => true
  | [_] => true
  | p :: q :: r => decide (p.1 < q.1) && rising (q :: r)

/-! ### The dictionary store -/

/-- The value held under a key: what was written last, or the default (R48, R528). -/
def State.getK (s : State) (k : Nat) : DVal := (lget k s.dict).getD (defaultOf k)

/-- The state with the value under a key set. A default value is not listed, so equal contents are equal data. -/
def State.setK (s : State) (k : Nat) (v : DVal) : State :=
  { s with dict := if v = defaultOf k then ldel k s.dict else lput k v s.dict }

/-- The canonical form of the dictionary store: keys strictly rising, no default listed. -/
def dictWf (d : List (Nat × DVal)) : Bool := rising d && d.all fun p => decide (p.2 ≠ defaultOf p.1)

/-- The value of an entry. -/
def State.rd (s : State) (idx sub : Nat) : DVal := s.getK (key idx sub)
/-- The value of a numeric entry. -/
def State.rdI (s : State) (idx sub : Nat) : Int := (s.rd idx sub).int
/-- The value of an unsigned entry. -/
def State.rdN (s : State) (idx sub : Nat) : Nat := (s.rd idx sub).int.toNat
/-- Whether an entry is not 0. -/
def State.rdB (s : State) (idx sub : Nat) : Bool := decide ((s.rd idx sub).int ≠ 0)
/-- The bytes of an OCTETS or STRING entry. -/
def State.rdS (s : State) (idx sub : Nat) : List Byte := (s.rd idx sub).str
/-- One bit of an entry. -/
def State.rdBit (s : State) (idx sub i : Nat) : Bool := bit (s.rdN idx sub) i

/-- Set an entry. -/
def State.wr (s : State) (idx sub : Nat) (v : DVal) : State := s.setK (key idx sub) v
/-- Set a numeric entry. -/
def State.wrI (s : State) (idx sub : Nat) (v : Int) : State := s.wr idx sub (.num v)
/-- Set an unsigned entry. -/
def State.wrN (s : State) (idx sub v : Nat) : State := s.wr idx sub (.num v)
/-- Set a Boolean entry. -/
def State.wrB (s : State) (idx sub : Nat) (v : Bool) : State := s.wrN idx sub (if v then 1 else 0)
/-- Set an OCTETS entry. -/
def State.wrS (s : State) (idx sub : Nat) (v : List Byte) : State := s.wr idx sub (.bytes v)
/-- Set one bit of an entry, counting nothing. -/
def State.wrBit (s : State) (idx sub i : Nat) (v : Bool) : State := s.wrN idx sub (putBit (s.rdN idx sub) i v)

/-- Add to a counter of `w` bits that wraps. -/
def State.bump (s : State) (idx sub w n : Nat) : State := s.wrN idx sub ((s.rdN idx sub + n) % 2 ^ w)
/-- Add one to a U32 counter that wraps. -/
def State.inc32 (s : State) (idx sub : Nat) : State := s.bump idx sub 32 1
/-- Add one to a U64 counter that wraps. -/
def State.inc64 (s : State) (idx sub : Nat) : State := s.bump idx sub 64 1
/-- Add to a counter that stops at its largest value. -/
def State.addSat (s : State) (idx sub cap n : Nat) : State := s.wrN idx sub (min cap (s.rdN idx sub + n))
/-- Raise an entry to a value if it is below it. -/
def State.atLeast (s : State) (idx sub n : Nat) : State := s.wrN idx sub (max n (s.rdN idx sub))

/-- The state after doing `f` for each element of a list, first to last. -/
def State.each {α : Type} (s : State) (l : List α) (f : State → α → State) : State := l.foldl f s

/-- The state after doing `f` where a condition holds. -/
def State.whenB (s : State) (c : Bool) (f : State → State) : State := if c then f s else s

/-- Return every entry of a record to its default. -/
def State.clearIdx (s : State) (p : Nat → Nat → Bool) : State :=
  { s with dict := s.dict.filter fun e => !p (e.1 / 256) (e.1 % 256) }

/-- Return the entries of the given classes in the given indices to their defaults (R529). -/
def State.forget (s : State) (p : Nat → Bool) (c : Cls → Bool) : State :=
  { s with dict := s.dict.filter fun e =>
      !(p (e.1 / 256) && match entryOf (e.1 / 256) (e.1 % 256) with | some x => c x.cls | none => false) }

/-! ### Byte memories -/

/-- A byte of a memory whose unlisted bytes read as `d`. -/
def cellGet (d : Byte) (m : List Host.Cell) (a : Nat) : Byte := lgetD a d m

/-- One byte written; the value an unlisted address reads as is not listed. -/
def cellPut (d : Byte) (m : List Host.Cell) (a : Nat) (b : Byte) : List Host.Cell :=
  if b = d then ldel a m else lput a b m

/-- The canonical form of a byte memory. -/
def Memory.wf (d : Byte) (m : List Host.Cell) : Bool := rising m && m.all fun c => decide (c.2 ≠ d)

/-- `n` bytes from an address. -/
def cellRead (d : Byte) (m : List Host.Cell) (a : Nat) : Nat → List Byte
  | 0 => []
  | n + 1 => cellGet d m a :: cellRead d m (a + 1) n

/-- Bytes written from an address upwards. -/
def cellWrite (d : Byte) (m : List Host.Cell) (a : Nat) : List Byte → List Host.Cell
  | [] => m
  | b :: r => cellWrite d (cellPut d m a b) (a + 1) r

/-- Bytes of on-chip memory at matrix address `a`; a byte nothing has written reads 0x00 (log entry 6). -/
def State.memRead (s : State) (a n : Nat) : List Byte := cellRead 0 s.mem a n
/-- Bytes written to on-chip memory. -/
def State.memWrite (s : State) (a : Nat) (b : List Byte) : State := { s with mem := cellWrite 0 s.mem a b }
/-- Flash bytes at offset `a`; an erased byte reads 0xFF (R494). -/
def State.flashRead (s : State) (a n : Nat) : List Byte := cellRead 0xFF s.flash a n
/-- Flash bytes set. -/
def State.flashSet (s : State) (a : Nat) (b : List Byte) : State := { s with flash := cellWrite 0xFF s.flash a b }
/-- `n` flash bytes erased from offset `a`. -/
def State.flashErase (s : State) (a n : Nat) : State :=
  { s with flash := s.flash.filter fun c => !(decide (a ≤ c.1) && decide (c.1 < a + n)) }

/-! ### Time, output, free values -/

/-- Device time, in units of 2^-16 ns, as a TIME96 value: seconds above bit 48, nanoseconds above bit 16 (R46). -/
def time96 (t : Nat) : DVal := .num ((t / 65536000000000 * 2 ^ 48 + t % 65536000000000 : Nat) : Int)

/-- A TIME96 value as device time in units of 2^-16 ns. -/
def ofTime96 (v : Int) : Nat := v.toNat / 2 ^ 48 * 65536000000000 + v.toNat % 2 ^ 48

/-- The device time now, as a TIME96 value. -/
def State.now (s : State) : DVal := time96 s.devTime

/-- Device time in whole nanoseconds. -/
def State.nowNs (s : State) : Nat := s.devTime / 65536

/-- Send something. -/
def State.emit (s : State) (o : Out) : State := { s with out := o :: s.out }

/-- Draw a free value: the state counts the draw, the value is Config's (log entry 3). -/
def State.drawn (s : State) : State := { s with free := s.free + 1 }
/-- The free value a draw at this state gives. -/
def State.freeNat (s : State) : Nat := Config.freeNat s.free
/-- The free truth value a draw at this state gives. -/
def State.freeBool (s : State) : Bool := Config.freeBool s.free

/-- A byte of the MSI-X table: 64 entries of address, data and vector control, every vector masked at reset (R417). -/
def State.msixByte (s : State) (off : Nat) : Byte := lgetD off (if off % 16 = 12 then 1 else 0) s.lan.msixTable
/-- A number of `n` bytes in the MSI-X table, the least significant byte first. -/
def State.msixField (s : State) (off n : Nat) : Nat :=
  ((List.range n).map fun i => (s.msixByte (off + i)).toNat * 256 ^ i).sum
/-- Whether vector v may be sent: MSI-X enabled, the vector unmasked, the link up and the function in D0 (R417, R420, log entry
171). -/
def State.msixMay (s : State) (v : Nat) : Bool :=
  s.lan.msixEnabled && !bit (s.msixField (16 * v + 12) 4) 0 && s.lan.pcieUp && !s.lan.d3
/-- Vector v sent: its data written to its address. -/
def State.msixSend (s : State) (v : Nat) : State := s.emit (.msix v (s.msixField (16 * v) 8) (s.msixField (16 * v + 8) 4))

/-- Raise an MSI-X vector: sent where it may be, else pending (R417, R418). -/
def State.vector (s : State) (v : Nat) : State :=
  if s.msixMay v then s.msixSend v else { s with lan := { s.lan with pba := setBit s.lan.pba v } }

/-- The pending vectors that may be sent go, and are pending no more (R417). -/
def State.msixFlush (s : State) : State :=
  ((List.range 64).filter fun v => bit s.lan.pba v && s.msixMay v).foldl
    (fun t v => ({ t with lan := { t.lan with pba := clearBit t.lan.pba v } } : State).msixSend v) s

/-! ### Supplies and the ordering code -/

/-- Whether power domain `d` is powered (R18). -/
def State.on (s : State) (d : Nat) : Bool := bit s.pow.domains d

/-- The mode in force. -/
def State.mode (s : State) : Mode := s.ctl.mode
/-- Whether the mode in force is `m`. -/
def State.inMode (s : State) (m : Mode) : Bool := decide (s.ctl.mode = m)

/-- The mode the line works by: in SHED, the mode SHED will return to (R30). -/
def State.base (s : State) : Mode :=
  if s.ctl.mode = .shed then
    match s.rdN 0x1001 5 with
    | 2 => .quiet | 3 => .discover | 4 => .service | 6 => .test | _ => .service
  else s.ctl.mode

/-- UL-TSH1608 (R1). -/
def State.is1608 (s : State) : Bool := decide (s.fuse.code = 1)
/-- UL-TSH3208-N (R1, R4). -/
def State.noSeal (s : State) : Bool := decide (s.fuse.code = 2)

/-- Whether this device has an index: R3, R4, R366, R413 and the chapter on sealing take ranges away by ordering code, and
a template that is not in use is absent (R53). -/
def State.hasIdx (s : State) (idx : Nat) : Bool :=
  (recordOf idx).isSome
    && !(s.is1608 && (decide (0x8C00 ≤ idx ∧ idx < 0x9000) || idx == 0x8017 || idx == 0x8018
        || decide (0x9040 ≤ idx ∧ idx < 0x9050) || idx == 0x9060 || idx == 0x9061))
    && !(s.noSeal && (decide (0x5000 ≤ idx ∧ idx < 0x6000) || idx == 0x3800))
    && (!decide (0x0100 ≤ idx ∧ idx < 0x1000) || (templateRecord (idx - 0x0100)).isSome)

/-- The link-local address: fe80::/64 with the modified EUI-64 of the MAC address (R65). -/
def State.linkLocal (s : State) : Nat :=
  let m := fun (i : Nat) => beField s.fuse.mac i 1
  0xFE80 * 2 ^ 112
    + beNat ([m 0 ^^^ 2, m 1, m 2, 0xFF, 0xFE, m 3, m 4, m 5].map fun (b : Nat) => (BitVec.ofNat 8 b : Byte))

/-- Bit mask of the set of numbers below `n` that satisfy `p`. -/
def maskOf (n : Nat) (p : Nat → Bool) : Nat := (List.range n).foldl (fun a i => if p i then setBit a i else a) 0

/-- The numbers below `n` whose bit is set. -/
def bitsOf (n v : Nat) : List Nat := (List.range n).filter fun i => bit v i

/-- Number of bits set below `n`. -/
def popcount (n v : Nat) : Nat := (bitsOf n v).length

end Sys2Proof.Machine
end

