-- ==== Sys2Proof/Machine/Flags.lean ====
section
/-! DEFINITION. Defect bits and the event counters behind them (R541 to R544). An event is named by a code: a
condition by key × 32 + bit of the defect entry that shows it, another event by a number of `Ev`. Which record A400+e of a group
shows which event of the group is the pattern book's to say, not the spec's (R543, log entry 4). -/

namespace Sys2Proof.Machine

/-- Occurrences that have no defect bit of their own, and conditions no defect entry shows (R543). -/
inductive Ev where
  | modeEntry (m : Nat) | reset (kind : Nat) | stepEntry (n : Nat) | safeCause (c : Nat) | lockstep
  | rotationDone (adc : Nat) | rotationAbandoned (adc : Nat) | emergency (adc : Nat)
  | mute | acquisition | cycleSlip (k : Nat) | lockLoss (k : Nat) | uncorrectable (k : Nat) | oof (k : Nat)
  | candidateFail (r : Nat) | selection | timeStep
  | hostLos (l : Nat) | laneRetired (b : Nat) | linkFail (q : Nat) | alertLow | pcieDown
  | faultMove | memUncorrectable (m : Nat)
  deriving DecidableEq, Repr

/-- The code of an occurrence: above every code of a defect bit. -/
def Ev.code : Ev → Nat
  | .modeEntry m => 0x20000000 + m
  | .reset k => 0x20000100 + k
  | .stepEntry n => 0x20000200 + n
  | .safeCause c => 0x20000300 + c
  | .lockstep => 0x20000400
  | .rotationDone a => 0x20000500 + a
  | .rotationAbandoned a => 0x20000600 + a
  | .emergency a => 0x20000700 + a
  | .mute => 0x20000800
  | .acquisition => 0x20000900
  | .cycleSlip k => 0x20000A00 + k
  | .lockLoss k => 0x20000B00 + k
  | .uncorrectable k => 0x20000C00 + k
  | .oof k => 0x20000D00 + k
  | .candidateFail r => 0x20000E00 + r
  | .selection => 0x20000F00
  | .timeStep => 0x20001000
  | .hostLos l => 0x20001100 + l
  | .laneRetired b => 0x20001200 + b
  | .linkFail q => 0x20001300 + q
  | .alertLow => 0x20001400
  | .pcieDown => 0x20001500
  | .faultMove => 0x20001600
  | .memUncorrectable m => 0x20001700 + m

/-- Add to an event's counter of 48 bits that wraps (R541). PD0 holds the counters. -/
def State.countCode (s : State) (c n : Nat) : State :=
  if s.on 0 then { s with events := lmod c 0 (fun v => (v + n) % 2 ^ 48) s.events } else s

/-- An occurrence happens (R542). -/
def State.count (s : State) (e : Ev) : State := s.countCode e.code 1

/-- The code of the condition shown by a bit of an entry. -/
def bitCode (idx sub i : Nat) : Nat := key idx sub * 32 + i

/-! ### Which record counts which event (R543) -/

/-- The conditions of the first `n` bits of a defect entry. -/
def bitCodes (idx sub n : Nat) : List Nat := (List.range n).map (bitCode idx sub)

/-- The numbered events of a kind. -/
def evCodes (lo n : Nat) (e : Nat → Ev) : List Nat := (List.range' lo n).map fun i => (e i).code

/-- The groups of R543 but the threads': first event, size, and the events. -/
def eventGroups : List (Nat × Nat × List Nat) := [
  (0, 64, evCodes 0 8 .modeEntry ++ evCodes 1 6 .reset ++ evCodes 1 4 .stepEntry ++ evCodes 1 5 .safeCause
    ++ [Ev.lockstep.code] ++ bitCodes 0x1010 6 1 ++ bitCodes 0x1012 6 3),
  (64, 64, bitCodes 0x2000 0x0C 18 ++ evCodes 0 4 .rotationDone ++ evCodes 0 4 .rotationAbandoned ++ evCodes 0 4 .emergency),
  (128, 64, bitCodes 0x2800 0x0D 5 ++ bitCodes 0x3440 7 2 ++ bitCodes 0x2401 9 3 ++ bitCodes 0x3000 0x0F 2
    ++ [Ev.mute.code, Ev.acquisition.code]),
  (1216, 128, bitCodes 0x8000 0x0C 4 ++ bitCodes 0x8801 2 2 ++ bitCodes 0xA000 6 1 ++ evCodes 0 9 .candidateFail
    ++ [Ev.selection.code, Ev.timeStep.code]),
  (1344, 128, evCodes 0 16 .hostLos ++ evCodes 0 16 .laneRetired ++ evCodes 0 2 .linkFail ++ bitCodes 0x8C00 0x0D 2
    ++ [Ev.alertLow.code, Ev.pcieDown.code]),
  (1472, 128, bitCodes 0x9400 6 2 ++ bitCodes 0x9480 7 2 ++ bitCodes 0x9C00 0x0B 3 ++ [Ev.faultMove.code]
    ++ (List.range' 1 18).map (bitCode 0x9800 5) ++ evCodes 1 18 .memUncorrectable)]

/-- The events of thread k (R543). -/
def threadEvents (k : Nat) : List Nat :=
  bitCodes (0x2810 + k) 0x0A 2 ++ bitCodes (0x3450 + k) 2 4 ++ bitCodes (0x3010 + k) 0x0B 3
    ++ [(Ev.cycleSlip k).code, (Ev.lockLoss k).code, (Ev.uncorrectable k).code, (Ev.oof k).code]

/-- A group in an order of the pattern book's: `size` places from event `base` on, those without an event under a code that nothing
counts. The order of the threads' events is one for all threads. -/
def eventPlaces (base size : Nat) (l : List Nat) : List Nat :=
  pickFree Config.eventOrder size (if 192 ≤ base ∧ base < 1216 then 192 else base)
    (l ++ (List.range (size - l.length)).map fun i => 0x30000000 + base + i)

/-- The event code of record A400+e (R543). -/
def eventCode (e : Nat) : Nat :=
  let g : Nat × Nat × List Nat :=
    if 192 ≤ e ∧ e < 1216 then (e / 32 * 32, 32, threadEvents ((e - 192) / 32))
    else (eventGroups.find? fun g => decide (g.1 ≤ e ∧ e < g.1 + g.2.1)).getD (e, 1, [])
  (eventPlaces g.1 g.2.1 g.2.2).getD (e - g.1) (0x30000000 + e)

/-- Whether a code is that of a condition: a defect bit, or a loss of signal, GRP_ALERT_N low or the PCIe link down (R542, R543). -/
def isCondition (c : Nat) : Bool :=
  decide (c < 0x20000000) || c / 256 == 0x200011 || c == Ev.alertLow.code || c == Ev.pcieDown.code

/-- Whether an event is counted in level mode now (R542). -/
def State.levelMode (s : State) (c : Nat) : Bool := s.levels.any fun e => eventCode e == c

/-- A condition without a defect bit is raised: an event in edge mode (R542). -/
def State.countRaise (s : State) (e : Ev) : State := if s.levelMode e.code then s else s.count e

/-- Set or clear a defect bit. A raising adds 1 to the event in edge mode (R542), and the PM second remembers that the
defect was present in it (R262). -/
def State.defect (s : State) (idx sub i : Nat) (v : Bool) : State :=
  let t := s.wrBit idx sub i v
  let t : State := if v then
      { t with frm := { t.frm with seen := lmod (key idx sub) 0 (fun x => setBit x i) t.frm.seen } }
    else t
  if v && !s.rdBit idx sub i && !s.levelMode (bitCode idx sub i) then t.countCode (bitCode idx sub i) 1 else t

/-- Raise a defect bit. -/
def State.raise (s : State) (idx sub i : Nat) : State := s.defect idx sub i true
/-- Clear a defect bit. -/
def State.clear (s : State) (idx sub i : Nat) : State := s.defect idx sub i false

/-- Whether a condition is raised now: its defect bit is set; a host lane waits for its signal, GRP_ALERT_N is low, or the PCIe
link is down. -/
def State.raised (s : State) (c : Nat) : Bool :=
  if c < 0x20000000 then bit ((s.getK (c / 32)).int.toNat) (c % 32)
  else if c / 256 = 0x200011 then s.rdN (0x9020 + c % 256) 1 == 1
  else if c = Ev.alertLow.code then s.rdB 0x8C00 9
  else c == Ev.pcieDown.code && s.on 1 && !s.lan.pcieUp

/-- The level-mode counting of one whole microsecond of device time, with the modes then in force (R542). -/
def State.countLevels (s : State) : State :=
  let es := (s.dict.filter fun p => decide (key 0xA400 2 ≤ p.1) && decide (p.1 < key 0xAA40 0)
    && decide (p.1 % 256 = 2) && decide (p.2.int = 1)).map fun p => p.1 / 256 - 0xA400
  let t := { s with levels := es }
  t.each es fun u e => u.whenB (u.raised (eventCode e)) fun w => w.countCode (eventCode e) 1

/-- The count of an event code. -/
def State.eventCount (s : State) (c : Nat) : Nat := lgetD c 0 s.events
/-- The count of an event code at the last PM boundary. -/
def State.eventLatched (s : State) (c : Nat) : Nat := lgetD c 0 s.latched

end Sys2Proof.Machine
end

