-- ==== Sys2Proof/Machine/Operands.lean ====
section
/-! DEFINITION. Values as they travel (R46), and the checks every access passes before its entry's own rule:
presence, access, mode, type and range, and which failure is answered first (R47, R49, R63). -/

namespace Sys2Proof

/-! ### Value forms -/

/-- A signed number as an unsigned one of `n` bytes, two's complement. -/
def unsignedOf (n : Nat) (v : Int) : Nat := (v % (256 ^ n : Nat)).toNat

/-- The TIME96 value of 12 bytes: seconds U48, nanoseconds U32, fraction U16, held as seconds above bit 48 and
nanoseconds above bit 16 (R46). -/
def time96OfBytes (b : List Byte) : Nat := beField b 0 6 * 2 ^ 48 + beField b 6 4 * 2 ^ 16 + beField b 10 2

/-- A value from the bytes of its type; `none` where the length does not suit the type (R47). -/
def Ty.parse (t : Ty) (b : List Byte) : Option DVal :=
  match t with
  | .octets n => if b.length ≤ n then some (.bytes b) else none
  | .str n => if b.length ≤ n then some (.bytes b) else none
  | .time96 => if b.length = 12 then some (.num (time96OfBytes b)) else none
  | t =>
    if b.length = t.size then
      some (.num (if t.isSigned then signedOf t.size (beNat b) else (beNat b : Int)))
    else none

/-- The bytes a READ returns: big-endian, a STRING padded with NUL to its largest length (R46). -/
def Ty.bytes (t : Ty) (v : DVal) : List Byte :=
  match t with
  | .octets _ => v.str
  | .str n => padTo n v.str
  | .time96 => beBytes 6 (v.int.toNat / 2 ^ 48) ++ beBytes 4 (v.int.toNat / 2 ^ 16 % 2 ^ 32) ++ beBytes 2 (v.int.toNat % 2 ^ 16)
  | t => beBytes t.size (unsignedOf t.size v.int)

/-- Number of continuation bytes a UTF-8 lead byte asks for, with the bounds of the first of them; `none` for a byte
that leads nothing. The bounds shut out overlong and surrogate encodings and values above U+10FFFF (R47). -/
def utf8Lead (b : Nat) : Option (Nat × Nat × Nat) :=
  if b < 0x80 then some (0, 0x80, 0xBF)
  else if 0xC2 ≤ b ∧ b ≤ 0xDF then some (1, 0x80, 0xBF)
  else if b = 0xE0 then some (2, 0xA0, 0xBF)
  else if b = 0xED then some (2, 0x80, 0x9F)
  else if 0xE1 ≤ b ∧ b ≤ 0xEF then some (2, 0x80, 0xBF)
  else if b = 0xF0 then some (3, 0x90, 0xBF)
  else if 0xF1 ≤ b ∧ b ≤ 0xF3 then some (3, 0x80, 0xBF)
  else if b = 0xF4 then some (3, 0x80, 0x8F)
  else none

/-- Whether bytes are well-formed UTF-8, with `more` continuation bytes due, the next within the bounds (R47). -/
def utf8From : Nat → Nat → Nat → List Byte → Bool
  | more, _, _, [] => more == 0
  | 0, _, _, b :: r =>
    match utf8Lead b.toNat with
    | some (n, lo, hi) => utf8From n lo hi r
    | none => false
  | n + 1, lo, hi, b :: r => decide (lo ≤ b.toNat) && decide (b.toNat ≤ hi) && utf8From n 0x80 0xBF r

/-- Whether bytes are well-formed UTF-8 (R47). -/
def utf8Ok (b : List Byte) : Bool := utf8From 0 0x80 0xBF b

/-- Whether a value lies in the Range column (R47, R55, R58). -/
def Rng.holds (r : Rng) (v : DVal) : Bool :=
  match r with
  | .any => true
  | .ints l => l.any fun p => decide (p.1 ≤ v.int) && decide (v.int ≤ p.2)
  | .lens l => l.any fun p => decide (p.1 ≤ v.str.length) && decide (v.str.length ≤ p.2)
  | .bits m => decide (v.int.toNat ||| m = m)

/-- Whether a value keeps the rules of its type besides its length: BOOL 0 or 1, TIME96 nanoseconds, STRING UTF-8
(R46, R47). -/
def Ty.valueOk (t : Ty) (v : DVal) : Bool :=
  match t with
  | .bool => decide (v.int = 0 ∨ v.int = 1)
  | .time96 => decide (v.int.toNat / 2 ^ 16 % 2 ^ 32 < 1000000000)
  | .str _ => utf8Ok v.str
  | _ => true

/-- Whether the Range column lists particular lengths rather than bounds, so that blocks build a pending copy (R577):
an interval of one length other than a lone bound from 0. -/
def Entry.listedLengths (e : Entry) : Option (List Nat) :=
  match e.ty, e.rng with
  | .octets _, .lens l => if l.all fun p => decide (p.1 = p.2) then some (l.map fun p => p.1) else none
  | _, _ => none

end Sys2Proof

namespace Sys2Proof.Machine

/-! ### The order of failures -/

/-- The place of a status in the order of R63. AUTH_FAIL of a bank command is a verdict on what the bank holds and
stands beside OUT_OF_RANGE (log entry 12). -/
def Status.rank : Status → Nat
  | .done => 0 | .busy => 1 | .noEntry => 2 | .noSubentry => 3 | .sealed => 4
  | .readOnly => 5 | .writeOnly => 5 | .wrongMode => 6 | .badType => 7 | .outOfRange => 8
  | .authFail => 9 | .notMaster => 10 | .conflict => 11 | .exhausted => 12 | .tooLate => 13 | .aborted => 14

/-- The failure answered among those found: the first in the order of R63, or DONE where there is none. -/
def firstFailure : List Status → Status
  | [] => .done
  | f :: r =>
    let g := firstFailure r
    if f = .done then g else if g = .done then f else if f.rank ≤ g.rank then f else g

/-- The first failure of a list whose order a rule gives. -/
def firstListed : List Status → Status
  | [] => .done
  | f :: _ => f

/-- What an entry's own rule makes of a write: the checks that fail, those that the rule orders among themselves and
places after R63, the state where none does, the state where one does (where a failure is counted), and the
retry-after that the rule gives with BUSY. -/
structure Effect where
  fails : List Status
  late : List Status := []
  state : State
  failed : Option State := none
  retry : Option Nat := none

/-- A write whose rule has no check of its own. -/
def Effect.ok (t : State) : Effect := { fails := [], state := t }

/-- One check: the status where the condition does not hold. -/
def need (c : Bool) (st : Status) : List Status := if c then [] else [st]

/-! ### Presence, access and mode -/

/-- Whether the server answers BUSY to everything but the identity entries: before QUIET, during a reset, during a
HITLESS RESTART, and while work item 10, the dictionary service, moves or is suspended (R74, R454, R456). -/
def State.serverBusy (s : State) : Bool :=
  s.inMode .reset || s.inMode .boot || s.pow.restarting || s.rdN 0x942A 3 != 0

/-- An identity entry (R52). -/
def isIdentity (idx sub : Nat) : Bool :=
  (decide (idx = 0) && decide (sub ≤ 4)) || (decide (idx = 1) && decide (sub ≤ 2))

/-- Whether identity entries are answered: from 30 ms after POR release on (R52, R74). -/
def State.identityServed (s : State) : Bool := s.srv.identityOn

/-- Failures of an access before its value is looked at: presence, and the locked range (R44, R45, R61). -/
def State.presence (s : State) (idx sub : Nat) : List Status :=
  if 0xF000 ≤ idx then [.sealed]
  else if !s.hasIdx idx then [.noEntry]
  else if (entryOf idx sub).isNone then [.noSubentry]
  else []

/-- Failures of a write by the access code (R49). `inTrans` is true for an item of a TRANSACTION. -/
def State.accessW (s : State) (e : Entry) (inTrans : Bool) : List Status :=
  match e.acc with
  | .ro => [.readOnly]
  | .rw => []
  | .wo => []
  | .key => []
  | .rwq => need (s.inMode .quiet || s.inMode .test) .wrongMode
  | .rwt => need inTrans .wrongMode

/-- Failures of a read by the access code (R49). -/
def accessR (e : Entry) : List Status :=
  match e.acc with
  | .wo => [.writeOnly]
  | .key => [.writeOnly]
  | _ => []

/-- The value an item carries, with the failures of its type and range (R47, R55). -/
def entryValue (e : Entry) (ty : Nat) (b : List Byte) : List Status × DVal :=
  if ty = e.ty.code then
    match e.ty.parse b with
    | some v => (need (e.rng.holds v && e.ty.valueOk v) .outOfRange, v)
    | none => ([.badType], .num 0)
  else ([.badType], .num 0)

/-- Judge a write: the failures of access and value with those of the entry's own rule, the first of them answered,
and the state unchanged where there is one (R63, R64). -/
def judge (s : State) (fails : List Status) (e : Effect) : Status × State :=
  match firstFailure (fails ++ e.fails) with
  | .done =>
    match firstListed e.late with
    | .done => (.done, e.state)
    | st => (st, e.failed.getD s)
  | st => (st, s)

/-- Failures common to every write of entry `idx`:`sub` with a value already of the right type: BUSY, presence, access
and range. -/
def State.writeFails (s : State) (idx sub : Nat) (v : DVal) : List Status :=
  need (!s.serverBusy) .busy ++ s.presence idx sub ++
    match entryOf idx sub with
    | some e => s.accessW e false ++ need (e.rng.holds v && e.ty.valueOk v) .outOfRange
    | none => []

/-- Retry-after that goes with BUSY, in ms (R74): 800 while BOOT is held, else an estimate the spec does not compute (a
free value), rounded up to 10 ms within 10 to 800, or at most 250 in a HITLESS RESTART; 10 while work item 10 moves and
800 while it is suspended (R454, R456). Where a block other than the server is busy and its rule gives no time, a free
value (R61). -/
def State.retryMs (s : State) : Nat :=
  if s.pow.restarting then min 250 s.freeNat
  else if s.inMode .boot && decide (s.pow.hold ≠ .none) then 800
  else if s.rdN 0x942A 3 = 2 then 800
  else if s.rdN 0x942A 3 = 1 then 10
  else if s.serverBusy then min 800 (max 10 (ceilDiv s.freeNat 10 * 10))
  else s.freeNat % 65536

/-- What every accepted write does: it ends a pending copy of its entry, and a class N write is counted as not yet
committed (R517, R577). -/
def State.noteWrite (s : State) (idx sub : Nat) : State :=
  let t : State := { s with srv := { s.srv with copies := s.srv.copies.filter fun c => c.entry != key idx sub } }
  match entryOf idx sub with
  | some e => t.whenB (decide (e.cls = .n)) fun u => u.inc32 0x9C30 8
  | none => t

/-- A write judged, with what every accepted write does. -/
def State.judgeWrite (s : State) (idx sub : Nat) (fails : List Status) (e : Effect) : Status × State :=
  match judge s fails e with
  | (.done, t) => (.done, t.noteWrite idx sub)
  | r => r

/-- The request of a host command row counted: served, or answered BUSY (R91). -/
def State.commandCount (s : State) : State := if s.serverBusy then s.inc32 0x1030 7 else s.inc32 0x1030 6

/-- A host command row: one write of an entry, judged, and its status sent (R61). Before identity entries are served
nothing is answered (R74). -/
def State.command (s : State) (idx sub : Nat) (v : DVal) (e : Effect) : State :=
  if !s.identityServed then s
  else
    let r := s.judgeWrite idx sub (s.writeFails idx sub v) e
    (r.2.commandCount.emit (.answer (key idx sub) r.1 (if r.1 = .busy then e.retry.getD s.retryMs else 0))).whenB
      (decide (r.1 = .busy)) State.drawn

end Sys2Proof.Machine
end

