-- ==== Sys2Proof/Machine/LineModes.lean ====
section
/-! DEFINITION. Line modes, threads and capacity (spec/03_line_modes.md): the carrier's parameters, the formulas of
R95, R98 and R99, the reference modes of R96, the configuration check of R100, and the thread states of R106 to
R108. -/

namespace Sys2Proof.Machine

/-- A carrier's parameters: those written, or those in force (R92, R578). -/
structure Carrier where
  profile : Nat
  rate : Nat            -- B in MBd
  threads : Nat         -- T
  bits : Nat            -- m
  codes : List Nat      -- 8 × H of thread k
  states : List Nat     -- 1 = active
  rolls : List Nat      -- roll-off in 0.01
  adc : Nat             -- ADC rate factor as in 2000:01
  dac : Nat
  deriving DecidableEq, Repr

/-- The values of a numeric entry of the thread records from `base`, thread 0 to 31. -/
def State.perThread (s : State) (base sub : Nat) : List Nat := (List.range 32).map fun k => s.rdN (base + k) sub

/-- The configuration as written (R578). -/
def State.written (s : State) : Carrier :=
  { profile := s.rdN 0x3400 1, rate := s.rdN 0x3400 2, threads := s.rdN 0x3400 3, bits := s.rdN 0x3400 4,
    codes := s.perThread 0x3410 1, states := s.perThread 0x3410 3, rolls := s.perThread 0x3410 7,
    adc := s.rdN 0x2000 1, dac := s.rdN 0x2000 2 }

/-- The parameters in force: those latched at the last entry to DISCOVER or TEST, with the entropies and states that
transactions have changed since (R102, R578). They stand while their domain is gated, so that SAFE and a SHED entered from
QUIET show them too. -/
def State.inForce (s : State) : Carrier :=
  { profile := s.cfg.profile, rate := s.cfg.rate, threads := s.cfg.threads, bits := s.cfg.bits,
    codes := s.cfg.codes, states := s.cfg.states, rolls := s.cfg.rolls,
    adc := s.cfg.adcFactor, dac := s.cfg.dacFactor }

/-- Whether the line parameters are in force: DISCOVER, SERVICE, SHED and TEST (R578). -/
def State.lineMode (s : State) : Bool := s.inMode .discover || s.inMode .service || s.inMode .shed || s.inMode .test

/-- The parameters that the computed readings show (R578). -/
def State.shown (s : State) : Carrier := if s.lineMode then s.inForce else s.written

/-- 8 × H of thread k: 8 × m in the legacy profiles (R110). -/
def Carrier.code (c : Carrier) (k : Nat) : Nat := if c.profile = 0 then c.codes.getD k 16 else 8 * c.bits

/-- m × L: the label bits one polarisation carries in an LF (R95, R110). -/
def Carrier.lfBits (c : Carrier) : Nat := if c.profile = 2 then 737280 else 983040
/-- LF length L in symbols, rounded down; it is exact for every m the profiles allow (R95, R110, R578). -/
def Carrier.lfLength (c : Carrier) : Nat := c.lfBits / c.bits

/-- Net information bits N of a native LF at entropy code `h`: 2 × (31/32) × L × (H − 0.15 m) (R95). -/
def Carrier.netBits (c : Carrier) (h : Nat) : Nat := 31 * 1536 * (5 * h - 6 * c.bits) / c.bits

/-- Payload bits of one LF: N less the 16 384 of header and overhead, or the legacy payload (R95, R110). -/
def Carrier.payload (c : Carrier) (h : Nat) : Nat :=
  match c.profile with
  | 0 => c.netBits h - 16384
  | 1 => 1602560
  | _ => 1126400

/-- Stitches per LF S of thread k (R95). -/
def Carrier.stitches (c : Carrier) (k : Nat) : Nat := c.payload (c.code k) / 1024
/-- Fill bits per LF of thread k (R95). -/
def Carrier.fill (c : Carrier) (k : Nat) : Nat := c.payload (c.code k) - 1024 * c.stitches k

/-- Thread LF duration in fs: the exact T × L / B, rounded down once (R95, R578). -/
def Carrier.lfFs (c : Carrier) : Nat := c.threads * c.lfBits * 1000000000 / (c.bits * c.rate)
/-- Multiframe duration in fs, rounded down (R95). -/
def Carrier.multiframeFs (c : Carrier) : Nat := 16 * c.threads * c.lfBits * 1000000000 / (c.bits * c.rate)
/-- Tenant grain in b/s, rounded down (R95). -/
def Carrier.grain (c : Carrier) : Nat := 1024 * c.rate * 1000000 * c.bits / (16 * c.threads * c.lfBits)
/-- Capacity in b/s of `n` stitches per LF on one thread, rounded down (R95). -/
def Carrier.rateOf (c : Carrier) (n : Nat) : Nat := n * 1024 * c.rate * 1000000 * c.bits / (c.threads * c.lfBits)
/-- Stitches per LF summed over the threads that satisfy `p`. -/
def Carrier.sumStitches (c : Carrier) (p : Nat → Bool) : Nat :=
  (((List.range c.threads).filter p).map c.stitches).sum
/-- Whether `n` stitches per LF, all threads together, carry more than 1.665 Tb/s (R2). -/
def Carrier.above1608 (c : Carrier) (n : Nat) : Bool :=
  decide (1665000000000 * (c.threads * c.lfBits) < n * 1024 * c.rate * 1000000 * c.bits)

/-- Sum of (100 + β_j) over the threads below `k`. -/
def Carrier.rollSum (c : Carrier) (k : Nat) : Nat := ((List.range k).map fun j => 100 + c.rolls.getD j 1).sum
/-- Occupied bandwidth W_occ in MHz, rounded down (R98). -/
def Carrier.occupied (c : Carrier) : Nat := c.rate * c.rollSum c.threads / (100 * c.threads)
/-- Slot width in MHz: 12.5 GHz × ceil((W_occ + 12.5 GHz) / 12.5 GHz), from the exact W_occ (R99, R578). -/
def Carrier.slot (c : Carrier) : Nat := 12500 * (ceilDiv (c.rate * c.rollSum c.threads) (12500 * 100 * c.threads) + 1)

/-- A quotient to the nearest whole number, halves away from zero. -/
def roundHalfAway (a : Int) (b : Nat) : Int :=
  if 0 ≤ a then ((2 * a.toNat + b) / (2 * b) : Nat) else -((2 * (-a).toNat + b) / (2 * b) : Nat)

/-- Centre offset f_k in MHz, halves away from zero (R98, R578). -/
def Carrier.centre (c : Carrier) (k : Nat) : Int :=
  roundHalfAway ((c.rate : Int) * (2 * (c.rollSum k : Int) + (100 + c.rolls.getD k 1 : Nat) - (c.rollSum c.threads : Int)))
    (200 * c.threads)

/-- The rate factor D or U: a fixed factor, or the largest allowed of 1, 2 and 4 (R113, R115). -/
def Carrier.factor (c : Carrier) (setting : Nat) : Nat :=
  match setting with
  | 1 => 1
  | 2 => 2
  | 3 => 4
  | _ => if c.rate * 4 ≤ 300000 then 4 else if c.rate * 2 ≤ 300000 then 2 else 1
/-- Whether a rate factor keeps the converter at or below 337.5 GS/s (R113). -/
def Carrier.factorOk (c : Carrier) (setting : Nat) : Bool := decide (c.rate * c.factor setting ≤ 300000)
/-- Converter sample rate in MS/s, rounded down (R113). -/
def Carrier.sampleRate (c : Carrier) (setting : Nat) : Nat := 9 * c.rate * c.factor setting / 8
/-- ADC slice rate in kS/s, rounded down (R114). -/
def Carrier.sliceRate (c : Carrier) : Nat := 9 * c.rate * c.factor c.adc * 1000 / (8 * 144)

/-- Entropy codes allowed for m (R93). -/
def codeRange (m : Nat) : Nat × Nat :=
  match m with
  | 2 => (16, 16)
  | 4 => (20, 32)
  | 6 => (28, 48)
  | 8 => (40, 64)
  | _ => (1, 0)

/-- Whether an entropy code is allowed for m (R93). -/
def codeOk (m h : Nat) : Bool := decide ((codeRange m).1 ≤ h) && decide (h ≤ (codeRange m).2)

/-- The configuration check of 3400:0D: the lowest code whose check fails (R100, R578, R2, R110, R153, R113, R144).
`limit` is true on a UL-TSH1608; `gainBad` is true where some 2050+j:05 lies below 2050+j:04. -/
def Carrier.check (c : Carrier) (limit gainBad : Bool) : Nat :=
  let native := decide (c.profile = 0)
  let lo := if native then 60000 else if c.profile = 1 then 64000 else 32000
  let hi := if native then 300000 else if c.profile = 1 then 140000 else 70000
  let ts := List.range c.threads
  if !(decide (lo ≤ c.rate) && decide (c.rate ≤ hi) && decide (c.rate % 500 = 0)) then 1
  else if !(if native then c.threads ∈ [1, 2, 4, 8, 16, 32] else c.threads = 1) then 2
  else if !(if native then c.bits ∈ [2, 4, 6, 8] else if c.profile = 1 then c.bits ∈ [2, 3, 4] else c.bits ∈ [2, 4]) then 3
  else if native && ts.any fun k => !codeOk c.bits (c.code k) then 4
  else if limit && c.above1608 (c.sumStitches fun k => c.states.getD k 1 == 1) then 5
  else if ts.all fun k => c.states.getD k 1 != 1 then 6
  else if (ts.any fun k => c.rolls.getD k 1 < 1 || 20 < c.rolls.getD k 1) || 110 * c.threads < c.rollSum c.threads then 7
  else if !(c.factorOk c.adc && c.factorOk c.dac) then 8
  else if gainBad then 9
  else 0

/-- The value of 3400:0D now: it judges the configuration as written (R578). -/
def State.configCheck (s : State) : Nat :=
  s.written.check s.is1608 ((List.range 8).any fun j => decide (s.rdN (0x2050 + j) 5 < s.rdN (0x2050 + j) 4))

/-- B, T default, m and 8 × H of reference mode 1 to 6 (R96). -/
def refMode (n : Nat) : Nat × Nat × Nat × Nat :=
  match n with
  | 1 => (300000, 16, 8, 55)
  | 2 => (300000, 16, 6, 42)
  | 3 => (300000, 8, 4, 28)
  | 4 => (150000, 8, 4, 28)
  | 5 => (75000, 4, 4, 28)
  | _ => (75000, 1, 2, 16)

/-- Whether the settings are those of a reference mode: profile, B and m, and every thread below T at the mode's H and
in state 1 (R100). -/
def Carrier.isRef (c : Carrier) (n : Nat) : Bool :=
  let r := refMode n
  decide (c.profile = 0 ∧ c.rate = r.1 ∧ c.bits = r.2.2.1) &&
    (List.range c.threads).all fun k => c.codes.getD k 0 == r.2.2.2 && c.states.getD k 0 == 1

/-- The mode a read of 3400:05 returns (R100). -/
def Carrier.reference (c : Carrier) : Nat := ((List.range' 1 6).find? c.isRef).getD 0

/-- Writing 1 to 6 to 3400:05 (R100). -/
def State.applyReference (s : State) (n : Nat) : State :=
  let r := refMode n
  let t := (((s.wrN 0x3400 1 0).wrN 0x3400 2 r.1).wrN 0x3400 3 r.2.1).wrN 0x3400 4 r.2.2.1
  t.each (List.range 32) fun u k => (u.wrN (0x3410 + k) 1 r.2.2.2).wrN (0x3410 + k) 3 1

/-- The rule of a write to 3400:05: 0 changes nothing (R100). -/
def State.referenceEffect (s : State) (n : Nat) : Effect := .ok (if n = 0 then s else s.applyReference n)

/-- REFERENCE_MODE_WRITE (R100). -/
def execReferenceModeWrite (m : Nat) (s : State) : Host.Outcome State Fault Refusal :=
  .next (s.command 0x3400 5 (.num m) (s.referenceEffect m))

/-! ### Entry to DISCOVER or TEST -/

/-- Transmit and receive status of a thread at entry: ABSENT from T on, RETIRED where its state in force is 0, else
ACTIVE. Legacy threads other than thread 0 are absent (R101, R111, R579). -/
def entryStatus (c : Carrier) (k : Nat) : Nat :=
  if c.threads ≤ k then 4 else if c.states.getD k 1 = 0 then 0 else 1

/-- Latch the carrier parameters and copy the configured entropies and states into force (R102, R578, R579). -/
def State.latchCarrier (s : State) : State :=
  let c := s.written
  let t : State := { s with cfg := { s.cfg with
    profile := c.profile, rate := c.rate, threads := c.threads, bits := c.bits, codes := c.codes, states := c.states,
    rolls := c.rolls, adcFactor := c.adc, dacFactor := c.dac, retireAt := [], readmitAt := [], rdiSeen := [],
    rxRetireAt := [], rxReadmitAt := [] } }
  t.each (List.range 32) fun u k =>
    (((u.wrN (0x3410 + k) 2 (c.codes.getD k 55)).wrN (0x3410 + k) 4 (c.states.getD k 1)).wrN (0x3410 + k) 5
      (entryStatus c k)).wrN (0x3410 + k) 6 (if c.threads ≤ k then 4 else 1)

/-- The status that a write to 1001:02 leaving QUIET or TEST meets while the check of 3400:0D fails (R102). -/
def State.leaveFails (s : State) : List Status :=
  match s.configCheck with
  | 0 => []
  | 5 => [.outOfRange]
  | _ => [.conflict]

/-- Transmit status of thread k. -/
def State.txStatus (s : State) (k : Nat) : Nat := s.rdN (0x3410 + k) 5
/-- Receive status of thread k. -/
def State.rxStatus (s : State) (k : Nat) : Nat := s.rdN (0x3410 + k) 6

/-- Whether the engines of work item w run: not in a HITLESS RESTART, nor while the item moves or is suspended (R28,
R454, R456). -/
def State.itemRuns (s : State) (w : Nat) : Bool := !s.pow.restarting && s.rdN (0x9420 + w) 3 == 0

/-- Threads 0 to T − 1 in force. -/
def State.threads (s : State) : List Nat := List.range s.cfg.threads

/-- The transmit multiframe counter (R82). -/
def State.mf (s : State) : Nat := s.rdN 0x1020 1

/-- Condition 4 of R36: every thread configured to be received is in the in-frame state SYNC (R36, R234). -/
def State.allInFrame (s : State) : Bool :=
  let ks := s.threads.filter fun k => s.rxStatus k == 1
  s.on 16 && ks != [] && ks.all fun k => s.rdN (0x3450 + k) 1 == 3

/-- 1001:07: the conditions of R36, of which bit 3 follows the framers (R39). -/
def State.discoverProgress (s : State) : Nat :=
  let n := s.rdN 0x1001 7
  n / 16 * 16 + n % 8 + (if s.allInFrame then 8 else 0)

/-- Gate the island of thread k, or for thread 0, 8, 16 and 24 only its thread stages, which are numbered 128 + k
(R94, R106). -/
def State.gateThread (s : State) (k : Nat) : State :=
  { s with pow := { s.pow with gatedIslands := addTo (if k % 8 = 0 then 128 + k else 8 + k) s.pow.gatedIslands } }

/-- Power the island of thread k again (R107). -/
def State.ungateThread (s : State) (k : Nat) : State :=
  { s with pow := { s.pow with gatedIslands := dropFrom (if k % 8 = 0 then 128 + k else 8 + k) s.pow.gatedIslands } }

/-- THREAD_RETIRE_DARK: at M + 16 the near end stops sending thread k (R106 step 3). -/
def execThreadRetireDark (k : Fin 32) (s : State) : Host.Outcome State Fault Refusal :=
  .next (match lget k.val s.cfg.retireAt with
    | some m =>
      if m + 16 ≤ s.mf then
        let t : State := { s with cfg := { s.cfg with retireAt := ldel k.val s.cfg.retireAt } }
        t.wrN (0x3410 + k.val) 5 0
      else s
    | none => s)

/-- THREAD_ISLAND_GATE: once the receive status is 0, island I008+k is gated (R106 step 5, R579). -/
def execThreadIslandGate (k : Fin 32) (s : State) : Host.Outcome State Fault Refusal :=
  .next (if s.rxStatus k.val = 0 then s.gateThread k.val else s)

end Sys2Proof.Machine
end

