-- ==== Sys2Proof/Machine/Numbers.lean ====
section
/-! DEFINITION. The irrational numbers the signal chains use, formed to 2^-40 (log entry 156): square roots, ratios of decibels,
rotations, the root-raised-cosine, fractional delays and the Gaussian pulse (spec/05_transmit.md, spec/06_receive.md,
spec/11_picot.md). -/

namespace Sys2Proof.Machine

/-- The real sum of `f` over a list. -/
def realSum {α : Type} (l : List α) (f : α → Rat) : Rat := l.foldl (fun a x => a + f x) 0

/-- The greatest number of at most `n` bits above `v` that passes a test which every smaller one passes. -/
def greatest (ok : Nat → Bool) : Nat → Nat → Nat
  | 0, v => v
  | n + 1, v => if ok (v + 2 ^ n) then greatest ok n (v + 2 ^ n) else greatest ok n v

/-- A square root, rounded down to 2^-40. -/
def root (v : Rat) : Rat :=
  let n := (v * 2 ^ 80).floor.toNat
  ((greatest (fun x => decide (x * x ≤ n)) (n.log2 / 2 + 1) 0 : Nat) : Rat) / 2 ^ 40

/-- The amplitude ratio of `t` tenths of a decibel, 10^(t / 200), rounded down to 2^-40: 1 for 0 (R151, R154, R167, R345). -/
def dbGain (t : Int) : Rat :=
  ((greatest (fun x => decide (x ^ 200 * 10 ^ (-t).toNat ≤ 10 ^ t.toNat * 2 ^ 8000)) (42 + t.toNat / 60) 0 : Nat) : Rat) / 2 ^ 40

/-- A number to the nearest multiple of 2^-40. -/
def grid (v : Rat) : Rat := ((v * 2 ^ 40 + 1 / 2).floor : Rat) / 2 ^ 40

/-- π to forty decimal digits. -/
def piRat : Rat := 31415926535897932384626433832795028841971 / 10 ^ 40

/-- The natural logarithm of 2 to forty decimal digits. -/
def lnTwo : Rat := 6931471805599453094172321214581765680755 / 10 ^ 40

/-- n factorial. -/
def factorial : Nat → Nat
  | 0 => 1
  | n + 1 => (n + 1) * factorial n

/-- A rotation by `t` turns: cosine and sine of 2πt by their series within half a turn. -/
def rotor (t : Rat) : Rat × Rat :=
  let x := 2 * piRat * (t - ((t + 1 / 2).floor : Rat))
  let term := fun (k : Nat) => (if k / 2 % 2 = 0 then 1 else -1) * x ^ k / (factorial k : Rat)
  (grid (realSum (List.range 24) fun k => term (2 * k)), grid (realSum (List.range 24) fun k => term (2 * k + 1)))

/-- sin πy. -/
def sinPi (y : Rat) : Rat := (rotor (y / 2)).2

/-- cos πy. -/
def cosPi (y : Rat) : Rat := (rotor (y / 2)).1

/-- The exponential of −x for x from 0 to 64: the 64th power of its series at x / 64. -/
def expNeg (x : Rat) : Rat := (realSum (List.range 20) fun k => (-(x / 64)) ^ k / (factorial k : Rat)) ^ 64

/-- Symbols on either side that a shaping or delay filter takes in; farther taps are nothing (log entry 156). -/
def filterSpan : Nat := 1024

/-- The root-raised-cosine of a roll-off in hundredths at `t` symbols from its centre, with unit energy per symbol (R152, R180). -/
def rrcTap (rolloff : Nat) (t : Rat) : Rat :=
  let b : Rat := (rolloff : Rat) / 100
  if t = 0 then 1 - b + 4 * b / piRat
  else if 16 * b * b * t * t = 1 then
    b / root 2 * ((1 + 2 / piRat) * sinPi (1 / (4 * b)) + (1 - 2 / piRat) * cosPi (1 / (4 * b)))
  else (sinPi (t * (1 - b)) + 4 * b * t * cosPi (t * (1 + b))) / (piRat * t * (1 - 16 * b * b * t * t))

/-- The ideal low-pass of `w` times the sample rate at `x` samples from its centre, under a raised-cosine window over the
filter's span (log entry 156). -/
def bandTap (w x : Rat) : Rat :=
  if x = 0 then w
  else if x < filterSpan ∧ -filterSpan < x then sinPi (w * x) / (piRat * x) * ((1 + cosPi (x / filterSpan)) / 2)
  else 0

/-- The tap at `lag` of a delay by `d` samples: the ideal interpolation, which a delay of 0 leaves neutral (R155, R174). -/
def delayTap (d : Rat) (lag : Int) : Rat := bandTap 1 (lag - d)

/-- The weight of tap `j` of 64 a symbol of the Gaussian of BT 0.5, less a common factor: exp(−(2π BT u)² / (2 ln 2)) at u = j / 64
symbols (R348). -/
def gaussWeight (j : Int) : Rat := expNeg ((piRat * j / 64) * (piRat * j / 64) / (2 * lnTwo))

/-- The share of a symbol's whole phase that its frequency pulse has built up `t` symbols after its start: a pulse of one symbol
through the Gaussian of BT 0.5 (R348). -/
def gaussPhase (t : Rat) : Rat :=
  let taps : List Int := (List.range 257).map fun (j : Nat) => (j : Int) - 128
  let built := fun (v : Rat) => if v < 0 then 0 else if 1 < v then 1 else v
  realSum taps (fun j => gaussWeight j * built (t - (j : Rat) / 64)) / realSum taps gaussWeight

end Sys2Proof.Machine
end

