-- ==== Sys2Proof/Machine/Transmit.lean ====
section
/-! DEFINITION. Transmit signal processing (spec/05_transmit.md): symbol labels, reference symbols, digital
pre-distortion with its modes, muting and TX_ENABLE, low-power transmit. -/

namespace Sys2Proof.Machine

/-! ### Mapping and reference symbols (R146 to R151) -/

/-- Information bits per block of 256 amplitudes at entropy code `h`: 128 × H − 256 (R146). -/
def matcherBits (h : Nat) : Nat := 16 * h - 256
/-- Amplitudes of one LF: 3 809 280 / m (R146). -/
def lfAmplitudes (m : Nat) : Nat := 3809280 / m
/-- Information bits the matcher takes per LF (R146). -/
def matcherPerLf (m h : Nat) : Nat := lfAmplitudes m / 256 * matcherBits h
/-- Information bits of one LF that go to sign positions (R147). -/
def signInfoBits (c : Carrier) (h : Nat) : Nat := c.netBits h - matcherPerLf c.bits h

/-- Binary-reflected Gray code. -/
def gray (j : Nat) : Nat := j ^^^ (j / 2)

/-- The label of one real dimension: the sign, then the Gray code of the amplitude index on m/2 − 1 bits, most
significant first (R148). -/
def dimLabel (m : Nat) (neg : Bool) (j : Nat) : List Bool :=
  neg :: (List.range (m / 2 - 1)).map fun i => bit (gray j) (m / 2 - 2 - i)

/-- The level of a dimension: ±(2j + 1) (R148). -/
def dimLevel (neg : Bool) (j : Nat) : Int := if neg then -(2 * (j : Int) + 1) else 2 * (j : Int) + 1

/-- The number r = 1 + √3 (R149). -/
def outer : Rat := 1 + root 3

/-- A point of DP-8QAM for a label of 3 bits, each coordinate as (a, b) for a + b × r with r = 1 + √3 (R149). -/
def qam8 (label : Nat) : (Int × Int) × (Int × Int) :=
  match label with
  | 0 => ((1, 0), (1, 0))
  | 2 => ((-1, 0), (1, 0))
  | 6 => ((-1, 0), (-1, 0))
  | 4 => ((1, 0), (-1, 0))
  | 1 => ((0, 1), (0, 0))
  | 3 => ((0, 0), (0, 1))
  | 7 => ((0, -1), (0, 0))
  | _ => ((0, 0), (0, -1))

/-- What symbol `i` of an LF carries: a data symbol, a header nibble or a pilot number (R150). -/
inductive SymbolKind where
  | data | header (r : Nat) | pilot (r : Nat)
  deriving DecidableEq, Repr

/-- The kind of symbol `i` (R150). -/
def symbolKind (i : Nat) : SymbolKind :=
  if i % 32 ≠ 0 then .data else if i / 32 < 16 then .header (i / 32) else .pilot (i / 32)

/-- Header bits of reference symbol r on XI, XQ, YI and YQ: [63−4r : 60−4r] (R150). -/
def headerNibble (h : BitVec 64) (r : Nat) : List Bool := (List.range 4).map fun i => h.getLsbD (63 - 4 * r - i)

/-- Seed of the pilot generator: 0x7F_FFFF ⊕ (k × 0x1_0000), or 0x7F_FFFF in the legacy profiles (R151). -/
def pilotSeed (profile k : Nat) : Nat := if profile = 0 then 0x7FFFFF ^^^ (k * 0x10000) else 0x7FFFFF

/-- One step of the generator x²³ + x¹⁸ + 1: the bit it gives and the next contents (R151). -/
def pilotStep (v : Nat) : Bool × Nat :=
  let b := xor (bit v 22) (bit v 17)
  (b, v * 2 % 2 ^ 23 + (if b then 1 else 0))

/-- `n` bits of the generator from contents `v`. -/
def pilotBits : Nat → Nat → List Bool
  | _, 0 => []
  | v, n + 1 => (pilotStep v).1 :: pilotBits (pilotStep v).2 n

/-- The four bits of the pilot that is the `n`-th pilot of the LF, counted from 0 (R151). -/
def pilotNibble (profile k n : Nat) : List Bool := (pilotBits (pilotSeed profile k) (4 * n + 4)).drop (4 * n)

/-! ### Digital pre-distortion (R157 to R164) -/

/-- A complex sample or symbol. Inside the chains numbers are exact; where the spec gives a format the number is brought to it
(log entry 156). -/
structure Sample where
  re : Rat
  im : Rat
  deriving DecidableEq, Repr

/-- Zero. -/
def Sample.zero : Sample := ⟨0, 0⟩
/-- Sum of complex numbers. -/
def Sample.add (a b : Sample) : Sample := ⟨a.re + b.re, a.im + b.im⟩
/-- Difference of complex numbers. -/
def Sample.sub (a b : Sample) : Sample := ⟨a.re - b.re, a.im - b.im⟩
/-- Product of complex numbers. -/
def Sample.mul (a b : Sample) : Sample := ⟨a.re * b.re - a.im * b.im, a.re * b.im + a.im * b.re⟩
/-- Complex conjugate. -/
def Sample.conj (a : Sample) : Sample := ⟨a.re, -a.im⟩
/-- Squared magnitude. -/
def Sample.norm2 (a : Sample) : Rat := a.re * a.re + a.im * a.im
/-- A complex number times a real one. -/
def Sample.scale (a : Sample) (r : Rat) : Sample := ⟨a.re * r, a.im * r⟩
/-- The sum of `f` over a list. -/
def sumOf {α : Type} (l : List α) (f : α → Sample) : Sample := l.foldl (fun a x => a.add (f x)) Sample.zero

/-- A Q2.14 component of a coefficient set at byte `o`. -/
def q14At (b : List Byte) (o : Nat) : Int := signedOf 2 (beField b o 2)

/-- Coefficient c of a set: bytes [4c : 4c+3], real then imaginary, Q2.14 (R158). -/
def coefficient (set : List Byte) (c : Nat) : Sample := ⟨(q14At set (4 * c) : Rat) / 16384, (q14At set (4 * c + 2) : Rat) / 16384⟩

/-- Index of a(k, q) (`s` = 0) or b(k, q) (`s` = 1): 24 s + 8 (k − 1)/2 + q (R158). -/
def coefficientIndex (s k q : Nat) : Nat := 24 * s + 8 * ((k - 1) / 2) + q

/-- The pre-distorted output for inputs x(n−q), with 1.0 at DAC full scale: Σ a(k,q) x |x|^(k−1) + b(k,q) conj(x) |x|^(k−1)
over k in 1, 3, 5 and q from 0 to 7 (R157). -/
def dpdOutput (set : List Byte) (x : Nat → Sample) : Sample :=
  sumOf (List.range 3) fun h => sumOf (List.range 8) fun q =>
    ((((coefficient set (coefficientIndex 0 (2 * h + 1) q)).mul (x q)).add
      ((coefficient set (coefficientIndex 1 (2 * h + 1) q)).mul (x q).conj))).scale ((x q).norm2 ^ h)

/-- A quotient rounded one way or the other, the spec not saying which: exact where the division is, else a free
choice (log entry 3). -/
def roundFree (n : Nat) (a : Int) (b : Nat) : Int :=
  if a % (b : Int) = 0 then a / b else a / b + (if Config.freeBool n then 1 else 0)

/-- Clamp to the range of Q2.14, −2.0 to +1.999 94 (R158). -/
def clamp14 (v : Int) : Int := max (-32768) (min 32767 v)

/-- The 96 components of a set. -/
def setComponents (set : List Byte) : List Int := (List.range 96).map fun i => q14At set (2 * i)

/-- A set from its components, clamped (R158). -/
def setOfComponents (l : List Int) : List Byte := l.flatMap fun v => beBytes 2 (unsignedOf 2 (clamp14 v))

/-- Whether any component sits at a limit (R158). -/
def setAtLimit (set : List Byte) : Bool := (setComponents set).any fun v => decide (v = -32768 ∨ v = 32767)

/-- The active set of R160 after a correction: each component plus μ = 2^−n times the correction, clamped. -/
def setUpdate (draw n : Nat) (active corr : List Byte) : List Byte :=
  setOfComponents ((List.range 96).map fun i =>
    q14At active (2 * i) + roundFree (draw + i) (q14At corr (2 * i)) (2 ^ n))

/-- The DPD mode in force: 1 in the legacy profiles (R159). -/
def State.dpdMode (s : State) : Nat := if s.cfg.profile = 0 then s.tx.dpdMode else 1

/-- A new set number begins at this multiframe (R160). -/
def State.newSet (s : State) : State := ((s.inc32 0x2401 4).wrN 0x2401 5 s.mf)

/-- Put both coefficient sets in force (R157, R158). -/
def State.putSets (s : State) (x y : List Byte) : State :=
  ((s.wrS 0x2402 1 x).wrS 0x2403 1 y).defect 0x2401 9 1 (setAtLimit x || setAtLimit y)

/-- A swap of the coefficient sets, which starts a new set number (R160). -/
def State.setsInForce (s : State) (x y : List Byte) : State := (s.putSets x y).newSet

/-- The sets in force. -/
def State.activeSets (s : State) : List Byte × List Byte := (s.rdS 0x2402 1, s.rdS 0x2403 1)

/-- After a swap the former sets are kept, and the next residual of each polarisation is compared (R162). -/
def State.swapped (s : State) (old : List Byte × List Byte) (reversion : Bool) : State :=
  { s with tx := { s.tx with
    dpdShadow := none, dpdReversion := false, dpdPrev := [(0, old.1), (1, old.2)], dpdCheck := [0, 1]
    dpdReverted := reversion } }

/-- Swap the staged coefficient sets at the multiframe they name (R160, R162). -/
def State.dpdSwap (s : State) : State :=
  match s.tx.dpdShadow with
  | some (m, x, y) => if m ≤ s.mf then (s.setsInForce x y).swapped s.activeSets s.tx.dpdReversion else s
  | none => s

/-- What is staged, what is held of a window and the residuals of the former source are discarded. -/
def State.dpdForget (s : State) : State :=
  { s with tx := { s.tx with
    dpdShadow := none, dpdReversion := false, dpdHeld := none, dpdResidual := [], dpdCheck := [] } }

/-- A change of 2401:01 takes effect at the boundary; what was staged is discarded, and mode 0 puts the identity set in
force. In the legacy profiles the mode in force stays 1 (R159). -/
def State.dpdModeBoundary (s : State) : State :=
  let m := s.rdN 0x2401 1
  if s.tx.dpdMode = m then s
  else
    let t : State := { s with tx := { s.tx with dpdMode := m } }
    if s.cfg.profile ≠ 0 then t
    else if m = 0 then t.dpdForget.setsInForce identitySet identitySet
    else t.dpdForget

/-- Whether the residual of a polarisation's window is compared and satisfies `p` with the previous one (R162). -/
def State.dpdCompared (s : State) (p : Int → Int → Bool) (r : Nat × Int) : Bool :=
  s.tx.dpdCheck.contains r.1 && (match lget r.1 s.tx.dpdResidual with | some old => p old r.2 | none => false)

/-- The residual comparison of R162 on the first window after a swap, for the polarisations it gives: any worse by more than
3 dB raises DPD_DIVERGE and stages the previous set for the next boundary; all better after an accepted update clear
DPD_DIVERGE. The result says whether the set is going back. -/
def State.dpdJudge (s : State) (residuals : List (Nat × Int)) : Bool × State :=
  let keep : State := { s with tx := { s.tx with
    dpdResidual := residuals.foldl (fun l r => lput r.1 r.2 l) s.tx.dpdResidual
    dpdCheck := s.tx.dpdCheck.filter fun p => !residuals.any fun r => r.1 == p } }
  if residuals.any (s.dpdCompared fun old new => decide (old + 30 < new)) then
    let t := (keep.raise 0x2401 9 2).inc32 0x2401 8
    (true, { t with tx := { t.tx with
      dpdShadow := some (s.mf + 1, lgetD 0 identitySet s.tx.dpdPrev, lgetD 1 identitySet s.tx.dpdPrev), dpdReversion := true } })
  else if !s.tx.dpdReverted && residuals.all (s.dpdCompared fun old new => decide (new < old)) then
    (false, keep.clear 0x2401 9 2)
  else (false, keep)

/-- DPD_LOCAL_PROPOSAL: in mode 1 engine E76+2p proposes a set, which swaps at the next boundary; a reversion that is staged
stands (R159, R162). -/
def execDpdLocalProposal (p : Fin 2) (set : List Byte) (residual : Int) (s : State) :
    Host.Outcome State Fault Refusal :=
  .next (if s.on 14 && decide (s.dpdMode = 1) && s.itemRuns 9 then
      let r := (s.wrI 0x2401 0x0A residual).dpdJudge [(p.val, residual)]
      if r.1 || r.2.tx.dpdReversion then r.2
      else
        let t := r.2
        let base := match t.tx.dpdShadow with
          | some (_, x, y) => (x, y)
          | none => t.activeSets
        let new := setOfComponents (setComponents (padTo 192 (set.take 192)))
        { t with tx := { t.tx with
          dpdShadow := some (t.mf + 1, if p.val = 0 then new else base.1, if p.val = 0 then base.2 else new) } }
    else s)

/-- Accept a complete pair of feedback messages (R160, R162). -/
def State.dpdAccept (s : State) (a b : DpdMsg) : State :=
  let x := if a.pol.val = 0 then a else b
  let y := if a.pol.val = 0 then b else a
  let t := (((s.bump 0x2401 6 32 2).wrI 0x2401 0x0B b.residual).clear 0x2401 9 0)
  let t : State := { t with tx := { t.tx with dpdHeld := none } }
  let r := t.dpdJudge [(a.pol.val, a.residual), (b.pol.val, b.residual)]
  if r.1 then r.2
  else
    let u := r.2
    let n := u.rdN 0x2401 2
    let act := u.activeSets
    { u with
      free := u.free + 192
      tx := { u.tx with dpdShadow := some (u.mf + 4, setUpdate u.free n act.1 (padTo 192 x.corr),
        setUpdate (u.free + 96) n act.2 (padTo 192 y.corr)) } }

/-- A feedback message gives the dispersion that the far end reports, whatever the DPD mode (R156). It is accepted only where its
window lies within the interval of the set in force and no update is staged, and the pair of one window acts together, in
SERVICE and SHED (R160, R163). -/
def State.dpdFeedback (s : State) (m : DpdMsg) : State :=
  let s : State := if s.itemRuns 8 then { s with tx := { s.tx with farCd := m.cd } } else s
  if !(s.inMode .service || s.inMode .shed) || decide (s.dpdMode ≠ 2) || !s.itemRuns 8 then s
  else if s.rdN 0x2401 5 ≤ m.first ∧ m.first ≤ m.last ∧ m.last ≤ s.mf ∧ s.tx.dpdShadow = none then
    match s.tx.dpdHeld with
    | some h =>
      if h.first = m.first ∧ h.last = m.last ∧ h.pol ≠ m.pol then s.dpdAccept h m
      else { s with tx := { s.tx with dpdHeld := some m } }
    | none => { s with tx := { s.tx with dpdHeld := some m } }
  else s.inc32 0x2401 7

/-- DPD_FB_TIMEOUT: no feedback accepted for 2401:03 ms in mode 2 (R163). -/
def execDpdFbTimeout (s : State) : Host.Outcome State Fault Refusal :=
  .next (if s.on 14 && decide (s.dpdMode = 2) then s.raise 0x2401 9 0 else s)

/-- Each active set copied to its start set, on a transition into QUIET (R164). -/
def State.saveStartSets (s : State) : State :=
  (s.wrS 0x2402 3 (s.rdS 0x2402 1)).wrS 0x2403 3 (s.rdS 0x2403 1)

/-- The sets loaded from the start sets on entry to DISCOVER or TEST; an empty one loads the identity (R164). -/
def State.loadStartSets (s : State) : State :=
  let f := fun (i : Nat) => if s.rdS i 3 = [] then identitySet else s.rdS i 3
  let t : State := { s.dpdForget with tx := { s.dpdForget.tx with dpdPrev := [], dpdReverted := false, dpdMode := s.rdN 0x2401 1 } }
  if t.dpdMode = 0 then t.setsInForce identitySet identitySet else t.setsInForce (f 0x2402) (f 0x2403)

/-! ### Muting and TX_ENABLE (R165, R166) -/

/-- The mute causes present (2400:06): those stored, and from a reset until the entry to QUIET bit 5 (R166). -/
def State.causes (s : State) : Nat :=
  if s.inMode .reset || s.inMode .boot then setBit (s.rdN 0x2400 6) 5 else s.rdN 0x2400 6

/-- The conditions of R165. -/
def State.txEnableOk (s : State) : Bool := s.lineMode && decide (s.causes = 0) && !s.rdB 0x2400 1

/-- The transmit state of 2400:05 (R169). -/
def State.txStateOf (s : State) : Nat :=
  if !s.on 14 then 0
  else if s.tx.muted then 1
  else if s.inMode .test && decide (s.rdN 0x2400 8 ≠ 0) then 5
  else if s.tx.attenuation = 0 then 4
  else if s.tx.rising then 3 else 2

/-! ### The picot packet in progress (R347, R350, R354, R364) -/

/-- The message type of a kind (R354, R355): FAULT, ACCEPT, CONFIRM, HELLO, OFFER, SHARE, TIME, DPD_FEEDBACK. -/
def picotType (kind : Nat) : Nat :=
  match kind with
  | 0 => 6 | 1 => 3 | 2 => 4 | 3 => 1 | 4 => 2 | 5 => 4 | 6 => 7 | _ => 5

/-- Bits per body symbol of a kind: 4-level only for TIME and DPD_FEEDBACK in SERVICE and SHED (R354). -/
def State.bodyBits (s : State) (kind : Nat) : Nat :=
  if 6 ≤ kind && (s.inMode .service || s.inMode .shed) && s.rdN 0x8800 3 == 4 then 2 else 1

/-- Whether the channel is sent (R347). -/
def State.picotOn (s : State) : Bool :=
  s.on 14 && decide (s.inForce.profile = 0) && decide (s.causes = 0) && !s.rdB 0x2400 1 &&
    (s.inMode .discover || s.inMode .service || s.inMode .shed
      || (s.inMode .test && (s.rdN 0x2400 8 == 0 || s.rdN 0x2400 8 == 2 || s.rdN 0x2400 8 == 4)))

/-- Whether E64 composes and reads messages: cluster C8's item runs (R364). -/
def State.picotEngine (s : State) : Bool := s.itemRuns 8 && s.on 14 && decide (s.inForce.profile = 0)

/-- The next due packet starts when the channel is free, at the body level that stands then; a TIME packet takes its departure
stamp, the end of its 96 symbols of preamble and sync word (R349, R350, R354, R359). -/
def State.picotKick (s : State) : State :=
  match s.pic.sending, s.pic.due with
  | none, (kind, b) :: rest =>
    if s.picotOn && s.picotEngine then
      let at_ := s.devTime + 384000 * 65536
      let b := if kind = 6 then Ty.time96.bytes (time96 at_) ++ b.drop 12 else b
      let sent := if kind = 6 then ((beField b 12 2, at_) :: s.pic.timeSent).take 16 else s.pic.timeSent
      let t : State := { s with pic := { s.pic with sending := some (kind, b, s.bodyBits kind), due := rest, timeSent := sent } }
      t.emit (.picot (picotType kind) b)
    else s
  | _, _ => s

/-- What a change of the transmitter means for the picot channel: where it is off the packet in progress is cut off with the
signal, and where it is on the next due packet starts if none is in progress (R350, R364). -/
def State.picotFollow (s : State) : State :=
  if s.picotOn then s.picotKick else { s with pic := { s.pic with sending := none } }

/-! ### Muting (R165, R166) -/

/-- A mute cause arises. Every cause but the host mute drops TX_ENABLE and the output at once; the host mute ramps
down first, from the amplitude that a ramp up has reached as well. One mute event is counted where the outputs were unmuted
with no cause present, a ramp up having ended; a picot packet in progress is cut off (R166, R364, log entry 146). -/
def State.muteCause (s : State) (i : Nat) : State :=
  let fresh := decide (s.causes = 0) && !s.tx.muted
  let t := s.wrBit 0x2400 6 i true
  let t := t.whenB fresh fun u => (u.inc32 0x2400 0x0E).count .mute
  let ramp := decide (s.causes = 0) && (fresh || decide (s.tx.ramping = some true)) && decide (i = 0)
    && decide (s.rdN 0x2400 2 ≠ 0)
  let t : State := { t with tx := { t.tx with
    muted := true, settling := false, ramping := if ramp then some false else none } }
  (t.whenB (!ramp) fun u => u.wrB 0x2400 7 false).picotFollow

/-- With no cause left, TX_ENABLE goes active and the settle wait begins (R165, R166). DESIGN CHOICE (log entry 146): that ends a ramp
down in progress. -/
def State.tryEnable (s : State) : State :=
  if s.on 14 && s.txEnableOk && s.tx.muted && !s.tx.settling && decide (s.tx.ramping ≠ some true) then
    let t : State := { s with tx := { s.tx with settling := true, ramping := none } }
    (t.wrB 0x2400 7 true)
  else s

/-- A mute cause clears; unmuting waits until every cause has cleared, and the picot channel is sent again then (R166, R347). -/
def State.unmuteCause (s : State) (i : Nat) : State := (s.wrBit 0x2400 6 i false).tryEnable.picotFollow

/-- The rule of a write to 2400:01 (R166). In a gated domain the value is only stored (R530). -/
def State.hostMuteEffect (s : State) (v : Bool) : Effect :=
  let t := s.wrB 0x2400 1 v
  .ok (if !s.on 14 then t
    else if v && !s.rdBit 0x2400 6 0 then t.muteCause 0
    else if !v && s.rdBit 0x2400 6 0 then t.unmuteCause 0
    else t)

/-- HOST_MUTE (R166). -/
def execHostMute (s : State) : Host.Outcome State Fault Refusal :=
  .next (s.command 0x2400 1 (.num 1) (s.hostMuteEffect true))
/-- HOST_UNMUTE (R166). -/
def execHostUnmute (s : State) : Host.Outcome State Fault Refusal :=
  .next (s.command 0x2400 1 (.num 0) (s.hostMuteEffect false))

/-- MUTE_RAMP_END: a ramp down leaves TX_ENABLE inactive; a ramp up leaves the outputs unmuted (R166). -/
def execMuteRampEnd (s : State) : Host.Outcome State Fault Refusal :=
  .next (match s.tx.ramping with
    | some false =>
      let t : State := { s with tx := { s.tx with ramping := none } }
      (t.wrB 0x2400 7 false)
    | some true =>
      let t : State := { s with tx := { s.tx with ramping := none, muted := false } }
      t
    | none => s)

/-- ENABLE_SETTLE_EXPIRY: the ramp up starts; with a ramp of 0 µs the amplitude is full at once (R166). -/
def execEnableSettleExpiry (s : State) : Host.Outcome State Fault Refusal :=
  .next (if s.tx.settling && s.txEnableOk then
      let abrupt := decide (s.rdN 0x2400 2 = 0)
      let t : State := { s with tx := { s.tx with
        settling := false, ramping := if abrupt then none else some true, muted := !abrupt } }
      t
    else s)

/-- What a DAC output does (R166). -/
inductive DacDrive where
  | highZ | zero | ramp (up : Bool) | signal
  deriving DecidableEq, Repr

/-- The DAC outputs: the strongest action among the causes present. Without its domain, and from a reset on, a DAC is
high-impedance; a muted one is held at mid-code with no differential swing; a host mute and an unmute ramp (R166). -/
def State.dacDrive (s : State) : DacDrive :=
  if bit s.causes 4 || bit s.causes 5 then .highZ
  else if s.tx.muted then (match s.tx.ramping with | some up => .ramp up | none => .zero)
  else .signal

/-- TX_ENABLE's drive: none while it is high-impedance, else its level (R165, R538). -/
def State.txEnablePin (s : State) : Option Bool :=
  if s.pow.configured then some (s.rdB 0x2400 7 != s.rdB 0x2400 3) else none

/-! ### Low-power transmit (R167) -/

/-- The main signal is scaled down, on entry to DISCOVER from QUIET or TEST and at each acquisition restart. In the
legacy profiles the attenuation is 0 dB and bit 4 is set on entry (R167). -/
def State.lowPower (s : State) : State :=
  let legacy := decide (s.cfg.profile ≠ 0)
  let t : State := { s with tx := { s.tx with
    attenuation := if legacy then 0 else s.rdN 0x2400 4, rising := false } }
  (t.wrBit 0x1001 7 4 legacy)

/-- The condition on which low-power transmit is left (R167). -/
def State.mayRise (s : State) : Bool :=
  s.allInFrame && s.threads.all fun k => s.txStatus k != 1 || !bit s.frm.remoteDefect k

/-- LOW_POWER_EXIT (R167). With no attenuation left there is no step to wait for, and bit 4 is set at once. -/
def execLowPowerExit (s : State) : Host.Outcome State Fault Refusal :=
  .next (if s.on 14 && !s.rdBit 0x1001 7 4 && s.mayRise then
      let t : State := { s with tx := { s.tx with rising := decide (s.tx.attenuation ≠ 0) } }
      (t.wrBit 0x1001 7 4 (decide (s.tx.attenuation = 0)))
    else s)

/-- LOW_POWER_RISE_STEP: 0.5 dB more; at full level bit 4 of 1001:07 is set (R167). -/
def execLowPowerRiseStep (s : State) : Host.Outcome State Fault Refusal :=
  .next (if s.tx.rising then
      let a := s.tx.attenuation - 5
      let t : State := { s with tx := { s.tx with attenuation := a, rising := decide (a ≠ 0) } }
      (t.wrBit 0x1001 7 4 (decide (a = 0)))
    else s)

/-! ### Boundary work of the transmit chain -/

/-- The compensation tables swap at a boundary: engine Ek has made that of thread k from the dispersion the far end last
reported and the launch power declared, where it runs (R27, R156). -/
def State.nlTables (s : State) : State :=
  let ks := s.threads.filter fun k => s.itemRuns (k / 8)
  { s with tx := { s.tx with nlBasis := ks.foldl (fun l k => lput k (s.tx.farCd, s.rdI 0x2400 0x10) l) s.tx.nlBasis } }

/-- Shed step S2 sets the nonlinearity compensation to zero at the next boundary and restores it at the first boundary
after S2 is left (R156). -/
def State.txBoundary (s : State) : State :=
  let t : State := { s with tx := { s.tx with nlOff := decide (2 ≤ s.rdN 0x1011 1) } }
  t.nlTables.dpdModeBoundary.dpdSwap

/-- A compensation table made from a dispersion and a launch power (0.1 dBm): at most 64 pairs (s, t) with |s|, |t| ≤ 16, each
with C(s, t) in units of 2^-16. The spec gives no formula for C (log entry 147). -/
def nlTable (basis : Int × Int) : List (Int × Int × Sample) :=
  let f := fun (i : Nat) => Config.nlField basis.1 basis.2 i
  (List.range (f 0 % 65).toNat).map fun j =>
    (f (4 * j + 1) % 33 - 16, f (4 * j + 2) % 33 - 16, ⟨(f (4 * j + 3) : Rat) / 65536, (f (4 * j + 4) : Rat) / 65536⟩)

/-- The transmit table of thread k in force; empty before its first (R156). -/
def State.nlTableOf (s : State) (k : Nat) : List (Int × Int × Sample) :=
  match lget k s.tx.nlBasis with | some b => nlTable b | none => []

/-- The correction of R156 for one symbol: γ Σ C(s,t) x(n+s) x(n+t) conj(x(n+s+t)) over at most 64 pairs with |s|, |t| ≤ 16. -/
def nlCorrection (gamma : Rat) (pairs : List (Int × Int × Sample)) (x : Int → Sample) : Sample :=
  (sumOf ((pairs.filter fun p => decide (-16 ≤ p.1 ∧ p.1 ≤ 16 ∧ -16 ≤ p.2.1 ∧ p.2.1 ≤ 16)).take 64)
    fun p => p.2.2.mul ((x p.1).mul ((x p.2.1).mul (x (p.1 + p.2.1)).conj))).scale gamma

end Sys2Proof.Machine
end

