-- ==== Sys2Proof/Machine/Frame.lean ====
section
/-! DEFINITION. The line frame's layouts (spec/08_line_frame.md): checks, headers, overhead, map pages, calendars,
core headers and justification control words; and the state the receive chain and the framer share: masks, tenant
line records, remote defects and TEN_SSF. -/

namespace Sys2Proof.Machine

/-! ### Checks and scramblers -/

/-- One bit of the CRC-16 with x¹⁶ + x¹² + x⁵ + 1, most significant bit first (R233). -/
def crc16Step (c : Nat) (b : Bool) : Nat :=
  let top := xor (bit c 15) b
  let s := c * 2 % 65536
  if top then s ^^^ 0x1021 else s

/-- CRC-16 of bits, from a start value, with no final inversion (R233). -/
def crc16 (start : Nat) (l : List Bool) : Nat := l.foldl crc16Step start

/-- Bits [hi : lo] of a number, most significant first. -/
def bitsDown (v hi lo : Nat) : List Bool := (List.range (hi + 1 - lo)).map fun i => bit v (hi - i)

/-- Eight steps of the reflected CRC-32 of IEEE 802.3. -/
def crc32Byte : Nat → Nat → Nat
  | 0, c => c
  | n + 1, c => crc32Byte n (if bit c 0 then (c / 2) ^^^ 0xEDB88320 else c / 2)

/-- CRC-32 of IEEE 802.3 over bytes (R246, R349, R495). -/
def crc32 (b : List Byte) : Nat :=
  (b.foldl (fun c x => crc32Byte 8 (c ^^^ x.toNat)) 0xFFFFFFFF) ^^^ 0xFFFFFFFF

/-- A frame with the tag of a group inserted after the source address: EtherType 0x88B5 and the sequence; the FCS is made anew,
least significant byte first (R437, log entry 166). -/
def tagFrame (seq : Nat) (b : List Byte) : List Byte :=
  let x := b.take 12 ++ [0x88, 0xB5] ++ beBytes 4 seq ++ (b.drop 12).take (b.length - 16)
  x ++ (beBytes 4 (crc32 x)).reverse

/-- The sequence of a tagged frame, and the frame with the tag stripped and its FCS restored (R437). -/
def untagFrame (b : List Byte) : Option (Nat × List Byte) :=
  if beField b 12 2 = 0x88B5 then
    let x := b.take 12 ++ (b.drop 18).take (b.length - 22)
    some (beField b 14 4, x ++ (beBytes 4 (crc32 x)).reverse)
  else none

/-- One step of the LF scrambler x³¹ + x²⁸ + 1 (R230). -/
def scrambleStep (v : Nat) : Bool × Nat :=
  let b := xor (bit v 30) (bit v 27)
  (b, v * 2 % 2 ^ 31 + (if b then 1 else 0))

/-- Bits with the scrambler's sequence added, from its contents (R230). -/
def scrambleFrom : Nat → List Bool → List Bool
  | _, [] => []
  | v, b :: r => xor b (scrambleStep v).1 :: scrambleFrom (scrambleStep v).2 r

/-- The information bits of an LF of thread k scrambled, or descrambled (R230). -/
def scrambleLf (k : Nat) (l : List Bool) : List Bool := scrambleFrom (0x7FFFFFFF ^^^ k) l

/-! ### The header (R231 to R233) -/

/-- The fields of an LF header. -/
structure Header where
  thread : Nat
  index : Nat
  code : Nat
  state : Nat
  bits : Nat
  page : Nat
  low : Nat
  deriving DecidableEq, Repr

/-- The CRC of a header word over its bits [63:16]. -/
def headerCrc (w : Nat) : Nat := crc16 0xFFFF (bitsDown w 63 16)

/-- A word with the CRC of R233 in its low 16 bits. -/
def withCrc (w : Nat) : Nat := w / 65536 * 65536 + headerCrc w

/-- The native header word (R231). -/
def nativeHeader (h : Header) : Nat :=
  withCrc (0xA7 * 2 ^ 56 + h.thread * 2 ^ 51 + h.index * 2 ^ 47 + h.code * 2 ^ 40 + h.state * 2 ^ 38
    + (h.bits / 2 - 1) * 2 ^ 36 + h.page * 2 ^ 35 + h.low * 2 ^ 16)

/-- The legacy header word (R232). -/
def legacyHeader (h : Header) : Nat :=
  withCrc (0x3C5A * 2 ^ 48 + h.index * 2 ^ 44 + h.bits * 2 ^ 40 + h.low * 2 ^ 16)

/-- The fields read from a received header word (R231, R232). -/
def parseHeader (profile w : Nat) : Header :=
  if profile = 0 then
    { thread := field w 51 5, index := field w 47 4, code := field w 40 7, state := field w 38 2,
      bits := 2 * field w 36 2 + 2, page := field w 35 1, low := field w 16 16 }
  else
    { thread := 0, index := field w 44 4, code := 8 * field w 40 4, state := 0, bits := field w 40 4, page := 0,
      low := field w 16 16 }

/-- Whether the CRC of a header word matches. -/
def headerCrcOk (w : Nat) : Bool := decide (headerCrc w = w % 65536)

/-- Whether a header is valid for thread k of a carrier (R233). -/
def headerValid (c : Carrier) (k w : Nat) : Bool :=
  let h := parseHeader c.profile w
  headerCrcOk w && decide (h.bits = c.bits) &&
    (if c.profile = 0 then decide (field w 56 8 = 0xA7) && decide (h.thread = k) && codeOk c.bits h.code
     else decide (field w 48 16 = 0x3C5A))

/-! ### Map pages and calendars (R245 to R249) -/

/-- An entry of a map page (R246). -/
structure PageEntry where
  cbr : Bool
  sealed : Bool
  tenant : Nat
  count : Nat
  deriving DecidableEq, Repr

/-- The four bytes of a page entry. -/
def PageEntry.word (e : PageEntry) : Nat :=
  (if e.cbr then 2 ^ 31 else 0) + (if e.sealed then 2 ^ 30 else 0) + e.tenant * 2 ^ 16 + e.count

/-- The bytes of a page (R246). -/
def pageBytes (l : List PageEntry) : List Byte := beBytes 2 l.length ++ [0, 0] ++ l.flatMap fun e => beBytes 4 e.word

/-- The entries of a page. -/
def pageEntries (b : List Byte) : List PageEntry :=
  (List.range (beField b 0 2)).map fun e =>
    let w := beField b (4 + 4 * e) 4
    { cbr := bit w 31, sealed := bit w 30, tenant := field w 16 12, count := field w 0 16 }

/-- The digest of a page: CRC-32 over bytes 0 to 4 + 4E − 1 (R246). -/
def pageDigest (b : List Byte) : Nat := crc32 (b.take (4 + 4 * beField b 0 2))

/-- The empty page. -/
def emptyPage : List Byte := [0, 0, 0, 0]

/-- Segments a page needs: max(1, ceil(E / 254)) (R249). -/
def pageSegments (b : List Byte) : Nat := max 1 (ceilDiv (beField b 0 2) 254)

/-- Segment `g` of page number `n` as the map channel carries it: 1 024 bytes (R249). -/
def mapSegment (n g : Nat) (b : List Byte) : List Byte :=
  [BitVec.ofNat 8 (n * 128), BitVec.ofNat 8 g] ++ beBytes 2 (beField b 0 2) ++ beBytes 4 (pageDigest b)
    ++ padTo 1016 (slice (slice b 4 (4 * beField b 0 2)) (4 * 254 * g) 1016)

/-- The index of the largest number of a list, the first of equals. -/
def maxIndex : List Int → Nat
  | [] => 0
  | a :: r => if r.all fun x => decide (x ≤ a) then 0 else maxIndex r + 1

/-- One position of the calendar: every entry gains its count, the largest owns the position and loses w (R247). -/
def calendarStep (w : Nat) (counts : List Nat) (cur : List Int) : Nat × List Int :=
  let up := List.zipWith (fun a (c : Nat) => a + (c : Int)) cur counts
  let g := maxIndex up
  (g, up.modify g fun x => x - w)

/-- The owners of `n` positions from the entries' running values (R247). -/
def calendarFrom (w : Nat) (counts : List Nat) : Nat → List Int → List Nat
  | 0, _ => []
  | n + 1, cur =>
    let r := calendarStep w counts cur
    r.1 :: calendarFrom w counts n r.2

/-- The tenants of a page with the idle pseudo-entry 4 096 last, and their counts (R247). -/
def calendarEntries (w : Nat) (l : List PageEntry) : List (Nat × Nat) :=
  (l.map fun e => (e.tenant, e.count)) ++ [(4096, w - (l.map fun e => e.count).sum)]

/-- The calendar of a thread: the owner of each position p = i × S + s (R245, R247). -/
def calendar (stitches : Nat) (l : List PageEntry) : List Nat :=
  let w := 16 * stitches
  let es := calendarEntries w l
  (calendarFrom w (es.map fun e => e.2) w (es.map fun _ => (0 : Int))).map fun g => (es.getD g (4096, 0)).1

/-! ### Packet and CBR containers (R252 to R256) -/

/-- The core header word of a PLI: PLI and cHEC, sent XOR 0x5A3C_96E1 (R252). -/
def coreHeader (pli : Nat) : Nat := (pli * 65536 + crc16 0 (bitsDown pli 15 0)) ^^^ 0x5A3C96E1

/-- The PLI of a core header word whose cHEC matches and whose PLI is valid (R252). -/
def coreParse (w : Nat) : Option Nat :=
  let v := w ^^^ 0x5A3C96E1
  let pli := v / 65536
  if crc16 0 (bitsDown pli 15 0) = v % 65536 ∧ (pli = 0 ∨ pli = 4 ∨ (64 ≤ pli ∧ pli ≤ 16000)) then some pli else none

/-- The PLI a core header with a single-bit error carried (R253). -/
def coreCorrect (w : Nat) : Option Nat := (List.range 32).findSome? fun i => coreParse (w ^^^ 2 ^ i)

/-- A justification control word (R254). -/
def jcWord (c phase : Nat) (csf replacement : Bool) : Nat :=
  withCrc (c * 2 ^ 32 + phase * 2 ^ 24 + (if csf then 2 ^ 23 else 0) + (if replacement then 2 ^ 22 else 0))

/-- Whether a demapper accepts a JC: CRC and C ≤ P (R257). -/
def jcOk (p w : Nat) : Bool := headerCrcOk w && decide (w / 2 ^ 32 ≤ p)

/-- Payload bits P of a CBR container of c positions: 1 024 c − 64, less 192 when sealed (R254). -/
def cbrPayload (c : Nat) (sealed : Bool) : Nat := 1024 * c - 64 - (if sealed then 192 else 0)

/-- Whether payload bit j of P carries a client bit when C are sent (R255). -/
def carriesClient (p c j : Nat) : Bool := decide (j * c % p < c)

/-- Whether a CBR client of nominal rate `r` b/s fits P bits per multiframe: P ≥ R_nom × (1 + 2 × 10⁻⁴) × duration
(R256). -/
def Carrier.cbrFits (c : Carrier) (r p : Nat) : Bool :=
  decide (r * 10002 * (16 * c.threads * c.lfBits) ≤ p * 10000 * (c.rate * c.bits * 1000000))

/-- Container payload bits per multiframe of `c` positions (R279). -/
def containerBits (c : Nat) (sealed : Bool) : Nat := 1024 * c - (if sealed then 192 else 0)

/-! ### Tenants on the line -/

/-- Whether tenant n is sealed by its own record (R278, R309). -/
def State.tenSealed (s : State) (n : Nat) : Bool := s.rdB (0x4000 + n) 3
/-- Whether tenant n is a CBR tenant. -/
def State.tenCbr (s : State) (n : Nat) : Bool := s.rdB (0x4000 + n) 2
/-- Whether tenant n is configured. -/
def State.tenOn (s : State) (n : Nat) : Bool := s.rdB (0x4000 + n) 1
/-- Positions of the single container of G1 and G2, which takes the whole payload of every LF: 16 × S (R111, R229, R280). -/
def State.wholePayload (s : State) : Nat := 16 * s.inForce.stitches 0
/-- Transmit positions of tenant n on thread k in force. In G1 and G2 tenant 0 holds the whole payload and the placement
entries are ignored (R111, R280). -/
def State.txPos (s : State) (n k : Nat) : Nat :=
  if s.cfg.profile = 0 then s.rdN (0x4000 + n) (0x20 + k) else if n = 0 ∧ k = 0 then s.wholePayload else 0
/-- Transmit positions of tenant n. -/
def State.txTotal (s : State) (n : Nat) : Nat := ((List.range 32).map (s.txPos n)).sum

/-- Transmit positions of tenant n on threads that S3 has not darkened (R304). -/
def State.txLit (s : State) (n : Nat) : Nat :=
  (((List.range 32).filter fun k => !decide (k ∈ s.grm.darkened)).map (s.txPos n)).sum

/-- The tenants that hold transmit positions, ascending: those whose record lists any (R278), or tenant 0 in G1 and G2
(R111). -/
def State.placed (s : State) : List Nat :=
  if s.cfg.profile ≠ 0 then [0] else uniq ((s.dict.filter fun p => decide (key 0x4000 0 ≤ p.1) && decide (p.1 < key 0x5000 0) && decide (0x20 ≤ p.1 % 256)
    && decide (p.1 % 256 < 0x40)).map fun p => p.1 / 256 - 0x4000)

/-- The page of thread k that given counts make, tenants ascending (R246, R268). -/
def State.buildPage (s : State) (tenants : List Nat) (count : Nat → Nat) : List Byte :=
  pageBytes ((tenants.filter fun n => decide (count n ≠ 0)).map fun n =>
    { cbr := s.tenCbr n, sealed := s.tenSealed n, tenant := n, count := count n })

/-- A page of thread k, by its subindex in 34C0+k; an empty string stands for the empty page. -/
def State.page (s : State) (k sub : Nat) : List Byte :=
  if s.rdS (0x34C0 + k) sub = [] then emptyPage else s.rdS (0x34C0 + k) sub

/-- The entries of the receive page in force of thread k; in G1 and G2 the one container of tenant 0 (R111). -/
def State.rxEntries (s : State) (k : Nat) : List PageEntry :=
  if s.cfg.profile = 0 then pageEntries (s.page k 3)
  else if k = 0 then [{ cbr := s.tenCbr 0, sealed := false, tenant := 0, count := s.wholePayload }]
  else []

/-- Whether tenant n has receive positions on thread k. -/
def State.rxHas (s : State) (n k : Nat) : Bool := (s.rxEntries k).any fun e => e.tenant == n

/-- Receive positions of tenant n over the pages in force (R278). -/
def State.rxTotal (s : State) (n : Nat) : Nat :=
  ((List.range 32).map fun k => (((s.rxEntries k).filter fun e => e.tenant == n).map fun e => e.count).sum).sum

/-- Receive positions of tenant n on threads whose band the far end has not announced dark (R304). -/
def State.rxLit (s : State) (n : Nat) : Nat :=
  (((List.range 32).filter fun k => !bit s.frm.shedMuted k).map fun k =>
    (((s.rxEntries k).filter fun e => e.tenant == n).map fun e => e.count).sum).sum

/-- The tenants that the receive pages in force name. -/
def State.rxTenants (s : State) : List Nat :=
  uniq ((List.range 32).flatMap fun k => (s.rxEntries k).map fun e => e.tenant)

/-- Whether tenant n is sealed on a native carrier (R309). -/
def State.sealedTenant (s : State) (n : Nat) : Bool := s.tenSealed n && decide (s.cfg.profile = 0)

/-! ### The shared part of the packet buffer and the hold buffers (R290, R315, R339) -/

/-- Sum of the reserves (7000:03). -/
def State.reserves (s : State) : Nat := (s.grm.queues.map fun q => q.2.reserve).sum
/-- The headroom (7000:04). -/
def State.headroom (s : State) : Nat :=
  (((List.range 16).filter fun p => s.rdN (0x7010 + p) 7 != 0).map fun p => s.rdN (0x7010 + p) 0x0B).sum
/-- The shared part (7000:05). -/
def State.sharedPart (s : State) : Nat := 262144 - s.reserves - s.headroom

/-- The sealed CBR tenants that hold receive positions, each of which needs a hold buffer (R315). -/
def State.holdTenants (s : State) : List Nat := s.rxTenants.filter fun n => s.tenOn n && s.tenCbr n && s.sealedTenant n
/-- Cells of the hold buffer of tenant n (R315). -/
def State.holdOf (s : State) (n : Nat) : Nat := 2 * ceilDiv (cbrPayload (s.rxTotal n) true + 64) 1984
/-- Whether tenant n has its hold buffer, or needs none; otherwise its stitches are discarded (R339). -/
def State.holdFits (s : State) (n : Nat) : Bool := !s.holdTenants.contains n || s.grm.holds.contains n
/-- Cells the hold buffers of sealed CBR tenants take from the shared part (R315). -/
def State.holdCells (s : State) : Nat := ((s.grm.holds.filter s.holdTenants.contains).map s.holdOf).sum
/-- Cells that the hold buffers of every sealed CBR tenant with receive positions ask for (R315). -/
def State.holdAsked (s : State) : Nat := (s.holdTenants.map s.holdOf).sum

/-- The hold buffers after the pages in force have changed from `was`. Those held stay while they do not grow; the others are
reserved in ascending order where 16 384 cells of the shared part stay, and those that do not fit wait (R339, log entry 165). -/
def State.reserveHolds (s was : State) : State :=
  let keep := s.grm.holds.filter fun n => s.holdTenants.contains n && decide (s.holdOf n ≤ was.holdOf n)
  let more := s.holdTenants.filter fun n => !keep.contains n
  { s with grm := { s.grm with
    holds := more.foldl (fun l n => if 16384 + ((l ++ [n]).map s.holdOf).sum ≤ s.sharedPart then l ++ [n] else l) keep } }

/-- A tenant of which the line has seen nothing. -/
def TenLine.start : TenLine :=
  { delin := { st := 0, head := [], left := 0, frame := [], bad := false }, parts := [], cipher := [],
    held := none, pendErr := none, lodBad := 0, lodGood := 0, csfSet := 0, csfClear := 0, jcBad := 0, jcGood := 0, rdiSet := 0,
    rdiClear := 0, lastC := 0, mfLost := true, mfSync := false, mfCsf := false, mfJc := 0, mfErr := false, secMf := 0, secBad := 0,
    secMapped := false, waiting := [], sent := [], sendCsf := false }

/-- The line record of tenant n. -/
def State.ten (s : State) (n : Nat) : TenLine := lgetD n TenLine.start s.frm.tenants
/-- The line record of tenant n changed. -/
def State.setTen (s : State) (n : Nat) (t : TenLine) : State :=
  { s with frm := { s.frm with tenants := lput n t s.frm.tenants } }

/-- A thread the framer has seen nothing of. -/
def HuntState.start : HuntState :=
  { expIdx := 0, expLow := 0, run := 0, miss := 0, entropy := 0, page := 0, mf := none, evalMf := none, lomRun := 0,
    lomCand := none, rdiSet := 0, rdiClear := 0, cmmBad := 0, cmmGood := 0, digest := 0, collected := none, secLf := 0,
    secBad := 0, secExcluded := false }

/-- The framer's state of thread k. -/
def State.hunt (s : State) (k : Nat) : HuntState := lgetD k HuntState.start s.frm.hunts
/-- The framer's state of thread k changed. -/
def State.setHunt (s : State) (k : Nat) (h : HuntState) : State :=
  { s with frm := { s.frm with hunts := lput k h s.frm.hunts } }

/-- The hunt state of thread k (R234): 0 off, 1 HUNT, 2 PRESYNC, 3 SYNC, 4 OOF. -/
def State.huntState (s : State) (k : Nat) : Nat := s.rdN (0x3450 + k) 1

/-! ### Masks, thread defects and TEN_SSF -/

/-- Whether thread k is masked: receive status 0 or 2, or its band announced dark (R191, R260). -/
def State.masked (s : State) (k : Nat) : Bool :=
  s.rxStatus k == 0 || s.rxStatus k == 2 || bit s.frm.shedMuted k || decide (k ∈ s.rx.maskHeld)

/-- Whether a thread may acquire: below T, receive status 1 or 3, and its band not announced dark (R193, R260). -/
def State.rxAcquires (s : State) (k : Nat) : Bool :=
  decide (k < s.cfg.threads) && (s.rxStatus k == 1 || s.rxStatus k == 3) && !bit s.frm.shedMuted k

/-- Whether a thread is configured to be received: below T, receive status 1 or 3, and not masked. -/
def State.rxActive (s : State) (k : Nat) : Bool :=
  decide (k < s.cfg.threads) && (s.rxStatus k == 1 || s.rxStatus k == 3) && !s.masked k

/-- Whether any of RX_LOS, RX_INVALID and RX_CLK_LOL is raised. -/
def State.rxDown (s : State) : Bool := s.rdBit 0x2800 0x0D 0 || s.rdBit 0x2800 0x0D 1 || s.rdBit 0x2800 0x0D 4

/-- The thread defects that raise TEN_SSF and the remote defect: THR_LOL, LF_LOF, LF_LOM, FEC_EXC (R258, R259). -/
def State.threadBad (s : State) (k : Nat) : Bool :=
  s.rdBit (0x2810 + k) 0x0A 0 || s.rdBit (0x3450 + k) 2 0 || s.rdBit (0x3450 + k) 2 1 || s.rdBit (0x3010 + k) 0x0B 2

/-- The condition of TEN_SSF for tenant n (R258). -/
def State.ssfOf (s : State) (n : Nat) : Bool :=
  s.rxDown || (s.rdBit 0x3440 7 0 && s.rdB 0x3440 4) || (List.range 32).any fun k => s.rxHas n k && s.threadBad k

/-- TEN_SSF of every tenant on the line brought up to date (R258). -/
def State.ssf (s : State) : State :=
  (uniq (s.rxTenants ++ (s.frm.tenants.map fun p => p.1))).foldl
    (fun t n => t.defect (0x6000 + n) 0x0D 0 (decide (t.rxTotal n ≠ 0) && s.ssfOf n)) s

/-- The remote defect field sent (R259). -/
def State.remoteDefectSent (s : State) : Nat :=
  maskOf 32 fun k =>
    decide (k ∈ s.rx.readmitFar) ||
      (s.rxStatus k == 1 && decide (k < s.cfg.threads) && (s.threadBad k || decide (s.rdN 0x2800 0x0D % 32 ≠ 0)))

/-- The shed-muted field sent (R259). -/
def State.shedMutedSent (s : State) : Nat := maskOf 32 fun k => decide (k ∈ s.grm.darkened)

/-- Whether the tenant remote defect bit of tenant n is sent (R261): TEN_SSF, TEN_LOD, TEN_CSF, TEN_JC or a tag failure
defect. -/
def State.tenantRdiSent (s : State) (n : Nat) : Bool :=
  decide (s.rdN (0x6000 + n) 0x0D % 16 ≠ 0) || decide (s.rdN (0x5000 + n) 0x14 % 4 ≠ 0)

/-! ### What the sender puts in an LF (R229 to R249) -/

/-- The state field of the header of thread k (R231). -/
def State.headerState (s : State) (k : Nat) : Nat := match s.txStatus k with | 2 => 1 | 3 => 2 | _ => 0

/-- The header word of LF `i` of thread k in the present multiframe (R231, R232). -/
def State.headerSent (s : State) (k i : Nat) : Nat :=
  let c := s.inForce
  let h : Header := { thread := k, index := i, code := c.code k, state := s.headerState k, bits := c.bits,
                      page := s.rdN (0x34C0 + k) 5, low := s.mf % 65536 }
  if c.profile = 0 then nativeHeader h else legacyHeader h

/-- Bits packed into bytes, the first bit the most significant. -/
def bitsBytes (l : List Bool) : List Byte :=
  (List.range (l.length / 8)).map fun j => BitVec.ofNat 8 ((List.range 8).foldl (fun a i => a * 2 + (if l.getD (8 * j + i) false then 1 else 0)) 0)

/-- The transaction channel of a message (R241): 256 bytes. -/
def proposeBytes (type : Nat) (p : Propose) : List Byte :=
  padTo 256 ([BitVec.ofNat 8 type, 0] ++ beBytes 4 p.num ++ beBytes 8 p.target ++ beBytes 4 p.entMask
    ++ beBytes 4 p.stateMask ++ beBytes 4 p.newStates ++ beBytes 4 p.mapMask
    ++ (List.range 32).flatMap (fun k => beBytes 1 (p.codes.getD k 0))
    ++ (List.range 32).flatMap (fun k => beBytes 4 (p.digests.getD k 0)))

/-- The acknowledgement channel (R242): 16 bytes. -/
def ackBytes (type reason num target : Nat) : List Byte :=
  [BitVec.ofNat 8 type, BitVec.ofNat 8 reason] ++ beBytes 4 num ++ beBytes 8 target ++ [0, 0]

/-- The overhead of LF `i` of thread k in the present multiframe: 2 048 bytes (R237). The SSM code, the APS channel, the
time-transfer channel, the transaction and acknowledgement channels and the map segment are handed in. -/
def State.overheadSent (s : State) (k i ssm segment : Nat) (aps times trans ack : List Byte) : List Byte :=
  let legacy := decide (s.cfg.profile ≠ 0)
  let pg := s.rdN (0x34C0 + k) 5
  let cut := fun (b : List Byte) => if legacy then List.replicate b.length 0 else b
  let g0 := pageSegments (s.page k 1)
  beBytes 8 s.mf ++ [BitVec.ofNat 8 (i * 16 + pg * 8), BitVec.ofNat 8 ssm] ++ beBytes 4 s.remoteDefectSent
    ++ cut (beBytes 4 s.shedMutedSent ++ beBytes 4 (pageDigest (s.page k 1)) ++ beBytes 4 (pageDigest (s.page k 2)))
    ++ slice (padTo 64 (s.rdS 0x3440 5)) (4 * i) 4 ++ [0, 0]
    ++ cut (bitsBytes ((List.range 256).map fun j => s.tenantRdiSent (256 * i + j)))
    ++ padTo 8 (aps.take 8) ++ padTo 36 (times.take 36) ++ List.replicate 20 0
    ++ cut (padTo 256 (trans.take 256) ++ padTo 16 (ack.take 16) ++ List.replicate 624 0
      ++ (if segment % (g0 + pageSegments (s.page k 2)) < g0 then mapSegment pg (segment % (g0 + pageSegments (s.page k 2))) (s.page k 1)
          else mapSegment (1 - pg) (segment % (g0 + pageSegments (s.page k 2)) - g0) (s.page k 2)))

end Sys2Proof.Machine
end

