-- ==== Sys2Proof/Machine/Transact.lean ====
section
/-! DEFINITION. Drida messages and answers (spec/02_dictionary.md R56 to R60, R69 to R72, R77), and staged transactions
(R82 to R90, spec/08_line_frame.md R241 to R244): their outcome and withdrawal, and the line messages of the handshake. -/

namespace Sys2Proof.Machine

/-! ### Messages (R56, R57) -/

/-- The header of a message: 24 bytes (R56). `body` is the length from byte 24 to the tag, `count` the items. -/
def headerBytes (op flags status seq body slot count retry tag counter : Nat) : List Byte :=
  beBytes 1 1 ++ beBytes 1 op ++ beBytes 1 flags ++ beBytes 1 status ++ beBytes 2 seq ++ beBytes 2 body ++ beBytes 1 slot
    ++ beBytes 1 count ++ beBytes 2 retry ++ beBytes 4 tag ++ beBytes 8 counter

/-- Bytes padded with zeros to a multiple of 4 (R57). -/
def padFour (b : List Byte) : List Byte := padTo (ceilDiv b.length 4 * 4) b

/-- A READ response item (R57). -/
def RspItem.readBytes (x : RspItem) : List Byte :=
  padFour (beBytes 2 x.idx ++ beBytes 1 x.sub ++ beBytes 1 x.status.code ++ beBytes 1 x.ty ++ [0]
    ++ beBytes 2 x.val.length ++ x.val)

/-- A response item of an opcode (R57). -/
def RspItem.bytes (op : Nat) (x : RspItem) : List Byte :=
  match op with
  | 1 => x.readBytes
  | 3 => padFour (beBytes 2 x.idx ++ beBytes 1 x.sub ++ beBytes 1 x.status.code ++ beBytes 4 x.off
      ++ beBytes 2 x.val.length ++ [0, 0] ++ x.val)
  | _ => beBytes 2 x.idx ++ beBytes 1 x.sub ++ beBytes 1 x.status.code

/-- A response without its tag: header and body (R56, R57). `slot` and `counter` are those of the authentication. -/
def responseBytes (op seq : Nat) (st : Status) (retry tag : Nat) (auth : Option (Nat × Nat)) (items : List RspItem) :
    List Byte :=
  let body := items.flatMap fun x => x.bytes op
  let flags := match auth with | some _ => 3 | none => 1
  headerBytes op flags st.code seq body.length (match auth with | some a => a.1 | none => 0xFF) items.length retry tag
    (match auth with | some a => a.2 | none => 0) ++ body

/-- What goes out as a message, whole (R56, R77). A notification is never authenticated (log entry 137). -/
def Out.message : Out → List Byte
  | .response _ op seq st retry tag auth items =>
    responseBytes op seq st retry tag (auth.map fun a => (a.slot, a.counter)) items
      ++ (match auth with | some a => a.tag | none => [])
  | .notify number seq _ item =>
    headerBytes 7 4 0 seq item.readBytes.length 0xFF 1 0 number 0 ++ item.readBytes
  | _ => []

/-- The tag of a message under a management slot: the first 128 bits of HMAC-SHA-384 (R77). -/
def State.messageTag (s : State) (slot : Nat) (b : List Byte) : List Byte :=
  (hmac (match lget slot s.sls.mgmt with | some x => x.key | none => []) b).take 16

/-- A response made: an authenticated request is answered with an authenticated response under the same slot and with the
device's own message counter (R77). -/
def State.makeResponse (s : State) (src : Source) (op seq : Nat) (slot : Option Nat) (st : Status) (retry tag : Nat)
    (items : List RspItem) : Out × State :=
  match slot with
  | none => (.response src op seq st retry tag none items, s)
  | some m =>
    let c := lgetD m 0 s.srv.txCounter + 1
    let mac := s.messageTag m (responseBytes op seq st retry tag (some (m, c)) items)
    (.response src op seq st retry tag (some { slot := m, counter := c, tag := mac }) items,
      { s with srv := { s.srv with txCounter := lput m c s.srv.txCounter } })

/-- A response whose items have changed since it was made, with its tag made again. -/
def State.retag (s : State) (o : Out) : Out :=
  match o with
  | .response src op seq st retry tag (some a) items =>
    let mac := s.messageTag a.slot (responseBytes op seq st retry tag (some (a.slot, a.counter)) items)
    .response src op seq st retry tag (some { a with tag := mac }) items
  | o => o

/-! ### Answers (R60, R69, R71, R72) -/

/-- An answer leaves by its path: a mailbox response stands in MBX_RSP with vector 0, and an MDIO operation is done
(R69, R72). -/
def State.sendAnswer (s : State) (o : Out) : State :=
  match o with
  | .response .mailbox .. =>
    let b := o.message
    let t : State := { s with srv := { s.srv with
      mbxRsp := b, mbxRspLen := b.length, mbxStatus := setBit (clearBit s.srv.mbxStatus 0) 1 } }
    (t.emit o).whenB (bit t.srv.mbxCtrl 1) fun u => u.vector 0
  | .mdio st ty val =>
    let t : State := { s with srv := { s.srv with winStatus := 0x4000 + st % 256 } }
    t.emit (.mdio st ty val)
  | _ => s.emit o

/-- Keep an answer for repeats of its request: the last 64 pairs (R60). -/
def State.keepAnswer (s : State) (src : Source) (seq : Nat) (o : Out) : State :=
  { s with srv := { s.srv with
    served := ({ src := src, seq := seq, answer := o } :: s.srv.served).take 64
    held := s.srv.held.filter fun p => decide (p ≠ (src, seq)) } }

/-- The answer of a served request: sent, kept, and counted (R60, R91). -/
def State.respond (s : State) (src : Source) (seq : Nat) (o : Out) : State :=
  ((s.keepAnswer src seq o).sendAnswer o).inc32 0x1030 6

/-- An answer that waited for something beyond the request: a message is answered now, a command row sends its status. -/
def State.answered (s : State) (o : Out) : State :=
  match o with
  | .response src _ seq .. => s.respond src seq o
  | _ => s.sendAnswer o

/-! ### Staged transactions -/

/-- The number of transactions staged, as 1020:05 reads it (R91). -/
def State.stagedReport (s : State) : State := s.wrN 0x1020 5 s.tra.staged.length

/-- Whether an item of a transaction changes thread k: its entropy, its state, its power offset, or positions of a tenant on
it. -/
def changesThread (k : Nat) (p : Nat × DVal) : Bool :=
  p.1 == key (0x3410 + k) 2 || p.1 == key (0x3410 + k) 4 || p.1 == key (0x2410 + k) 1 ||
    (decide (key 0x4000 0 ≤ p.1) && decide (p.1 < key 0x5000 0) && p.1 % 256 == 0x20 + k)

/-- Whether an item of a transaction changes the transmit map of thread k. -/
def changesMap (k : Nat) (p : Nat × DVal) : Bool :=
  decide (key 0x4000 0 ≤ p.1) && decide (p.1 < key 0x5000 0) && p.1 % 256 == 0x20 + k

/-- 34C0+k:06 of every thread: whether a staged transaction changes its map (R268). -/
def State.mapReport (s : State) : State :=
  s.each (List.range 32) fun t k => t.wrB (0x34C0 + k) 6 (t.tra.staged.any fun x => x.items.any (changesMap k))

/-- A transaction is finished: its outcome is recorded and its request answered once (R89, R91). -/
def State.finish (s : State) (x : Staged) (st : Status) : State :=
  let t : State := { s with tra := { s.tra with staged := s.tra.staged.filter fun y => decide (y.num ≠ x.num) } }
  let t := ((t.stagedReport.wrN 0x1020 6 st.code).wrN 0x1020 7 x.num).mapReport
  let r := t.makeResponse x.src 5 x.seq x.slot st 0 x.num []
  r.2.respond x.src x.seq r.1

/-- The line-visible part of a staged transaction (R241). -/
def State.proposal (s : State) (x : Staged) : Propose :=
  let at_ := fun (k sub : Nat) => lget (key (0x3410 + k) sub) x.items
  { num := x.num, target := x.target
    entMask := maskOf 32 fun k => (at_ k 2).isSome
    stateMask := maskOf 32 fun k => (at_ k 4).isSome
    newStates := maskOf 32 fun k => decide (at_ k 4 = some (.num 1))
    mapMask := maskOf 32 fun k => x.items.any (changesMap k)
    codes := (List.range 32).map fun k => match at_ k 2 with | some v => v.int.toNat | none => 0
    digests := (List.range 32).map fun k => if x.items.any (changesMap k) then pageDigest (s.page k 2) else 0 }

/-! ### What a key of an item names -/

/-- Thread and subindex of an item on a thread record (3410+k). -/
def threadItem (k : Nat) : Option (Nat × Nat) :=
  if key 0x3410 0 ≤ k ∧ k < key 0x3430 0 then some (k / 256 - 0x3410, k % 256) else none

/-- Tenant and thread of an item on 4000+n:20+k. -/
def placeItem (k : Nat) : Option (Nat × Nat) :=
  if key 0x4000 0 ≤ k ∧ k < key 0x5000 0 ∧ 0x20 ≤ k % 256 then some (k / 256 - 0x4000, k % 256 - 0x20) else none

/-- Tenant of an item on 5000+n:02. -/
def epochItem (k : Nat) : Option Nat :=
  if key 0x5000 0 ≤ k ∧ k < key 0x6000 0 ∧ k % 256 = 2 then some (k / 256 - 0x5000) else none

/-! ### The settings at the target (R84, R104, R300) -/

/-- The value of an entry at a target multiframe: that of the items, else of the latest transaction staged for an earlier
target that writes it, else that in force. -/
def State.atTarget (s : State) (target : Nat) (items : List (Nat × DVal)) (k : Nat) : DVal :=
  let staged := fun (best : Option (Nat × DVal)) (x : Staged) =>
    match lget k x.items with
    | some v => if x.target < target && (match best with | some b => decide (b.1 < x.target) | none => true)
        then some (x.target, v) else best
    | none => best
  match lget k items with
  | some v => v
  | none => match s.tra.staged.foldl staged none with | some b => b.2 | none => s.getK k

/-- The same as an unsigned number. -/
def State.atN (s : State) (target : Nat) (items : List (Nat × DVal)) (idx sub : Nat) : Nat :=
  (s.atTarget target items (key idx sub)).int.toNat

/-- The carrier at the target: entropies and states as they will be in force. -/
def State.carrierAt (s : State) (target : Nat) (items : List (Nat × DVal)) : Carrier :=
  { s.inForce with
    codes := (List.range 32).map fun k => s.atN target items (0x3410 + k) 2
    states := (List.range 32).map fun k => s.atN target items (0x3410 + k) 4 }

/-- The targets at which a set is judged: the transaction's own, and those of the transactions staged for later multiframes, whose
settings then join its own (R2, R84, R104). -/
def State.judgedTargets (s : State) (target : Nat) : List Nat :=
  target :: (s.tra.staged.filter fun x => decide (target < x.target)).map fun x => x.target + 1

/-- Whether the carrier stays at or below the limit of the ordering code at a target (R2). -/
def State.capacityOk (s : State) (items : List (Nat × DVal)) (target : Nat) : Bool :=
  let c := s.carrierAt target items
  !s.is1608 || !c.above1608 (c.sumStitches fun k => c.states.getD k 1 == 1)

/-- A staged transaction is withdrawn: a two-ended one sends WITHDRAW in each of the four multiframes after it (R87, R88,
R243). -/
def State.withdrawSelf (s : State) (x : Staged) (st : Status) : State :=
  let t := s.finish x st
  if x.twoEnded then { t with tra := { t.tra with withdrawn := t.tra.withdrawn ++ [(s.proposal x, 4)] } } else t

/-- The staged transaction with the earliest target that changes a thread and with which the carrier would now exceed the limit
of the ordering code: one that had counted on another that is staged no more (R2). -/
def State.overLimit (s : State) : Option Staged :=
  (s.tra.staged.filter fun y => y.items.any (fun i => (threadItem i.1).isSome) && !s.capacityOk y.items y.target).foldl
    (fun b y => match b with | some z => if y.target < z.target then some y else b | none => some y) none

/-- No carrier above the limit is left to commit: what a withdrawal leaves over the limit is withdrawn with it, ABORTED (R2, log
entry 176). -/
def State.withdrawOver : Nat → State → State
  | 0, s => s
  | n + 1, s => match s.overLimit with
    | some y => State.withdrawOver n (s.withdrawSelf y .aborted)
    | none => s

/-- A staged transaction is withdrawn, with those that it leaves over the limit of the ordering code (R2, R87, R88). -/
def State.withdrawOne (s : State) (x : Staged) (st : Status) : State :=
  if s.tra.staged.any fun y => y.num == x.num then (s.withdrawSelf x st).withdrawOver 8 else s

/-- Every staged transaction that satisfies `p` is withdrawn with a status (R88). -/
def State.withdraw (s : State) (p : Staged → Bool) (st : Status) : State :=
  s.each (s.tra.staged.filter p) fun t x => t.withdrawOne x st

/-- Every staged transaction is withdrawn with ABORTED (R88). -/
def State.withdrawAll (s : State) : State := s.withdraw (fun _ => true) .aborted

/-- Two-ended transactions are withdrawn when the line leaves SERVICE (R88). -/
def State.withdrawTwoEnded (s : State) : State := s.withdraw (fun x => x.twoEnded) .aborted

/-- A thread loses frame before the acknowledgement of a two-ended transaction that changes it (R88). -/
def State.withdrawThread (s : State) (k : Nat) : State :=
  s.withdraw (fun x => x.twoEnded && !x.acked && x.items.any (changesThread k)) .aborted

/-- Shed step S3 darkens a thread that a staged transaction changes (R88, R536). -/
def State.withdrawDark (s : State) (k : Nat) : State :=
  s.withdraw (fun x => x.items.any (changesThread k)) .aborted

/-- The threads that a staged part re-admits: their new state is 1. -/
def readmits (p : Propose) : List Nat := (bitsOf 32 p.stateMask).filter fun k => bit p.newStates k

/-- One staged part of the far end discarded; a thread staged for re-admission follows its receive status again, and its
island is gated (R87, R244, R259). -/
def State.dropPart (s : State) (x : FarPart) : State :=
  let t : State := { s with
    tra := { s.tra with far := s.tra.far.filter fun y => decide (y.prop.num ≠ x.prop.num) }
    rx := { s.rx with readmitFar := s.rx.readmitFar.filter fun k => !((readmits x.prop).contains k && s.rxStatus k != 3) } }
  t.each ((readmits x.prop).filter fun k => s.rxStatus k == 0) fun u k => u.gateThread k

/-- What the transaction channel carries in LF `i` of the multiframe in progress: a WITHDRAW in each of the last LFs, one for each
transaction withdrawn in the four multiframes before; in the others the CONFIRMs in turn, or where there are none the
PROPOSEs in turn (R241, R243, log entry 161). -/
def State.transactionSent (s : State) (i : Nat) : List Byte :=
  let ws := (s.tra.withdrawn.filter fun w => decide (w.2 < 4)).take 16
  let two := s.tra.staged.filter fun x => x.twoEnded
  let cs := two.filter fun x => x.acked && decide (s.mf < x.target) && decide (x.target ≤ s.mf + 4)
  let ps := two.filter fun x => !x.acked
  let turn := fun (type : Nat) (l : List Staged) => (l[(16 * s.mf + i) % l.length]?).map fun x => proposeBytes type (s.proposal x)
  let w := ws[i + ws.length - 16]?
  if 16 ≤ i + ws.length then (match w with | some x => proposeBytes 3 x.1 | none => [])
  else match turn 2 cs with
    | some b => b
    | none => (turn 1 ps).getD []

/-- What the acknowledgement channel carries in LF `i`: the answers whose targets the received multiframe has not reached, in
turn (R242). -/
def State.ackSent (s : State) (i : Nat) : List Byte :=
  let l := s.tra.answers.filter fun a => decide (s.rdN 0x3440 0x0D < a.target)
  match l[(16 * s.mf + i) % l.length]? with
  | some a => ackBytes a.type a.reason a.num a.target
  | none => []

/-- The far end answers a PROPOSE; a later answer to the same transaction takes its place, and answers whose target has passed
are kept no longer (R242). -/
def State.answer (s : State) (num target : Nat) (st : Status) : State :=
  let a : Answer := { type := if st = .done then 1 else 2, reason := st.code, num := num, target := target }
  let t : State := { s with tra := { s.tra with
    answers := (s.tra.answers.filter fun b => decide (b.num ≠ num) && decide (s.rdN 0x3440 0x0D < b.target)) ++ [a] } }
  if st = .done then t.emit (.ackLine num target) else (t.inc32 0x3440 0x0C).emit (.refuseLine num target st.code)

/-- Messages of the transaction channel in the multiframe that begins: CONFIRM of each transaction 1 to 4 ahead, then
WITHDRAW, then PROPOSE of what is not acknowledged (R243). -/
def State.channelMessages (s : State) : State :=
  let two := s.tra.staged.filter fun x => x.twoEnded
  let t := s.each (two.filter fun x => x.acked && decide (s.mf < x.target) && decide (x.target ≤ s.mf + 4)) fun u x =>
    u.emit (.confirmLine x.num x.target)
  let t : State := { t with tra := { t.tra with
    withdrawn := (t.tra.withdrawn.filter fun w => decide (w.2 ≠ 0)).map fun w => (w.1, w.2 - 1) } }
  let t := t.each t.tra.withdrawn fun u w => u.emit (.withdrawLine w.1.num)
  t.each (two.filter fun x => !x.acked) fun u x => (u.emit (.proposeLine (u.proposal x))).inc32 0x3440 8

/-- ACK_RECEIVE: an ACK counts only when its number and target match a staged transaction (R243). -/
def execAckReceive (num target : Nat) (s : State) : Host.Outcome State Fault Refusal :=
  .next (if s.tra.staged.any fun x => x.twoEnded && x.num == num && x.target == target then
      let t : State := { s with tra := { s.tra with
        staged := s.tra.staged.map fun x => if x.num = num ∧ x.target = target then { x with acked := true } else x } }
      t.inc32 0x3440 9
    else s)

/-- REFUSE_RECEIVE: the transaction is withdrawn with ABORTED and the far end's reason kept (R87). -/
def execRefuseReceive (num target reason : Nat) (s : State) : Host.Outcome State Fault Refusal :=
  .next (match s.tra.staged.find? fun x => x.twoEnded && x.num == num && x.target == target with
    | some x => ((s.inc32 0x3440 0x0A).wrN 0x1020 9 (reason % 256)).withdrawOne x .aborted
    | none => s)

/-- ACK_DEADLINE: no acknowledgement by target − 4 (R87). -/
def execAckDeadline (num : Nat) (s : State) : Host.Outcome State Fault Refusal :=
  .next (match s.tra.staged.find? fun x => x.twoEnded && x.num == num && !x.acked with
    | some x => s.withdrawOne x .tooLate
    | none => s)

/-- CONFIRM_RECEIVE: a CONFIRM in an accepted LF of multiframes target − 4 to target − 1 lets the part swap (R244). -/
def execConfirmReceive (num target : Nat) (s : State) : Host.Outcome State Fault Refusal :=
  .next (
    let m := s.rdN 0x3440 0x0D
    if m < target ∧ target ≤ m + 4 then
      { s with tra := { s.tra with
        far := s.tra.far.map fun x => if x.prop.num = num ∧ x.prop.target = target then { x with confirmed := true } else x } }
    else s)

/-- WITHDRAW_RECEIVE: the staged part is discarded at once (R244). -/
def execWithdrawReceive (num : Nat) (s : State) : Host.Outcome State Fault Refusal :=
  .next (match s.tra.far.find? fun x => x.prop.num == num with
    | some x => s.dropPart x
    | none => s)

/-- CONFIRM_DEADLINE: no confirmation by the target multiframe, and the staged part is discarded (R87). -/
def execConfirmDeadline (num : Nat) (s : State) : Host.Outcome State Fault Refusal :=
  .next (match s.tra.far.find? fun x => x.prop.num == num && !x.confirmed with
    | some x => s.dropPart x
    | none => s)

end Sys2Proof.Machine
end

