-- ==== Sys2Proof/Machine/Receive.lean ====
section
/-! DEFINITION. Receive signal processing (spec/06_receive.md): acquisition, the receive defects, re-acquisition, the
slow corrections, latency, demapping rules, and the easel. -/

namespace Sys2Proof.Machine

/-! ### Formulas -/

/-- CD_max in ps/nm, rounded down (R177). -/
def cdMax (rate : Nat) : Nat := min (25000 * 300000 * 300000 / (rate * rate)) 400000

/-- Equaliser taps for T threads (R181). -/
def eqTaps (t : Nat) : Nat := if t ≤ 1 then 47 else if t = 2 then 31 else if t ≤ 4 then 23 else 15

/-- Mean DGD tolerance in 0.1 ps, scaled as 300 GBd / B (R181). -/
def dgdTolerance (t rate : Nat) : Nat :=
  (if t ≤ 1 then 400 else if t = 2 then 550 else if t ≤ 4 then 700 else 800) * 300000 / rate

/-- Group delay in quarter samples and pipeline cycles of decimation and resampler (R176). -/
def resamplerDelay (d len : Nat) : Nat × Nat :=
  match d, len with
  | 1, 0 => (16, 10) | 1, 1 => (32, 12) | 1, _ => (64, 16)
  | 2, 0 => (38, 18) | 2, 1 => (54, 20) | 2, _ => (86, 24)
  | _, 0 => (49, 24) | _, 1 => (65, 26) | _, _ => (97, 30)

/-- The pipeline latency of 2800:0E in ps, to the nearest (R194). The sum is formed over the denominator 180 B. -/
def pipelineLatency (c : Carrier) (len : Nat) : Nat :=
  let single := decide (c.threads ≤ 1)
  let r := resamplerDelay (c.factor c.adc) len
  let cycles := 24 + 16 + r.2 + 640 + (if single then 0 else 48) + 16 + 24 + 20 + 12
  let quarters := 4 * 8 + r.1 + 4 * 65536
  let symbols := (if single then 0 else 12) + 16 + 16
  let half := (eqTaps c.threads - 1) / 2
  let num := cycles * 2560 * 60 * c.rate + quarters * 40000000 + symbols * c.threads * 180000000
    + (if single then half * 160000000 else half * c.threads * 144000000)
  (2 * num + 180 * c.rate) / (360 * c.rate)

/-- The group delay in ps, to the nearest, of operations 2 to 4, 7 and 8: the delays of R176, and the sample and symbol
terms that R194 gives the other three (R195, log entry 152). -/
def groupDelay (c : Carrier) (len : Nat) : Nat :=
  let single := decide (c.threads ≤ 1)
  let quarters := 4 * 8 + (resamplerDelay (c.factor c.adc) len).1
  let half := (eqTaps c.threads - 1) / 2
  let num := quarters * 40000000 + (if single then 0 else 12 * c.threads * 180000000)
    + (if single then half * 160000000 else half * c.threads * 144000000)
  (2 * num + 180 * c.rate) / (360 * c.rate)

/-- The timestamp correction of 2800:0F: the analogue input delay and the group delays of the configuration (R195). -/
def State.stampCorrection (s : State) : Nat := Config.analogueDelay + groupDelay s.shown (s.rdN 0x2800 2)

/-- The arrival at the ADC input balls of the sample with an index inside a block, whose first sample has the stamp, in
2^-16 ns: stamp + index / f_ADC − 2800:0F (R195). -/
def State.arrivalOf (s : State) (stamp index : Nat) : Nat :=
  let c := s.inForce
  stamp + index * 65536000 * 8 / (9 * c.rate * c.factor c.adc) - s.stampCorrection * 65536 / 1000

/-- LLR saturation of the demapper: 6-bit two's complement, ±31 (R185). -/
def llrSat (v : Int) : Int := max (-31) (min 31 v)

/-- Convergent rounding of `v` / 2^n: halves to the even value (R175). -/
def roundEven (v : Int) (n : Nat) : Int :=
  let q := v / (2 ^ n : Nat)
  let r := v % (2 ^ n : Nat)
  if 2 * r < (2 ^ n : Nat) then q else if (2 ^ n : Nat) < 2 * r then q + 1 else if q % 2 = 0 then q else q + 1

/-! ### The easel (R196, R197) -/

/-- Bytes per element and largest length of a capture point (R196). -/
def easelPoint (p : Nat) : Nat × Nat :=
  match p with | 0 => (4, 524288) | 4 => (4, 4096) | _ => (8, 262144)

/-- Elements a capture takes (R196). -/
def State.easelLength (s : State) : Nat := min (s.rdN 0x2840 3) (easelPoint (s.rdN 0x2840 1)).2

/-- The spacing served: 64 at least outside TEST (R197). -/
def State.easelSpacing (s : State) : Nat := if s.base == .test then s.rdN 0x2840 4 else max 64 (s.rdN 0x2840 4)

/-- Time of one element spacing in 2^-16 ns, rounded down: samples at f_ADC, samples at f_s, or thread symbols; a
spectrum has no spacing in time (R196). -/
def State.easelStep (s : State) : Nat :=
  let c := s.inForce
  match s.rdN 0x2840 1 with
  | 0 => s.easelSpacing * 65536000 * 8 / (9 * c.rate * c.factor c.adc)
  | 1 => s.easelSpacing * 65536000 * 8 / (9 * c.rate)
  | 4 => 0
  | _ => s.easelSpacing * 65536000 * c.threads / c.rate

/-- The trigger comes: the capture proceeds, its first element earlier by the pre-trigger share (R197). -/
def State.easelFire (s : State) : State :=
  let pre := s.easelLength * s.rdN 0x2840 6 / 100 * s.easelStep
  (s.wrN 0x2840 8 2).wr 0x2840 0x0B (time96 (s.devTime - pre))

/-- A trigger comes: 1 RX_LOS set, 2 THR_LOL set on thread k, 3 a cycle slip on it, 4 a PM boundary. An armed capture that
waits for it fires (R197, R201). -/
def State.easelEvent (s : State) (n k : Nat) : State :=
  s.whenB (s.rdN 0x2840 8 == 1 && s.rdN 0x2840 5 == n && (n == 1 || n == 4 || s.rdN 0x2840 2 == k)) State.easelFire

/-- The bytes of one element of a capture: four I8 codes, or four I16 of Q1.15 or Q4.12, each held within its format (R196). -/
def easelElement (p : Nat) (v : List Int) : List Byte :=
  let n := if p = 0 then 1 else 2
  let m : Int := 2 ^ (8 * n - 1)
  (List.range 4).flatMap fun i => beBytes n (unsignedOf n (max (-m) (min (m - 1) (v.getD i 0))))

/-- Bin j of a spectrum: 16 bins of the FFT of operation 6, bin 0 at −f_s / 2, summed and averaged over the blocks; the
FFT's own order has bin 0 at the centre. A mean that is not whole is rounded one way or the other (R196, log entry 3). -/
def easelBin (draw avg : Nat) (blocks : List (List Int)) (j : Nat) : Nat :=
  let sum := ((blocks.take avg).map fun b => ((b.drop ((16 * j + 32768) % 65536)).take 16).sum).sum
  min 0xFFFFFFFF (roundFree (draw + j) sum (min avg blocks.length)).toNat

/-- The bytes a capture of point p stores from what it took: elements of four numbers, or FFT blocks of powers (R196). -/
def easelBytes (draw p avg : Nat) (data : List (List Int)) : List Byte :=
  if p = 4 then (List.range 4096).flatMap fun j => beBytes 4 (easelBin draw avg data j)
  else data.flatMap (easelElement p)

/-! ### Frame lost and found on a thread (R191, R234, R236, R265) -/

/-- Stitches of each tenant in LF `i` of thread k, by the calendar of the receive page in force at entropy `h` (R247,
R248). -/
def State.rxStitches (s : State) (k i h : Nat) : List (Nat × Nat) :=
  let n := s.inForce.payload (if s.cfg.profile = 0 then h else 8 * s.cfg.bits) / 1024
  let es := s.rxEntries k
  let owners := ((calendar n es).drop (i * n)).take n
  (es.map fun e => (e.tenant, (owners.filter fun o => o == e.tenant).length)).filter fun p => decide (p.2 ≠ 0)

/-- What an LF that is not accepted does to a tenant that has stitches in it: its multiframe is errored, and CBR
stitches are counted, those of a sealed tenant too (R218, R236, R262, R270). -/
def State.badStitches (s : State) (n count : Nat) : State :=
  let t := s.setTen n { s.ten n with mfErr := true }
  if s.tenCbr n then t.bump (0x6000 + n) 9 64 count else t

/-- One LF of thread k of this second, for the thread and, at receive status 1, for the carrier (R262). -/
def State.countLf (s : State) (k : Nat) (accepted : Bool) : State :=
  let n := if accepted then 0 else 1
  let v := s.hunt k
  let t := s.setHunt k { v with secLf := v.secLf + 1, secBad := v.secBad + n }
  if s.rxStatus k = 1 then
    { t with frm := { t.frm with carLf := t.frm.carLf + 1, carBad := t.frm.carBad + n } }
  else t

/-- The LF in progress on thread k when its lock state leaves 4: it is not accepted, and what its tenants had in it is lost
(R236, R265). -/
def State.lfCut (s : State) (k : Nat) : State :=
  let u := s.hunt k
  let mine := (s.rxStitches k u.expIdx u.entropy).filter fun p => s.tenOn p.1
  (s.countLf k false).each mine fun t p =>
    (t.setTen p.1 { t.ten p.1 with
      parts := lput (16 * k + u.expIdx) (false, List.replicate (128 * p.2) 0) (t.ten p.1).parts }).badStitches p.1 p.2

/-- The thread stops being in frame at once: the framer goes off, the LF in progress is not accepted, and a thread that was in
SYNC has lost frame (R88, R234, R265). -/
def State.huntOff (s : State) (k : Nat) : State :=
  let t := s.whenB (decide (2 ≤ s.huntState k)) fun u => u.lfCut k
  let t := (t.wrN (0x3450 + k) 1 0).setHunt k { t.hunt k with
    run := 0, miss := 0, mf := none, evalMf := none, lomCand := none, lomRun := 0, collected := none }
  t.whenB (decide (s.huntState k = 3)) fun u => u.withdrawThread k

/-- An easel capture is aborted when its thread leaves status 1 or 3 or its domain is gated (R197). -/
def State.easelGuard (s : State) : State :=
  let st := s.rdN 0x2840 8
  let p := s.rdN 0x2840 1
  let k := s.rdN 0x2840 2
  let gone := !s.on 10 || ((p == 2 || p == 3) && !(s.rxStatus k == 1 || s.rxStatus k == 3))
  if (st == 1 || st == 2) && gone then s.wrN 0x2840 8 4 else s

/-- Set the lock state of thread k; the framer hunts when it becomes 4 and goes off when it leaves 4 (R234). -/
def State.setLock (s : State) (k v : Nat) : State :=
  let t := s.wrN (0x2810 + k) 1 v
  if v = 4 then (if s.huntState k = 0 then t.wrN (0x3450 + k) 1 1 else t)
  else if s.huntState k = 0 then t else t.huntOff k

/-- The mask of thread k begins: its lock state reads 5 and its thread defects are cleared, with TEN_SSF
brought up to date (R191, R258). -/
def State.beginMask (s : State) (k : Nat) : State :=
  let t := (s.setLock k 5)
  let t := (t.wrN (0x2810 + k) 0x0A 0).wrN (0x3450 + k) 2 0
  (t.setHunt k { t.hunt k with secExcluded := true }).ssf

/-- The mask ends: the thread acquires from step 6 (R193). -/
def State.endMask (s : State) (k : Nat) : State := if s.rdN (0x2810 + k) 1 = 5 then s.setLock k 1 else s

/-- The receive status of thread k changed, with its mask, the second excluded from its PM, and the easel (R191, R197,
R264). -/
def State.setRxStatus (s : State) (k v : Nat) : State :=
  let t := s.wrN (0x3410 + k) 6 v
  let t := t.setHunt k { t.hunt k with secExcluded := (t.hunt k).secExcluded || v != 1 }
  let t := if v = 0 ∨ v = 2 then t.beginMask k else if v = 4 then t else if t.masked k then t else t.endMask k
  t.easelGuard.ssf

/-! ### Losing and regaining threads -/

/-- Threads that are received or acquire. -/
def State.rxThreads (s : State) : List Nat := s.threads.filter s.rxAcquires

/-- THR_LOL of a thread: the loss is counted, its framer stops, and it waits in lock state `v` (R88, R190, R192,
R234). -/
def State.loseThread (s : State) (k v : Nat) : State :=
  if s.rdBit (0x2810 + k) 0x0A 0 || s.masked k then s.setLock k v
  else
    let t := ((s.raise (0x2810 + k) 0x0A 0).inc32 (0x2810 + k) 6).count (.lockLoss k)
    (t.setLock k v).easelEvent 2 k

/-- THR_LOL at once on every thread, with a carrier defect (R190). -/
def State.loseAll (s : State) : State := s.each s.rxThreads fun t k => t.loseThread k 0

/-- The sweep of step 4 from its first candidate. -/
def State.sweepAgain (s : State) : State :=
  { s with rx := { s.rx with candidate := 0, best := none, fine := none, metrics := [] } }

/-- The engines of the carrier-wide steps stop or return: a step in progress begins afresh (R193). -/
def State.acqAfresh (s : State) : State := ({ s with rx := { s.rx with sweeps := 0 } } : State).sweepAgain

/-- The acquisition begins at step 1; RX_LOS or RX_INVALID holds it there (R186, R188). -/
def State.startAcquisition (s : State) (cold : Bool) : State :=
  let t : State := { s with rx := { s.rx with
    step := .signal, since := s.uptime, cold := cold, cdDone := false, keepCd := false } }
  t.acqAfresh.wrN 0x2800 1 1

/-- The clock step with the dispersion given (R186 step 5). -/
def State.toClock (s : State) (cd : Int) : State :=
  let m : Int := cdMax s.cfg.rate
  let t : State := { s with rx := { s.rx with step := .clock, keepCd := false } }
  (t.wrI 0x2800 0x17 (max (-m) (min m cd))).wrN 0x2800 1 4

/-- The cold search begins (R186 step 4). -/
def State.toCold (s : State) : State :=
  let t : State := { s with rx := { s.rx with step := .cold } }
  t.sweepAgain.wrN 0x2800 1 3

/-- Whether the stored CD serves a warm verify: within ±CD_max, found at some rate (R186, R198). -/
def State.storedCdOk (s : State) : Bool :=
  decide ((s.rdI 0x2800 7).natAbs ≤ cdMax s.cfg.rate) && decide (s.rdN 0x2800 0x13 ≠ 0)

/-- What follows the coarse frequency: fixed CD, warm verify or cold search (R186, R187). -/
def State.toDispersion (s : State) : State :=
  match s.rdN 0x2800 4 with
  | 2 => s.toClock (s.rdI 0x2800 5)
  | 1 => s.toCold
  | _ =>
    if s.storedCdOk && !s.rx.cold then
      let t : State := { s with rx := { s.rx with step := .warm } }
      t.wrN 0x2800 1 3
    else s.toCold

/-- RX_INVALID follows CNV_LOL and failed ADCs (R190); its clearing restarts acquisition at step 1 with warm verify
(R192). -/
def State.rxInvalidJudge (s : State) : State :=
  let v := s.rdBit 0x2000 0x0C 0 || (List.range 4).any fun a => s.rdBit 0x2000 0x0C (14 + a)
  let was := s.rdBit 0x2800 0x0D 4
  let t := s.defect 0x2800 0x0D 4 v
  if !s.on 10 then s
  else if v && !was then ((t.loseAll).startAcquisition false).ssf
  else if !v && was then (t.startAcquisition false).ssf
  else t

/-- The acquisition restart of R36 (R189): a thread in state 4 is not disturbed; the others restart at step 6 when the
carrier steps are complete, and the whole acquisition at step 1 otherwise. -/
def State.restartAcquisition (s : State) : State :=
  if s.rx.cdDone then
    s.each s.rxThreads fun t k => if t.rdN (0x2810 + k) 1 = 4 then t else t.setLock k 1
  else s.startAcquisition s.rx.cold

/-- The receive settings that hold for a configuration, set on entry to DISCOVER or TEST (R177, R181, R194, R200). -/
def State.rxConfigure (s : State) : State :=
  let c := s.inForce
  let t := ((s.wrN 0x2800 8 (cdMax c.rate)).wrN 0x2800 0x0E (pipelineLatency c (s.rdN 0x2800 2))).wrN 0x2800 0x16
    (dgdTolerance c.threads c.rate)
  t.each (List.range 32) fun u k => u.wrN (0x2810 + k) 7 (if k < c.threads then eqTaps c.threads else 0)

/-! ### Acquisition (R186 to R189) -/

/-- Whether the engines of the carrier-wide steps run, which are those of work item 0 (R186, R193). -/
def State.acqRuns (s : State) : Bool := s.itemRuns 0 && s.on 10

/-- Whether engine Ek runs its thread's acquisition: its item is not moving or suspended (R186, R193, R456). -/
def State.threadRuns (s : State) (k : Nat) : Bool := s.itemRuns (k / 8) && s.on 10

/-- ACQ_SIGNAL_CONFIRMED: step 1 ends once RX_LOS and RX_INVALID are clear (R186). -/
def execAcqSignalConfirmed (s : State) : Host.Outcome State Fault Refusal :=
  .next (if s.acqRuns && s.rx.step == .signal && !s.rdBit 0x2800 0x0D 0 && !s.rdBit 0x2800 0x0D 4 then
      let t : State := { s with rx := { s.rx with step := .frequency } }
      t.wrN 0x2800 1 2
    else s)

/-- ACQ_FREQUENCY_FOUND: the coarse offset within ±5 GHz, then the dispersion steps (R186). -/
def execAcqFrequencyFound (mhz : Int) (s : State) : Host.Outcome State Fault Refusal :=
  .next (if s.acqRuns && s.rx.step == .frequency then
      (s.wrI 0x2800 9 (max (-5000) (min 5000 mhz))).toDispersion
    else s)


/-- The search window of step 4 in ps/nm (R187). -/
def State.cdWindow (s : State) : Int × Int :=
  let m : Int := cdMax s.cfg.rate
  let h := s.rdI 0x2800 6
  if h = 0 then (-m, m) else (max (-m) (s.rdI 0x2800 5 - h), min m (s.rdI 0x2800 5 + h))

/-- The dispersion of a place in 2048ths of CD_max, a sixteenth of the coarse step, to the nearest ps/nm (R186, log entry
149). -/
def cdAt (rate : Nat) (place : Int) : Int := roundHalfAway (cdMax rate * place) 2048

/-- The nine candidates of the warm verify: the stored value and four fine steps on either side, within ±CD_max (R186 step 3). -/
def State.warmCandidates (s : State) : List Int :=
  let m : Int := cdMax s.cfg.rate
  (List.range 9).map fun (j : Nat) => max (-m) (min m (s.rdI 0x2800 7 + cdAt s.cfg.rate ((j : Int) - 4)))

/-- The candidate with the largest metric, the first of equals. -/
def bestCandidate (l : List (Int × Nat)) : Option Int :=
  (l.foldl (fun (b : Option (Int × Nat)) c => match b with
    | some x => if x.2 < c.2 then some c else some x
    | none => some c) none).map (·.1)

/-- WARM_VERIFY_DONE: the clock-tone metric of each candidate is measured; where the verify passes, the value found is the one with
the best metric (R186 steps 3 and 5; whether it passes comes with the event, log entry 149). -/
def execWarmVerifyDone (pass : Bool) (metrics : List Nat) (s : State) : Host.Outcome State Fault Refusal :=
  .next (if s.acqRuns && s.rx.step == .warm then
      (if pass then s.toClock ((bestCandidate (s.warmCandidates.zip metrics)).getD (s.rdI 0x2800 7)) else s.toCold)
    else s)

/-- The first and the last coarse candidate in steps of CD_max / 128: those inside the window, or where they are fewer than
three, the three around its centre (R186, R187, log entry 149). -/
def State.coarse (s : State) : Int × Int :=
  let m : Int := cdMax s.cfg.rate
  let w := s.cdWindow
  let lo := -(-(128 * w.1) / m)
  let hi := 128 * w.2 / m
  if lo + 2 ≤ hi then (lo, hi)
  else
    let c := max (-127) (min 127 (roundHalfAway (64 * (w.1 + w.2)) m.toNat))
    (c - 1, c + 1)

/-- The place of the next candidate of the stage in progress: a coarse one, or one of the 33 around the best coarse one
(R186). -/
def State.sweepPlace (s : State) : Option Int :=
  let n : Int := s.rx.candidate
  match s.rx.fine with
  | none => if s.coarse.1 + n ≤ s.coarse.2 then some (16 * (s.coarse.1 + n)) else none
  | some g => if n < 33 then some (max (-2048) (min 2048 (g - 16 + n))) else none

/-- The best candidate after one more. -/
def betterOf (best : Option (Int × Nat)) (place : Int) (metric : Nat) : Int × Nat :=
  match best with
  | some (i, m) => if m < metric then (place, metric) else (i, m)
  | none => (place, metric)

/-- CD_CANDIDATE_DONE: one candidate's clock-tone metric, in 0.01 dB, is measured; the best is kept, and after the last
coarse candidate the fine stage begins around it (R186 step 4). -/
def execCdCandidateDone (metric : Nat) (s : State) : Host.Outcome State Fault Refusal :=
  .next (match s.acqRuns && s.rx.step == .cold, s.sweepPlace with
    | true, some p =>
      let b := betterOf s.rx.best p metric
      let rx := { s.rx with candidate := s.rx.candidate + 1, best := some b, metrics := metric :: s.rx.metrics }
      if s.rx.fine = none ∧ p = 16 * s.coarse.2 then
        { s with rx := { rx with candidate := 0, best := none, fine := some b.1 } }
      else { s with rx := rx }
    | _, _ => s)

/-- A number put into a rising list. -/
def insertRising (n : Nat) : List Nat → List Nat
  | [] => [n]
  | a :: r => if n ≤ a then n :: a :: r else a :: insertRising n r

/-- Twice the median of a list: the sum of its two middle members (log entry 149). -/
def medianTwice (l : List Nat) : Nat :=
  let r := l.foldr insertRising []
  r.getD ((r.length - 1) / 2) 0 + r.getD (r.length / 2) 0

/-- Whether the peak of a sweep lies at least 3 dB above the median of its candidates (R188). -/
def peakOk (metrics : List Nat) : Bool := decide (medianTwice metrics + 600 ≤ 2 * metrics.foldl max 0)

/-- Whether both stages of the sweep are measured (R186). -/
def State.sweepWhole (s : State) : Bool := s.rx.fine.isSome && decide (33 ≤ s.rx.candidate)

/-- CD_SWEEP_DONE: a peak at least 3 dB above the median ends the search; otherwise the sweep is repeated once, and then
CD_FAIL is raised and the acquisition restarts cold (R188, R190, R192). -/
def execCdSweepDone (s : State) : Host.Outcome State Fault Refusal :=
  .next (if s.acqRuns && s.rx.step == .cold && s.sweepWhole then
      if peakOk s.rx.metrics then
        let t : State := { s with rx := { s.rx with sweeps := 0, cold := false } }
        (t.clear 0x2800 0x0D 2).toClock (cdAt s.cfg.rate ((s.rx.best.map fun b => b.1).getD 0))
      else if s.rx.sweeps = 0 then ({ s with rx := { s.rx with sweeps := 1 } } : State).sweepAgain
      else (s.raise 0x2800 0x0D 2).startAcquisition true
    else s)

/-- CLOCK_TONE_LOCK: the CD found is stored with its rate, but kept where step 5 follows RX_CLK_LOL; the threads acquire
(R186 steps 5 and 6, R192). -/
def execClockToneLock (s : State) : Host.Outcome State Fault Refusal :=
  .next (if s.acqRuns && s.rx.step == .clock then
      let t : State := { s with rx := { s.rx with step := .threads, cdDone := true, keepCd := false } }
      let t := (t.whenB (!s.rx.keepCd) fun u => (u.wrI 0x2800 7 (s.rdI 0x2800 0x17)).wrN 0x2800 0x13 s.cfg.rate).wrN 0x2800 1 5
      t.each t.rxThreads fun u k => if u.rdN (0x2810 + k) 1 = 4 then u else u.setLock k 1
    else s)

/-- BLIND_EQ_CONVERGED (R186 step 6). -/
def execBlindEqConverged (k : Fin 32) (s : State) : Host.Outcome State Fault Refusal :=
  .next (if s.threadRuns k.val && s.rx.cdDone && s.rdN (0x2810 + k.val) 1 == 1 && s.rxAcquires k.val then s.setLock k.val 2 else s)

/-- PILOT_SEARCH_DONE (R186 step 7). -/
def execPilotSearchDone (k : Fin 32) (s : State) : Host.Outcome State Fault Refusal :=
  .next (if s.threadRuns k.val && s.rx.cdDone && s.rdN (0x2810 + k.val) 1 == 2 && s.rxAcquires k.val then s.setLock k.val 3 else s)

/-- CARRIER_LOCK: the thread is locked, THR_LOL clears and the hunt starts; with every thread locked a carrier
acquisition is complete (R186 step 8, R190, R234). -/
def execCarrierLock (k : Fin 32) (timeUs : Nat) (s : State) : Host.Outcome State Fault Refusal :=
  .next (if s.threadRuns k.val && s.rx.cdDone && s.rdN (0x2810 + k.val) 1 == 3 && s.rxAcquires k.val then
      let t := (s.setLock k.val 4).clear (0x2810 + k.val) 0x0A 0
      let t := if t.rdN 0x2800 1 = 5 ∧ (t.rxThreads.all fun j => t.rdN (0x2810 + j) 1 == 4) then
          (((t.wrN 0x2800 1 6).wrN 0x2800 0x0B (timeUs % 2 ^ 32)).inc32 0x2800 0x0C).count .acquisition
        else t
      t.ssf
    else s)

/-- ACQ_STEP_TIMEOUT: a step exceeds its limit (R188). -/
def execAcqStepTimeout (step : Nat) (k : Fin 32) (s : State) : Host.Outcome State Fault Refusal :=
  .next (
    let thread := fun (v : Nat) =>
      if s.threadRuns k.val && s.rx.cdDone && s.rdN (0x2810 + k.val) 1 == v && s.rxAcquires k.val then
        ((s.setLock k.val 1).inc32 (0x2810 + k.val) 6).count (.lockLoss k.val)
      else s
    match step with
      | 3 => if s.acqRuns && s.rx.step == .warm then s.toCold else s
      | 5 => if s.acqRuns && s.rx.step == .clock then s.toDispersion else s
      | 6 => thread 1
      | 7 => thread 2
      | 8 => thread 3
      | _ => s)

/-! ### Defects (R190 to R192) -/

/-- Four times the mean of the input RMS readings 2010+a:09 (R190). -/
def State.inputRms (s : State) : Nat := ((List.range 4).map fun a => s.rdN (0x2010 + a) 9).sum

/-- Whether the mean input RMS lies below 2800:03 (R190). -/
def State.losBelow (s : State) : Bool := decide (s.inputRms < 4 * s.rdN 0x2800 3)

/-- Whether it lies above 2800:03 + 1 dB, a ratio of 10^(1/20) (R190). -/
def State.losAbove (s : State) : Bool := decide ((4 * s.rdN 0x2800 3) ^ 20 * 10 < s.inputRms ^ 20)

/-- RX_LOS_SET (R190, R197). -/
def execRxLosSet (s : State) : Host.Outcome State Fault Refusal :=
  .next (if s.on 10 && s.losBelow then
      ((((s.raise 0x2800 0x0D 0).easelEvent 1 0).loseAll).startAcquisition false).ssf
    else s)

/-- RX_LOS_CLEAR: acquisition restarts from step 1 with warm verify (R190, R192). -/
def execRxLosClear (s : State) : Host.Outcome State Fault Refusal :=
  .next (if s.rdBit 0x2800 0x0D 0 && s.losAbove then ((s.clear 0x2800 0x0D 0).startAcquisition false).ssf else s)

/-- RX_CLK_LOL_SET: re-acquisition starts at step 5 with the stored CD kept; step 5 is not complete again until the clock
tone locks. The resampler holds its last phase (R175, R189, R190, R192). -/
def execRxClkLolSet (s : State) : Host.Outcome State Fault Refusal :=
  .next (if s.on 10 then
      let t := (s.raise 0x2800 0x0D 1).loseAll
      let t : State := { t with rx := { t.rx with clkAt := if s.rdBit 0x2800 0x0D 1 then t.rx.clkAt else t.uptime } }
      (if t.rx.cdDone then
        let u : State := { t with rx := { t.rx with step := .clock, since := t.uptime, cdDone := false, keepCd := true } }
        u.wrN 0x2800 1 4
      else t).ssf
    else s)

/-- RX_CLK_LOL_CLEAR (R190). -/
def execRxClkLolClear (s : State) : Host.Outcome State Fault Refusal :=
  .next (if s.rdBit 0x2800 0x0D 1 then (s.clear 0x2800 0x0D 1).ssf else s)

/-- The frequency offset of 2800:09: the coarse value of step 2, and tracked within ±5 GHz from then on (R183, R198). -/
def State.offsetMhz (s : State) : Int :=
  match s.rx.step with
  | .idle | .signal | .frequency => s.rdI 0x2800 9
  | _ => max (-5000) (min 5000 (s.rdI 0x2800 9 + Config.drift s.uptime))

/-- FO_HIGH_TIMER: for 10 ms the magnitude of 2800:09 has exceeded 2800:0A, or lain below 2800:0A − 100 MHz (R190). -/
def execFoHighTimer (above : Bool) (s : State) : Host.Outcome State Fault Refusal :=
  .next (
    let m := s.offsetMhz.natAbs
    let l := s.rdN 0x2800 0x0A
    if s.on 10 && (if above then decide (l < m) else decide (m + 100 < l)) then s.defect 0x2800 0x0D 3 above else s)

/-- THR_LOL_SET: the thread re-acquires from step 6 (R190, R192, R265). -/
def execThrLolSet (k : Fin 32) (s : State) : Host.Outcome State Fault Refusal :=
  .next (if s.rxActive k.val then (s.loseThread k.val (if s.rx.cdDone then 1 else 0)).ssf else s)

/-- A number inside an entry's type and range. -/
def fitOf (e : Entry) (v : Nat) : Int :=
  match e.rng with
  | .ints ((lo, hi) :: _) => lo + v % (hi - lo + 1)
  | _ =>
    match e.ty with
    | .i16 => v % 65536 - 32768
    | .i32 => v % 4294967296 - 2147483648
    | .i64 => v % 18446744073709551616 - 9223372036854775808
    | t => v % 2 ^ (8 * t.size)

/-- What such an entry shows: the default until the first microsecond has passed, a free value after it. -/
def State.reading (s : State) (idx sub : Nat) : DVal :=
  if s.uptime = 0 then defaultOf (key idx sub)
  else match entryOf idx sub with
    | some e => .num (fitOf e (Config.reading (key idx sub) s.uptime))
    | none => .num 0

/-- The SNR of thread k in 0.01 dB that 2810+k:02 shows, a reading of the hardware (R200, log entry 119). -/
def State.threadSnr (s : State) (k : Nat) : Int := (s.reading (0x2810 + k) 2).int

/-- THR_SNR_LOW_TIMER: for 10 ms the SNR has lain below the threshold 2810+k:0B, which is not 0, or for 100 ms above it by more than
0.5 dB (R190). -/
def execThrSnrLowTimer (k : Fin 32) (below : Bool) (s : State) : Host.Outcome State Fault Refusal :=
  .next (
    let limit := s.rdI (0x2810 + k.val) 0x0B
    let met := if below then decide (limit ≠ 0 ∧ s.threadSnr k.val < limit) else decide (limit + 50 < s.threadSnr k.val)
    if s.rxActive k.val && met then s.defect (0x2810 + k.val) 0x0A 1 below else s)

/-- CYCLE_SLIP (R183). -/
def execCycleSlip (k : Fin 32) (s : State) : Host.Outcome State Fault Refusal :=
  .next (if s.rdN (0x2810 + k.val) 1 = 4 then ((s.inc32 (0x2810 + k.val) 5).count (.cycleSlip k.val)).easelEvent 3 k.val else s)

/-- Multiframes from a re-admission's target to its limit: 100 ms, or 64 multiframes if that is longer (R108). -/
def State.readmitLimit (s : State) : Nat := max 64 (ceilDiv 100000000000000 s.inForce.multiframeFs)

/-- The near end of R108: a thread still READMITTING at its limit returns to RETIRED, with its state in force and the count. -/
def State.readmitFails (s : State) (k : Nat) : State :=
  match lget k s.cfg.readmitAt with
  | some m =>
    if s.txStatus k = 3 && decide (m + s.readmitLimit ≤ s.mf) then
      let t : State := { s with cfg := { s.cfg with
        readmitAt := ldel k s.cfg.readmitAt, rdiSeen := dropFrom k s.cfg.rdiSeen, states := s.cfg.states.set k 0 } }
      ((t.wrN (0x3410 + k) 5 0).wrN (0x3410 + k) 4 0).inc32 (0x3410 + k) 0x0C
    else s
  | none => s

/-- The far end of R108: at the limit of the received re-admission a thread that is not in frame, or whose sender's header still
says READMITTING, has receive status 0 again, with the mask, and its island is gated (R106, R191, R231, log entry 53). -/
def State.readmitFailsFar (s : State) (k : Nat) : State :=
  match lget k s.cfg.rxReadmitAt with
  | some m =>
    if decide (m + s.readmitLimit ≤ s.rdN 0x3440 0x0D) then
      let t : State := { s with cfg := { s.cfg with rxReadmitAt := ldel k s.cfg.rxReadmitAt } }
      if s.rxStatus k = 3 || (s.rxStatus k = 1 && s.rdN (0x3450 + k) 8 == 2) then
        let t : State := { t with rx := { t.rx with readmitFar := dropFrom k t.rx.readmitFar } }
        (t.setRxStatus k 0).gateThread k
      else t
    else s
  | none => s

/-- READMISSION_TIMEOUT: it ends the re-admission of each direction whose own limit has passed, and leaves the other (R106, R108,
R191, R197). -/
def execReadmissionTimeout (k : Fin 32) (s : State) : Host.Outcome State Fault Refusal :=
  .next ((s.readmitFails k.val).readmitFailsFar k.val)

/-! ### Slow corrections -/

/-- The DC offset of component a in 1/256 LSB, which hardware tracks with a time constant of 1 ms whatever the engines do: a
reading (2801+c:04, R174, R199, log entry 119). -/
def State.dcTracked (s : State) (a : Nat) : Int :=
  if s.on 10 then signedOf 2 (Config.reading (key (0x2801 + a) 4) s.uptime % 65536) else 0

/-- FRONT_END_UPDATE: engine E00 sets the adapted corrections of one component every 10 ms; gain and quadrature correct the
Q component only (R174, R199). -/
def execFrontEndUpdate (c : Fin 4) (skew gain quad : Int) (s : State) : Host.Outcome State Fault Refusal :=
  .next (if s.on 10 && s.itemRuns 0 then
      let i := 0x2801 + c.val
      let t := s.wrI i 3 (max (-50) (min 50 skew))
      if c.val = 0 ∨ c.val = 2 then t else (t.wrI i 5 (clamp14 gain)).wrI i 6 (clamp14 quad)
    else s)

/-- CD_TRACK_UPDATE: the bulk setting moves by at most 20 ps/nm and stays within ±CD_max (R178). -/
def execCdTrackUpdate (residual : Int) (s : State) : Host.Outcome State Fault Refusal :=
  .next (if s.rdN 0x2800 1 = 6 ∧ s.itemRuns 0 then
      let m : Int := cdMax s.cfg.rate
      s.wrI 0x2800 0x17 (max (-m) (min m (s.rdI 0x2800 0x17 + max (-20) (min 20 residual))))
    else s)

/-- NL_SCALE_ADAPT: engine Ek adapts the compensation scale of its thread (R184). -/
def execNlScaleAdapt (k : Fin 32) (scale : Int) (s : State) : Host.Outcome State Fault Refusal :=
  .next (if s.rdB 0x2800 0x12 && s.rdN (0x2810 + k.val) 1 == 4 && s.itemRuns (k.val / 8) then
      s.wrI (0x2810 + k.val) 9 (clamp14 scale)
    else s)

/-- What engine Ek has made comes into force at the first symbol of a received multiframe of thread k: compensation, its
table from the measured dispersion, and the equaliser's step size and filter length, whose values the spec leaves to the
engine (R27, R184, R193, log entry 150). Without its engine the thread keeps the last ones (R28). -/
def State.rxBoundary (s : State) (k : Nat) : State :=
  let t := s.wrB 0x2800 0x12 (s.rdB 0x2800 0x10 && decide (s.rdN 0x1011 1 < 2))
  if s.itemRuns (k / 8) then
    { t with
      free := t.free + 2
      rx := { t.rx with
        eqLoop := lput k (Config.freeNat t.free, Config.freeNat (t.free + 1)) t.rx.eqLoop
        nlBasis := lput k (t.rdI 0x2800 0x17) t.rx.nlBasis } }
  else t

/-! ### Commands of the easel (R196, R197) -/

/-- The rule of the command of 2840:07 = 1: in SHED it answers BUSY; trigger 0 fires at arming (R197, R201). -/
def State.easelArmEffect (s : State) : Effect :=
  { fails := need (!s.inMode .shed) .busy
    state := if s.rdN 0x2840 5 = 0 then s.easelFire else s.wrN 0x2840 8 1 }

/-- The rule of the command of 2840:07 = 2 (R197, R201). -/
def State.easelAbortEffect (s : State) : Effect :=
  .ok (if s.rdN 0x2840 8 = 1 ∨ s.rdN 0x2840 8 = 2 then s.wrN 0x2840 8 4 else s)

/-- EASEL_ARM (R197). -/
def execEaselArm (s : State) : Host.Outcome State Fault Refusal := .next (s.command 0x2840 7 (.num 1) s.easelArmEffect)
/-- EASEL_ABORT (R197). -/
def execEaselAbort (s : State) : Host.Outcome State Fault Refusal := .next (s.command 0x2840 7 (.num 2) s.easelAbortEffect)
/-- EASEL_TRIGGER: the selected trigger fires on an armed capture. RX_LOS, THR_LOL, a cycle slip and a PM boundary fire it
with their own rows too, after which there is nothing left to fire (R197, log entry 151). -/
def execEaselTrigger (s : State) : Host.Outcome State Fault Refusal :=
  .next (if s.rdN 0x2840 8 = 1 ∧ s.rdN 0x2840 5 ≠ 0 then s.easelFire else s)

/-- EASEL_CAPTURE_DONE: the capture reaches its length; what it took is stored in the point's elements (R196, R197). -/
def execEaselCaptureDone (data : List (List Int)) (s : State) : Host.Outcome State Fault Refusal :=
  .next (if s.rdN 0x2840 8 = 2 then
      let p := s.rdN 0x2840 1
      let b := (easelBytes s.free p (s.rdN 0x2840 9) data).take (s.easelLength * (easelPoint p).1)
      let t : State := { s with free := s.free + 4096 }
      (((t.wrS 0x2840 0x0A b).wrN 0x2840 0x0C (b.length / (easelPoint p).1)).wrN 0x2840 8 3).inc32 0x2840 0x0D
    else s)

/-- The failures of a write to a setting of the easel while a capture is armed or running (R201). -/
def State.easelSettingFails (s : State) : List Status := need (!(s.rdN 0x2840 8 == 1 || s.rdN 0x2840 8 == 2)) .busy

end Sys2Proof.Machine
end

