-- ==== Sys2Proof/Machine/Converters.lean ====
section
/-! DEFINITION. Converters and in-service calibration (spec/04_converters.md): slices and their roles, foreground
calibration, rotation, emergency replacement, DAC trims, and the gain loops over FE-SPI. -/

namespace Sys2Proof.Machine

/-! ### Slices -/

/-- A slice of which nothing is known: converters off (R140). -/
def Slice.off : Slice :=
  { role := 7, position := 255, corr := SliceCorr.nominal, measuredAt := 0, cause := 0, timesLive := 0 }

/-- The key of slice `n` of ADC `a`. -/
def sliceKey (a n : Nat) : Nat := 152 * a + n

/-- A slice. -/
def State.adcSlice (s : State) (a n : Nat) : Slice := lgetD (sliceKey a n) Slice.off s.cnv.slices

/-- A slice changed. -/
def State.setSlice (s : State) (a n : Nat) (x : Slice) : State :=
  { s with cnv := { s.cnv with slices := lput (sliceKey a n) x s.cnv.slices } }

/-- The slices of an ADC in role `r`, ascending. -/
def State.inRole (s : State) (a r : Nat) : List Nat := (List.range 152).filter fun n => (s.adcSlice a n).role == r

/-- The live slice of a position. -/
def State.liveAt (s : State) (a p : Nat) : Option Nat :=
  (List.range 152).find? fun n => (s.adcSlice a n).role == 0 && (s.adcSlice a n).position == p

/-- The element of a list with the smallest value of `f`, the first of equals. -/
def argMin (f : Nat → Nat) : List Nat → Option Nat
  | [] => none
  | a :: r =>
    match argMin f r with
    | some b => if f b < f a then some b else some a
    | none => some a

/-- The element of a list with the largest value of `f`, the first of equals. -/
def argMax (f : Nat → Nat) : List Nat → Option Nat
  | [] => none
  | a :: r =>
    match argMax f r with
    | some b => if f a < f b then some b else some a
    | none => some a

/-- The ready spare measured longest ago, ties to the lowest number (R126). -/
def State.oldestSpare (s : State) (a : Nat) : Option Nat := argMin (fun n => (s.adcSlice a n).measuredAt) (s.inRole a 1)

/-- The hot spare: the ready spare measured most recently, ties to the lowest number (R129). -/
def State.hotSpare (s : State) (a : Nat) : Option Nat := argMax (fun n => (s.adcSlice a n).measuredAt) (s.inRole a 1)

/-- The degraded positions of an ADC, ascending (R131). -/
def State.degraded (s : State) (a : Nat) : List Nat :=
  (List.range 144).filter fun p => decide ((a, p) ∈ s.cnv.degraded)

/-- Whether two adjacent positions are degraded; position 143 is next to position 0 (R131, log entry 20). -/
def adjacentPair (l : List Nat) : Bool := l.any fun p => (p + 1) % 144 ∈ l

/-- The trim record of an ADC: 152 words, slice 0 first, as they are in force; a slice in role 6 carries the retired
bit (R122, R125). -/
def State.trimWords (s : State) (a : Nat) : List Byte :=
  (List.range 152).flatMap fun n =>
    let x := s.adcSlice a n
    beBytes 8 (putBit x.corr.trim 62 (decide (x.role = 6)))

/-- The counts of record 2010+a and the defects of an ADC brought up to date (R131, R139). -/
def State.adcReport (s : State) (a : Nat) : State :=
  let d := s.degraded a
  let t := (((((s.wrN (0x2010 + a) 4 (144 - d.length)).wrN (0x2010 + a) 5 (s.inRole a 1).length).wrN (0x2010 + a) 6
    (s.inRole a 5).length).wrN (0x2010 + a) 7 (s.inRole a 6).length).wrN (0x2010 + a) 0x0E d.length)
  ((t.defect 0x2000 0x0C (2 + a) (decide (d ≠ []))).defect 0x2000 0x0C (14 + a)
    (decide (4 < d.length) || adjacentPair d)).rxInvalidJudge

/-- The trim record brought up to date with the rate it was measured at (R125). -/
def State.trimReport (s : State) (a : Nat) : State :=
  (s.wrS (0x2010 + a) 2 (s.trimWords a)).wrN (0x2010 + a) 3 (s.shown.sampleRate s.shown.adc)

/-- A position handed to a spare (R126 step 5, R130). -/
def State.makeLive (s : State) (a n p : Nat) : State :=
  let x := s.adcSlice a n
  s.setSlice a n { x with role := 0, position := p, timesLive := (x.timesLive + 1) % 2 ^ 32 }

/-- A slice put into a role that serves no position. -/
def State.setRole (s : State) (a n r : Nat) : State := s.setSlice a n { s.adcSlice a n with role := r, position := 255 }

/-- A slice faulty for a cause (R140). -/
def State.faulty (s : State) (a n cause : Nat) : State :=
  s.setSlice a n { s.adcSlice a n with role := 5, position := 255, cause := cause }

/-- When a spare becomes ready, the lowest degraded position is filled at once (R131). -/
def State.fillDegraded (s : State) (a : Nat) : State :=
  match s.degraded a, s.hotSpare a with
  | p :: _, some h =>
    let t := s.makeLive a h p
    let t : State := { t with cnv := { t.cnv with degraded := t.cnv.degraded.filter fun x => decide (x ≠ (a, p)) } }
    (t.inc32 (0x2010 + a) 0x0C).count (.emergency a)
  | _, _ => s

/-- The rotation of an ADC ended. -/
def State.endRotation (s : State) (a : Nat) : State :=
  { s with cnv := { s.cnv with rotations := ldel a s.cnv.rotations } }

/-- Whether shed step S1, a HITLESS RESTART, or a move or suspension of work item 9 holds the calibration loops (R28, R134,
R454, R533). -/
def State.convHeld (s : State) : Bool := decide (1 ≤ s.rdN 0x1011 1) || !s.itemRuns 9

/-- Whether the engines of the calibration loops run (R28, R135). -/
def State.rotates (s : State) : Bool := !s.cnv.frozen && !s.convHeld

/-- The rotation of an ADC abandoned and counted; its spare is left to the caller. A retire command that it served waits for
another rotation (R126, R132, R134, log entry 182). -/
def State.abandon (s : State) (a : Nat) : State :=
  let t : State := match lget a s.cnv.rotations with
    | some r => if r.retire then { s with cnv := { s.cnv with retires := (a, r.live) :: s.cnv.retires } } else s
    | none => s
  ((t.endRotation a).inc32 (0x2010 + a) 0x0B).count (.rotationAbandoned a)

/-! ### Limits and trims (R122, R123) -/

/-- Whether a residual lies within R123: 0.1 LSB, 0.05 %, 25 fs and 0.1 % of magnitude. -/
def withinLimits (r : Residual) : Bool :=
  decide (10 * r.offset.natAbs ≤ 256) && decide (2000 * r.gain.natAbs ≤ 16384) && decide (r.skew.natAbs ≤ 25)
    && decide (r.bandwidth.natAbs ≤ 1000)

/-- Whether a residual exceeds half its limit in R123, so that trims may change (R126 step 2). -/
def beyondHalf (r : Residual) : Bool :=
  decide (256 < 20 * r.offset.natAbs) || decide (16384 < 4000 * r.gain.natAbs) || decide (25 < 2 * r.skew.natAbs)
    || decide (1000 < 2 * r.bandwidth.natAbs)

/-- A trim word as measured: Valid set, Retired clear, the reserved bits 0 (R122). -/
def measuredTrim (w : Nat) : Nat := 2 ^ 63 + w % 2 ^ 56

/-- The trims and corrections of a slice after its measurement: new corrections, and new trims where a residual exceeds half
its limit or `search` has the trims searched in full (R118, R126, R132). -/
def measuredCorr (old : SliceCorr) (m : SliceMeasure) (search : Bool) : SliceCorr :=
  { m.corr with trim := if search || beyondHalf m.found then measuredTrim m.corr.trim else old.trim }

/-- The bandwidth taps with a change folded in, each held within Q1.15 (R126 step 4, R140). -/
def foldTaps (taps : List Byte) (change : List Int) : List Byte :=
  (List.range 5).flatMap fun j =>
    beBytes 2 (unsignedOf 2 (max (-32768) (min 32767 (signedOf 2 (beField (padTo 10 taps) (2 * j) 2) + change.getD j 0))))

/-! ### Power-up and foreground calibration (R124, R125) -/

/-- A valid stored trim word: bit 63 set, bit 62 clear, measured at the present rate (R124, R125). -/
def trimWordOk (w : Nat) (sameRate : Bool) : Bool := bit w 63 && !bit w 62 && sameRate

/-- The trim word a full search finds: the spec fixes its form and not its value (R122, log entry 3). -/
def freeTrim (n : Nat) : Nat := measuredTrim (Config.freeNat n)

/-- The transfers of an initialisation sequence: a length byte 1 to 8 and that many bytes; 0 ends the list (R143). DESIGN CHOICE
(log entry 183): a length byte above 8 ends the list as well, and a last transfer that is cut short is sent as far as it
goes. `fuel` is the number of bytes the entry can hold. -/
def initTransfers : Nat → List Byte → List (List Byte)
  | 0, _ => []
  | _, [] => []
  | fuel + 1, n :: r =>
    if n.toNat = 0 ∨ 8 < n.toNat then [] else r.take n.toNat :: initTransfers fuel (r.drop n.toNat)

/-- Send the initialisation sequences of the enabled chip selects in ascending order, each transfer with its own number of
bytes (R143). -/
def State.sendInit (s : State) : State :=
  s.each (List.range 4) fun t c =>
    if t.rdB (0x2041 + c) 1 then
      t.each (initTransfers 256 (t.rdS (0x2041 + c) 6)) fun u b =>
        (u.emit (.feSpi c b 0)).inc32 0x2040 2
    else t

/-- The converter domains are powered and foreground calibration starts (R124 step 1). DESIGN CHOICE (log entry 184): until it
ends a slice serves nothing and shows role 7. -/
def State.convStart (s : State) : State :=
  let t : State := { s with cnv := { s.cnv with
    slices := [], rotations := [], degraded := [], frozen := false, retires := [], startDue := [],
    readmits := [], dacWords := [] } }
  (t.wrN 0x2000 9 1).sendInit

/-- What calibration state follows when rotation may run: 2 running, 3 frozen, 4 off (R138). -/
def State.calState (s : State) : Nat :=
  if s.cnv.frozen then 3 else if s.rdN 0x2000 0x0A = 0 then 4 else 2

/-- The check of CALREF_V against the bandgap (R121). -/
def State.calref (s : State) (uv : Nat) : State :=
  let d := s.rdN 0x2000 7
  let bad := decide (d < 50 * (max uv d - min uv d))
  let t := s.wrN 0x2000 8 uv
  let good := if bad then 0 else t.cnv.calGood + 1
  let clears := decide (3 ≤ good)
  let t : State := { t with cnv := { t.cnv with
    calGood := good, bandgap := if bad then true else if clears then false else t.cnv.bandgap } }
  if bad then t.raise 0x2000 0x0C 1 else if clears then t.clear 0x2000 0x0C 1 else t

/-- One slice at the end of foreground calibration: retired, faulty, or healthy with its stored or newly found trim
(R124 steps 3 and 4). A slice that fails has cause 3 where its stored trim was verified and 4 where one was searched (log
entry 139). A word that was measured at another rate and not found anew is not valid any more (R125). -/
def State.calSlice (s : State) (a n : Nat) (faulty : Bool) : State :=
  let stored := s.rdS (0x2010 + a) 2
  let w := beField stored (8 * n) 8
  let same := decide (s.rdN (0x2010 + a) 3 = s.shown.sampleRate s.shown.adc)
  let found := if trimWordOk w same then w else freeTrim (s.free + sliceKey a n)
  let kept := if same then w else w % 2 ^ 63
  if bit w 62 then s.setSlice a n { Slice.off with role := 6, corr := { SliceCorr.nominal with trim := kept } }
  else if faulty then
    s.setSlice a n { Slice.off with
      role := 5, measuredAt := s.uptime, cause := if trimWordOk w same then 3 else 4
      corr := { SliceCorr.nominal with trim := kept } }
  else
    let f := fun (j : Nat) => Config.freeNat (s.free + 608 + 4 * sliceKey a n + j)
    s.setSlice a n { Slice.off with
      role := 1, measuredAt := s.uptime,
      corr := { trim := found, offset := signedOf 2 (f 0 % 65536), gain := signedOf 2 (f 1 % 65536),
                skew := signedOf 2 (f 2 % 65536), bandwidth := beBytes 10 (f 3) } }

/-- Positions 0 to 143 to the lowest-numbered healthy slices in ascending order; a position with no slice is degraded
(R124 step 5, R131). -/
def State.assignPositions (s : State) (a : Nat) : State :=
  let h := s.inRole a 1
  let t := s.each (List.range 144) fun u p =>
    match h[p]? with
    | some n => u.setSlice a n { u.adcSlice a n with role := 0, position := p, timesLive := (u.adcSlice a n).timesLive + 1 }
    | none => { u with cnv := { u.cnv with degraded := u.cnv.degraded ++ [(a, p)] } }
  t

/-- A DAC trim word as measured: Valid set, the reserved bits 0, and no multiplexer timing for sub-DAC 0 (R137). -/
def dacTrim (sub w : Nat) : Nat :=
  2 ^ 63 + (if sub = 0 then w % 2 ^ 48 / 2 ^ 16 * 2 ^ 16 + w % 2 ^ 8 else w % 2 ^ 48)

/-- Whether two DAC trim words may be written: reserved bits 0, and no multiplexer timing for sub-DAC 0 (R137, log entry
140). -/
def dacRecordOk (b : List Byte) : Bool :=
  ((List.range (b.length / 8)).all fun n => decide (field (beField b (8 * n) 8) 48 15 = 0))
    && decide (field (beField b 0 8) 8 8 = 0)

/-- The trim words of a DAC in force and its record with the rate (R125, R137). -/
def State.dacRecord (s : State) (d : Nat) (words : List Byte) : State :=
  let t : State := { s with cnv := { s.cnv with dacWords := lput d words s.cnv.dacWords } }
  (t.wrS (0x2030 + d) 2 words).wrN (0x2030 + d) 3 (s.shown.sampleRate s.shown.dac)

/-- One DAC at the end of foreground calibration: its two trim words verified or found (R124 step 6, R137). -/
def State.calDac (s : State) (d : Nat) : State :=
  let stored := s.rdS (0x2030 + d) 2
  let rate := s.shown.sampleRate s.shown.dac
  let same := decide (s.rdN (0x2030 + d) 3 = rate)
  let w := fun (i : Nat) =>
    let x := beField stored (8 * i) 8
    if bit x 63 && same then x
    else dacTrim i (Config.freeNat (s.free + 4000 + 2 * d + i))
  s.dacRecord d (beBytes 8 (w 0) ++ beBytes 8 (w 1))

/-! ### Freezing (R28, R134, R135) -/

/-- Rotation freezes: before the swap the rotation is abandoned and the spare has its previous corrections again, its trims being
left as they are; after it the released slice waits in role 4 (R118, R134, R136). -/
def State.freezeConverters (s : State) : State :=
  let t := s.each (List.range 4) fun u a =>
    match lget a u.cnv.rotations with
    | some r =>
      if r.swapped then u.setRole a r.live 4
      else
        let x := u.adcSlice a r.spare
        let v := u.setSlice a r.spare { x with role := 1, position := 255, corr := { r.prev with trim := x.corr.trim } }
        ((v.abandon a).fillDegraded a).adcReport a
    | none => u
  let t : State := { t with cnv := { t.cnv with frozen := true, startDue := [] } }
  t.wrN 0x2000 9 3

/-- 2030+d:0A: 1 while the loops are frozen, 0 in SERVICE, where the DACs are trimmed, else 2 (R136, R141). -/
def State.dacBackground (s : State) : Nat :=
  if s.rdN 0x2000 9 < 2 then 2 else if s.cnv.frozen then 1 else if s.inMode .service then 0 else 2

/-- SYNTH_LOCK_LOSS: CNV_LOL and the DACs muted (R116). -/
def execSynthLockLoss (s : State) : Host.Outcome State Fault Refusal :=
  .next (if s.on 2 then ((s.raise 0x2000 0x0C 0).muteCause 2).rxInvalidJudge else s)

/-- SYNTH_LOCK_RETURN: CNV_LOL clears; nothing is recalibrated (R116). -/
def execSynthLockReturn (s : State) : Host.Outcome State Fault Refusal :=
  .next (if s.rdBit 0x2000 0x0C 0 then ((s.clear 0x2000 0x0C 0).unmuteCause 2).rxInvalidJudge else s)

/-- CALREF_CHECK (R121). -/
def execCalrefCheck (measuredUv : Nat) (s : State) : Host.Outcome State Fault Refusal :=
  .next (if s.on 2 then s.calref measuredUv else s)

/-! ### Rotation (R126 to R128, R134, R135) -/

/-- Start the rotation of a position with the oldest ready spare (R126 step 1). -/
def State.startRotation (s : State) (a p : Nat) (retire : Bool) : State :=
  match s.oldestSpare a, s.liveAt a p with
  | some n, some r =>
    let t := s.setSlice a n { s.adcSlice a n with role := 2, position := 255 }
    { t with cnv := { t.cnv with
      rotations := lput a { spare := n, position := p, live := r, windows := 0, shadowing := false, swapped := false,
                            retire := retire, prev := (s.adcSlice a n).corr } t.cnv.rotations } }
  | _, _ => s

/-- The rotation of the next position in round robin, with at least two spares ready (R126, R128). -/
def State.roundRobin (s : State) (a : Nat) : State :=
  if s.rdN 0x2000 9 = 2 ∧ 2 ≤ (s.inRole a 1).length then
    let p := s.rdN (0x2010 + a) 0x0D
    ((s.startRotation a p false).wrN (0x2010 + a) 0x0D ((p + 1) % 144)).adcReport a
  else s

/-- Waiting retire commands whose slice has left service: one that took role 5 takes role 6 at once (R132, log entry 182). -/
def State.servedRetires (s : State) (a : Nat) : State :=
  s.each (s.cnv.retires.filter fun x => x.1 == a && (s.adcSlice a x.2).role != 0) fun t x =>
    let u : State := { t with cnv := { t.cnv with retires := t.cnv.retires.erase x } }
    if (u.adcSlice a x.2).role = 5 then ((u.setRole a x.2 6).trimReport a).adcReport a else u

/-- What waits for the end of an ADC's rotation starts, where none is in progress and the engines run: a retire command of a
live slice, as soon as a spare is ready, else the rotation that fell due (R126, R132, R134, R135). -/
def State.nextRetire (s : State) (a : Nat) : State :=
  let s := s.servedRetires a
  if (lget a s.cnv.rotations).isSome || !s.rotates then s
  else match s.cnv.retires.find? fun x => x.1 == a with
    | some (_, n) =>
      if s.inRole a 1 = [] then s
      else
        let t : State := { s with cnv := { s.cnv with retires := s.cnv.retires.erase (a, n) } }
        (t.startRotation a (t.adcSlice a n).position true).adcReport a
    | none =>
      if s.cnv.startDue.contains a then
        ({ s with cnv := { s.cnv with startDue := dropFrom a s.cnv.startDue } } : State).roundRobin a
      else s

/-- A slice that is re-admitted measured, with a full trim search: role 1, or role 5 where it fails (R132). -/
def State.readmitted (s : State) (a n : Nat) (m : SliceMeasure) : State :=
  let x := s.adcSlice a n
  let t := if withinLimits m.left then
      (s.setSlice a n { x with
        role := 1, position := 255, corr := measuredCorr x.corr m true, measuredAt := s.uptime, cause := 0 }).fillDegraded a
    else s.faulty a n 4
  ((t.trimReport a).adcReport a).nextRetire a

/-- Rotation resumes at the next position; a slice that waited in role 4 is measured, and so
are those whose re-admission waited; retire commands that waited are served (R134, R135). -/
def State.resumeConverters (s : State) : State :=
  let t : State := { s with cnv := { s.cnv with frozen := false } }
  let t := t.each (List.range 4) fun u a =>
    match lget a u.cnv.rotations with
    | some r => if r.swapped then u.setRole a r.live 2 else u
    | none => u
  let l := t.cnv.readmits
  let t : State := { t with cnv := { t.cnv with readmits := [] } }
  let t := t.each l fun u r => u.readmitted r.1.1 r.1.2 r.2
  let t := t.wrN 0x2000 9 t.calState
  t.each (List.range 4) State.nextRetire

/-- The calibration loops freeze where something holds them and resume where nothing does; not before foreground
calibration has ended. -/
def State.convJudge (s : State) : State :=
  if s.rdN 0x2000 9 < 2 then s
  else if s.convHeld && !s.cnv.frozen then s.freezeConverters
  else if !s.convHeld && s.cnv.frozen then s.resumeConverters
  else s

/-- FOREGROUND_CALIBRATION_DONE (R124, R125). What the calibration found of faulty slices, its duration and CALREF_V
come with the event; the trims and corrections it found are free values. -/
def execForegroundCalibrationDone (r : ForeResult) (s : State) : Host.Outcome State Fault Refusal :=
  .next (if s.rdN 0x2000 9 = 1 then
      let t := s.calref r.calrefUv
      let t := t.each (List.range 4) fun u a =>
        ((u.each (List.range 152) fun v n => v.calSlice a n (r.left.any fun x => x.1 == (a, n) && !withinLimits x.2)).assignPositions a)
      let t := (t.each (List.range 4) fun u a => (u.adcReport a).trimReport a)
      let t := t.each (List.range 4) State.calDac
      let t : State := { t with free := t.free + 4008 }
      let t := t.wrN 0x2000 0x0B r.durationUs
      ((t.wrN 0x2000 9 t.calState).convJudge).unmuteCause 4
    else s)

/-- ROTATION_START: the next rotation of an ADC falls due; while one is running it waits for its end (R126, R128). -/
def execRotationStart (a : Fin 4) (s : State) : Host.Outcome State Fault Refusal :=
  .next (if s.rdN 0x2000 9 ≠ 2 ∨ !s.rotates then s
    else if (lget a.val s.cnv.rotations).isSome then { s with cnv := { s.cnv with startDue := addTo a.val s.cnv.startDue } }
    else s.roundRobin a.val)

/-- SPARE_MEASUREMENT_DONE: the spare shadows its position, or takes role 5 and the rotation ends (R123, R126 step 3). -/
def execSpareMeasurementDone (a : Fin 4) (m : SliceMeasure) (s : State) : Host.Outcome State Fault Refusal :=
  .next (match lget a.val s.cnv.rotations with
    | some r =>
      if r.shadowing || r.swapped || !s.rotates then s
      else
        let x := s.adcSlice a.val r.spare
        if withinLimits m.left then
          let t := s.setSlice a.val r.spare { x with
            role := 3, position := r.position, corr := measuredCorr x.corr m false, measuredAt := s.uptime }
          let t : State := { t with cnv := { t.cnv with
            rotations := lput a.val { r with shadowing := true } t.cnv.rotations } }
          if beyondHalf m.found then t.trimReport a.val else t
        else
          (((s.faulty a.val r.spare 3).endRotation a.val).adcReport a.val).nextRetire a.val
    | none => s)

/-- The crossbar selects the spare for its position: the spare takes role 0, the released slice role 2, or role 6 where
a retire command asked for it (R126 steps 5 and 6, R132). -/
def State.swapSlice (s : State) (a : Nat) (r : Rotation) : State :=
  let t := s.makeLive a r.spare r.position
  if r.retire then
    ((((((t.setRole a r.live 6).endRotation a).inc32 (0x2010 + a) 0x0A).count (.rotationDone a)).trimReport a).adcReport
      a).nextRetire a
  else
    let t := t.setRole a r.live 2
    { t with cnv := { t.cnv with rotations := lput a { r with swapped := true } t.cnv.rotations } }

/-- SHADOW_WINDOW_END: the residual is folded into the spare (DESIGN CHOICE, log entry 158: it is the change its corrections need,
and is added to them), `taps` being its share of the bandwidth taps; within R123 the
crossbar swaps, and after four windows the rotation is abandoned (R123, R126 steps 4 and 5). -/
def execShadowWindowEnd (a : Fin 4) (d : Residual) (taps : List Int) (s : State) : Host.Outcome State Fault Refusal :=
  .next (match lget a.val s.cnv.rotations with
    | some r =>
      if !r.shadowing || r.swapped || !s.rotates then s
      else
        let x := s.adcSlice a.val r.spare
        let t := s.setSlice a.val r.spare { x with corr := { x.corr with
          offset := clamp14 (x.corr.offset + d.offset), gain := clamp14 (x.corr.gain + d.gain)
          skew := clamp14 (x.corr.skew + d.skew), bandwidth := foldTaps x.corr.bandwidth taps } }
        let r' := { r with windows := r.windows + 1 }
        if withinLimits d then t.swapSlice a.val r'
        else if 4 ≤ r'.windows then
          ((((t.setRole a.val r.spare 1).abandon a.val).fillDegraded a.val).adcReport a.val).nextRetire a.val
        else { t with cnv := { t.cnv with rotations := lput a.val r' t.cnv.rotations } }
    | none => s)

/-- RELEASED_SLICE_MEASURED: the released slice becomes a spare, or takes role 5, and the rotation is complete (R126
step 7, R131). -/
def execReleasedSliceMeasured (a : Fin 4) (m : SliceMeasure) (s : State) : Host.Outcome State Fault Refusal :=
  .next (match lget a.val s.cnv.rotations with
    | some r =>
      if !r.swapped || !s.rotates then s
      else
        let x := s.adcSlice a.val r.live
        let t := if withinLimits m.left then
            (s.setSlice a.val r.live { x with
              role := 1, position := 255, corr := measuredCorr x.corr m false, measuredAt := s.uptime }).fillDegraded a.val
          else s.faulty a.val r.live 3
        let t := if withinLimits m.left && beyondHalf m.found then t.trimReport a.val else t
        ((((t.endRotation a.val).inc32 (0x2010 + a.val) 0x0A).count (.rotationDone a.val)).adcReport a.val).nextRetire a.val
    | none => s)

/-- The hand-over of a faulty slice's position to the hot spare, to the spare of a rotation when it is the only one
left, or to none, and the position is degraded (R130, R131, R134). -/
def State.emergencyAt (s : State) (a p : Nat) : State :=
  let done := fun (t : State) => (t.inc32 (0x2010 + a) 0x0C).count (.emergency a)
  match s.hotSpare a, lget a s.cnv.rotations with
  | some h, some r =>
    let t := s.makeLive a h p
    done (if r.position = p && !r.swapped then
      { t with cnv := { t.cnv with
        rotations := lput a { r with live := h, retire := false } t.cnv.rotations
        retires := if r.retire then (a, r.live) :: t.cnv.retires else t.cnv.retires } } else t)
  | some h, none => done (s.makeLive a h p)
  | none, some r =>
    if r.swapped then { s with cnv := { s.cnv with degraded := s.cnv.degraded ++ [(a, p)] } }
    else done ((s.abandon a).makeLive a r.spare p)
  | none, none => { s with cnv := { s.cnv with degraded := s.cnv.degraded ++ [(a, p)] } }

/-- A live slice, or the shadowing spare, is faulty and is replaced; a retire command of a slice that faults first is served in its
role 5 (R130, R131, R132, R134, log entry 182). -/
def State.sliceFault (s : State) (a n cause : Nat) : State :=
  let x := s.adcSlice a n
  if x.role = 0 then
    let t := s.faulty a n cause
    match lget a t.cnv.rotations with
    | some r =>
      if r.live = n ∧ r.shadowing ∧ ¬ r.swapped then
        let t : State := if r.retire then { t with cnv := { t.cnv with retires := (a, n) :: t.cnv.retires } } else t
        (((((t.makeLive a r.spare r.position).endRotation a).inc32 (0x2010 + a) 0x0C).count (.emergency a)).adcReport
          a).nextRetire a
      else ((t.emergencyAt a x.position).adcReport a).nextRetire a
    | none => ((t.emergencyAt a x.position).adcReport a).nextRetire a
  else if x.role = 3 then (((s.abandon a).faulty a n cause).adcReport a).nextRetire a
  else s

/-- The fault cause that R130 gives what hardware sees of a slice: 1 for one code in 4 096 successive samples while the mean input
exceeds 4 LSB, 2 for a mean off by more than 8 LSB (R130, R140). -/
def sliceCause (w : SliceWatch) : Option Nat :=
  if 4096 ≤ w.run ∧ 4 * 256 < w.input then some 1 else if 8 * 256 < w.meanOff.natAbs then some 2 else none

/-- SLICE_FAULT: hardware declares a slice faulty where what it sees of it meets R130. -/
def execSliceFault (a : Fin 4) (slice : Fin 152) (watch : SliceWatch) (s : State) : Host.Outcome State Fault Refusal :=
  .next (match sliceCause watch with
    | some cause => s.sliceFault a.val slice.val cause
    | none => s)

/-- The rule of a write to 2000:0A: the calibration state follows, and the new interval counts from the end of a rotation in
progress, so that one that fell due under the old interval does not start (R128, R134). -/
def State.rotationIntervalEffect (s : State) (v : Nat) : Effect :=
  let t : State := { s.wrN 0x2000 0x0A v with cnv := { s.cnv with startDue := [] } }
  .ok (if s.rdN 0x2000 9 = 2 ∨ s.rdN 0x2000 9 = 4 then t.wrN 0x2000 9 t.calState else t)

/-- The slice the cursor selects (R140). -/
def State.cursorSlice (s : State) : Nat × Nat := (s.rdN 0x2020 1, s.rdN 0x2020 2)

/-- The modes in which slice commands are served (R132). -/
def State.sliceModeFails (s : State) : List Status := need s.lineMode .wrongMode

/-- The rule of command 1 of 2021:09 (R132). Of the slices in roles 1, 2 and 4 that are left, those do not count that the
rotation of this command and of the retire commands before it make live (R134). A live slice waits while a rotation is in
progress or the engines do not run (R135). DESIGN CHOICE (log entry 185): a slice in role 6 or 7 stays as it is, and one that is
measured after the swap ends its rotation, which counts as completed. -/
def State.sliceRetireEffect (s : State) : Effect :=
  let a := s.cursorSlice.1
  let n := s.cursorSlice.2
  let x := s.adcSlice a n
  let left := ((List.range 152).filter fun m => m != n && ((s.adcSlice a m).role == 1 || (s.adcSlice a m).role == 2
    || (s.adcSlice a m).role == 4)).length
  let rot := lget a s.cnv.rotations
  let leave := fun (t : State) => ((t.trimReport a).adcReport a).nextRetire a
  let spareOf := fun (r : Rotation) => if (s.adcSlice a r.spare).role == 2 then 1 else 0
  let promised := (s.cnv.retires.filter fun y => y.1 == a).length
    + (match rot with | some r => if r.retire && !r.swapped then spareOf r else 0 | none => 0)
  let own := if x.role ≠ 0 then 0 else match rot with
    | some r => if r.live = n ∧ ¬ r.swapped then (if r.retire then 0 else spareOf r) else 1
    | none => 1
  { fails := s.sliceModeFails ++ need (decide (promised + own < left)) .exhausted
      ++ need (x.role != 0 || decide (s.inRole a 1 ≠ [])) .exhausted
    state :=
      match x.role with
      | 0 =>
        match rot with
        | some r =>
          if r.live = n ∧ ¬ r.swapped then
            { s with cnv := { s.cnv with rotations := lput a { r with retire := true } s.cnv.rotations } }
          else { s with cnv := { s.cnv with retires := s.cnv.retires ++ [(a, n)] } }
        | none =>
          if s.rotates then (s.startRotation a x.position true).adcReport a
          else { s with cnv := { s.cnv with retires := s.cnv.retires ++ [(a, n)] } }
      | 3 => leave ((s.abandon a).setRole a n 6)
      | 6 => s
      | 7 => s
      | _ =>
        match rot with
        | some r =>
          if r.spare = n ∧ ¬ r.swapped then leave ((s.abandon a).setRole a n 6)
          else if r.live = n ∧ r.swapped then
            leave ((((s.endRotation a).inc32 (0x2010 + a) 0x0A).count (.rotationDone a)).setRole a n 6)
          else leave (s.setRole a n 6)
        | none => leave (s.setRole a n 6) }

/-- The rule of command 2 of 2021:09, with what the full trim search finds: within 40 ms the slice takes role 1, or
role 5; while the engines do not run it waits for them (R28, R132, log entry 182). -/
def State.sliceReadmitEffect (s : State) (m : SliceMeasure) : Effect :=
  let a := s.cursorSlice.1
  let n := s.cursorSlice.2
  let x := s.adcSlice a n
  { fails := s.sliceModeFails ++ need (x.role == 5 || x.role == 6) .conflict
    state :=
      if s.rotates then s.readmitted a n m
      else { s with cnv := { s.cnv with readmits := s.cnv.readmits ++ [((a, n), m)] } } }

/-- SLICE_RETIRE (R132). -/
def execSliceRetire (s : State) : Host.Outcome State Fault Refusal :=
  .next (s.command 0x2021 9 (.num 1) s.sliceRetireEffect)

/-- SLICE_READMIT (R132). -/
def execSliceReadmit (m : SliceMeasure) (s : State) : Host.Outcome State Fault Refusal :=
  .next (s.command 0x2021 9 (.num 2) (s.sliceReadmitEffect m))

/-- Whether a trim record may be written: reserved bits 0 and at most seven slices retired (R133); its length is the
Range column's to check. -/
def trimRecordOk (b : List Byte) : Bool :=
  let words := (List.range (b.length / 8)).map fun n => beField b (8 * n) 8
  (words.all fun w => decide (field w 56 6 = 0)) && decide ((words.filter fun w => bit w 62).length ≤ 7)

/-! ### DACs (R136) -/

/-- The background trim step of a DAC (R136): at most 5 fs of multiplexer timing, 0.01 % of gain and 0.05 LSB of
offset, in SERVICE. `timing` counts steps of 5 fs. -/
def execDacTrimStep (d : Fin 4) (timing gain offset : Int) (s : State) : Host.Outcome State Fault Refusal :=
  .next (if s.dacBackground == 0 && s.on (6 + d.val) then
      let i := 0x2030 + d.val
      let words := padTo 16 (lgetD d.val [] s.cnv.dacWords)
      let w := beField words 8 8
      let old := signedOf 1 (field w 8 8)
      let tm := max (-128) (min 127 (old + max (-1) (min 1 timing))) - old
      let mux := unsignedOf 1 (old + tm)
      let w' := w - field w 8 8 * 256 + mux * 256
      let t := (s.wrI i 6 (s.rdI i 6 - 5 * tm)).wrI i 4 (clamp14 (s.rdI i 4 + max (-1) (min 1 gain)))
      let t := (t.wrI i 5 (clamp14 (s.rdI i 5 + max (-12) (min 12 offset)))).inc32 i 8
      t.dacRecord d.val (slice words 0 8 ++ beBytes 8 w')
    else s)

/-- DAC_IMAGE_TIMER: for 100 ms the image has stood at `level`, above or below the threshold (R136, R141). -/
def execDacImageTimer (d : Fin 4) (level : Int) (s : State) : Host.Outcome State Fault Refusal :=
  .next (
    let limit := s.rdI (0x2030 + d.val) 9
    if !s.on (6 + d.val) || decide (level = limit) then s else s.defect 0x2000 0x0C (6 + d.val) (decide (limit < level)))

/-! ### Gain loops (R142 to R144) -/

/-- Which way a loop wants its gain to move: up, down, or to stay (R144). TIA: within ±1 dB, or more than 18 dB below the
target, it stays; driver: within ±2 %. -/
def gainWish (tia : Bool) (target measured : Nat) : Int :=
  if tia then
    if measured * 1000000 < target * 125893 then 0
    else if measured * 1000000 < target * 891251 then 1
    else if target * 1122018 < measured * 1000000 then -1
    else 0
  else if measured * 50 < target * 49 then 1
  else if target * 51 < measured * 50 then -1
  else 0

/-- A write over FE-SPI, counted: the register address, most significant byte first, then the data (R142, R143). -/
def State.spiWrite (s : State) (cs reg value : Nat) : State :=
  let i := 0x2041 + cs
  (s.emit (.feSpi cs (beBytes (s.rdN i 3) reg ++ beBytes (s.rdN i 4) value) 0)).inc32 0x2040 2

/-- A read over FE-SPI, counted: the address with the read flag in its first byte, and the data clocked in (R142, R143). -/
def State.spiRead (s : State) (cs reg : Nat) : State :=
  let i := 0x2041 + cs
  let a := match beBytes (s.rdN i 3) reg with
    | b :: r => (b ||| BitVec.ofNat 8 (s.rdN i 5)) :: r
    | [] => []
  (s.emit (.feSpi cs a (s.rdN i 4))).inc32 0x2040 2

/-- Whether a loop is held by a readback mismatch. -/
def State.gainHeld (s : State) (j : Nat) : Bool := decide (j ∈ s.cnv.gainHold)

/-- A gain code written and read back (R144). -/
def State.writeGain (s : State) (j code readback : Nat) : State :=
  let i := 0x2050 + j
  let cs := s.rdN i 2
  let t := (((s.spiWrite cs (s.rdN i 3) code).spiRead cs (s.rdN i 3)).wrN i 9 code).inc32 i 0x0B
  if readback = code then t
  else
    let t : State := { t with cnv := { t.cnv with gainHold := addTo j t.cnv.gainHold } }
    (t.inc32 0x2040 3).raise 0x2000 0x0C (10 + cs)

/-- GAIN_LOOP_UPDATE: each millisecond brings the input RMS of an ADC, whatever its loop does (R139), and an enabled loop moves
its code one step within its limits (R144). DESIGN CHOICE (log entry 186): a code outside the limits goes to the nearer one. -/
def execGainLoopUpdate (j : Fin 8) (measured : Nat) (readback : Nat) (s : State) : Host.Outcome State Fault Refusal :=
  .next (
    let i := 0x2050 + j.val
    let tia := decide (j.val < 4)
    let t := if tia && decide (2 ≤ s.rdN 0x2000 9) then s.wrN (0x2010 + j.val) 9 (measured % 65536) else s
    if !s.rdB i 1 || s.gainHeld j.val || !s.rdB (0x2041 + s.rdN i 2) 1 || !decide (2 ≤ s.rdN 0x2000 9) || !s.itemRuns 9
    then t
    else
      let t := if tia then t else t.spiRead (s.rdN i 2) (s.rdN i 7)
      let wish := gainWish tia (s.rdN i 8) measured
      let up := if s.rdN i 6 = 0 then wish else -wish
      let code := s.rdN i 9
      if up = 0 then t.wrB i 0x0A false
      else if up = 1 then
        if s.rdN i 5 ≤ code then t.wrB i 0x0A true
        else (t.wrB i 0x0A false).writeGain j.val (max (s.rdN i 4) (code + 1)) readback
      else if code ≤ s.rdN i 4 then t.wrB i 0x0A true
      else (t.wrB i 0x0A false).writeGain j.val (min (s.rdN i 5) (code - 1)) readback)

/-- FESPI_RETRY: the write is retried while the loops' engines run, and the defect clears at the first matching readback (R144). -/
def execFespiRetry (j : Fin 8) (readback : Nat) (s : State) : Host.Outcome State Fault Refusal :=
  .next (
    let i := 0x2050 + j.val
    let cs := s.rdN i 2
    if !s.gainHeld j.val || !s.itemRuns 9 then s
    else
      let t := ((s.spiWrite cs (s.rdN i 3) (s.rdN i 9)).spiRead cs (s.rdN i 3)).inc32 i 0x0B
      if readback = s.rdN i 9 then
        let t : State := { t with cnv := { t.cnv with gainHold := dropFrom j.val t.cnv.gainHold } }
        if t.cnv.gainHold.any fun x => t.rdN (0x2050 + x) 2 == cs then t else t.clear 0x2000 0x0C (10 + cs)
      else t.inc32 0x2040 3)

end Sys2Proof.Machine
end

