-- ==== Sys2Proof/Machine/Fec.lean ====
section
/-! DEFINITION. Soft-decision error correction (spec/07_fec.md): the code and its arrangement, the layered min-sum
decoder, the cap in force, reporting, windows and defects, and forced failures. -/

namespace Sys2Proof.Machine

/-! ### The code and the arrangement of its bits (R202 to R208) -/

/-- Code length n of a profile: the G1 code sends 15 360 bits (R202, R204). -/
def codeLength (profile : Nat) : Nat := if profile = 2 then 15360 else 20480
/-- Systematic bits k of a profile (R202, R204). -/
def codeSystematic (profile : Nat) : Nat := if profile = 2 then 12288 else 17408
/-- Shortened bits at the head of the codeword (R204). -/
def shortened (profile : Nat) : Nat := if profile = 2 then 5120 else 0

/-- The free matrix of the silicon, each shift from −1 to 255. -/
def rawShift (b j : Nat) : Int := (Config.baseRaw b j % 257 : Nat) - 1

/-- Row `i` of block row `b` over the parity bits, as a number whose bit `c` stands for parity bit `c` (R202). -/
def parityRow (shift : Nat → Nat → Int) (b i : Nat) : Nat :=
  (List.range 12).foldl (fun a j =>
    let s := shift b (68 + j)
    if s < 0 then a else a ^^^ 2 ^ (256 * j + (i + s.toNat) % 256)) 0

/-- The rows of the check matrix, block row by block row, each made by `f` (R202). -/
def checkRows (f : Nat → Nat → Nat) : List Nat := (List.range 12).flatMap fun b => (List.range 256).map (f b)

/-- Rows solved over GF(2) for the columns listed: the row left for each column, or none where the columns are not
independent. `done` holds the columns solved before. -/
def solveRows : List Nat → List (Nat × Nat) → List Nat → Option (List (Nat × Nat))
  | [], done, _ => some done
  | c :: cs, done, rows =>
    match rows.find? fun r => bit r c with
    | none => none
    | some p =>
      let cut := fun (r : Nat) => if bit r c then r ^^^ p else r
      solveRows cs ((c, p) :: done.map fun d => (d.1, cut d.2)) ((rows.erase p).map cut)

/-- Whether the parity part of the free matrix is invertible over GF(2). -/
def rawInvertible : Bool := (solveRows (List.range 3072) [] (checkRows (parityRow rawShift))).isSome

/-- The shift of the base matrix at a block row and column; −1 is the all-zero block. The matrix is fixed in silicon, is what
3002:01 reads, and has an invertible parity part: a free matrix that lacks one stands for none and gives way to identity
blocks there (R202, R203, log entry 4). -/
def baseShift (b j : Nat) : Int :=
  if j < 68 || rawInvertible then rawShift b j else if j = 68 + b then 0 else -1

/-- The 1 920 bytes of 3002:01: 960 shifts of I16, in row order and ascending block column (R203). -/
def baseMatrix : List Byte :=
  (List.range 12).flatMap fun b => (List.range 80).flatMap fun j => beBytes 2 (unsignedOf 2 (baseShift b j))

/-- The codeword bits that row `i` of block row `b` checks, each with the number of its message (R202). -/
def checkRow (b i : Nat) : List (Nat × Nat) :=
  (List.range 80).filterMap fun j =>
    if baseShift b j < 0 then none
    else some (256 * j + (i + (baseShift b j).toNat) % 256, (80 * b + j) * 256 + i)

/-- Amplitude-label bits A of a native LF (R205). -/
def amplitudeBits (m : Nat) : Nat := 3809280 / m * (m / 2 - 1)
/-- Sign positions G of a native LF (R205). -/
def signPositions (m : Nat) : Nat := 3809280 / m
/-- Information sign bits of a native LF (R205). -/
def infoSignBits (m : Nat) : Nat := 93 * 17408 - amplitudeBits m
/-- Codeword and systematic place of systematic bit `i` (R206). -/
def systematicPlace (i : Nat) : Nat × Nat := (i % 93, i / 93)
/-- Codeword, parity place and sign position of parity bit `p` (R206). -/
def parityPlace (m p : Nat) : Nat × Nat × Nat := (p % 93, p / 93, signPositions m - 285696 + p)
/-- Information bits of an LF that enter the distribution matcher (R206). -/
def matcherShare (c : Carrier) (h : Nat) : Nat := c.netBits h - (1618944 - amplitudeBits c.bits)

/-! ### Encoding (R203, R204, R209) -/

/-- What the systematic bits contribute to the check of row `i` of block row `b`. -/
def syndromeBit (sys : List Bool) (b i : Nat) : Bool :=
  (List.range 68).foldl (fun a j =>
    if baseShift b j < 0 then a else xor a (sys.getD (256 * j + (i + (baseShift b j).toNat) % 256) false)) false

/-- The 3 072 parity bits of 17 408 systematic bits: the one solution of H · c = 0 (R203). -/
def parityOf (sys : List Bool) : List Bool :=
  let rows := checkRows fun b i => parityRow baseShift b i + (if syndromeBit sys b i then 2 ^ 3072 else 0)
  match solveRows (List.range 3072) [] rows with
  | some l => (List.range 3072).map fun c => match l.find? fun p => p.1 == c with | some p => bit p.2 3072 | none => false
  | none => List.replicate 3072 false

/-- The codeword sent for `k` information bits: those bits, then the parity; shortened bits are zero and not sent (R203,
R204, R208). -/
def encode (profile : Nat) (info : List Bool) : List Bool :=
  let sys := (List.range (codeSystematic profile)).map fun i => info.getD i false
  sys ++ parityOf (List.replicate (shortened profile) false ++ sys)

/-! ### Layered min-sum (R210) -/

/-- Saturation to `w` bits, two's complement and symmetric. -/
def satBits (w : Nat) (v : Int) : Int := max (1 - 2 ^ (w - 1)) (min (2 ^ (w - 1) - 1) v)

/-- Three quarters of a magnitude, on 8 bits. -/
def scaled (m : Nat) : Nat := min 127 (3 * m / 4 + (if 3 * m % 4 ≠ 0 && Config.minSumUp m then 1 else 0))

/-- The smallest and the second smallest of magnitudes, with the place of the smallest. -/
def twoSmallest : Nat → List Nat → Nat × Nat × Nat
  | _, [] => (511, 511, 0)
  | i, a :: r =>
    let t := twoSmallest (i + 1) r
    if a ≤ t.1 then (a, t.1, i) else (t.1, min a t.2.1, t.2.2)

/-- Posteriors by codeword bit and messages by number. -/
structure Decoding where
  post : Array Int
  msg : Array Int

/-- One check row: each variable's message becomes three quarters of the smallest other magnitude with the product of
the other signs, and its posterior takes the change (R210). -/
def Decoding.row (d : Decoding) (vars : List (Nat × Nat)) : Decoding :=
  let q := vars.map fun v => d.post.getD v.1 0 - d.msg.getD v.2 0
  let t := twoSmallest 0 (q.map fun x => x.natAbs)
  let neg := q.foldl (fun a x => xor a (decide (x < 0))) false
  (vars.zip q).zipIdx.foldl (fun e p =>
    let m : Int := scaled (if p.2 = t.2.2 then t.2.1 else t.1)
    let r := if xor neg (decide (p.1.2 < 0)) then -m else m
    { post := e.post.setIfInBounds p.1.1.1 (satBits 10 (p.1.2 + r)), msg := e.msg.setIfInBounds p.1.1.2 r }) d

/-- One iteration: the layers 0 to 11 in order, each with its 256 rows (R210). -/
def Decoding.iterate (d : Decoding) : Decoding :=
  (List.range 12).foldl (fun e b => (List.range 256).foldl (fun f i => f.row (checkRow b i)) e) d

/-- Whether the syndrome of the posteriors' signs is zero (R210). -/
def Decoding.syndromeZero (d : Decoding) : Bool :=
  (List.range 12).all fun b => (List.range 256).all fun i =>
    !((checkRow b i).foldl (fun a v => xor a (decide (d.post.getD v.1 0 < 0))) false)

/-- Decode with `n` iterations left: the iterations used, whether the syndrome became zero, and the result (R210). -/
def Decoding.run : Nat → Nat → Decoding → Nat × Bool × Decoding
  | 0, used, d => (used, false, d)
  | n + 1, used, d =>
    let e := d.iterate
    if e.syndromeZero then (used + 1, true, e) else Decoding.run n (used + 1) e

/-- A codeword decoded from its input LLRs: the shortened bits enter as +31, the rest saturate at ±31 (R185, R204). -/
def decodeCodeword (profile cap : Nat) (llrs : List Int) : Nat × Bool × List Int × Decoding :=
  let input := List.replicate (shortened profile) 31 ++
    (List.range (codeLength profile)).map fun i => llrSat (llrs.getD i 0)
  let r := Decoding.run cap 0 { post := input.toArray, msg := Array.replicate 245760 0 }
  (r.1, r.2.1, input, r.2.2)

/-- Sent bits whose decoded value differs from the sign of the input LLR (R220). -/
def correctedBits (profile : Nat) (input : List Int) (d : Decoding) : Nat :=
  ((input.zipIdx.drop (shortened profile)).filter fun p => decide (p.1 < 0) != decide (d.post.getD p.2 0 < 0)).length

/-- The systematic hard decisions of a decoded codeword, without the shortened bits (R210). -/
def hardDecisions (profile : Nat) (d : Decoding) : List Bool :=
  (List.range (codeSystematic profile)).map fun i => decide (d.post.getD (shortened profile + i) 0 < 0)

/-! ### Latency, power and threshold (R209, R211, R214) -/

/-- Cycles at 1.171875 GHz and a thread LF or a codeword, in ps rounded down. -/
def Carrier.fecLatency (c : Carrier) (cycles : Nat) : Nat :=
  let parts := if c.profile = 0 then 1 else 93
  (3 * c.threads * c.lfBits * 1000000 + 2560 * cycles * parts * c.bits * c.rate) / (3 * parts * c.bits * c.rate)

/-- Decoder latency of 3000:08 (R211). -/
def Carrier.decoderLatency (c : Carrier) (iterations : Nat) : Nat := c.fecLatency (96 + 288 * iterations)
/-- Encoder latency of 3000:09 (R209). -/
def Carrier.encoderLatency (c : Carrier) : Nat := c.fecLatency 64

/-- The numbers of a configuration, thread by thread. -/
def Carrier.numbers (c : Carrier) : List Nat :=
  [c.profile, c.rate, c.threads, c.bits, c.adc, c.dac] ++ c.codes ++ c.states ++ c.rolls

/-- Transmit latency 2400:0A in ps: the encoder's, and what the stages behind it take, a constant of the configuration
(R169, R209). -/
def Carrier.latencySent (c : Carrier) : Nat := (c.encoderLatency + Config.transmitLatency c.numbers) % 2 ^ 32

/-- Threshold pre-FEC BER for a cap, in 10⁻³; an odd cap has that of the next lower even one (R214). -/
def capThreshold (cap : Nat) : Nat :=
  if cap < 6 then 17 else if cap < 8 then 21 else if cap < 10 then 23 else if cap < 14 then 24 else 25

/-- FEC power at L3200 with every codeword running to an even cap, in W (R214). -/
def capPower (cap : Nat) : Nat := cap + 6

/-! ### The cap in force (R215 to R217) -/

/-- Whether shed step S2 or a higher one is active. -/
def State.shedS2 (s : State) : Bool := decide (2 ≤ s.rdN 0x1011 1)

/-- The cap in force (R215). -/
def State.fecCap (s : State) : Nat := min s.fec.hostCap (min (s.rdN 0x3000 7) (if s.shedS2 then 6 else 16))

/-- The limiter that 3000:04 names: the first of host, budget and S2 that gives the least cap (R215). -/
def State.fecLimiter (s : State) : Nat :=
  if s.fecCap = s.fec.hostCap then 0 else if s.fecCap = s.rdN 0x3000 7 then 1 else 2

/-- The host cap and the budget cap brought together: with no budget they are equal, and otherwise the budget cap lies
at most at the host cap (R216, R226). -/
def State.budgetFollow (s : State) : State :=
  if !s.on 15 then s
  else if s.rdN 0x3000 5 = 0 then (s.wrN 0x3000 7 s.fec.hostCap).clear 0x3000 0x0F 0
  else s.wrN 0x3000 7 (min (s.rdN 0x3000 7) s.fec.hostCap)

/-- A host cap written during S2 takes effect when S2 is left (R217). -/
def State.hostCapInForce (s : State) : State :=
  if s.shedS2 then s
  else
    let t : State := { s with fec := { s.fec with hostCap := s.rdN 0x3000 2 } }
    t.budgetFollow

/-- The decoder starts with PD15: the budget cap at the host cap (R216). -/
def State.fecStart (s : State) : State :=
  let t : State := { s with fec := { s.fec with lowPeriods := 0, threads := [] } }
  let t := t.hostCapInForce
  (t.wrN 0x3000 7 t.fec.hostCap).wrBit 0x3000 0x0F 1 t.shedS2

/-- The shed step changed: the S2 limit and the host cap that waited for its end (R215, R217, R227). -/
def State.fecShed (s : State) : State :=
  let t := s.hostCapInForce
  if t.on 15 then t.defect 0x3000 0x0F 1 t.shedS2 else t

/-- The rule of a write to 3000:01 (R217). -/
def State.latencyEffect (s : State) (v : Nat) : Effect :=
  { fails := need (decide (s.rdN 0x3000 2 ≤ v)) .conflict, state := s.wrN 0x3000 1 v }

/-- The rule of a write to 3000:02 (R217, R226). -/
def State.hostCapEffect (s : State) (v : Nat) : Effect :=
  { fails := need (decide (v ≤ s.rdN 0x3000 1)) .conflict, state := (s.wrN 0x3000 2 v).hostCapInForce }

/-- The rule of a write to 3000:05: a budget that begins starts its cap at the host cap (R216). -/
def State.budgetEffect (s : State) (v : Nat) : Effect :=
  let t := s.wrN 0x3000 5 v
  let t : State := { t with fec := { t.fec with lowPeriods := 0 } }
  .ok (if s.on 15 && decide (s.rdN 0x3000 5 = 0) then t.wrN 0x3000 7 t.fec.hostCap else t.budgetFollow)

/-- Whether the far end has offered another carrier: profile, B, T, m or a roll-off differs from the own one in force (R224,
R357). Without an OFFER the headers received, which carry m and the entropies, are what is known. -/
def State.farDiffers (s : State) : Bool :=
  let c := s.inForce
  let o := s.pic.farOffer
  decide (o ≠ []) && (decide (beField o 1 1 ≠ c.profile) || decide (beField o 2 4 ≠ c.rate) || decide (beField o 6 1 ≠ c.threads)
    || decide (beField o 7 1 ≠ c.bits) || (List.range c.threads).any fun k => beField o (14 + k) 1 != c.rolls.getD k 0)

/-- The rule of a write to 3000:0A: 1 and 2 only in TEST, and 2 only where the carrier and every entropy are equal in both
directions (R224). -/
def State.loopbackEffect (s : State) (v : Nat) : Effect :=
  { fails := need (decide (v = 0) || s.inMode .test) .wrongMode
      ++ need (decide (v ≠ 2) || !s.farDiffers && s.threads.all fun k => (s.hunt k).entropy == s.inForce.code k) .conflict
    state := s.wrN 0x3000 0x0A v }

/-- The rule of a write to 3000:0B (R225). -/
def State.injectionEffect (s : State) (v : Nat) : Effect :=
  { fails := need (decide (v = 0) || (if v = 3 then s.inMode .service || s.inMode .test else s.lineMode)) .wrongMode
    state := s.wrN 0x3000 0x0B v }

/-- The decoder's record of thread k. -/
def FecThread.start : FecThread :=
  { cap := 0, forced := false, force := 0, pos := 0, lfMark := false, sys := [], lfs := [], looped := [], winOk := 0, winAll := 0, winBits := 0, winUnc := 0, winLf := 0,
    sdRun := 0, sdClear := 0, uncClear := 0, excClear := 0, secOk := 0, secAll := 0, secBits := 0, secUnc := 0,
    secIter := 0, hist := [], perAll := 0, perCap := 0, perUnc := 0 }

/-- The decoder's state of a thread. -/
def State.fecOf (s : State) (k : Nat) : FecThread := lgetD k FecThread.start s.fec.threads
/-- The decoder's state of a thread changed. -/
def State.setFec (s : State) (k : Nat) (f : FecThread) : State :=
  { s with fec := { s.fec with threads := lput k f s.fec.threads } }

/-- BUDGET_CAP_UPDATE: the mean decoder power of the last 100 ms, in 0.1 W, moves the budget cap (R216). -/
def execBudgetCapUpdate (power : Nat) (s : State) : Host.Outcome State Fault Refusal :=
  .next (if s.on 15 && s.itemRuns 4 && s.itemRuns 5 then
      let b := s.rdN 0x3000 5
      let cap := s.rdN 0x3000 7
      let held := s.fec.threads.any fun p => decide (p.2.perUnc ≠ 0) || decide (p.2.perAll < 10000 * p.2.perCap)
      let t := s.wrN 0x3000 6 (power % 65536)
      let t : State := { t with fec := { t.fec with
        threads := t.fec.threads.map fun p => (p.1, { p.2 with perAll := 0, perCap := 0, perUnc := 0 }) } }
      let low := fun (u : State) (n : Nat) => ({ u with fec := { u.fec with lowPeriods := n } } : State)
      if b = 0 then (low t 0).budgetFollow
      else if b < power then
        if cap ≤ 4 then low (t.clear 0x3000 0x0F 0) 0
        else if held then low (t.raise 0x3000 0x0F 0) 0
        else low ((t.clear 0x3000 0x0F 0).wrN 0x3000 7 (cap - 1)) 0
      else
        let t := t.clear 0x3000 0x0F 0
        if b ≤ power + 10 then low t 0
        else if 9 ≤ s.fec.lowPeriods ∧ cap < s.fec.hostCap then low (t.wrN 0x3000 7 (cap + 1)) 0
        else low t (s.fec.lowPeriods + 1)
    else s)

/-! ### Codewords (R212, R218, R225) -/

/-- Whether injection mode `m` acts on thread k (R225). -/
def State.injects (s : State) (m k : Nat) : Bool := s.rdN 0x3000 0x0B == m && s.rdBit 0x3000 0x0D k

/-- LLRs with each sign inverted where its draw says so: the injection of mode 1, whose probability a free value stands
for (R225, log entry 3). -/
def State.injectLlrs (s : State) (k : Nat) (l : List Int) : List Int :=
  if s.injects 1 k then l.zipIdx.map fun p => if Config.freeBool (s.free + p.2) then -p.1 else p.1 else l

/-- Coded bits with each inverted before mapping where its draw says so: the injection of mode 2 (R225, R226). -/
def State.injectCoded (s : State) (k : Nat) (l : List Bool) : List Bool :=
  if s.injects 2 k then l.zipIdx.map fun p => xor p.1 (Config.freeBool (s.free + p.2)) else l

/-- The LLRs of coded bits: ±31, positive for bit 0 (R185, R224). -/
def bitLlrs (l : List Bool) : List Int := l.map fun b => if b then -31 else 31

/-- The decoder's input for a codeword of thread k. The demapper gives zero LLRs while THR_LOL is raised or the receive
status is not 1 or 3. In loopback 1 the encoder's output enters in place of the demapper's: the operand's signs then stand
for the bits the encoder took. Injection of mode 1 acts on either (R185, R224, R225, log entry 154). -/
def State.decoderInput (s : State) (k : Nat) (llrs : List Int) : List Int :=
  s.injectLlrs k (
    if s.rdN 0x3000 0x0A = 1 then bitLlrs (encode s.cfg.profile (llrs.map fun v => decide (v < 0)))
    else if s.rdBit (0x2810 + k) 0x0A 0 || !(s.rxStatus k == 1 || s.rxStatus k == 3) then List.replicate (codeLength s.cfg.profile) 0
    else llrs)

/-- The decoding of the next codeword starts: it takes the cap in force and, where marks are due, one of them (R215,
R225). -/
def FecThread.begin (f : FecThread) (cap : Nat) : FecThread :=
  { f with cap := cap, forced := decide (0 < f.force), force := f.force - 1 }

/-- The thread's codeword in decoding: the one begun when the last was released, or one that begins now (R215, log entry
155). -/
def State.inDecoding (s : State) (k : Nat) : FecThread :=
  let f := s.fecOf k
  if f.cap = 0 then f.begin s.fecCap else f

/-- A list of 17 counts with one more at place `i`. -/
def bumpAt (l : List Nat) (i : Nat) : List Nat := (padList l).modify i (· + 1)
where padList (l : List Nat) : List Nat := l ++ List.replicate (17 - l.length) 0

/-- A thread not in lock state 4: its codewords are discarded undecoded, and marks still due wait (R212, R226). -/
def FecThread.discard (f : FecThread) : FecThread :=
  { f with cap := 0, forced := false, force := f.force + (if f.forced then 1 else 0), pos := 0, lfMark := false, sys := [] }

/-- CODEWORD_RELEASE: a codeword of thread k is decoded under the cap with which its decoding started and released with its
counts, and the next one's decoding starts under the cap in force. The 93rd completes an LF, which goes to the framer with
its mark and decisions. In loopback 2 the decisions are encoded again and sent. A codeword of a thread whose lock state is not
4 is discarded undecoded (R210, R212, R215, R218, R224 to R226). -/
def execCodewordRelease (k : Fin 32) (llrs : List Int) (s : State) : Host.Outcome State Fault Refusal :=
  .next (
    if s.rdN (0x2810 + k.val) 1 ≠ 4 then
      (if s.fecOf k.val = (s.fecOf k.val).discard then s else s.setFec k.val (s.fecOf k.val).discard)
    else
      let f := s.inDecoding k.val
      let r := decodeCodeword s.cfg.profile f.cap (s.decoderInput k.val llrs)
      let ok := r.2.1 && !f.forced
      let bits := if ok then correctedBits s.cfg.profile r.2.2.1 r.2.2.2 else 0
      let atCap := decide (r.1 = f.cap) || !ok
      let last := decide (92 ≤ f.pos)
      let mark := f.lfMark || !ok
      let hard := hardDecisions s.cfg.profile r.2.2.2
      let sys := bitsBytes hard :: f.sys
      let one := fun (b : Bool) => if b then 1 else 0
      let i := 0x3010 + k.val
      let t : State := { s with free := s.free + codeLength s.cfg.profile }
      let t := ((t.inc64 i 1).bump i 2 64 (one !ok)).bump i 3 64 bits
      let t := (t.bump i 7 64 (one atCap)).bump i 8 64 (one (last && mark))
      let t := t.whenB (!ok) fun u => u.count (.uncorrectable k.val)
      let t := t.whenB (s.rdN 0x3000 0x0A == 2) fun u =>
        ({ u with free := u.free + codeLength s.cfg.profile } : State).emit
          (.coded k.val (bitsBytes (u.injectCoded k.val (encode s.cfg.profile hard))))
      t.setFec k.val (FecThread.begin { f with
        pos := if last then 0 else f.pos + 1, lfMark := !last && mark
        sys := if last then [] else sys, lfs := if last then f.lfs ++ [(mark, sys.reverse)] else f.lfs
        winOk := f.winOk + one ok, winAll := f.winAll + 1, winBits := f.winBits + bits, winUnc := f.winUnc + one !ok
        winLf := f.winLf + one (last && mark)
        secOk := f.secOk + one ok, secAll := f.secAll + 1, secBits := f.secBits + bits, secUnc := f.secUnc + one !ok
        secIter := f.secIter + r.1, hist := bumpAt f.hist r.1
        looped := if last then sys.reverse else f.looped
        perAll := f.perAll + 1, perCap := f.perCap + one atCap, perUnc := f.perUnc + one !ok } s.fecCap))

/-- The rule of a write of c to 3000:0E: outside mode 3 it answers CONFLICT; in it the next c codewords of each selected
thread whose decoding has not started are marked, those still due from an earlier write with them (R225). -/
def State.forcedEffect (s : State) (c : Nat) : Effect :=
  { fails := need (s.rdN 0x3000 0x0B == 3) .conflict
    state := s.each ((List.range 32).filter fun k => s.rdBit 0x3000 0x0D k) fun t k =>
      t.setFec k { t.fecOf k with force := max c (t.fecOf k).force } }

/-- FORCED_FAILURE (R225). -/
def execForcedFailure (c : Nat) (s : State) : Host.Outcome State Fault Refusal :=
  .next (s.command 0x3000 0x0E (.num c) (s.forcedEffect c))

/-! ### Windows and defects (R223) -/

/-- The runs of one window: successive windows in which the condition to clear held, and whether the defect is to be
set or cleared. -/
def runClear (hold : Bool) (run limit : Nat) : Nat × Bool :=
  let n := if hold then min limit (run + 1) else 0
  (n, decide (limit ≤ n))

/-- FEC_WINDOW_END: the thread's 10 ms window is judged; a window with no codeword, and a thread whose lock state is not
4, change nothing (R212, R223). -/
def execFecWindowEnd (k : Fin 32) (s : State) : Host.Outcome State Fault Refusal :=
  .next (
    let f := s.fecOf k.val
    let i := 0x3010 + k.val
    let new := { f with winOk := 0, winAll := 0, winBits := 0, winUnc := 0, winLf := 0 }
    if f.winAll = 0 then s
    else if s.rdN (0x2810 + k.val) 1 ≠ 4 then s.setFec k.val new
    else
      let n := codeLength s.cfg.profile * f.winOk
      let thr := s.rdN 0x3000 0x10
      let above := decide (f.winOk = 0) || decide (thr * n < 10000000000 * f.winBits)
      let below := decide (f.winOk ≠ 0) && decide (100000000000 * f.winBits ≤ 9 * thr * n)
      let sdRun := if above then min 3 (f.sdRun + 1) else 0
      let sd := runClear below f.sdClear 10
      let un := runClear (decide (f.winUnc = 0)) f.uncClear 100
      let ex := runClear (decide (f.winLf ≤ s.rdN 0x3000 0x11)) f.excClear 100
      let judge := fun (t : State) (b : Nat) (set clr : Bool) =>
        if set then t.raise i 0x0B b else if clr then t.clear i 0x0B b else t
      let t := judge s 0 (decide (3 ≤ sdRun)) sd.2
      let t := judge t 1 (decide (f.winUnc ≠ 0)) un.2
      let t := judge t 2 (decide (s.rdN 0x3000 0x11 < f.winLf)) ex.2
      (t.setFec k.val { new with sdRun := sdRun, sdClear := sd.1, uncClear := un.1, excClear := ex.1 }).ssf)

/-! ### Readings of a PM second (R220 to R222) -/

/-- Fraction bits of the fixed-point numbers the Q-factor is found with. -/
def fp : Nat := 256

/-- Σ (−1)ⁿ q^(2n+1) / (2ⁿ n! (2n+1)) from term `n` on, for `q2` = q² / 2 and the term's power over n!. -/
def tailSum : Nat → Nat → Nat → Int → Int
  | 0, _, _, _ => 0
  | fuel + 1, n, q2, p => p / (2 * n + 1 : Nat) + tailSum fuel (n + 1) q2 (-(p * q2 / ((n + 1 : Nat) * 2 ^ fp)))

/-- √(2π) with `fp` fraction bits, from its first 75 decimal digits. -/
def sqrtTwoPi : Nat :=
  2506628274631000502415765284811045253006986740609938316629923576342293654608 * 2 ^ fp / 10 ^ 75

/-- ½ erfc(q / √2), with `fp` fraction bits, for q with `fp` fraction bits up to 10. -/
def gaussTail (q : Nat) : Nat :=
  (2 ^ (fp - 1) - tailSum 400 0 (q * q / 2 ^ (fp + 1)) q * 2 ^ fp / sqrtTwoPi).toNat

/-- The `n`-th root of `v` with `w` fraction bits, for roots from 1 up to but not including 2, one bit at a time. -/
def rootOf (n v w : Nat) : Nat :=
  (List.range w).foldl (fun r i =>
    let c := r + 2 ^ (w - 1 - i)
    if c ^ n ≤ v * 2 ^ (w * n) then c else r) (2 ^ w)

/-- 10^(1/4000) with `fp` / 2 fraction bits. -/
def rootTen : Nat := rootOf 4000 10 (fp / 2)

/-- q at `h` half hundredths of a dB: 10^(h/4000), with `fp` fraction bits. -/
def qLinear (h : Nat) : Nat := rootTen ^ h * 2 ^ fp / 2 ^ (fp / 2 * h)

/-- The Q-factor in 0.01 dB of a BER of `a` / `b`, to the nearest, held within 0 and 2 000 (R221). -/
def qFactor (a b : Nat) : Nat :=
  if a = 0 then 2000
  else
    (List.range 11).foldl (fun x i =>
      let c := x + 2 ^ (10 - i)
      if c ≤ 2000 ∧ a * 2 ^ fp ≤ b * gaussTail (qLinear (2 * c - 1)) then c else x) 0

/-- 100 × log₁₀ of `a` / `b` below 1, rounded down, and whether it is exact: the largest −y with 10^−y b^100 ≤ a^100. -/
def centiLog (a b : Nat) : Int × Bool :=
  match (List.range 32767).find? fun y => decide (b ^ 100 ≤ a ^ 100 * 10 ^ y) with
  | some y => (-(y : Int), decide (b ^ 100 = a ^ 100 * 10 ^ y))
  | none => (-32766, true)

/-- A reading rounded one way or the other by a draw (log entry 3). -/
def roundDraw (n a b : Nat) : Nat := a / b + (if a % b ≠ 0 && Config.freeBool n then 1 else 0)

/-- The readings of thread k for the second that ends, and the counts begun afresh (R220 to R222). -/
def State.fecSecond (s : State) (k : Nat) : State :=
  let f := s.fecOf k
  let i := 0x3010 + k
  let n := codeLength s.cfg.profile
  let hist := (List.range 17).flatMap fun j => beBytes 4 (f.hist.getD j 0)
  let t : State := { s with free := s.free + 3 }
  let t := t.setFec k { f with secOk := 0, secAll := 0, secBits := 0, secUnc := 0, secIter := 0, hist := [] }
  let t := t.wrS i 0x0C hist
  if f.secAll = 0 then
    ((((t.wrN i 4 0).wrI i 5 (-32768)).wrN i 6 0).wrN i 9 0).wrN i 0x0A 0
  else
    let div := n * f.secOk
    let q := if f.secOk = 0 then 0 else qFactor f.secBits div
    let pre := if f.secOk = 0 then 0xFFFFFFFF else min 0xFFFFFFFF (roundDraw s.free (10000000000 * f.secBits) div)
    let post : Int :=
      if f.secUnc = 0 then -32768
      else if f.secOk = 0 then
        let l := centiLog f.secUnc (2 * f.secAll)
        l.1 + (if !l.2 && Config.freeBool (s.free + 1) then 1 else 0)
      else if f.secBits = 0 then -32767
      else
        let l := centiLog (f.secUnc * f.secBits) (div * f.secAll)
        l.1 + (if !l.2 && Config.freeBool (s.free + 1) then 1 else 0)
    ((((t.wrN i 4 pre).wrI i 5 post).wrN i 6 (min 65535 (roundDraw (s.free + 2) (256 * f.secIter) f.secAll))).wrN i 9 q).wrI
      i 0x0A ((q : Int) - (qFactor (capThreshold s.fecCap) 1000 : Int))

/-- The readings of every present thread at a PM boundary (R222). -/
def State.fecSeconds (s : State) : State := if s.on 15 then s.each s.threads State.fecSecond else s

end Sys2Proof.Machine
end

