-- ==== Sys2Proof/Machine/TxChain.lean ====
section
/-! DEFINITION. The transmit chain (spec/05_transmit.md R145 to R157, R168; the arrangement of bits of spec/07_fec.md R205 to
R208 both ways; the information bits of spec/08_line_frame.md R229): from the bits of an LF to the codes of the sub-DACs,
the thirteen operations of R145 in their order. A signal is a function of polarisation (0 X, 1 Y) and place in time. -/

namespace Sys2Proof.Machine

/-! ### Bits -/

/-- The bits of bytes, most significant first (R229). -/
def byteBits (b : List Byte) : List Bool := b.flatMap fun x => (List.range 8).map fun i => bit x.toNat (7 - i)

/-- Bits as a number, the first the most significant. -/
def bitsNat (l : List Bool) : Nat := l.foldl (fun a b => 2 * a + (if b then 1 else 0)) 0

/-- The `w` low bits of a number, most significant first. -/
def natBits (w v : Nat) : List Bool := (List.range w).map fun i => bit v (w - 1 - i)

/-- A list cut into `n` pieces of `w`. -/
def pieces {α : Type} (n w : Nat) (l : List α) : List (List α) := (List.range n).map fun i => (l.drop (i * w)).take w

/-! ### Information bits of an LF (R229, R230) -/

/-- Information bits of an LF: N of a native one, 93 × k of a legacy one (R95, R229). -/
def Carrier.infoBits (c : Carrier) (h : Nat) : Nat :=
  if c.profile = 0 then c.netBits h else 93 * codeSystematic c.profile

/-- The information bits of an LF of thread k: overhead, payload, fill bits of 0, all scrambled (R229, R230). -/
def lfInfo (c : Carrier) (k h : Nat) (overhead : List Byte) (payload : List Bool) : List Bool :=
  let l := byteBits (padTo 2048 (overhead.take 2048)) ++ payload
  scrambleLf k ((List.range (c.infoBits h)).map fun i => l.getD i false)

/-- The place in tenant n's container of its stitch at position p of thread k: in ascending thread, leaving out those that S3
has darkened, and then in ascending position (R248, R304). -/
def State.stitchPlace (s : State) (n k p : Nat) : Nat :=
  (((List.range k).filter fun j => !decide (j ∈ s.grm.darkened)).map (s.txPos n)).sum
    + (((calendar (s.inForce.stitches k) (pageEntries (s.page k 1))).take p).filter fun o => o == n).length

/-- The payload of LF `i` of thread k: in the native profile the stitches its calendar deals, zeros at the idle positions; in G1
and G2 the one payload field of tenant 0. `container n` is tenant n's container of the multiframe (R229, R247, R248). -/
def State.lfPayload (s : State) (k i : Nat) (container : Nat → List Bool) : List Bool :=
  let c := s.inForce
  if c.profile ≠ 0 then
    let n := c.infoBits 0 - 16384
    ((container 0).drop (i * n)).take n
  else
    let n := c.stitches k
    (((calendar n (pageEntries (s.page k 1))).drop (i * n)).take n).zipIdx.flatMap fun o =>
      let b := if o.1 = 4096 then [] else (container o.1).drop (1024 * s.stitchPlace o.1 k (i * n + o.2))
      (List.range 1024).map fun j => b.getD j false

/-! ### Operation 1: the distribution matcher (R93, R146, R147) -/

/-- The energy of amplitude index j above the least, in units of 8: ((2j + 1)² − 1) / 8. -/
def indexEnergy (j : Nat) : Nat := j * (j + 1) / 2

/-- How many sequences of `n` indices below `a` have energy at most e, for each e up to `cap`. -/
def countRow (a cap : Nat) : Nat → List Nat
  | 0 => List.replicate (cap + 1) 1
  | n + 1 =>
    let prev := countRow a cap n
    (List.range (cap + 1)).map fun e =>
      ((List.range a).map fun j => if indexEnergy j ≤ e then prev.getD (e - indexEnergy j) 0 else 0).sum

/-- The sequences of `n` further indices that follow index j where energy e is left. -/
def countAfter (a n e j : Nat) : Nat := if indexEnergy j ≤ e then (countRow a e n).getD (e - indexEnergy j) 0 else 0

/-- The index whose run of sequences holds place `u`, with the place in that run. -/
def pickIndex (f : Nat → Nat) : Nat → Nat → Nat → Nat × Nat
  | 0, j, u => (j, u)
  | fuel + 1, j, u => if u < f j then (j, u) else pickIndex f fuel (j + 1) (u - f j)

/-- The sequence of `n` indices below `a` with energy at most e at place `u` of the enumeration (R146, log entry 157). -/
def unrank (a : Nat) : Nat → Nat → Nat → List Nat
  | 0, _, _ => []
  | n + 1, e, u =>
    let p := pickIndex (countAfter a n e) (a - 1) 0 u
    p.1 :: unrank a n (e - indexEnergy p.1) p.2

/-- The place of a sequence in the enumeration (R147). -/
def rank (a : Nat) : Nat → List Nat → Nat
  | _, [] => 0
  | e, j :: r => ((List.range j).map (countAfter a r.length e)).sum + rank a (e - indexEnergy j) r

/-- The least energy within which 2^(128 H − 256) sequences of 256 indices lie, so that every block of bits has one (R146). -/
def leastBound (m h : Nat) : Nat :=
  let a := 2 ^ (m / 2 - 1)
  let cap := 256 * indexEnergy (a - 1)
  let row := countRow a cap 256
  (((List.range (cap + 1)).find? fun e => decide (2 ^ matcherBits h ≤ row.getD e 0)).getD cap)

/-- The bound on the energy of a block: R146 names it and gives no figure, so how far it lies above the least is free (log entry
157). -/
def energyBound (m h : Nat) : Nat := leastBound m h + Config.energySlack m h

/-- The energy of all sequences of `n` indices below `a` with energy at most e, for each e up to `cap`, together. -/
def energyRow (a cap : Nat) : Nat → List Nat
  | 0 => List.replicate (cap + 1) 0
  | n + 1 =>
    let prev := energyRow a cap n
    let counts := countRow a cap n
    (List.range (cap + 1)).map fun e => ((List.range a).map fun j =>
      if indexEnergy j ≤ e then prev.getD (e - indexEnergy j) 0 + indexEnergy j * counts.getD (e - indexEnergy j) 0 else 0).sum

/-- The energy of the first `u` sequences of the enumeration together, `base` being that of the indices before them. -/
def firstEnergy (a : Nat) : Nat → Nat → Nat → Nat → Nat
  | 0, _, u, base => u * base
  | n + 1, e, u, base =>
    let p := pickIndex (countAfter a n e) (a - 1) 0 u
    ((List.range p.1).map fun j => if indexEnergy j ≤ e then
        (energyRow a e n).getD (e - indexEnergy j) 0 + (base + indexEnergy j) * countAfter a n e j else 0).sum
      + firstEnergy a n (e - indexEnergy p.1) p.2 (base + indexEnergy p.1)

/-- The mean energy of one real dimension over the 2^(128 H − 256) sequences that the matcher sends (R146, R151). -/
def meanEnergy (m h : Nat) : Rat :=
  1 + 8 * (firstEnergy (2 ^ (m / 2 - 1)) 256 (energyBound m h) (2 ^ matcherBits h) 0 : Rat) / (256 * 2 ^ matcherBits h : Nat)

/-- One block: 128 H − 256 information bits to 256 amplitude indices. At H = m each index is formed directly from m/2 − 1 bits,
so the bits pass unchanged (R93, R146). -/
def matchBlock (m h : Nat) (l : List Bool) : List Nat :=
  if h = 8 * m then (pieces 256 (m / 2 - 1) l).map bitsNat
  else unrank (2 ^ (m / 2 - 1)) 256 (energyBound m h) (bitsNat l)

/-- One block inverted from its own amplitudes alone (R147). -/
def dematchBlock (m h : Nat) (l : List Nat) : List Bool :=
  if h = 8 * m then l.flatMap (natBits (m / 2 - 1))
  else natBits (matcherBits h) (rank (2 ^ (m / 2 - 1)) (energyBound m h) l)

/-- The amplitudes of an LF, block by block; no block spans two LFs (R146). -/
def matchLf (m h : Nat) (l : List Bool) : List Nat :=
  (pieces (lfAmplitudes m / 256) (matcherBits h) l).flatMap (matchBlock m h)

/-- The bits that an LF's amplitudes stand for, block by block (R147). -/
def dematchLf (m h : Nat) (l : List Nat) : List Bool :=
  (pieces (lfAmplitudes m / 256) 256 l).flatMap (dematchBlock m h)

/-! ### The code's arrangement (R205, R206, R208) -/

/-- The label bits of an amplitude without the sign (R148). -/
def amplitudeLabel (m j : Nat) : List Bool := (dimLabel m false j).drop 1

/-- The amplitude index of label bits: the Gray code undone (R148). -/
def fromGray (l : List Bool) : Nat :=
  (l.foldl (fun (p : Nat × Bool) b => (2 * p.1 + (if xor p.2 b then 1 else 0), xor p.2 b)) (0, false)).1

/-- The systematic bits of codeword `w` of a native LF: bit j is u[93 j + w] (R206). -/
def dealt (u : List Bool) (w : Nat) : List Bool := (List.range 17408).map fun j => u.getD (93 * j + w) false

/-- The coded bits of a native LF in the order of its dimensions, each with its sign first: the first N − (1 618 944 − A) bits
enter the matcher, the rest are information signs, and the parity of the 93 codewords takes the last sign positions
(R205, R206). -/
def nativeStream (c : Carrier) (h : Nat) (info : List Bool) : List Bool :=
  let n := matcherShare c h
  let amps := matchLf c.bits h (info.take n)
  let u := amps.flatMap (amplitudeLabel c.bits) ++ info.drop n
  let par := (List.range 93).map fun w => parityOf (dealt u w)
  let signs := info.drop n ++ (List.range 285696).map fun p => (par.getD (p % 93) []).getD (p / 93) false
  amps.zipIdx.flatMap fun a => signs.getD a.2 false :: amplitudeLabel c.bits a.1

/-- The coded bits of a legacy LF: codeword w at bits w × n to w × n + n − 1, its systematic bits first (R208). -/
def legacyStream (profile : Nat) (info : List Bool) : List Bool :=
  (pieces 93 (codeSystematic profile) info).flatMap (encode profile)

/-- The coded bits of an LF in the order in which symbols take them (R205, R208). -/
def codedStream (c : Carrier) (h : Nat) (info : List Bool) : List Bool :=
  if c.profile = 0 then nativeStream c h info else legacyStream c.profile info

/-- The information bits of an LF from the systematic bits of its 93 codewords: the placement and the matcher undone, and
the scrambler's sequence removed (R206, R208, R210, R230). -/
def decodedInfo (c : Carrier) (k h : Nat) (sys : List (List Byte)) : List Bool :=
  let cw := sys.map byteBits
  scrambleLf k (
    if c.profile ≠ 0 then cw.flatten
    else
      let u := (List.range 1618944).map fun i => (cw.getD (i % 93) []).getD (i / 93) false
      let amps := (pieces (lfAmplitudes c.bits) (c.bits / 2 - 1) u).map fromGray
      (dematchLf c.bits h amps).take (matcherShare c h) ++ u.drop (amplitudeBits c.bits))

/-- The place in an LF's coded bits of bit `j` of codeword `w`: systematic bits at their labels and information signs, parity at
the last sign positions; in the legacy profiles in one run (R206, R208). -/
def codedPlace (c : Carrier) (w j : Nat) : Nat :=
  if c.profile ≠ 0 then w * codeLength c.profile + j
  else
    let half := c.bits / 2
    if j < 17408 then
      let i := 93 * j + w
      if i < amplitudeBits c.bits then half * (i / (half - 1)) + 1 + i % (half - 1) else half * (i - amplitudeBits c.bits)
    else half * (signPositions c.bits - 285696 + 93 * (j - 17408) + w)

/-! ### Operations 2 and 3: symbols and reference symbols (R148 to R151) -/

/-- A signal: polarisation 0 or 1, then place in time. -/
abbrev Signal := Nat → Int → Sample

/-- The level of one dimension's label (R148). -/
def labelLevel (l : List Bool) : Rat := dimLevel (l.headD false) (fromGray (l.drop 1))

/-- The point of DP-8QAM as a number (R149). -/
def qamPoint (label : Nat) : Sample :=
  let p := qam8 label
  ⟨p.1.1 + p.1.2 * outer, p.2.1 + p.2.2 * outer⟩

/-- Data symbol `d` of an LF on polarisation `p` from the LF's coded bits: XI, XQ, YI, YQ in this order, and for m = 3 the X
label before the Y label (R148, R149, R208). -/
def dataSymbol (m : Nat) (stream : List Bool) (d p : Nat) : Sample :=
  if m = 3 then qamPoint (bitsNat ((stream.drop (6 * d + 3 * p)).take 3))
  else
    let w := m / 2
    let dim := fun (q : Nat) => labelLevel ((stream.drop (w * (4 * d + 2 * p + q))).take w)
    ⟨dim 0, dim 1⟩

/-- The mean energy of a data symbol over both polarisations: (2^m − 1) / 3 on each dimension unshaped, r² + 2 for DP-8QAM
(R149, R151). -/
def symbolEnergy (m h : Nat) : Rat :=
  if m = 3 then 2 + outer * outer
  else if h = 8 * m then 4 * ((2 ^ m - 1 : Nat) : Rat) / 3
  else 4 * meanEnergy m h

/-- The component of a reference symbol: 4a² is the mean energy of the data symbols raised by the pilot boost, in 0.1 dB
(R151). -/
def pilotLevel (m h boost : Nat) : Rat := root (symbolEnergy m h / 4) * dbGain boost

/-- Reference symbol `r` of an LF on polarisation `p`: +a for bit 0 and −a for bit 1 (R150, R151). -/
def referenceSymbol (profile k : Nat) (header : BitVec 64) (a : Rat) (r p : Nat) : Sample :=
  let b := if r < 16 then headerNibble header r else pilotNibble profile k (r - 16)
  let v := fun (q : Nat) => if b.getD (2 * p + q) false then -a else a
  ⟨v 0, v 1⟩

/-- Symbol `i` of an LF of thread k after operations 1 to 3 (R145). -/
def lfSymbol (c : Carrier) (k boost : Nat) (header : BitVec 64) (stream : List Bool) (i p : Nat) : Sample :=
  match symbolKind i with
  | .data => dataSymbol c.bits stream (i - i / 32 - 1) p
  | .header r => referenceSymbol c.profile k header (pilotLevel c.bits (c.code k) boost) r p
  | .pilot r => referenceSymbol c.profile k header (pilotLevel c.bits (c.code k) boost) r p

/-! ### Operations 1 to 5 of a thread (R145, R154, R156) -/

/-- The test pattern sent: 2400:08 in TEST, traffic in every other mode (R168). -/
def State.pattern (s : State) : Nat := if s.inMode .test then s.rdN 0x2400 8 else 0

/-- The symbols of thread k in the present multiframe after operations 1 to 4. `info i` are the information bits of LF i, and
`around` the symbols before and after the multiframe. Injection of mode 2 acts before mapping; pattern 2 sends unshaped
QPSK of the pilot generator (R145, R154, R168, R225). -/
def State.threadSymbols (s : State) (k : Nat) (info : Nat → List Bool) (around : Signal) : Signal := fun p n =>
  let c := s.inForce
  let len := c.lfLength
  if n < 0 ∨ (16 * len : Nat) ≤ n then around p n
  else
    let i := n.toNat / len
    let j := n.toNat % len
    if s.pattern = 2 then
      let b := (pilotBits (pilotSeed c.profile k) (4 * j + 4)).drop (4 * j)
      let v := fun (q : Nat) => if b.getD (2 * p + q) false then (-1 : Rat) else 1
      ⟨v 0, v 1⟩
    else
      (lfSymbol c k (s.rdN 0x2400 0x0B) (BitVec.ofNat 64 (s.headerSent k i))
        (s.injectCoded k (codedStream c (c.code k) (info i))) j p).scale (dbGain (s.rdI (0x2410 + k) 1))

/-- Operation 5: the data symbols receive the correction of the share 2400:0D while it is on; pilots and header symbols are
never corrected (R156). -/
def State.preCompensated (s : State) (k : Nat) (x : Signal) : Signal := fun p n =>
  if s.rdB 0x2400 0x0C && !s.tx.nlOff && decide (s.pattern ≠ 2) && decide (n % s.inForce.lfLength % 32 ≠ 0) then
    (x p n).add (nlCorrection ((s.rdN 0x2400 0x0D : Rat) / 100) (s.nlTableOf k) fun i => x p (n + i))
  else x p n

/-! ### Operations 6 to 12 of the carrier (R152 to R157) -/

/-- A rotation by a part of a turn. -/
def turn (t : Rat) : Sample := ⟨(rotor t).1, (rotor t).2⟩

/-- f_k / B (R98). -/
def Carrier.offsetRatio (c : Carrier) (k : Nat) : Rat :=
  ((2 * c.rollSum k + (100 + c.rolls.getD k 1) : Nat) - (c.rollSum c.threads : Nat) : Rat) / (200 * c.threads : Nat)

/-- Whether thread k contributes to the sum: not with transmit status RETIRED or ABSENT, nor while S3 mutes it (R152). -/
def State.txLitThread (s : State) (k : Nat) : Bool :=
  (s.txStatus k == 1 || s.txStatus k == 2 || s.txStatus k == 3) && !decide (k ∈ s.grm.darkened)

/-- Thread k shaped by its root-raised-cosine and shifted to f_k, at carrier sample n, 9/8 a symbol (R152). -/
def Carrier.shaped (c : Carrier) (k : Nat) (x : Signal) : Signal := fun p n =>
  let u : Rat := (8 * n : Int) / (9 * c.threads : Nat)
  (sumOf (List.range (2 * filterSpan + 1)) fun j =>
    let i := u.floor - filterSpan + j
    (x p i).scale (rrcTap (c.rolls.getD k 1) (u - i))).mul (turn (c.offsetRatio k * (8 * n : Int) / 9))

/-- Operation 6: the sum of the threads; the others keep their power where one is dark (R152). -/
def State.multiplexed (s : State) (x : Nat → Signal) : Signal := fun p n =>
  sumOf (s.threads.filter s.txLitThread) fun k => s.inForce.shaped k (x k) p n

/-- A component of a signal: 0 XI, 1 XQ, 2 YI, 3 YQ (R171). -/
def component (x : Signal) (c : Nat) (n : Int) : Rat := if c % 2 = 0 then (x (c / 2) n).re else (x (c / 2) n).im

/-- The signal of four components. -/
def ofComponents (f : Nat → Int → Rat) : Signal := fun p n => ⟨f (2 * p) n, f (2 * p + 1) n⟩

/-- Operation 7: the gain of each component, and the quadrature phase in 0.01° on Q of each polarisation (R145, R155, log entry
158). -/
def State.gained (s : State) (x : Signal) : Signal := fun p n =>
  let g := fun (c : Nat) => (s.rdI (0x2404 + c) 2 : Rat) / 16384
  let q := turn ((s.rdI (0x2402 + p) 4 : Rat) / 36000)
  let v := x p n
  ⟨g (2 * p) * v.re, g (2 * p + 1) * (q.re * v.im + q.im * v.re)⟩

/-- A 17-tap FIR in Q1.15 with tap 9 as the centre (R155, R174). -/
def fir17 (taps : List Byte) (x : Int → Rat) (n : Int) : Rat :=
  realSum (List.range 17) fun t => (signedOf 2 (beField taps (2 * t) 2) : Rat) / 32768 * x (n + 8 - t)

/-- Operation 8: pre-emphasis (R155). -/
def State.emphasised (s : State) (x : Signal) : Signal :=
  ofComponents fun c n => fir17 (s.rdS (0x2404 + c) 3) (component x c) n

/-- The RMS of one component that every configured thread together would have at its nominal power (R152, log entry 158). -/
def State.nominalRms (s : State) : Rat :=
  let c := s.inForce
  if s.pattern = 1 ∨ s.pattern = 2 then root (if s.pattern = 1 then 1 / 2 else c.threads)
  else root ((realSum s.threads fun k => symbolEnergy c.bits (c.code k)) / 4)

/-- Operation 9: to the output RMS of 2400:0F, in LSB of the DAC, less the low-power attenuation (R145, R167). -/
def State.scaled (s : State) (x : Signal) : Signal := fun p n =>
  (x p n).scale ((s.rdN 0x2400 0x0F : Rat) / 256 / s.nominalRms * dbGain (-(s.tx.attenuation : Int)))

/-- Operation 10: digital pre-distortion, with 1.0 at DAC full scale (R157). -/
def State.predistorted (s : State) (x : Signal) : Signal := fun p n =>
  (dpdOutput (s.rdS (0x2402 + p) 1) fun q => (x p (n - q)).scale (1 / 128)).scale 128

/-- A component delayed by a number of samples (R155, R174). -/
def delayed (d : Rat) (x : Int → Rat) (n : Int) : Rat :=
  realSum (List.range (2 * filterSpan + 1)) fun j => delayTap d ((j : Int) - filterSpan) * x (n - ((j : Int) - filterSpan))

/-- Tenths of a picosecond as samples at 9/8 of B (R155). -/
def Carrier.tenthsPs (c : Carrier) (t : Int) : Rat := (t * 9 * c.rate : Int) / 80000000

/-- Operation 11: the picot signal joins XI and XQ, then each component takes its skew (R145, R155, R345). -/
def State.skewed (s : State) (picot : Int → Sample) (x : Signal) : Signal :=
  let y : Signal := fun p n => if p = 0 then (x p n).add (picot n) else x p n
  ofComponents fun c n => delayed (s.inForce.tenthsPs (s.rdI (0x2404 + c) 1)) (component y c) n

/-- A number to a whole one of the 8-bit code range; the way one that is not whole goes is left open (R145, log entry 156). -/
def code8 (v : Rat) : Int :=
  max (-128) (min 127 (if v.den = 1 then v.floor else v.floor + (if Config.roundUp v then 1 else 0)))

/-- Operation 12: clipping to the 8-bit code range, then interpolation by U (R113, R145). -/
def State.codes (s : State) (x : Signal) (c : Nat) (n : Int) : Int :=
  let u := s.inForce.factor s.inForce.dac
  if u ≤ 1 then code8 (component x c n)
  else code8 (realSum (List.range (2 * filterSpan + 1)) fun j =>
    Config.interpTap u (n % u + u * ((j : Int) - filterSpan)) * (code8 (component x c (n / u - ((j : Int) - filterSpan))) : Rat))

/-! ### The chain (R145) -/

/-- The signal that enters operation 7: the multiplexed threads, or the tone of pattern 1 (R145, R168, log entry 158). -/
def State.mainSignal (s : State) (info : Nat → Nat → List Bool) (around : Nat → Signal) : Signal :=
  if s.pattern = 1 then fun _ n => turn ((s.rdI 0x2400 9 * 8 * n : Int) / (9 * s.inForce.rate : Nat))
  else s.multiplexed fun k => s.preCompensated k (s.threadSymbols k (info k) (around k))

/-- A code as its sub-DAC takes it: sub-DAC 1 has the digital gain and offset corrections (R136, R141). -/
def State.subCode (s : State) (c : Nat) (n : Int) (code : Int) : Int :=
  if n % 2 = 0 then code
  else code8 ((s.rdI (0x2030 + c) 4 : Rat) / 16384 * code + (s.rdI (0x2030 + c) 5 : Rat) / 256)

/-- What DAC c is given at its sample n: the sub-DAC, even samples on sub-DAC 0, and the linearised code. Operations 1 to 13 act
in the order of R145; a muted output is held at mid-code, pattern 3 gives no modulation, and a DAC without its domain or in
a reset gives nothing. `ramp` is the amplitude of a mute ramp in progress (R114, R145, R166, R168). -/
def State.txChain (s : State) (info : Nat → Nat → List Bool) (around : Nat → Signal) (picot : Int → Sample) (ramp : Rat)
    (c : Nat) (n : Int) : Option (Nat × Int) :=
  let out := fun (a : Rat) =>
    let x := s.skewed picot (s.predistorted (s.scaled (s.emphasised (s.gained (s.mainSignal info around)))))
    some ((n % 2).toNat, Config.linearCode c (s.subCode c n (s.codes (fun p i => (x p i).scale a) c n)))
  match s.dacDrive with
  | .highZ => none
  | .zero => some ((n % 2).toNat, 0)
  | .ramp _ => if s.pattern = 3 then some ((n % 2).toNat, 0) else out ramp
  | .signal => if s.pattern = 3 then some ((n % 2).toNat, 0) else out 1

/-- The information bits of LF `i` of thread k in the present multiframe; pattern 4 sends zero payload bits, and in loopback 2 the
decisions of the thread's decoder are encoded again and sent, those of its last whole LF (R168, R224, R229). -/
def State.infoSent (s : State) (overhead : Nat → Nat → List Byte) (container : Nat → List Bool) (k i : Nat) : List Bool :=
  let c := s.inForce
  if s.rdN 0x3000 0x0A = 2 then scrambleLf k (decodedInfo c k (c.code k) (s.fecOf k).looped)
  else lfInfo c k (c.code k) (overhead k i) (s.lfPayload k i fun n => if s.pattern = 4 then [] else container n)

end Sys2Proof.Machine
end

