-- ==== Sys2Proof/Machine/LaneCode.lean ====
section
/-! DEFINITION. How the serial lanes carry bits (spec/13_lanes.md R393, R396, R401, R402, R404, R408) and how a bobbin flit is
laid out (spec/14_bobbin_group.md R428). -/

namespace Sys2Proof.Machine

/-! ### Host lanes (R393, R396, R400) -/

/-- The bit rate of a lane rate code in kb/s (R393). -/
def laneBitRate (code : Nat) : Nat := 26562500 * 2 ^ (code - 1)

/-- Whether a lane rate code uses PAM4 (R393). -/
def lanePam4 (code : Nat) : Bool := decide (2 ≤ code)

/-- The symbol rate of a lane rate code in kBd (R393). -/
def laneSymbolRate (code : Nat) : Nat := if lanePam4 code then laneBitRate code / 2 else laneBitRate code

/-- The level of a bit pair by Gray code: 00, 01, 11 and 10 are −3, −1, +1 and +3 (R393). -/
def pam4Level (first second : Bool) : Int :=
  match first, second with
  | false, false => -3 | false, true => -1 | true, true => 1 | true, false => 3

/-- The PAM4 symbols of a bit stream (R393). -/
def pam4Symbols (l : List Bool) : List Int :=
  (pieces (l.length / 2) 2 l).map fun q => pam4Level (q.getD 0 false) (q.getD 1 false)

/-- The client bits of a CBR port from the bits of its lanes: one bit of each at a time, in ascending lane order (R396). -/
def interleaved (lanes : List (List Bool)) (n : Nat) : List Bool :=
  (List.range n).flatMap fun i => lanes.map fun l => l.getD i false

/-- The bits of lane `j` of `w` in a CBR port's client bits (R396). -/
def laneShare (w j : Nat) (client : List Bool) : List Bool :=
  (List.range (client.length / w)).map fun i => client.getD (w * i + j) false

/-- The main tap of the transmit FFE in 64ths: 64 less the other taps' magnitudes (R400). -/
def mainTap (taps : List Int) : Int := 64 - (taps.map Int.natAbs).sum

/-! ### Test patterns (R408, R409) -/

/-- The taps of a pattern's polynomial by its code, highest first; a Q pattern is that of its PRBS (R408). -/
def prbsTaps (code : Nat) : List Nat :=
  match code with
  | 1 => [7, 6] | 2 => [9, 5] | 3 => [13, 12, 2, 1] | 4 => [15, 14] | 5 => [23, 18] | 6 => [31, 28]
  | 7 => [13, 12, 2, 1] | 8 => [31, 28] | _ => []

/-- The next bit of a generator from its register of the last bits, the latest lowest. -/
def prbsBit (code reg : Nat) : Bool := ((prbsTaps code).filter fun t => bit reg (t - 1)).length % 2 == 1

/-- `n` bits of a pattern from a register of the last bits (R408). -/
def prbs (code : Nat) : Nat → Nat → List Bool
  | 0, _ => []
  | n + 1, reg =>
    let b := prbsBit code reg
    b :: prbs code n ((2 * reg + (if b then 1 else 0)) % 2 ^ ((prbsTaps code).headD 1))

/-- A checker (R409). -/
structure Checker where
  reg : Nat                          -- the last bits
  run : Nat                          -- error-free bits in succession while not locked
  locked : Bool
  errorsIn : List Bool               -- which of the last 1 024 bits were wrong
  bits : Nat
  errors : Nat
  deriving DecidableEq, Repr

/-- A checker takes a bit: it locks after 1 024 bits in succession as its pattern foretells, then counts bits and errors, and
loses lock after 64 errors within 1 024 bits. While locked its register runs by itself (R408, R409). -/
def Checker.step (code : Nat) (c : Checker) (b : Bool) : Checker :=
  let want := prbsBit code c.reg
  let ok := b == want
  let shift := fun (x : Bool) => (2 * c.reg + (if x then 1 else 0)) % 2 ^ ((prbsTaps code).headD 1)
  if c.locked then
    let seen := ((!ok) :: c.errorsIn).take 1024
    { c with reg := shift want, errorsIn := seen, bits := (c.bits + 1) % 2 ^ 64
             errors := (if ok then c.errors else c.errors + 1) % 2 ^ 64
             locked := decide ((seen.filter id).length < 64), run := 0 }
  else
    let n := if ok then c.run + 1 else 0
    { c with reg := shift b, run := n, locked := decide (1024 ≤ n), errorsIn := [] }

/-! ### Bobbin lanes (R401, R402, R404) -/

/-- The register of the bobbin scrambler after each marker (R401). -/
def bobSeed (lane : Nat) : Nat := 0x3FFFFFFFFFFFFFF ^^^ lane

/-- `n` bits of x⁵⁸ + x³⁹ + 1 from its register (R401). -/
def bobScrambler : Nat → Nat → List Bool
  | 0, _ => []
  | n + 1, reg =>
    let b := xor (bit reg 57) (bit reg 38)
    b :: bobScrambler n ((2 * reg + (if b then 1 else 0)) % 2 ^ 58)

/-- The bits of a message with the scrambler's from `reg` added, and the same undone (R401). -/
def bobScramble (reg : Nat) (l : List Bool) : List Bool := List.zipWith xor l (bobScrambler l.length reg)

/-- A block of 257 bits: the header, then the body (R401). -/
def laneBlock (control : Bool) (body : List Bool) : List Bool := control :: (List.range 256).map fun i => body.getD i false

/-- The body of a marker, bit 255 first (R402). -/
def markerBody (m : Marker) : List Bool :=
  let head := natBits 64 0x9C3E71A5D2B8460F ++ natBits 4 m.lane ++ natBits 1 m.port ++ natBits 2 m.position ++ [m.idle]
    ++ natBits 8 m.maskNow ++ natBits 8 m.maskNext ++ natBits 8 m.retire ++ natBits 64 m.switchAt ++ natBits 64 m.counter
    ++ natBits 16 0
  head ++ natBits 16 (crc16 0xFFFF head)

/-- The marker that a body spells, where its pattern is there; what the receiver measured comes with it (R402, R403). -/
def markerOf (b : List Bool) (skewPs uncorrectable corrected symbols : Nat) : Option Marker :=
  let f := fun (hi lo : Nat) => bitsNat ((b.drop (255 - hi)).take (hi - lo + 1))
  if f 255 192 = 0x9C3E71A5D2B8460F then
    some { lane := f 191 188, port := f 187 187, position := f 186 185, idle := f 184 184 == 1, maskNow := f 183 176
           maskNext := f 175 168, retire := f 167 160, switchAt := f 159 96, counter := f 95 32
           crcOk := crc16 0xFFFF (b.take 240) == f 15 0, skewPs := skewPs, uncorrectable := uncorrectable
           corrected := corrected, symbols := symbols }
  else none

/-- The lane that carries data block `i` of a port: round robin over the lanes of the mask, ascending; marker blocks are not
counted (R404). -/
def stripeLane (mask i : Nat) : Nat :=
  let l := (List.range 8).filter fun j => bit mask j
  l.getD (i % l.length) 0

/-- A product in GF(2¹⁰), x¹⁰ + x³ + 1 (R401, log entry 169). -/
def rsMul (a b : Nat) : Nat :=
  (List.range 10).foldl (fun acc i =>
    let d := 2 * acc
    let d := if bit d 10 then d ^^^ 0x409 else d
    if bit b (9 - i) then d ^^^ a else d) 0

/-- Powers of the primitive element 2. -/
def rsPower : Nat → Nat
  | 0 => 1
  | n + 1 => rsMul 2 (rsPower n)

/-- The generator of RS(544,514), highest coefficient first: the product of x + 2^i for i below 30 (R401, log entry 169). -/
def rsGenerator : List Nat :=
  (List.range 30).foldl (fun g i =>
    List.zipWith (· ^^^ ·) (g ++ [0]) (0 :: g.map (rsMul (rsPower i)))) [1]

/-- The 30 parity symbols of 514 message symbols: the remainder by the generator (R401). -/
def rsParity (message : List Nat) : List Nat :=
  message.foldl (fun r m =>
    let q := m ^^^ r.headD 0
    List.zipWith (fun a g => a ^^^ rsMul q g) (r.drop 1 ++ [0]) (rsGenerator.drop 1)) (List.replicate 30 0)

/-- A codeword of a lane: 20 blocks of 257 bits in symbols of 10, with their parity, 5 440 bits (R401). -/
def laneCodeword (blocks : List (List Bool)) : List Bool :=
  let m := (pieces 514 10 blocks.flatten).map bitsNat
  (m ++ rsParity m).flatMap (natBits 10)

/-! ### Flits (R428) -/

/-- The type of a flit (R428). -/
def flitKind : FlitBody → Nat
  | .null => 0 | .init .. => 1 | .tenant .. => 2 | .request .. => 3 | .response .. => 4 | .nak .. => 5 | .time .. => 6
  | .prot .. => 7

/-- The virtual channel bit of a flit (R428). -/
def flitChannel : FlitBody → Nat
  | .response .. => 1
  | _ => 0

/-- The 47 bits of the type field; those of INIT, TIME and PROT, which the rule does not place, are 0 here (R428, log entry
170). -/
def flitTypeField : FlitBody → Nat
  | .tenant n start last valid piece _ _ _ _ =>
    n % 4096 * 2 ^ 35 + (if start then 2 ^ 34 else 0) + (if last then 2 ^ 33 else 0) + valid % 128 * 2 ^ 26 + piece % 4 * 2 ^ 24
  | .request write tag len _ _ => (if write then 1 else 2) * 2 ^ 43 + tag % 256 * 2 ^ 35 + len % 128 * 2 ^ 28
  | .response tag status _ => tag % 256 * 2 ^ 35 + status % 16 * 2 ^ 31
  | .nak expected => expected % 4096 * 2 ^ 35
  | _ => 0

/-- The 12 bytes of a flit's header; the sequence is 0 in NULL and NAK (R428). -/
def flitHeader (f : Flit) : List Byte :=
  let seq := match f.body with | .null => 0 | .nak _ => 0 | _ => f.seqNo % 4096
  beBytes 12 (flitKind f.body * 2 ^ 92 + f.source % 4 * 2 ^ 90 + f.dest % 4 * 2 ^ 88 + flitChannel f.body * 2 ^ 87 + seq * 2 ^ 75
    + f.acked % 4096 * 2 ^ 63 + f.vc0 % 256 * 2 ^ 55 + f.vc1 % 256 * 2 ^ 47 + flitTypeField f.body)

/-- The payload that a flit's own fields give: of a TENANT flit the bytes of its frame, of a REQUEST its address and data, of a
RESPONSE its data (R428). `rest` is what another type carries, which the rule does not place. -/
def flitPayload (f : Flit) (rest : List Byte) : List Byte :=
  match f.body with
  | .tenant _ _ _ valid _ _ _ _ data => data.take valid
  | .request _ _ _ addr data => beBytes 8 addr ++ data
  | .response _ _ data => data
  | _ => rest

/-- A flit of 128 bytes: the header, 112 bytes of payload and the CRC-32 over both (R428). -/
def flitBytes (f : Flit) (rest : List Byte) : List Byte :=
  let b := flitHeader f ++ padTo 112 ((flitPayload f rest).take 112)
  b ++ beBytes 4 (crc32 b)

end Sys2Proof.Machine
end

