-- ==== Sys2Proof/Machine/RxChain.lean ====
section
/-! DEFINITION. The receive chain (spec/06_receive.md R172 to R185, R195): from the codes of the ADC slices to the LLRs of a
thread's codewords, the eleven operations of R172 in their order. -/

namespace Sys2Proof.Machine

/-! ### Operation 1: slice correction and position crossbar (R117, R120, R131, R172) -/

/-- A sample of an ADC with the corrections of the live slice of its position, over that slice's own samples, one in 144: gain,
skew in fs, the five bandwidth taps and offset (R117, R140). DESIGN CHOICE (log entry 158): this order, and a positive skew
residual advances. -/
def State.sliceCorrected (s : State) (a : Nat) (raw : Int → Rat) (n : Int) : Rat :=
  match s.liveAt a (n % 144).toNat with
  | some l =>
    let c := (s.adcSlice a l).corr
    let b := padTo 10 c.bandwidth
    let own := fun (i : Int) => raw (n + 144 * i)
    let d : Rat := (-c.skew * 9 * s.inForce.rate * s.inForce.factor s.inForce.adc : Int) / (144 * 8000000000)
    (c.offset : Rat) / 256 + (c.gain : Rat) / 16384 *
      realSum (List.range 5) fun j => (signedOf 2 (beField b (2 * j) 2) : Rat) / 32768 * delayed d own (2 - j)
  | none => 0

/-- Operation 1: the samples of a degraded position are the mean of those of the adjacent positions (R131). -/
def State.sliced (s : State) (raw : Nat → Int → Rat) (a : Nat) (n : Int) : Rat :=
  if s.cnv.degraded.contains (a, (n % 144).toNat) then
    (s.sliceCorrected a (raw a) (n - 1) + s.sliceCorrected a (raw a) (n + 1)) / 2
  else s.sliceCorrected a (raw a) n

/-! ### Operations 2 to 4 (R174, R175) -/

/-- A number to the nearest whole one, halves to the even one (R175). -/
def convergent (v : Rat) : Int :=
  let f := v.floor
  if v - f < 1 / 2 then f else if 1 / 2 < v - f then f + 1 else if f % 2 = 0 then f else f + 1

/-- A multiply-accumulate result rounded to 10 bits, which hold the ADC's 8-bit range with two bits more (R175, log entry
159). -/
def round10 (v : Rat) : Rat := (max (-512) (min 511 (convergent (4 * v))) : Int) / 4

/-- Operation 2, in its order: DC offset as hardware tracks it, skew declared and adapted, the declared front-end response, then gain and quadrature
of Q against I (R174). -/
def State.frontEnd (s : State) (x : Nat → Int → Rat) : Signal :=
  let c := s.inForce
  let y := fun (a : Nat) (n : Int) => x a n - (s.dcTracked a : Rat) / 256
  let d := fun (a : Nat) => c.tenthsPs (s.rdI (0x2801 + a) 1 + s.rdI (0x2801 + a) 3) * c.factor c.adc
  let f := fun (a : Nat) (n : Int) =>
    round10 (fir17 (s.rdS (0x2801 + a) 2) (fun i => round10 (delayed (d a) (y a) i)) n)
  fun p n =>
    let q := turn ((s.rdI (0x2802 + 2 * p) 6 : Rat) / 36000)
    let g : Rat := (s.rdI (0x2802 + 2 * p) 5 : Rat) / 16384
    ⟨f (2 * p) n, round10 (g * (q.re * f (2 * p + 1) n + q.im * f (2 * p) n))⟩

/-- One 23-tap half-band stage (R175). -/
def halfBand (x : Signal) : Signal := fun p n =>
  let v := sumOf (List.range 23) fun j => (x p (2 * n + 11 - j)).scale (Config.halfBandTap j)
  ⟨round10 v.re, round10 v.im⟩

/-- Operation 3: no stage for D = 1, one for D = 2, two for D = 4 (R175). -/
def decimated (d : Nat) (x : Signal) : Signal := if d ≤ 1 then x else if d = 2 then halfBand x else halfBand (halfBand x)

/-- The deviation of the symbol clock followed, in 2^-32: at most 200 ppm, and the nominal ratio while RX_CLK_LOL is raised
(R175). -/
def State.clockDeviation (s : State) : Int :=
  if s.rdBit 0x2800 0x0D 1 then 0 else max (-858993) (min 858993 (Config.clockRatio s.uptime))

/-- The timing phase in 64ths of a sample: held from when RX_CLK_LOL was raised (R175). -/
def State.resamplerPhase (s : State) : Int := Config.timingPhase (if s.rdBit 0x2800 0x0D 1 then s.rx.clkAt else s.uptime)

/-- Taps of the resampler by 2800:02 (R176). -/
def resamplerTaps (len : Nat) : Nat := match len with | 0 => 8 | 1 => 16 | _ => 32

/-- Operation 4: the resampler with its 64 phases. `drift` is what the threads' timing recovery hands over (R175, R182). -/
def State.resampled (s : State) (drift : Rat) (x : Signal) : Signal := fun p n =>
  let place := (64 * (n * (1 + (s.clockDeviation : Rat) / 4294967296) + drift)).floor + s.resamplerPhase
  let t := resamplerTaps (s.rdN 0x2800 2)
  let v := sumOf (List.range t) fun j =>
    (x p (place / 64 + t / 2 - j)).scale (Config.resampleTap t (place % 64).toNat j)
  ⟨round10 v.re, round10 v.im⟩

/-! ### Operations 5 to 7 (R177, R179, R180) -/

/-- Operation 5: the configured picot offset mixed to zero frequency, and an 8 GHz band at f_s = 9/8 B passed to the picot receiver
(R179). -/
def State.picked (s : State) (x : Signal) : Signal := fun p n =>
  sumOf (List.range (2 * filterSpan)) fun j =>
    ((x p (n - j)).mul (turn (-((s.pic.offset * 8 * (n - j) : Int) : Rat) / (9 * s.inForce.rate : Nat)))).scale
      (bandTap (64000 / (9 * s.inForce.rate : Nat)) ((j : Int) - filterSpan : Int))

/-- The discrete Fourier transform of 65 536 samples, at bin `f`. -/
def fftBin (x : Nat → Sample) (f : Nat) : Sample :=
  sumOf (List.range 65536) fun i => (x i).mul (turn (-(((f * i : Nat) : Rat) / 65536)))

/-- The samples two blocks have in common: at most 20 480 (R177). -/
def cdOverlap : Nat := min 20480 Config.cdOverlap

/-- Operation 6: bulk CD compensation by overlap-save in blocks of 65 536, each giving its middle samples, so that the group
delay at the centre is zero (R177). -/
def State.compensated (s : State) (x : Signal) : Signal := fun p n =>
  let step := 65536 - cdOverlap
  let block := fun (i : Nat) => x p (n / step * step - cdOverlap / 2 + i)
  let at' := cdOverlap / 2 + (n % step).toNat
  (sumOf (List.range 65536) fun f =>
    let r := Config.cdResponse (s.rdI 0x2800 0x17) s.inForce.rate f
    ((fftBin block f).mul ⟨r.1, r.2⟩).mul (turn (((f * at' : Nat) : Rat) / 65536))).scale (1 / 65536)

/-- Whether the thread stages of thread k are gated (R94). -/
def State.threadGated (s : State) (k : Nat) : Bool := s.pow.gatedIslands.contains (if k % 8 = 0 then 128 + k else 8 + k)

/-- Whether the demultiplexer is bypassed: T = 1, G1 and G2 (R180). -/
def Carrier.bypass (c : Carrier) : Bool := decide (c.threads ≤ 1 ∨ c.profile ≠ 0)

/-- Operation 7: thread k shifted by −f_k and filtered by its matched root-raised-cosine, at 5/4 samples per thread symbol; a
gated thread gives nothing, and with one thread the carrier's 9/8 samples go on (R180). -/
def State.demultiplexed (s : State) (k : Nat) (x : Signal) : Signal := fun p n =>
  let c := s.inForce
  if s.threadGated k then Sample.zero
  else if c.bypass then x p n
  else
    let u : Rat := (9 * c.threads * n : Int) / 10
    let half := filterSpan * 9 * c.threads / 8
    sumOf (List.range (2 * half + 1)) fun j =>
      let i := u.floor - half + j
      ((x p i).mul (turn (-(c.offsetRatio k * (8 * i : Int) / 9)))).scale
        (rrcTap (c.rolls.getD k 1) ((u - i) * 8 / (9 * c.threads : Nat)) * 8 / (9 * c.threads : Nat))

/-! ### Operation 8: the equaliser (R181, R182) -/

/-- The equaliser of a thread: four FIRs XX, XY, YX, YY, how many of their taps its engine has in use, and the interpolator phase in
thread symbols (R27, R181). -/
structure Equaliser where
  taps : List (List Sample)
  length : Nat
  phase : Rat
  deriving DecidableEq, Repr

/-- The taps before adaptation: each polarisation passes unchanged. -/
def Equaliser.start (n : Nat) : Equaliser :=
  let one := (List.range n).map fun j => if j = n / 2 then (⟨1, 0⟩ : Sample) else Sample.zero
  let none := List.replicate n Sample.zero
  { taps := [one, none, none, one], length := n, phase := 0 }

/-- Tap `j` of `n` from input polarisation `q` to output `p`; those outside the length in use, around the centre, are nothing. -/
def Equaliser.tap (e : Equaliser) (n p q j : Nat) : Sample :=
  if 2 * j + 1 ≤ n + e.length ∧ n ≤ 2 * j + e.length then (e.taps.getD (2 * p + q) []).getD j Sample.zero else Sample.zero

/-- Input samples per thread symbol (R180). -/
def Carrier.eqRate (c : Carrier) : Rat := if c.bypass then 9 / 8 else 5 / 4

/-- The input that tap `j` of symbol `n` sees on polarisation `q`, at the interpolator's phase (R181, R182). -/
def Equaliser.input (e : Equaliser) (c : Carrier) (x : Signal) (n : Int) (q j : Nat) : Sample :=
  let v := (n + e.phase) * c.eqRate
  let i := v.floor + eqTaps c.threads / 2 - j
  let d := -(v - v.floor)
  ⟨delayed d (fun t => (x q t).re) i, delayed d (fun t => (x q t).im) i⟩

/-- The output for symbol `n`: the 2×2 complex FIR (R181). -/
def Equaliser.output (e : Equaliser) (c : Carrier) (x : Signal) (n : Int) (p : Nat) : Sample :=
  sumOf [0, 1] fun q => sumOf (List.range (eqTaps c.threads)) fun j =>
    (e.tap (eqTaps c.threads) p q j).mul (e.input c x n q j)

/-- The squared radii of the symbols of one polarisation (R148, R149). -/
def radii (m : Nat) : List Rat :=
  if m = 3 then [2, outer * outer]
  else (List.range (2 ^ (m / 2 - 1))).flatMap fun i => (List.range (i + 1)).map fun j => ((2 * i + 1) ^ 2 + (2 * j + 1) ^ 2 : Nat)

/-- The error of the radius-directed rule: toward the radius whose square is nearest (R182). -/
def blindError (m : Nat) (y : Sample) : Sample :=
  let off := fun (r : Rat) => (r - y.norm2) * (r - y.norm2)
  let near := (radii m).foldl (fun b r => if off r < off b then r else b) 2
  y.scale (near - y.norm2)

/-- The taps after one symbol: each moves by the step size times its output's error and the conjugate of its input (R182). -/
def Equaliser.update (e : Equaliser) (c : Carrier) (x : Signal) (n : Int) (mu : Rat) (err : Nat → Sample) : Equaliser :=
  { e with taps := [0, 1].flatMap fun p => [0, 1].map fun q => (List.range (eqTaps c.threads)).map fun j =>
      (e.tap (eqTaps c.threads) p q j).add (((err p).mul (e.input c x n q j).conj).scale mu) }

/-- Timing recovery moves the phase within ±0.5 symbol; what goes beyond is handed to the carrier-wide resampler (R182). -/
def Equaliser.retime (e : Equaliser) (move : Rat) : Equaliser × Rat :=
  let v := e.phase + move
  let p := max (-(1 / 2)) (min (1 / 2) v)
  ({ e with phase := p }, v - p)

/-! ### Operation 9: carrier recovery (R183) -/

/-- The nearest level of one dimension. -/
def nearestLevel (m : Nat) (v : Rat) : Rat :=
  let j := max 0 (min (2 ^ (m / 2 - 1) - 1) (((if v < 0 then -v else v) / 2).floor))
  if v < 0 then -(2 * j + 1 : Int) else (2 * j + 1 : Int)

/-- The point of a list nearest to a symbol, the first of equals. -/
def nearestOf (v : Sample) : Sample → List Sample → Sample
  | best, [] => best
  | best, a :: r => nearestOf v (if (v.sub a).norm2 < (v.sub best).norm2 then a else best) r

/-- The decision on a data symbol of one polarisation (R148, R149). -/
def decision (m : Nat) (v : Sample) : Sample :=
  if m = 3 then nearestOf v (qamPoint 0) ((List.range 8).map qamPoint) else ⟨nearestLevel m v.re, nearestLevel m v.im⟩

/-- The quarter-turns of a rotation: 0 within 45° of none. -/
def quarterOf (r : Sample) : Nat :=
  let a := fun (v : Rat) => if v < 0 then -v else v
  if a r.im ≤ r.re then 0 else if a r.re ≤ r.im then 1 else if a r.im ≤ -r.re then 2 else 3

/-- A symbol turned by `q` quarters. -/
def quarterTurn (q : Nat) (v : Sample) : Sample :=
  match q % 4 with | 0 => v | 1 => ⟨-v.im, v.re⟩ | 2 => ⟨-v.re, -v.im⟩ | _ => ⟨v.im, -v.re⟩

/-- A rotation of magnitude one in the direction of a number; none for zero. -/
def directionOf (v : Sample) : Sample := if v.norm2 = 0 then ⟨1, 0⟩ else v.scale (1 / root v.norm2)

/-- A thread's receiver: its equaliser, the rotation its pilots show, the frequency offset it follows in turns per thread symbol, the
quarter-turns of the last pilots, newest first, the slips corrected, and the drift handed over. -/
structure RxThread where
  eq : Equaliser
  rot : Sample
  freq : Rat
  quarters : List Nat
  slips : Nat
  drift : Rat
  deriving DecidableEq, Repr

/-- A number held within ±limit. -/
def within (limit v : Rat) : Rat := if v < -limit then -limit else if limit < v then limit else v

/-- The frequency offset after a pilot that shows a phase error of `e` (its sine): it moves toward the error by at most what 2 GHz/s
makes over the 32 symbols from pilot to pilot, and stays within ±5 GHz (R183). -/
def freqStep (c : Carrier) (freq e : Rat) : Rat :=
  let symbol : Rat := (c.threads : Rat) / c.rate
  within (5000 * symbol) (freq + within (64 * symbol * symbol / 1000) (Config.loopGain * e))

/-- The rotation and the frequency after a pilot whose two symbols are `y` where `d` was sent: they follow the pilot within 45°;
after 8 successive pilots with the same quarter-turn the phase is corrected from the next symbol and one slip is counted
(R183). -/
def RxThread.pilot (t : RxThread) (c : Carrier) (y d : Nat → Sample) : RxThread :=
  let r := (sumOf [0, 1] fun p => (y p).mul (d p).conj).mul t.rot.conj
  let q := quarterOf r
  let turned := directionOf (quarterTurn (4 - q) r)
  let rot := t.rot.mul turned
  let t := { t with freq := freqStep c t.freq turned.im }
  let qs := (q :: t.quarters).take 8
  if q ≠ 0 ∧ qs.length = 8 ∧ qs.all (· == q) then
    { t with rot := quarterTurn q rot, quarters := [], slips := t.slips + 1 }
  else { t with rot := rot, quarters := qs }

/-- One symbol of thread k, number `i` of its LF: the equaliser's output turned back by the pilots' rotation, and the receiver
after it, which turns on by the frequency followed. The pilots are those of the received entropy code `h` (R97, R151). Before
carrier lock the taps follow the radius-directed rule, after it the pilots and the decisions; the taps and
the phase move every symbol (R182, R183). `move` is what the timing detector asks for. -/
def RxThread.symbol (t : RxThread) (c : Carrier) (k h : Nat) (locked : Bool) (boost : Nat) (mu : Rat) (move : Nat → Rat)
    (x : Signal) (i : Nat) : (Sample × Sample) × RxThread :=
  let y := fun (p : Nat) => t.eq.output c x i p
  let z := fun (p : Nat) => (y p).mul t.rot.conj
  let a := pilotLevel c.bits h boost
  let d := fun (p : Nat) =>
    match symbolKind i with
    | .data => decision c.bits (z p)
    | .header _ => ⟨if (z p).re < 0 then -a else a, if (z p).im < 0 then -a else a⟩
    | .pilot r => referenceSymbol c.profile k 0 a r p
  let err := fun (p : Nat) => if locked then ((d p).mul t.rot).sub (y p) else blindError c.bits (y p)
  let e := (t.eq.update c x i mu err).retime (move i)
  let u : RxThread := { t with eq := e.1, drift := t.drift + e.2 }
  let v := match symbolKind i with | .pilot _ => u.pilot c y d | _ => u
  ((z 0, z 1), { v with rot := v.rot.mul (turn v.freq) })

/-- The symbols of an LF from number `i` on, `n` of them, with the receiver after them. -/
def RxThread.run (c : Carrier) (k h : Nat) (locked : Bool) (boost : Nat) (mu : Rat) (move : Nat → Rat) (x : Signal) :
    Nat → Nat → RxThread → List (Sample × Sample) × RxThread
  | 0, _, t => ([], t)
  | n + 1, i, t =>
    let r := t.symbol c k h locked boost mu move x i
    let rest := RxThread.run c k h locked boost mu move x n (i + 1) r.2
    (r.1 :: rest.1, rest.2)

/-- The test phase with the least distance to the decisions over the window of 33 symbols around `i`, of 32 in a quarter-turn
(R183). -/
def searchPhase (m : Nat) (l : List (Sample × Sample)) (i : Nat) : Sample :=
  let w := (l.drop (i - 16)).take 33
  let back := fun (b : Nat) => (turn (((b : Rat) - 16) / 128)).conj
  let cost := fun (b : Nat) => realSum w fun v =>
    let z := fun (u : Sample) => u.mul (back b)
    ((z v.1).sub (decision m (z v.1))).norm2 + ((z v.2).sub (decision m (z v.2))).norm2
  back ((List.range 32).foldl (fun best b => if cost b < cost best then b else best) 0)

/-- Operation 9 on the symbols of an LF: the pilots' phase refined between them by blind phase search (R183). -/
def carrierRecovered (m : Nat) (l : List (Sample × Sample)) : Signal := fun p n =>
  let v := l.getD n.toNat (Sample.zero, Sample.zero)
  (if p = 0 then v.1 else v.2).mul (searchPhase m l n.toNat)

/-! ### Operations 10 and 11 (R184, R185) -/

/-- The receive table of thread k in force (R184). -/
def State.rxTableOf (s : State) (k : Nat) : List (Int × Int × Sample) :=
  match lget k s.rx.nlBasis with | some cd => nlTable (cd, 0) | none => []

/-- Operation 10: the correction of the share 2800:11 with the scale 2810+k:09, while it is in force (R184). -/
def State.postCompensated (s : State) (k : Nat) (x : Signal) : Signal := fun p n =>
  if s.rdB 0x2800 0x12 && decide (n % 32 ≠ 0) then
    (x p n).add (nlCorrection ((s.rdN 0x2800 0x11 : Rat) / 100 * ((s.rdI (0x2810 + k) 9 : Rat) / 4096)) (s.rxTableOf k)
      fun i => x p (n + i))
  else x p n

/-- The noise variance of one dimension, from the pilots of the LF, which are those of the received entropy code `h` (R97, R151,
R185). -/
def noiseVariance (c : Carrier) (k h boost : Nat) (x : Signal) : Rat :=
  let a := pilotLevel c.bits h boost
  let rs := List.range' 16 (c.lfLength / 32 - 16)
  realSum rs (fun r => realSum [0, 1] fun p => ((x p (32 * r : Nat)).sub (referenceSymbol c.profile k 0 a r p)).norm2)
    / (4 * rs.length : Nat)

/-- The least of a list of numbers; 0 of none. -/
def leastOf : List Rat → Rat
  | [] => 0
  | a :: r => r.foldl (fun b v => if v < b then v else b) a

/-- A max-log LLR: the least metric of the points whose bit is 1 less the least of those whose bit is 0, as a 6-bit number that
saturates at ±31 (R185, log entry 159). -/
def maxLog (metric : List Bool → Rat) (labels : List (List Bool)) (b : Nat) : Int :=
  let side := fun (v : Bool) => leastOf ((labels.filter fun l => l.getD b false == v).map metric)
  let v := side true - side false
  llrSat (v.floor + (if v.den ≠ 1 && Config.roundUp v then 1 else 0))

/-- Every label of `w` bits. -/
def allLabels (w : Nat) : List (List Bool) := (List.range (2 ^ w)).map (natBits w)

/-- The logarithm of the prior probability of an amplitude index: the same for every one where the levels are unshaped (R93, R110,
R185, log entry 159). -/
def logPrior (m h j : Nat) : Rat := if h = 8 * m then 0 else Config.logPrior m h j

/-- The LLRs of data symbol `d`, in the order of its coded bits: per real dimension with the priors of the amplitudes that the
entropy code implies, or for m = 3 jointly over the eight points with equal priors (R148, R149, R185). -/
def symbolLlrs (c : Carrier) (h : Nat) (variance : Rat) (v : Nat → Sample) : List Int :=
  let near := fun (e : Rat) => e / (2 * variance)
  if c.bits = 3 then
    [0, 1].flatMap fun p => (List.range 3).map (maxLog (fun l => near ((v p).sub (qamPoint (bitsNat l))).norm2) (allLabels 3))
  else
    let w := c.bits / 2
    [0, 1].flatMap fun p => [(v p).re, (v p).im].flatMap fun u => (List.range w).map
      (maxLog (fun l => near ((u - labelLevel l) * (u - labelLevel l)) - logPrior c.bits h (fromGray (l.drop 1))) (allLabels w))

/-- Operation 11: the LLRs of an LF in the order of its coded bits (R185). -/
def demapped (c : Carrier) (k h boost : Nat) (x : Signal) : List Int :=
  let variance := noiseVariance c k h boost x
  ((List.range c.lfLength).filter fun i => i % 32 ≠ 0).flatMap fun (i : Nat) => symbolLlrs c h variance fun p => x p (i : Int)

/-! ### The chain (R172) -/

/-- Operations 1 to 4: what the picot pick-off and the dispersion filter take in. `raw a n` is the code of ADC a at its sample
n (R172). -/
def State.resampledIn (s : State) (drift : Rat) (raw : Nat → Int → Rat) : Signal :=
  s.resampled drift (decimated (s.inForce.factor s.inForce.adc) (s.frontEnd (s.sliced raw)))

/-- The step size thread k's engine has set (R27, R182). -/
def State.eqStep (s : State) (k : Nat) : Rat := Config.stepSize (lgetD k (0, 0) s.rx.eqLoop).1

/-- The filter length thread k's engine has set, at most that of R181 (R27). -/
def State.eqLength (s : State) (k : Nat) : Nat :=
  match lget k s.rx.eqLoop with
  | some p => p.2 % eqTaps s.inForce.threads + 1
  | none => eqTaps s.inForce.threads

/-- The entropy code of the next LF of thread k: the one that the headers give, and from the first symbol of its target multiframe
that of a confirmed change (R97, R105, R193). -/
def State.entropyNext (s : State) (k : Nat) : Nat :=
  let u := s.hunt k
  if s.cfg.profile ≠ 0 then 8 * s.cfg.bits
  else match u.mf with
    | some m =>
      if u.expIdx = 0 ∧ 2 ≤ s.huntState k then
        match s.tra.far.find? fun x => x.confirmed && decide (x.prop.target ≤ m + 1) && bit x.prop.entMask k with
        | some x => x.prop.codes.getD k u.entropy
        | none => u.entropy
      else u.entropy
    | none => u.entropy

/-- The LLRs of codeword `w` of an LF of thread k whose symbol 0 is place 0 of the signals, and the thread's receiver after the
LF: operations 1 to 4 and 6 to 11 of R172 in their order, from the ADC's codes, the receiver as it stands and the timing
detector's moves. The entropy is the one that R97 and R105 give. Zero LLRs come while THR_LOL is raised or the receive
status is not 1 or 3 (R172, R185, R206, R208). -/
def State.rxChain (s : State) (k : Nat) (raw : Nat → Int → Rat) (t : RxThread) (move : Nat → Rat) (w : Nat) :
    List Int × RxThread :=
  let c := s.inForce
  let h := s.entropyNext k
  let t := { t with eq := { t.eq with length := s.eqLength k } }
  let boost := s.rdN 0x2400 0x0B
  let x := s.demultiplexed k (s.compensated (s.resampledIn t.drift raw))
  let r := RxThread.run c k h (s.rdN (0x2810 + k) 1 == 4) boost (s.eqStep k) move x c.lfLength 0 t
  let l := demapped c k h boost (s.postCompensated k (carrierRecovered c.bits r.1))
  let mute := s.rdBit (0x2810 + k) 0x0A 0 || !(s.rxStatus k == 1 || s.rxStatus k == 3)
  ((List.range (codeLength c.profile)).map fun j => if mute then 0 else l.getD (codedPlace c w j) 0, r.2)

/-- Operation 5: what the picot receiver takes in, from the resampler's output (R172, R179). -/
def State.picotChain (s : State) (drift : Rat) (raw : Nat → Int → Rat) : Signal := s.picked (s.resampledIn drift raw)

end Sys2Proof.Machine
end

