-- ==== Sys2Proof/Machine/Framing.lean ====
section
/-! DEFINITION. Line frame and maintenance at receive (spec/08_line_frame.md R234 to R265): the header hunt, acceptance,
the multiframe counter, carrier-scope overhead, the receive swap, containers, defects and performance monitoring. -/

namespace Sys2Proof.Machine

/-! ### The header hunt (R233 to R235) -/

/-- The thread leaves SYNC: an OOF event, and what waits on the thread's frame is withdrawn (R88, R234). -/
def State.frameLost (s : State) (k : Nat) : State :=
  (((s.wrN (0x3450 + k) 1 4).inc32 (0x3450 + k) 6).count (.oof k)).withdrawThread k

/-- The thread reaches SYNC: its mask of R260 ends, and a thread in re-admission is received (R107, R259, R260). -/
def State.frameFound (s : State) (k : Nat) : State :=
  let t := s.wrN (0x3450 + k) 1 3
  let t : State := { t with rx := { t.rx with
    maskHeld := dropFrom k t.rx.maskHeld, readmitFar := dropFrom k t.rx.readmitFar } }
  if t.rxStatus k = 3 then t.setRxStatus k 1 else t

/-- Expected index and counter low after an LF of index `i` whose counter low is `low` (R234). -/
def nextExpected (i low : Nat) : Nat × Nat := if i = 15 then (0, (low + 1) % 65536) else (i + 1, low)

/-- Whether a header is consistent for thread k (R234). -/
def State.consistent (s : State) (k w : Nat) : Bool :=
  let h := parseHeader s.cfg.profile w
  let u := s.hunt k
  headerValid s.inForce k w && h.index == u.expIdx && h.low == u.expLow

/-- The receive pages of thread k change places: the standby page comes into force (R235, R250). -/
def State.rxPageFlip (s : State) (k : Nat) : State :=
  ((s.wrS (0x34C0 + k) 3 (s.page k 4)).wrS (0x34C0 + k) 4 (s.page k 3)).wrN (0x3450 + k) 0x0A
    (1 - s.rdN (0x3450 + k) 0x0A % 2)

/-- The hunt state of thread k after a header at the expected position. The first valid header of a hunt says which page
is in force (R234, R235). -/
def State.huntStep (s : State) (k w : Nat) : State :=
  let h := parseHeader s.cfg.profile w
  let u := s.hunt k
  let ok := s.consistent k w
  let e := nextExpected u.expIdx u.expLow
  let adv := { u with expIdx := e.1, expLow := e.2 }
  match s.huntState k with
  | 1 =>
    if headerValid s.inForce k w then
      let e := nextExpected h.index h.low
      let t := if s.cfg.profile = 0 ∧ s.rdN (0x3450 + k) 0x0A ≠ h.page then s.rxPageFlip k else s
      (t.wrN (0x3450 + k) 1 2).setHunt k { u with
        expIdx := e.1, expLow := e.2, run := 0, miss := 0, entropy := h.code, page := h.page, mf := none,
        evalMf := none, lomRun := 0, lomCand := none }
    else s
  | 2 =>
    if !ok then (s.wrN (0x3450 + k) 1 1).setHunt k { u with run := 0, miss := 0 }
    else if 1 ≤ u.run then (s.setHunt k { adv with run := 0, miss := 0 }).frameFound k
    else s.setHunt k { adv with run := u.run + 1 }
  | 3 =>
    if ok then s.setHunt k { adv with miss := 0 }
    else if 4 ≤ u.miss then (s.setHunt k { adv with miss := 0, run := 0 }).frameLost k
    else s.setHunt k { adv with miss := u.miss + 1 }
  | 4 =>
    if ok && decide (1 ≤ u.run) then (s.setHunt k { adv with run := 0, miss := 0 }).frameFound k
    else if 15 ≤ u.miss then (s.wrN (0x3450 + k) 1 1).setHunt k { u with run := 0, miss := 0 }
    else s.setHunt k { adv with run := if ok then u.run + 1 else 0, miss := u.miss + 1 }
  | _ => s

/-! ### The receive side of a transaction (R86, R105 to R107, R244) -/

/-- The entropy and map of one thread change as a staged part says (R105, R244). -/
def State.swapThread (s : State) (p : Propose) (k : Nat) : State :=
  let u := s.hunt k
  let t := if bit p.entMask k then s.setHunt k { u with entropy := p.codes.getD k u.entropy } else s
  if bit p.mapMask k then
    let t := t.rxPageFlip k
    t.setHunt k { t.hunt k with page := 1 - (t.hunt k).page % 2 }
  else t

/-- The state part: a retired thread is masked from the target on, and a re-admitted one acquires from it (R106 step 2,
R107 step 3). -/
def State.swapStates (s : State) (p : Propose) (m : Nat) : State :=
  s.each (bitsOf 32 p.stateMask) fun t k =>
    if bit p.newStates k then
      let u := t.setRxStatus k 3
      { u with cfg := { u.cfg with rxReadmitAt := lput k m u.cfg.rxReadmitAt } }
    else
      let u := t.setRxStatus k 2
      { u with cfg := { u.cfg with
        rxRetireAt := lput k m u.cfg.rxRetireAt, rxReadmitAt := ldel k u.cfg.rxReadmitAt } }

/-- Whether the framer of thread k processes LFs (R235). -/
def State.framed (s : State) (k : Nat) : Bool := s.huntState k == 2 || s.huntState k == 3 || s.huntState k == 4

/-- A part's thread bits below, with the thread's own cleared. -/
def clearThread (p : Propose) (k : Nat) : Propose :=
  { p with entMask := clearBit p.entMask k, mapMask := clearBit p.mapMask k }

/-- At the first LF of multiframe `m` on thread k every confirmed part whose target has come acts on the thread; the
first thread to reach the target carries the state part and the threads that are not in frame with it. A part with
nothing left to do is dropped (R86, R235). -/
def State.receiveSwap (s : State) (k m : Nat) : State :=
  let due := s.tra.far.filter fun x => x.confirmed && decide (x.prop.target ≤ m)
  let t := s.each due fun t x =>
    let p := x.prop
    let t := if p.stateMask ≠ 0 then t.swapStates p x.prop.target else t
    let ks := (bitsOf 32 (p.entMask ||| p.mapMask)).filter fun j => j == k || !t.framed j
    let t := t.each ks fun u j => u.swapThread p j
    let p' := ks.foldl clearThread { p with stateMask := 0 }
    { t with tra := { t.tra with
      far := t.tra.far.map fun y => if y.prop.num = p.num then { y with prop := p' } else y } }
  let t : State := { t with tra := { t.tra with
    far := t.tra.far.filter fun y =>
      !(y.confirmed && decide (y.prop.target ≤ m) && y.prop.entMask == 0 && y.prop.mapMask == 0 && y.prop.stateMask == 0) } }
  let gone := t.cfg.rxRetireAt.filter fun p => decide (p.2 + 16 ≤ m)
  gone.foldl (fun u p =>
    let v := u.setRxStatus p.1 0
    { v with cfg := { v.cfg with rxRetireAt := ldel p.1 v.cfg.rxRetireAt } }) t.ssf

/-- A page collected whole comes into force: the adoption is counted, and a staged receive part for the thread is
discarded and refused with CONFLICT (R251). -/
def State.adopt (s : State) (k : Nat) : State :=
  match (s.hunt k).collected with
  | some b =>
    let t := ((s.wrS (0x34C0 + k) 3 b).inc32 (0x3450 + k) 0x0B).setHunt k { s.hunt k with collected := none }
    let hit := t.tra.far.filter fun x => bit (x.prop.entMask ||| x.prop.stateMask ||| x.prop.mapMask) k
    (t.each hit fun u x =>
      (u.dropPart x).answer x.prop.num x.prop.target .conflict).ssf
  | none => s

/-! ### Seals (R309 to R314) -/

/-- Sealing of tenant n on the line before anything was seen. -/
def SealTen.start : SealTen :=
  { rx := none, prev := none, check := false, nextRun := 0, due := none, later := false, derived := none, fails := 0, passes := 0, misses := 0, hits := 0,
    recent := [], txKey := [], txEpoch := 0, sealedMf := none, txHeader := 0, txCipher := [],
    txTag := [] }
/-- The sealing record of tenant n. -/
def State.sealTen (s : State) (n : Nat) : SealTen := lgetD n SealTen.start s.sls.tenants
/-- The sealing record of tenant n changed. -/
def State.setSealTen (s : State) (n : Nat) (x : SealTen) : State :=
  { s with sls := { s.sls with tenants := lput n x s.sls.tenants } }

/-- The fields of a seal header word. -/
structure SealHeader where
  position : Nat
  direction : Nat
  valid : Bool
  next : Bool
  epoch : Nat
  deriving DecidableEq, Repr

/-- The fields read from a seal header (R311). -/
def sealFields (w : Nat) : SealHeader :=
  { position := field w 54 2, direction := field w 53 1, valid := bit w 51, next := bit w 49, epoch := field w 16 32 }

/-- The nonce of a multiframe (R312). -/
def sealNonce (tenant position direction mf : Nat) : List Byte :=
  beBytes 12 (tenant * 2 ^ 84 + position * 2 ^ 82 + direction * 2 ^ 81 + mf % 2 ^ 64)

/-- What sealed bytes hold that begin `o` bytes into the payload area, and the same encrypted (R309, R310). -/
def gcmFrom (key iv : List Byte) (o : Nat) (b : List Byte) : List Byte := (gcmCrypt key iv (List.replicate o 0 ++ b)).drop o

/-- The payload area of a multiframe of tenant n whose ciphertext has come whole, where a key was found for its header (R309, R314). -/
def SealMf.open (x : SealMf) (n : Nat) (cipher : List Byte) : Option (List Byte) :=
  let h := sealFields x.word
  x.key.map fun k => gcmCrypt k (sealNonce n h.position h.direction x.mf) cipher

/-! ### Containers (R252 to R257) -/

/-- Delineation of one core header word (R253): the new state, whether it was corrected, whether a loss is counted, and
the PLI where the word was accepted. -/
def delineate (state : Nat) (w : Nat) : Nat × Bool × Bool × Option Nat :=
  match state with
  | 0 => (if (coreParse w).isSome then 1 else 0, false, false, none)
  | 1 => (if (coreParse w).isSome then 2 else 0, false, false, coreParse w)
  | _ =>
    match coreParse w with
    | some p => (2, false, false, some p)
    | none =>
      match coreCorrect w with
      | some p => (2, true, false, some p)
      | none => (0, false, true, none)

/-- What the delineation of a byte brings (R253). -/
inductive DelinEvent where
  | corrected | lost | control | discarded
  | frame (b : List Byte)
  deriving DecidableEq, Repr

/-- A frame is complete: discarded where a byte of it lies in an LF not accepted, else delivered in SYNC (R218, R252, R253). -/
def Delin.complete (d : Delin) : Delin × List DelinEvent :=
  ({ d with head := [], left := 0, frame := [], bad := false },
    if d.st ≠ 2 then []
    else if d.frame.length = 4 then (if d.bad then [] else [.control])
    else if d.bad then [.discarded] else [.frame d.frame.reverse])

/-- A core header is complete (R252, R253). HUNT looks at every byte for one. -/
def Delin.header (d : Delin) : Delin × List DelinEvent :=
  let w := beNat d.head
  let r := delineate d.st w
  let pli := if d.st = 0 then coreParse w else r.2.2.2
  let e := (if r.2.1 then [.corrected] else []) ++ (if r.2.2.1 then [DelinEvent.lost] else [])
  match pli with
  | some p => if p = 0 then ({ d with st := r.1, head := [], bad := false }, e) else ({ d with st := r.1, head := [], left := p }, e)
  | none => ({ d with st := r.1, head := d.head.drop 1 }, e)

/-- One byte of the container; `bad` says that its LF was not accepted (R253). -/
def Delin.byte (d : Delin) (bad : Bool) (b : Byte) : Delin × List DelinEvent :=
  if d.left ≠ 0 then
    let x := { d with left := d.left - 1, frame := b :: d.frame, bad := d.bad || bad }
    if d.left = 1 then x.complete else (x, [])
  else
    let x := { d with head := d.head ++ [b], bad := bad || (d.bad && decide (d.head ≠ [])) }
    if x.head.length < 4 then (x, []) else x.header

/-- What delineation brings tenant n. A container delivers no frames while a receive condition of R261 holds (R218, R253,
R261, R262). -/
def State.delinEvent (s : State) (n : Nat) (e : DelinEvent) : State :=
  match e with
  | .corrected => s.inc32 (0x6000 + n) 0x0B
  | .lost => s.inc32 (0x6000 + n) 0x0A
  | .control => s.setTen n { s.ten n with mfCsf := true }
  | .discarded => (s.setTen n { s.ten n with mfErr := true }).inc64 (0x6000 + n) 8
  | .frame b => if s.tenantRdiSent n then s else s.emit (.lineFrame n b)

/-- One byte of tenant n's container (R253). -/
def State.delinByte (s : State) (n : Nat) (bad : Bool) (b : Byte) : State :=
  let tl := s.ten n
  let r := tl.delin.byte bad b
  let t := s.setTen n { tl with delin := r.1, mfLost := tl.mfLost || r.1.st != 2, mfSync := tl.mfSync || r.1.st == 2 }
  t.each r.2 fun u e => u.delinEvent n e

/-- The client bits that a CBR payload carries, C of them in P bits (R255). -/
def demapClient (p c : Nat) (payload : List Bool) : List Bool :=
  ((payload.take p).zipIdx.filter fun x => carriesClient p c (x.2 + 1)).map fun x => x.1

/-- The bits of bytes, most significant first. -/
def bytesBits (b : List Byte) : List Bool := b.flatMap fun x => bitsDown x.toNat 7 0

/-- The client bits of a multiframe of P payload bits go to the client port, or the generic AIS in their place (R257, R261). -/
def State.clientOut (s : State) (n p c : Nat) (b : List Byte) : State :=
  s.emit (.client n (if s.tenantRdiSent n then none else some (demapClient p c (bytesBits (b.drop 8)))))

/-- Whether the JC at the head of a container of P payload bits is accepted: its CRC matches and C ≤ P (R257). -/
def jcGood (p : Nat) (b : List Byte) : Bool := decide (8 ≤ b.length) && jcOk p (beNat (b.take 8))

/-- The container of a multiframe of CBR tenant n with P payload bits: where its JC is not accepted the previous C is used (R254,
R257). -/
def State.jcIn (s : State) (n p : Nat) (b : List Byte) : State :=
  let tl := s.ten n
  let w := beNat (b.take 8)
  if jcGood p b then
    (s.setTen n { tl with mfJc := 1, lastC := w / 2 ^ 32, mfCsf := tl.mfCsf || bit w 23 }).clientOut n p (w / 2 ^ 32) b
  else (s.setTen n { tl with mfJc := 2 }).clientOut n p tl.lastC b

/-- Whether an LF that holds stitches of tenant n was never delivered in this multiframe (log entry 163). -/
def State.partMissing (s : State) (n : Nat) : Bool :=
  (List.range 32).any fun k => s.rxHas n k && !bit s.frm.shedMuted k &&
    decide (((s.ten n).parts.filter fun p => p.1 / 16 == k).length < 16)

/-- A gap in the container of packet tenant n ends its delineation (log entry 163). -/
def State.delinGap (s : State) (n : Nat) : State :=
  let u := s.whenB (decide ((s.ten n).delin.st = 2)) fun u => u.delinEvent n .lost
  u.setTen n { u.ten n with delin := TenLine.start.delin, mfLost := true }

/-- The sealed multiframe of tenant n that ends: past the header and the tag it is decrypted. Its frames are delineated at once and
wait in their queues for the tag; the demapper takes it only once that has passed. Where a part is missing or no key was found
nothing is decrypted (R309, R310, R314, R315, log entry 163). -/
def State.sealedIn (s : State) (n : Nat) (gap : Bool) (line : List Byte) : State :=
  let cipher := if gap then [] else line.drop 24
  let t := s.setTen n { s.ten n with cipher := cipher }
  let plain := if gap then none else (s.sealTen n).rx.bind fun x => x.open n cipher
  if s.tenCbr n then
    let p := match (s.sealTen n).rx with | some x => x.bits - 64 | none => 0
    t.setTen n { t.ten n with held := some (p, plain.getD []) }
  else match plain with
  | some b => t.each b fun u x => u.delinByte n false x
  | none => t.delinGap n

/-- The container of the multiframe that ends for tenant n, in ascending thread and position: delineated, or given to the
demapper (R248, R253, R257). -/
def State.containerIn (s : State) (n : Nat) : State :=
  let tl := s.ten n
  let gap := s.partMissing n
  let t := s.setTen n { tl with parts := [] }
  let line := tl.parts.flatMap fun p => p.2.2
  if s.sealedTenant n then t.sealedIn n gap line
  else if s.tenCbr n then t.jcIn n (cbrPayload (s.rxLit n) false) (if gap then [] else line)
  else (if gap then t.delinGap n else t).each tl.parts fun u p => u.each p.2.2 fun v b => v.delinByte n (!p.2.1) b

/-- The bytes of tenant n's stitches in LF `i` of thread k at entropy `h`, from the LF's information bits; in G1 and G2 the whole
payload field (R229, R247). -/
def State.stitchBytes (s : State) (k i h n : Nat) (info : List Bool) : List Byte :=
  if s.cfg.profile ≠ 0 then (if n = 0 then bitsBytes (info.drop 16384) else [])
  else
    let m := s.inForce.payload h / 1024
    let owners := ((calendar m (s.rxEntries k)).drop (i * m)).take m
    owners.zipIdx.flatMap fun o => if o.1 = n then bitsBytes ((info.drop (16384 + 1024 * o.2)).take 1024) else []

/-- The stitches of one LF delivered: what each tenant's container has in it, errors and unmapped stitches. The bytes are
those of the decoder's decisions where it delivered any (R218, R236, R251, R339). -/
def State.deliver (s : State) (k i h : Nat) (accepted : Bool) (lf : LfIn) (info : Option (List Bool)) : State :=
  let st := s.rxStitches k i h
  let takes := fun (n : Nat) => s.tenOn n && s.holdFits n
  let t := s.bump (0x3450 + k) 0x0C 64 ((st.filter fun p => !takes p.1).map fun p => p.2).sum
  let mine := st.filter fun p => takes p.1
  let bytes := fun (n : Nat) => match info with
    | some b => s.stitchBytes k i h n b
    | none => lgetD n [] lf.payload
  let t := t.each ((uniq ((s.rxEntries k).map fun e => e.tenant)).filter takes) fun u n =>
    u.setTen n { u.ten n with parts := lput (16 * k + i) (accepted, bytes n) (u.ten n).parts }
  if accepted then t else t.each mine fun u p => u.badStitches p.1 p.2

/-- A run of multiframes in which a condition held and one in which it did not, each up to 3. -/
def runs3 (v : Bool) (set clr : Nat) : Nat × Nat :=
  if v then (min 3 (set + 1), 0) else (0, min 3 (clr + 1))

/-- A defect with its runs: set after `n` successive with the condition, cleared after `n` without. -/
def State.runDefect (s : State) (idx sub b n set clr : Nat) : State :=
  if n ≤ set then s.raise idx sub b else if n ≤ clr then s.clear idx sub b else s

/-- The multiframe of a sealed tenant that waits for its tag is counted, errored where it was already or where the tag does not
pass (R262, R316). -/
def State.sealCounted (s : State) (n : Nat) (bad : Bool) : State :=
  let tl := s.ten n
  match tl.pendErr with
  | some e => s.setTen n { tl with pendErr := none, secMf := tl.secMf + 1, secBad := tl.secBad + (if e || bad then 1 else 0) }
  | none => s

/-- The multiframe that ends for tenant n: TEN_LOD, TEN_CSF and TEN_JC, and whether it was errored. That of a sealed tenant waits
for its tag; one whose tag has not come by then is errored (R257, R258, R262, R316). -/
def State.tenantMultiframe (s : State) (n : Nat) : State :=
  let s := (s.sealCounted n true).containerIn n
  let tl := s.ten n
  let now := !s.sealedTenant n
  let held := decide (s.rxTotal n ≠ 0)
  let cbr := s.tenCbr n
  let jcBad := held && cbr && tl.mfJc == 2
  let lod := if cbr || !held then (0, 0)
    else if !tl.mfSync && tl.mfLost then (min 2 (tl.lodBad + 1), 0)
    else if !tl.mfLost then (0, min 2 (tl.lodGood + 1))
    else (0, 0)
  let csf := runs3 tl.mfCsf tl.csfSet tl.csfClear
  let jc := if !(cbr && held) then (0, 0) else if tl.mfJc = 0 then (tl.jcBad, tl.jcGood) else runs3 jcBad tl.jcBad tl.jcGood
  let err := held && (tl.mfErr || (jcBad && now))
  let i := 0x6000 + n
  let t := s.whenB jcBad fun u => u.inc32 i 0x0C
  let t := ((t.runDefect i 0x0D 1 2 lod.1 lod.2).runDefect i 0x0D 2 3 csf.1 csf.2).runDefect i 0x0D 3 3 jc.1 jc.2
  t.setTen n { tl with
    lodBad := lod.1, lodGood := lod.2, csfSet := csf.1, csfClear := csf.2, jcBad := jc.1, jcGood := jc.2
    mfLost := tl.delin.st != 2, mfSync := tl.delin.st == 2, mfCsf := false, mfJc := 0, mfErr := false
    pendErr := if held && !now then some err else none
    secMf := tl.secMf + (if held && now then 1 else 0), secBad := tl.secBad + (if err && now then 1 else 0)
    secMapped := tl.secMapped || held }

/-- The first LF of a new received multiframe ends the one before it for every tenant. -/
def State.tenantsMultiframe (s : State) (m : Nat) : State :=
  if s.frm.tenMf = some m then s
  else
    let t := s.each (uniq (s.rxTenants ++ s.frm.tenants.map fun p => p.1)) State.tenantMultiframe
    { t with frm := { t.frm with tenMf := some m } }

/-! ### Overhead (R237 to R240, R251, R258 to R260) -/

/-- The multiframe counter of an accepted LF of thread k against the expectation. While LF_LOM is raised a counter is adopted
only when two successive accepted LFs agree on it, also after a new hunt (R239). -/
def State.counterIn (s : State) (k c : Nat) : State :=
  let u := s.hunt k
  let adoptC := fun (t : State) =>
    let t := (t.setHunt k { t.hunt k with mf := some c, lomRun := 0, lomCand := none }).clear (0x3450 + k) 2 1
    ({ t with frm := { t.frm with ohAt := none, ohPend := none } } : State).ssf
  if s.rdBit (0x3450 + k) 2 1 then
    if u.lomCand = some c then adoptC s else s.setHunt k { u with lomCand := some c }
  else match u.mf with
  | none => adoptC s
  | some m =>
    if c = m then s.setHunt k { u with lomRun := 0 }
    else if 2 ≤ u.lomRun then ((s.setHunt k { u with lomRun := 0, lomCand := none }).raise (0x3450 + k) 2 1).ssf
    else s.setHunt k { u with lomRun := u.lomRun + 1 }

/-- The active page digest of the far end against the receive page in force, once per multiframe (R251). -/
def State.digestIn (s : State) (k d : Nat) : State :=
  let u := s.hunt k
  if u.evalMf = u.mf then s
  else
    let same := decide (pageDigest (s.page k 3) = d)
    let bad := if same then 0 else min 2 (u.cmmBad + 1)
    let good := if same then min 2 (u.cmmGood + 1) else 0
    (s.setHunt k { u with evalMf := u.mf, digest := d, cmmBad := bad, cmmGood := good }).runDefect (0x3450 + k) 2 2 2 bad
      good

/-- The accepted shed-muted field: a thread whose bit is set is masked, and one whose bit clears acquires and stays
masked until SYNC or 100 ms (R191, R193, R260). -/
def State.shedMutedIn (s : State) (v : Nat) : State :=
  let old := s.frm.shedMuted
  let t : State := { s with frm := { s.frm with shedMuted := v } }
  let t := t.each ((bitsOf 32 v).filter fun k => !bit old k) fun u k => u.beginMask k
  t.each ((bitsOf 32 old).filter fun k => !bit v k) fun u k =>
    let u : State := { u with rx := { u.rx with maskHeld := addTo k u.rx.maskHeld } }
    if u.rxAcquires k then u.setLock k (if u.rx.cdDone then 1 else 0) else u

/-- The remote defect field of an accepted multiframe: LF_RDI of each thread, and the completion of a re-admission
(R107 step 5, R258, R259). -/
def State.remoteDefectIn (s : State) (v : Nat) : State :=
  let t : State := { s with frm := { s.frm with remoteDefect := v } }
  t.each t.threads fun u k =>
    let h := u.hunt k
    let r := runs3 (bit v k) h.rdiSet h.rdiClear
    let u := u.setHunt k { h with rdiSet := r.1, rdiClear := r.2 }
    let u := if u.rxActive k then u.runDefect (0x3450 + k) 2 3 3 r.1 r.2 else u
    match lget k u.cfg.readmitAt with
    | some _ =>
      if bit v k then { u with cfg := { u.cfg with rdiSeen := addTo k u.cfg.rdiSeen } }
      else if u.cfg.rdiSeen.contains k && decide (3 ≤ r.2) && u.txStatus k == 3 then
        let w : State := { u with cfg := { u.cfg with
          readmitAt := ldel k u.cfg.readmitAt, rdiSeen := dropFrom k u.cfg.rdiSeen } }
        w.wrN (0x3410 + k) 5 1
      else u
    | none => u

/-- The tenant remote defect bits of LF index i (R237, R258). -/
def State.tenantRdiIn (s : State) (i : Nat) (bits : List Byte) : State :=
  let ns := (uniq (s.rxTenants ++ s.placed)).filter fun n => decide (n / 256 = i)
  s.each ns fun t n =>
    let b := bit ((bits.getD (n % 256 / 8) 0).toNat) (7 - n % 8)
    let tl := t.ten n
    let r := runs3 b tl.rdiSet tl.rdiClear
    (t.setTen n { tl with rdiSet := r.1, rdiClear := r.2 }).runDefect (0x6000 + n) 0x0D 5 3 r.1 r.2

/-- A trace segment; the sixteenth completes a trace, which is compared where 3440:03 is 1 (R237, R258). -/
def State.traceIn (s : State) (i : Nat) (b : List Byte) : State :=
  let segs := lput i b (if i = 0 then [] else s.frm.trace)
  let t : State := { s with frm := { s.frm with trace := segs } }
  if i = 15 ∧ segs.length = 16 then
    let whole := segs.flatMap fun p => p.2
    let t := t.wrS 0x3440 2 whole
    let same := decide (whole = padTo 64 (t.rdS 0x3440 1))
    let r := runs3 (!same) t.frm.traceBad t.frm.traceGood
    let t : State := { t with frm := { t.frm with traceBad := r.1, traceGood := r.2 } }
    let was := t.rdBit 0x3440 7 0
    let t := if t.rdB 0x3440 3 then t.runDefect 0x3440 7 0 3 r.1 r.2 else t.clear 0x3440 7 0
    if t.rdBit 0x3440 7 0 = was then t else t.ssf
  else t

/-- The values that the carrier-scope fields of LF index i of multiframe m give, taken from thread k, with the arrival of a
multiframe that is timed (R237, R238, R378, R379). -/
def State.carrierValues (s : State) (k m i arrival : Nat) (b : List Byte) : State :=
  let t : State := { s with frm := { s.frm with
    ohAt := some (16 * m + i, k), ohPend := some b
    aps := (padTo 128 s.frm.aps).take (8 * i) ++ padTo 8 (slice b 64 8) ++ (padTo 128 s.frm.aps).drop (8 * i + 8)
    farStamps := slice b 72 36 } }
  let t := ((t.wrN 0x3440 0x0D m).wrN 0x3440 0x0E k).wrN 0x3440 6 ((b.getD 9 0).toNat % 16)
  let t := if s.cfg.profile = 0 then t.shedMutedIn (beField b 14 4) else t
  if i = 0 ∧ m % 64 = 0 then
    { t with tim := { t.tim with arrivals := (lput m arrival t.tim.arrivals).reverse.take 4096 |>.reverse } }
  else t

/-- The position read last is past: what counts successive multiframes or traces judges its fields, which are by now those of the
lowest-numbered thread that delivered it (R237, R238, R258, log entry 160). -/
def State.carrierJudge (s : State) : State :=
  match s.frm.ohAt, s.frm.ohPend with
  | some (p, _), some b =>
    let native := decide (s.cfg.profile = 0)
    let t : State := { s with frm := { s.frm with ohPend := none } }
    let t := if s.frm.rdiMf = some (p / 16) then t
      else
        let u : State := { t with frm := { t.frm with rdiMf := some (p / 16) } }
        u.remoteDefectIn (if native then beField b 10 4 else beField b 10 4 % 2)
    let t := if native then t.tenantRdiIn (p % 16) (slice b 32 32) else t
    t.traceIn (p % 16) (slice b 26 4)
  | _, _ => s

/-- The overhead of an accepted LF of thread k (R236 to R240). -/
def State.overheadIn (s : State) (k i arrival : Nat) (b : List Byte) : State :=
  let t := s.counterIn k (beField b 0 8)
  let t := if s.cfg.profile = 0 then t.digestIn k (beField b 18 4) else t
  let t := if t.rdBit 0x3440 7 1 then t.clear 0x3440 7 1 else t
  match (t.hunt k).mf with
  | none => t
  | some m =>
    match t.frm.ohAt with
    | none => t.carrierValues k m i arrival b
    | some (p, j) =>
      if p < 16 * m + i then t.carrierJudge.carrierValues k m i arrival b
      else if p = 16 * m + i ∧ k < j then t.carrierValues k m i arrival b
      else t

/-! ### A thread LF (R234 to R236) -/

/-- The start of a multiframe on thread k, at an LF of index 0: the thread's multiframe number rises by one and what the
multiframe brings takes effect (R86, R235, R239, R251). -/
def State.threadMultiframe (s : State) (k : Nat) : State :=
  let u := s.hunt k
  match u.mf with
  | some m =>
    let t := s.setHunt k { u with mf := some (m + 1), lomCand := u.lomCand.map (· + 1) }
    ((((t.tenantsMultiframe (m + 1)).receiveSwap k (m + 1)).adopt k).reserveHolds s).rxBoundary k
  | none => (((s.setHunt k { u with lomCand := u.lomCand.map (· + 1) }).adopt k).reserveHolds s).rxBoundary k

/-- The LF that the decoder hands over next, taken from those delivered: its mark and the information bits decided, or none where
the commands have brought no codewords of the LF (R210, R218, R229, log entry 154). -/
def State.takeLf (s : State) (k : Nat) : Bool × Option (List Bool) × State :=
  match (s.fecOf k).lfs with
  | (mark, sys) :: rest =>
    let h := if s.cfg.profile = 0 then (s.hunt k).entropy else 8 * s.cfg.bits
    (mark, some (decodedInfo s.inForce k h sys), s.setFec k { s.fecOf k with lfs := rest })
  | [] => (false, none, s)

/-- An LF that a framer in HUNT does not take is not accepted: it counts for the thread and the carrier, and the multiframe of every
tenant with stitches on the thread is errored (R235, R236, R262). -/
def State.lostWhole (s : State) (k : Nat) : State :=
  (s.countLf k false).each (uniq ((s.rxEntries k).map fun e => e.tenant)) fun u n =>
    u.whenB (u.tenOn n) fun v => v.setTen n { v.ten n with mfErr := true }

/-- One LF of thread k at the expected position, with what the decoder gave for it: whether a codeword of it failed, and its
information bits (R234 to R236). -/
def State.lfDecoded (s : State) (k : Nat) (lf : LfIn) (failed : Bool) (info : Option (List Bool)) : State :=
  let w := lf.header.toNat
  let h := parseHeader s.cfg.profile w
  let valid := headerValid s.inForce k w
  let i := (s.hunt k).expIdx
  if !s.framed k then
    let t := (s.huntStep k w).whenB (s.huntState k == 1) fun u => u.lostWhole k
    if valid then (t.wrN (0x3450 + k) 8 h.state).wrN (0x3450 + k) 9 h.code else t
  else
    let t := s
    let ok := t.consistent k w
    let pred := (t.hunt k).entropy
    let mismatch := ok && h.code != pred
    let t := if ok && i == 0 && h.page != (t.hunt k).page then
        let u := t.rxPageFlip k
        u.setHunt k { u.hunt k with page := h.page }
      else t
    let t := (t.inc64 (0x3450 + k) 3).whenB (!headerCrcOk w) fun u => u.inc32 (0x3450 + k) 5
    let t := if valid then (t.wrN (0x3450 + k) 8 h.state).wrN (0x3450 + k) 9 h.code else t
    let t := t.huntStep k w
    let t := if mismatch then (t.setHunt k { t.hunt k with entropy := h.code }).inc32 (0x3450 + k) 7 else t
    let framed := t.huntState k == 3 || t.huntState k == 4
    let accepted := framed && !failed && !mismatch
    let t := t.deliver k i pred accepted lf info
    let t := t.countLf k accepted
    if accepted then (t.inc64 (0x3450 + k) 4).overheadIn k i (s.arrivalOf lf.stamp lf.index)
      (match info with | some b => bitsBytes (b.take 16384) | none => lf.overhead) else t

/-- An LF of thread k at the expected position: what a new multiframe brings takes effect first, so that LF 0 of a target is
de-matched at the new entropy, and the decoder's oldest LF of the thread is taken with it (R105, R218, R234, R235). -/
def State.lfIn (s : State) (k : Nat) (lf : LfIn) : State :=
  let t := s.whenB (s.framed k && decide ((s.hunt k).expIdx = 0)) fun u => u.threadMultiframe k
  let got := t.takeLf k
  got.2.2.lfDecoded k lf got.1 got.2.1

/-! ### Timed defects and the adoption of a page -/

/-- LF_LOF_TIMER: out of frame held for 3 ms, or SYNC held for 3 ms (R258). -/
def execLfLofTimer (k : Fin 32) (oof : Bool) (s : State) : Host.Outcome State Fault Refusal :=
  .next (
    let h := s.huntState k.val
    if oof && s.rxActive k.val && (h == 1 || h == 2 || h == 4) then (s.raise (0x3450 + k.val) 2 0).ssf
    else if !oof && h == 3 then (s.clear (0x3450 + k.val) 2 0).ssf
    else s)

/-- LF_OHL_TIMER: no thread has delivered an accepted LF for 1 ms (R258). -/
def execLfOhlTimer (s : State) : Host.Outcome State Fault Refusal :=
  .next (if s.on 16 && s.lineMode then s.raise 0x3440 7 1 else s)

/-- PAGE_ADOPT: the far end's active page is held whole and its digest matches; it comes into force at the next
multiframe (R251). -/
def execPageAdopt (k : Fin 32) (page : List Byte) (s : State) : Host.Outcome State Fault Refusal :=
  .next (if s.rdBit (0x3450 + k.val) 2 2 && pageDigest page == (s.hunt k.val).digest then
      s.setHunt k.val { s.hunt k.val with collected := some (page.take (4 + 4 * beField page 0 2)) }
    else s)

/-- SHED_MASK_TIMEOUT: 100 ms after the shed-muted bit cleared the mask ends (R260). -/
def execShedMaskTimeout (k : Fin 32) (s : State) : Host.Outcome State Fault Refusal :=
  .next (
    let t : State := { s with rx := { s.rx with maskHeld := dropFrom k.val s.rx.maskHeld } }
    if k.val ∈ s.rx.maskHeld then t.ssf else s)

/-- TEN_OVF_CLEAR: 100 ms without overflow (R258). -/
def execTenOvfClear (n : Fin 4096) (s : State) : Host.Outcome State Fault Refusal :=
  .next (if s.rdBit (0x6000 + n.val) 0x0D 4 then s.clear (0x6000 + n.val) 0x0D 4 else s)

/-- A write of 3440:03 or 3440:04: LF_TIM clears when the comparison is turned off, and TEN_SSF follows (R258). -/
def State.traceEffect (s : State) (sub : Nat) (v : DVal) : State :=
  let t := s.wr 0x3440 sub v
  (if t.rdB 0x3440 3 then t else t.clear 0x3440 7 0).ssf

/-! ### The CBR mapper (R254 to R256) -/

/-- The multiframe of CBR tenant n that begins: C client bits of those waiting, at most P; more than 65 536 left over
are discarded with CSF, Replacement and TEN_OVF. `csf` is the client's loss of signal at ingress (R254, R256, R261). -/
def State.mapCbr (s : State) (n : Nat) (arrived : List Bool) (csf : Bool) : State :=
  let tl := s.ten n
  let wait := tl.waiting ++ arrived
  let p := cbrPayload (s.txLit n) (s.sealedTenant n)
  let left := wait.drop p
  let overflow := decide (65536 < left.length)
  let t := s.setTen n { tl with waiting := left.take 65536, sent := wait.take p, sendCsf := csf || overflow }
  if overflow then t.raise (0x6000 + n) 0x0D 4 else t

/-- The JC word tenant n sends in the multiframe in progress (R254). The phase counts waiting bits in 1/256 bit, modulo 256, so
that only the part of a bit that waits shows. -/
def State.jcSent (s : State) (n : Nat) : Nat :=
  jcWord (s.ten n).sent.length (Config.mapperPhase n s.mf % 256) (s.ten n).sendCsf (s.ten n).sendCsf

/-- The next `n` bits of the PN-11 sequence, x¹¹ + x⁹ + 1, from a register (R261, log entry 164). -/
def pn11 : Nat → Nat → List Bool
  | 0, _ => []
  | n + 1, v =>
    let b := xor (bit v 10) (bit v 8)
    b :: pn11 n (v * 2 % 2048 + (if b then 1 else 0))

/-- The payload bits of a CBR container: the client bits at their places and fill bits of 0 (R255). -/
def mapClient (p c : Nat) : Nat → List Bool → List Bool
  | 0, _ => []
  | n + 1, l =>
    if carriesClient p c (p - n) then l.headD false :: mapClient p c n (l.drop 1) else false :: mapClient p c n l

/-- The container payload of CBR tenant n in the multiframe in progress: the JC, then the client's bits, or PN-11 while the
replacement signal is sent (R254, R255, R261). -/
def State.cbrSent (s : State) (n : Nat) : List Bool :=
  let p := cbrPayload (s.txLit n) (s.sealedTenant n)
  let x := s.ten n
  bitsDown (s.jcSent n) 63 0 ++ mapClient p x.sent.length p (if x.sendCsf then pn11 x.sent.length 0x7FF else x.sent)

/-! ### Performance monitoring (R262 to R264) -/

/-- Whether a defect entry takes part in the verdicts. -/
def pmDefectKey (k : Nat) : Bool :=
  let i := k / 256
  let b := k % 256
  (i == 0x2800 && b == 0x0D) || (decide (0x2810 ≤ i ∧ i < 0x2830) && b == 0x0A)
    || (decide (0x3450 ≤ i ∧ i < 0x3470) && b == 2) || (decide (0x6000 ≤ i ∧ i < 0x7000) && b == 0x0D)

/-- The bits of a defect entry that were set at some time of the second. -/
def State.seenBits (s : State) (idx sub : Nat) : Nat := lgetD (key idx sub) 0 s.frm.seen ||| s.rdN idx sub

/-- Whether at least 15 % of the blocks are bad; none is of none. -/
def manyBad (bad all : Nat) : Bool := decide (0 < all) && decide (15 * all ≤ 100 * bad)

/-- The verdict of thread k on the second that ends (R262, R264). -/
def State.threadVerdict (s : State) (k : Nat) : Verdict :=
  let h := s.hunt k
  let d := s.seenBits (0x2810 + k) 0x0A
  let f := s.seenBits (0x3450 + k) 2
  let ses := bit d 0 || bit f 0 || bit f 1 || manyBad h.secBad h.secLf
  { level := key (0x3490 + k) 0, es := ses || decide (h.secBad ≠ 0) || decide (d ≠ 0) || decide (f ≠ 0), ses := ses
    excluded := h.secExcluded || s.masked k || s.rxStatus k != 1 || decide (s.cfg.threads ≤ k), bbe := h.secBad
    unavailable := false }

/-- The verdict of the carrier (R262, R264). -/
def State.carrierVerdict (s : State) : Verdict :=
  let d := s.seenBits 0x2800 0x0D
  let ses := decide (d % 8 ≠ 0) || bit d 4 || manyBad s.frm.carBad s.frm.carLf
  let any := s.threads.any fun k => s.rxStatus k == 1 && (s.threadVerdict k).es
  { level := key 0x3480 0, es := ses || any || decide (d % 32 ≠ 0), ses := ses
    excluded := s.frm.carExcluded || !(s.inMode .service || s.inMode .shed), bbe := s.frm.carBad, unavailable := false }

/-- The verdict of tenant n (R262, R264). -/
def State.tenantVerdict (s : State) (n : Nat) : Verdict :=
  let tl := s.ten n
  let d := s.seenBits (0x6000 + n) 0x0D
  let ses := decide (d % 16 ≠ 0) || manyBad tl.secBad tl.secMf
  { level := key (0x6000 + n) 0, es := ses || decide (tl.secBad ≠ 0), ses := ses
    excluded := !tl.secMapped && decide (s.rxTotal n = 0), bbe := tl.secBad, unavailable := false }

/-- A level's run of seconds before any: available (R269). -/
def PmRun.start : PmRun := { ses := 0, good := 0, available := true }

/-- The last ten verdicts of a level that are not excluded, newest first, marked unavailable or available (R263). -/
def markLast (level : Nat) (v : Bool) : Nat → List (List Verdict) → List (List Verdict)
  | _, [] => []
  | left, l :: r =>
    let hit := l.any fun x => x.level == level && !x.excluded
    if left = 0 then l :: r
    else (l.map fun x => if x.level == level && !x.excluded then { x with unavailable := v } else x)
      :: markLast level v (if hit then left - 1 else left) r

/-- One verdict joins the run of its level: ten successive SES begin unavailability and ten successive others end it,
those ten included (R263). The queue's newest second already holds the verdict. -/
def State.pmRun (s : State) (x : Verdict) : State :=
  if x.excluded then s
  else
    let r := lgetD x.level PmRun.start s.frm.runs
    let r' : PmRun := if x.ses then { r with ses := r.ses + 1, good := 0 } else { r with ses := 0, good := r.good + 1 }
    let turn := if r.available then decide (10 ≤ r'.ses) else decide (10 ≤ r'.good)
    let q := if turn then markLast x.level r.available 10 s.frm.verdicts
      else markLast x.level (!r.available) 1 s.frm.verdicts
    { s with frm := { s.frm with
      verdicts := q, runs := lput x.level { r' with available := r.available != turn } s.frm.runs } }

/-- The second that ends: a verdict at every level, and the counts begun afresh (R262). -/
def State.pmSecond (s : State) : State :=
  if !s.on 16 then s
  else
    let vs := (List.range 32).map s.threadVerdict ++ [s.carrierVerdict] ++ (List.range 4096).map s.tenantVerdict
    let t : State := { s with frm := { s.frm with verdicts := vs :: s.frm.verdicts } }
    let t := t.each vs State.pmRun
    let seen := (t.dict.filter fun p => pmDefectKey p.1).map fun p => (p.1, p.2.int.toNat)
    let t := t.each (List.range 32) fun u k => u.setHunt k { u.hunt k with
      secLf := 0, secBad := 0, secExcluded := u.masked k || u.rxStatus k != 1 || decide (u.cfg.threads ≤ k) }
    { t with frm := { t.frm with
      seen := seen, carLf := 0, carBad := 0, carExcluded := !(t.inMode .service || t.inMode .shed)
      tenants := t.frm.tenants.map fun p => (p.1, { p.2 with
        secMf := 0, secBad := 0, secMapped := decide (t.rxTotal p.1 ≠ 0) }) } }

/-- A verdict added to its record's counters (R263, R269, R270). -/
def State.pmCommit (s : State) (x : Verdict) : State :=
  let i := x.level / 256
  if x.excluded then s.inc32 i 7
  else
    let t := (s.inc32 i 6).wrB i 5 (!x.unavailable)
    if x.unavailable then t.inc32 i 3
    else
      let t := t.whenB x.es fun u => u.inc32 i 1
      if x.ses then t.inc32 i 2 else t.bump i 4 64 x.bbe

/-- PM_VERDICT_COMMIT: the verdict of the second that ended 10 s ago is added (R263). -/
def execPmVerdictCommit (s : State) : Host.Outcome State Fault Refusal :=
  .next (match s.frm.verdicts.reverse with
    | old :: rest =>
      if 10 ≤ s.frm.verdicts.length then
        let t : State := { s with frm := { s.frm with verdicts := rest.reverse } }
        t.each old State.pmCommit
      else s
    | [] => s)

end Sys2Proof.Machine
end

