-- ==== Sys2Proof/Machine/Tenants.lean ====
section
/-! DEFINITION. Tenants, queues and grooming (spec/09_tenants.md): client ports, classification, the queue blocks, the cell
pool, shaping and scheduling, flow control, placement checks and the shed sets. -/

namespace Sys2Proof.Machine

/-! ### Tenants, ports and placement (R276 to R280, R302) -/

/-- Whether tenant n is a configured packet tenant. -/
def State.packetTenant (s : State) (n : Nat) : Bool := s.tenOn n && !s.tenCbr n
/-- The client port a tenant names. -/
def State.portOf (s : State) (n : Nat) : Nat := s.rdN (0x4000 + n) 4
/-- The mode of a client port: 0 unused, 1 Ethernet, 2 CBR. -/
def State.portMode (s : State) (p : Nat) : Nat := s.rdN (0x7010 + p) 1

/-- The tenants with something written in their record, ascending. -/
def State.knownTenants (s : State) : List Nat :=
  uniq ((s.dict.filter fun p => decide (key 0x4000 0 ≤ p.1) && decide (p.1 < key 0x5000 0)).map fun p => p.1 / 256 - 0x4000)

/-! ### The group and the homes of its tenants (R424, R427) -/

/-- The role the straps give: 0 standalone, 1 master, 2 member, 3 strap conflict (R424). -/
def State.groupRole (s : State) : Nat :=
  let p := field s.pow.straps 0 2
  if s.is1608 then 0
  else if bit s.pow.straps 2 then (if p = 0 then 1 else 3) else if p = 0 then 0 else 2

/-- Whether the device is in a group. -/
def State.grouped (s : State) : Bool := s.groupRole == 1 || s.groupRole == 2

/-- The device's position in its group, 0 when standalone (R311, R424). -/
def State.ownPosition (s : State) : Nat := if s.groupRole = 2 then field s.pow.straps 0 2 else 0

/-- The home of tenant n: byte n of 8C00:0C, 0xFF where it is local (R427). -/
def State.homeOf (s : State) (n : Nat) : Nat := ((s.rdS 0x8C00 0x0C).getD n 0xFF).toNat

/-- Whether this member serves tenant n: its home, or a local tenant (R427). -/
def State.homeHere (s : State) (n : Nat) : Bool := !s.grouped || s.homeOf n == 0xFF || s.homeOf n == s.ownPosition

/-- Whether a tenant of the group has its home at this member (R427). -/
def State.groupHome (s : State) (n : Nat) : Bool := s.grouped && s.homeOf n == s.ownPosition

/-- The configured tenants, ascending. -/
def State.configured (s : State) : List Nat := s.knownTenants.filter s.tenOn

/-- The configured packet tenants that name port p (R295). -/
def State.portTenants (s : State) (p : Nat) : List Nat := s.configured.filter fun n => !s.tenCbr n && s.portOf n == p && s.homeHere n

/-- The configured position count of tenant n on thread k: entry 4000+n:0A (R278). -/
def State.cfgPos (s : State) (n k : Nat) : Nat := beField (padTo 64 (s.rdS (0x4000 + n) 0x0A)) (2 * k) 2
/-- Configured positions of tenant n. -/
def State.cfgTotal (s : State) (n : Nat) : Nat := ((List.range 32).map (s.cfgPos n)).sum

/-- The placement check of 7000:0A and the tenant of 7000:0B, on the configuration as written (R302, R308). -/
def State.placementCheck (s : State) : Nat × Nat :=
  let c := s.written
  let ns := s.knownTenants.filter fun n => decide (s.cfgTotal n ≠ 0)
  let full := (List.range c.threads).find? fun k =>
    decide (16 * c.stitches k < (ns.map fun n => s.cfgPos n k).sum)
  let slow := fun (n : Nat) => s.tenCbr n && !c.cbrFits (s.rdN (0x4000 + n) 9)
    (cbrPayload (s.cfgTotal n) (s.tenSealed n))
  let off := fun (n : Nat) => (List.range 32).any fun k =>
    decide (s.cfgPos n k ≠ 0) && (decide (c.threads ≤ k) || c.states.getD k 1 == 0)
  if c.profile ≠ 0 then (0, 4096)
  else
    match full with
    | some k => (1, (ns.find? fun n => decide (s.cfgPos n k ≠ 0)).getD 4096)
    | none =>
      match ns.find? slow, ns.find? off, ns.find? fun n => !s.tenOn n with
      | some n, _, _ => (2, n)
      | none, some n, _ => (3, n)
      | none, none, some n => (4, n)
      | none, none, none => (0, 4096)

/-- Copy the configured placement of every tenant into force, on entry to DISCOVER from QUIET or TEST (R279). -/
def State.placeTenants (s : State) : State :=
  s.each s.knownTenants fun t n => t.each (List.range 32) fun u k => u.wrN (0x4000 + n) (0x20 + k) (s.cfgPos n k)

/-- Container rate in b/s of `c` positions, rounded down (R279). -/
def Carrier.containerRate (g : Carrier) (c : Nat) (sealed : Bool) : Nat :=
  containerBits c sealed * (g.rate * g.bits * 1000000) / (16 * g.threads * g.lfBits)

/-! ### Queue blocks (R287) -/

/-- A free queue with its default settings. -/
def Queue.free : Queue :=
  { owner := 4096, egress := false, level := 0, weight := 1, reserve := 0, limit := 0, threshold := 4, frames := [],
    admitted := 0, thrDrops := 0, emptyDrops := 0, dequeued := 0, peak := 0, deficit := 0 }

/-- A queue. -/
def State.queue (s : State) (q : Nat) : Queue := lgetD q Queue.free s.grm.queues
/-- A queue changed. -/
def State.setQueue (s : State) (q : Nat) (x : Queue) : State :=
  { s with grm := { s.grm with queues := if x = Queue.free then ldel q s.grm.queues else lput q x s.grm.queues } }

/-! ### Flow control sent (R296) -/

/-- Cells held in ingress queues by frames from port p, of a class or (8) of every class. -/
def State.portCells (s : State) (p c : Nat) : Nat :=
  (s.grm.queues.map fun q =>
    if q.2.egress then 0
    else ((q.2.frames.filter fun f => f.port == p && (c == 8 || f.cls == c)).map fun f => f.cells).sum).sum

/-- The flow record of a port. -/
def State.flow (s : State) (p : Nat) : Flow :=
  lgetD p { xoff := [], stopped := [], tenant := 0, deficits := [], sending := none } s.grm.flows
/-- The flow record of a port changed. -/
def State.setFlow (s : State) (p : Nat) (x : Flow) : State :=
  { s with grm := { s.grm with flows := lput p x s.grm.flows } }

/-- The classes (8 = the whole port) that the flow control of Ethernet port p watches (R271, R296). -/
def State.watched (s : State) (p : Nat) : List Nat :=
  if s.portMode p != 1 then []
  else match s.rdN (0x7010 + p) 7 with
    | 1 => [8]
    | 2 => bitsOf 8 (s.rdN (0x7010 + p) 8)
    | _ => []

/-- PAUSE_SEND, wherever the cells held or the thresholds have changed: a class whose cells exceed XOFF is stopped, and one whose
cells fall to XON is let go; one PFC frame carries every class that changed. A class that is watched no more is neither (R296). -/
def State.pauseSend (s : State) (p : Nat) : State :=
  let i := 0x7010 + p
  let x := s.flow p
  let was := x.xoff.filter fun c => (s.watched p).contains c
  let stop := (s.watched p).filter fun c => !was.contains c && decide (s.rdN i 9 < s.portCells p c)
  let go := was.filter fun c => decide (s.portCells p c ≤ s.rdN i 0x0A)
  if stop = [] ∧ go = [] ∧ was = x.xoff then s
  else
    let t := s.setFlow p { x with xoff := (was.filter fun c => !go.contains c) ++ stop }
    if stop = [] ∧ go = [] then t
    else (t.inc64 i 0x12).emit (if 8 ∈ stop then .pause p 0xFFFF else if 8 ∈ go then .pause p 0
      else .pfc p ((stop.map fun c => (c, 0xFFFF)) ++ go.map fun c => (c, 0)))

/-- Every port's flow control judged again (R296). -/
def State.pauseAll (s : State) : State := s.each (List.range 16) State.pauseSend

/-- Shapers that draw on a frame of queue q no longer stand in its way: the frame in progress goes on being sent (R293, R307). -/
def State.cutShapers (s : State) (q : Nat) : State :=
  { s with grm := { s.grm with shapers := s.grm.shapers.map fun x => match x.2.inProgress with
    | some (some j, l) => if j = q then (x.1, { x.2 with inProgress := some (none, l) }) else x
    | _ => x } }

/-- The free blocks of the buddy system within the block of 2^j queues at `b`, ascending (R287). -/
def freeBlocks (alloc : List (Nat × Nat)) : Nat → Nat → List (Nat × Nat)
  | 0, b => if alloc.any fun a => decide (a.1 ≤ b ∧ b < a.1 + 2 ^ a.2) then [] else [(b, 0)]
  | j + 1, b =>
    if alloc.all fun a => decide (b + 2 ^ (j + 1) ≤ a.1 ∨ a.1 + 2 ^ a.2 ≤ b) then [(b, j + 1)]
    else if alloc.any fun a => decide (a.1 ≤ b ∧ b + 2 ^ (j + 1) ≤ a.1 + 2 ^ a.2) then []
    else freeBlocks alloc j b ++ freeBlocks alloc j (b + 2 ^ j)

/-- The block an allocation of 2^j queues takes: the lowest of the smallest free size that holds it (R287). -/
def State.findBlock (s : State) (j : Nat) : Option Nat :=
  let free := freeBlocks s.grm.blocks 18 0
  (List.range 19).findSome? fun i =>
    if i < j then none else (free.find? fun b => b.2 == i).map fun b => b.1

/-- Queues not allocated (7000:07). -/
def State.queuesFree (s : State) : Nat := 262144 - (s.grm.blocks.map fun b => 2 ^ b.2).sum
/-- The largest block an allocation could take, up to 64 (7000:08). -/
def State.largestFree (s : State) : Nat :=
  min 64 (((freeBlocks s.grm.blocks 18 0).map fun b => 2 ^ b.2).foldl max 0)

/-- The block size exponent of a tenant. -/
def State.blockSize (s : State) (n : Nat) : Nat := s.rdN (0x4000 + n) 5
/-- The first queue of a tenant's block. -/
def State.queueBase (s : State) (n : Nat) : Nat := s.rdN (0x4000 + n) 6
/-- The offset of class c in the tenant's class map. -/
def State.classOffset (s : State) (n c : Nat) : Nat := ((s.rdS (0x4000 + n) 7).getD c 0).toNat
/-- The piece queue of a tenant with its home elsewhere: of frames for this member's carrier, or (egress) of frames from it
that wait to cross to the home (R435). Piece queues are numbered above the 262 144 hardware queues. -/
def pieceQueue (n : Nat) (egress : Bool) : Nat := 262144 + n + (if egress then 4096 else 0)
/-- The queue of a class of a tenant in one direction (R283). -/
def State.queueFor (s : State) (n c : Nat) (egress : Bool) : Nat :=
  if !s.homeHere n then pieceQueue n egress
  else s.queueBase n + (if egress then 2 ^ (s.blockSize n - 1) else 0) + s.classOffset n c
/-- The queues of a tenant in one direction. -/
def State.tenantQueues (s : State) (n : Nat) (egress : Bool) : List Nat :=
  if !s.homeHere n then (if s.tenOn n && !s.tenCbr n then [pieceQueue n egress] else [])
  else if s.blockSize n = 0 ∨ !s.tenOn n ∨ s.queueBase n = 0xFFFFFFFF then []
  else
    let h := 2 ^ (s.blockSize n - 1)
    List.range' (s.queueBase n + (if egress then h else 0)) h

/-- Whether a class map suits a block size (R278). -/
def classMapOk (j : Nat) (b : List Byte) : Bool := b.all fun x => decide (x.toNat < max 1 (2 ^ (j - 1)))

/-! ### The host lane check (R394 to R396) -/

/-- Lanes of an Ethernet port for a rate and a lane rate; none where R394 does not allow the pair. -/
def ethernetWidth (rate lane : Nat) : Option Nat :=
  match rate, lane with
  | 1, 3 => some 1 | 1, 2 => some 2
  | 2, 4 => some 1 | 2, 3 => some 2 | 2, 2 => some 4
  | 3, 4 => some 2 | 3, 3 => some 4 | 3, 2 => some 8
  | 4, 4 => some 4 | 4, 3 => some 8
  | 5, 4 => some 8 | 5, 3 => some 16
  | _, _ => none

/-- The first lane and the width of port p. -/
def State.laneSpan (s : State) (p : Nat) : Nat × Nat := (s.rdN (0x9010 + p) 1, s.rdN (0x9010 + p) 2)

/-- Whether host lane l belongs to port p. -/
def State.laneOf (s : State) (p l : Nat) : Bool :=
  s.portMode p != 0 && decide ((s.laneSpan p).1 ≤ l) && decide (l < (s.laneSpan p).1 + (s.laneSpan p).2)

/-- The port that uses host lane l. -/
def State.lanePort (s : State) (l : Nat) : Option Nat := (List.range 16).find? fun p => s.laneOf p l

/-- The configured CBR tenant that names port p. -/
def State.cbrTenant (s : State) (p : Nat) : Option Nat := s.configured.find? fun n => s.tenCbr n && s.portOf n == p

/-- Whether a CBR lane rate lies in the range of its lane rate code, in kb/s (R396). -/
def cbrRateOk (code nominal width : Nat) : Bool :=
  let r := match code with
    | 1 => (24000000000, 28100000000) | 2 => (48000000000, 56300000000)
    | 3 => (96000000000, 112600000000) | _ => (192000000000, 225200000000)
  decide (r.1 * width ≤ nominal) && decide (nominal ≤ r.2 * width)

/-- The lowest code that port p fails, or 0 (R395, R396). -/
def State.portCheck (s : State) (p : Nat) : Nat :=
  let a := s.laneSpan p
  let code := s.rdN (0x9010 + p) 3
  if s.portMode p = 0 then 0
  else if (if s.portMode p = 1 then ethernetWidth (s.rdN (0x7010 + p) 2) code != some a.2 else a.2 == 0) then 1
  else if a.1 % a.2 ≠ 0 then 2
  else if (List.range p).any fun q => s.portMode q != 0 && (List.range 16).any fun l => s.laneOf p l && s.laneOf q l then 3
  else match s.cbrTenant p with
    | some n => if s.portMode p == 2 && !cbrRateOk code (s.rdN (0x4000 + n) 9) a.2 then 4 else 0
    | none => 0

/-- 9000:01 and 9000:02: the lowest code that fails, and the lowest port that fails with it (R395). -/
def State.laneCheck (s : State) : Nat × Nat :=
  let ps := (List.range 16).map fun p => (s.portCheck p, p)
  match ((List.range' 1 4).findSome? fun c => ps.find? fun x => x.1 == c) with
  | some x => x
  | none => (0, 255)

/-- A write to 4000+n:01, :04 or :09 in a line mode that would make 9000:01 non-zero (R396). -/
def State.laneGuard (t : State) : List Status := need (!t.lineMode || t.laneCheck.1 == 0) .conflict

/-- What R277 asks of a configured tenant of the given container type, block size and port; `n` itself is left out of the
search for another CBR tenant at the port. -/
def State.tenantFails (s : State) (n : Nat) (cbr : Bool) (p : Nat) : List Status :=
  need (s.portMode p == (if cbr then 2 else 1)) .conflict
    ++ need (!cbr || !(s.configured.any fun m => m != n && s.tenCbr m && s.portOf m == p)) .conflict

/-! ### Lanes in use and their power (R395, R396, R409) -/

/-- The record of lane l: host lanes 0 to 15, then bobbin lanes. -/
def laneIdx (l : Nat) : Nat := if l < 16 then 0x9020 + l else 0x9040 + (l - 16)

/-- The power domain of lane l (R11, R17). -/
def laneDomain (l : Nat) : Nat := if l < 8 then 18 else if l < 16 then 19 else if l < 24 then 20 else 21

/-- Whether a port carries traffic on its lanes: an Ethernet port, or a CBR port that a configured tenant names
(R396). -/
def State.portLive (s : State) (p : Nat) : Bool :=
  s.portMode p == 1 || (s.portMode p == 2 && (s.cbrTenant p).isSome)

/-- Whether a bobbin lane is in use: its port is powered in a group and its transmit mask holds the lane. -/
def State.bobUsed (s : State) (b : Nat) : Bool := s.grouped && s.on (20 + b / 8) && s.rdBit (0x9060 + b / 8) 1 (b % 8)

/-- Whether a lane is in use (R409). -/
def State.laneUsed (s : State) (l : Nat) : Bool := if l < 16 then (s.lanePort l).isSome else s.bobUsed (l - 16)

/-- Whether a test claims a lane (R409). -/
def State.laneTested (s : State) (l : Nat) : Bool := s.rdN (laneIdx l) 0x0A != 0 || s.rdN (laneIdx l) 0x0B != 0

/-- 9000:03: the lanes powered (R395, R396, R409, R412). -/
def State.lanesPowered (s : State) : Nat :=
  maskOf 32 fun l =>
    s.on (laneDomain l) && (s.laneTested l ||
      (if l < 16 then (match s.lanePort l with | some p => s.portLive p | none => false)
       else s.grouped))

/-- The state of lane l. -/
def State.laneState (s : State) (l : Nat) : Nat := s.rdN (laneIdx l) 1

/-- Port p has lost its signal: a CBR client is in loss of signal, and an Ethernet port has lost alignment with it (R275, R397). -/
def State.signalLost (s : State) (p : Nat) : State :=
  (s.raise (0x7010 + p) 0x14 0).whenB (s.portMode p == 1) fun u => u.raise (0x7010 + p) 0x14 1

/-- The used host lanes that are powered wait for their signal, and until it is there their ports are without it; a lane no longer
powered is off (R275, R396, R397, R398, R399). -/
def State.hostLanesStart (s : State) : State :=
  s.each (List.range 16) fun t l =>
    if bit t.lanesPowered l then
      (if t.laneState l = 0 then
        let u := t.wrN (laneIdx l) 1 1
        match u.lanePort l with | some p => u.signalLost p | none => u
      else t)
    else if t.laneState l = 0 then t else t.wrN (laneIdx l) 1 0

/-- Tenant n configured, with its queue block where this member serves it (R276, R427). -/
def State.allocate (s : State) (n : Nat) : State :=
  let i := 0x4000 + n
  let j := s.blockSize n
  let t := s.wrN i 1 1
  if j = 0 ∨ !s.homeHere n then t
  else
    let b := (s.findBlock j).getD 0
    let t : State := { t with grm := { t.grm with blocks := lput b j t.grm.blocks } }
    (t.wrN i 6 b).each (List.range (2 ^ j)) fun u q =>
      u.setQueue (b + q) { Queue.free with owner := n, egress := decide (2 ^ (j - 1) ≤ q) }

/-- Tenant n freed: its queued frames are discarded and counted, and its block returns (R276). -/
def State.release (s : State) (n : Nat) : State :=
  let i := 0x4000 + n
  let held := fun (e : Bool) => ((s.tenantQueues n e).map fun q => (s.queue q).frames.length).sum
  let t := (s.bump i 0x10 64 (held false)).bump i 0x12 64 (held true)
  let qs := s.tenantQueues n false ++ s.tenantQueues n true
  let t := (t.wrN i 1 0).wrN i 6 0xFFFFFFFF
  State.pauseAll { t with grm := { t.grm with
    blocks := if qs = [] then t.grm.blocks else ldel (s.queueBase n) t.grm.blocks
    queues := t.grm.queues.filter fun x => !qs.contains x.1
    shapers := ldel n t.grm.shapers } }

/-- Whether tenant n holds any transmit position in the entries of its placement, in force or configured, whatever the profile
(R276). -/
def State.holdsPositions (s : State) (n : Nat) : Bool :=
  decide (s.cfgTotal n ≠ 0) || (List.range 32).any fun k => s.rdN (0x4000 + n) (0x20 + k) != 0

/-- The rule of a write to 4000+n:01 (R276, R277, R396, R427). -/
def State.tenantStateEffect (s : State) (n v : Nat) : Effect :=
  let j := s.blockSize n
  let cbr := s.tenCbr n
  if v = 1 then
    if s.tenOn n then .ok s
    else
      { fails := (if s.homeHere n then
            need (cbr == decide (j = 0)) .conflict ++ s.tenantFails n cbr (s.portOf n)
              ++ need (classMapOk j (s.rdS (0x4000 + n) 7)) .conflict
              ++ need (decide (j = 0) || (s.findBlock j).isSome) .exhausted
          else []) ++ (s.allocate n).laneGuard
        state := (s.allocate n).hostLanesStart }
  else
    if !s.tenOn n then .ok s
    else
      { fails := need (!s.holdsPositions n) .conflict ++ (s.release n).laneGuard
        state := (s.release n).hostLanesStart }

/-- The rules of writes to the other entries of a tenant record (R276 to R278). -/
def State.tenantEffect (s : State) (n sub : Nat) (v : DVal) : Effect :=
  let i := 0x4000 + n
  let free := need (!s.tenOn n) .conflict
  match sub with
  | 1 => s.tenantStateEffect n v.int.toNat
  | 2 => { fails := free, state := s.wr i 2 v }
  | 3 => { fails := free ++ need (!(s.noSeal && decide (v.int = 1))) .outOfRange, state := s.wr i 3 v }
  | 4 =>
    { fails := (if s.tenOn n && s.homeHere n then s.tenantFails n (s.tenCbr n) v.int.toNat else [])
        ++ (s.wr i 4 v).laneGuard
      state := (s.wr i 4 v).hostLanesStart }
  | 9 => { fails := (s.wr i 9 v).laneGuard, state := s.wr i 9 v }
  | 5 => { fails := free, state := s.wr i 5 v }
  | 7 => { fails := need (classMapOk (s.blockSize n) v.str) .outOfRange, state := s.wr i 7 v }
  | _ => .ok (s.wr i sub v)

/-! ### Cells (R289 to R292, R297) -/

/-- Cells of a frame of L bytes (R289). -/
def cellsOf (len : Nat) : Nat := ceilDiv len 248

/-- Cells a queue holds, all of them (7801:08). -/
def Queue.depth (q : Queue) : Nat := (q.frames.map fun f => f.cells).sum
/-- Cells a queue holds from its reserve and the shared part: d of R290. -/
def Queue.drawn (q : Queue) : Nat := ((q.frames.filter fun f => !f.headroom).map fun f => f.cells).sum

/-- Cells of retired banks: 1 024 in each of the packet buffer's 256 banks (R479, R491). -/
def State.retiredCells (s : State) : Nat := 1024 * ((s.rdS 0x9831 1).map fun b => popcount 8 b.toNat).sum
/-- Shared cells in use by the queues. -/
def State.sharedUsed (s : State) : Nat := (s.grm.queues.map fun q => q.2.drawn - q.2.reserve).sum
/-- Shared cells free: f of R290 (7000:01). -/
def State.sharedFree (s : State) : Nat := s.sharedPart - s.retiredCells - s.holdCells - s.sharedUsed
/-- Cells in use, retired ones included (7000:02, R491). -/
def State.cellsInUse (s : State) : Nat :=
  (s.grm.queues.map fun q => q.2.depth).sum + s.holdCells + s.retiredCells
/-- Headroom cells in use of port p (R297). -/
def State.headroomUsed (s : State) (p : Nat) : Nat :=
  (s.grm.queues.map fun q => ((q.2.frames.filter fun f => f.headroom && f.port == p).map fun f => f.cells).sum).sum

/-- The verdict on a request (R290). -/
inductive Grant where
  | grant | threshold | poolEmpty
  deriving DecidableEq, Repr

/-- R290: a queue of reserve `r`, limit and threshold code that holds `d` cells asks for `k` with `f` shared cells
free. Where none is left because requests ranked before it in its cycle took the last, it is pool-empty (R291, log entry 189). -/
def grantOf (d k r limit code f : Nat) (taken : Bool) : Grant :=
  if d + k ≤ r then .grant
  else if taken ∧ f = 0 then .poolEmpty
  else if limit ≠ 0 ∧ limit < d + k then .threshold
  else if 2 ^ code * f < 16 * (d + k - r) then .threshold
  else if f < d + k - max d r then .poolEmpty
  else .grant

/-- Whether ingress from a client port and class is flow-controlled; what a bobbin port brings is not (R296, R297). -/
def State.flowControlled (s : State) (p c : Nat) : Bool :=
  decide (p < 16) && (s.rdN (0x7010 + p) 7 == 1 || (s.rdN (0x7010 + p) 7 == 2 && s.rdBit (0x7010 + p) 8 c))

/-- The rule of writes that change the division of the pool: the shared part keeps 16 384 cells (R290). -/
def State.poolEffect (t : State) : Effect := { fails := need (decide (t.reserves + t.headroom + 16384 ≤ 262144)) .exhausted, state := t }

/-- A frame judged at a queue: admitted, or dropped with its counts. `taken` says that its cycle began with shared cells free (R290,
R291, R297, R305). -/
def State.judgeFrame (s : State) (n c p : Nat) (egress taken : Bool) (f : QFrame) : State :=
  let q := s.queueFor n c egress
  let x := s.queue q
  let i := 0x4000 + n
  let put := fun (f : QFrame) =>
    let y := { x with frames := x.frames ++ [f], admitted := wrapInc 64 x.admitted }
    (s.setQueue q { y with peak := max y.peak y.depth }).inc64 i (if egress then 0x11 else 0x0F)
  let beyond := !egress && s.flowControlled p c && decide (s.headroomUsed p + f.cells ≤ s.rdN (0x7010 + p) 0x0B)
  match grantOf x.drawn f.cells x.reserve x.limit x.threshold s.sharedFree taken with
  | .grant => put f
  | .threshold =>
    if beyond then put { f with headroom := true }
    else (s.setQueue q { x with thrDrops := wrapInc 64 x.thrDrops }).inc64 i (if egress then 0x12 else 0x10)
  | .poolEmpty =>
    if beyond then put { f with headroom := true }
    else ((s.setQueue q { x with emptyDrops := wrapInc 64 x.emptyDrops }).inc64 i (if egress then 0x12 else 0x10)).inc64
      0x7000 6

/-! ### Classification (R272, R281 to R286) -/

/-- A frame from its bytes, destination address through FCS: the first tag after the source address with TPID 0x8100 or
0x88A8, and the top MPLS label where the EtherType after it is 0x8847. EtherType 0x8808 marks a PAUSE or PFC frame, and the FCS is
the CRC-32 of IEEE 802.3 (R272, R281, log entry 166). -/
def Frame.ofBytes (id : Nat) (b : List Byte) : Frame :=
  let tagged := beField b 12 2 == 0x8100 || beField b 12 2 == 0x88A8
  let at_ := if tagged then 16 else 12
  let tci := beField b 14 2
  { id := id, len := b.length, bytes := b
    fcsOk := beBytes 4 (crc32 (b.take (b.length - 4))) == (b.drop (b.length - 4)).reverse
    vlan := if tagged then some (tci % 4096, tci / 8192) else none
    mpls := if beField b at_ 2 = 0x8847 then some (beField b (at_ + 2) 4 / 4096, beField b (at_ + 2) 4 / 512 % 8) else none
    control := beField b at_ 2 == 0x8808 }

/-- A frame with the tag of a protection group or of a spanning tenant, six bytes longer (R435, R437). -/
def taggedFrame (f : Frame) (seq : Nat) : Frame := { f with bytes := tagFrame seq f.bytes, len := f.len + 6 }

/-- The packed key of an exact-match entry. -/
def exactKey (p kind v : Nat) : Nat := (p * 4 + kind) * 2 ^ 20 + v

/-- The VLAN key of a frame: a tag with VLAN ID 0 gives none (R281). -/
def vlanKey (f : Frame) : Option Nat := match f.vlan with | some (v, _) => if v = 0 then none else some v | none => none
/-- The MPLS key of a frame. -/
def mplsKey (f : Frame) : Option Nat := f.mpls.map fun x => x.1

/-- Whether wildcard rule r matches a frame from port p (R286). -/
def State.ruleMatches (s : State) (r p : Nat) (f : Frame) : Bool :=
  let i := 0x7200 + r
  let test := fun (k : Option Nat) => match k with | some v => v &&& s.rdN i 5 == s.rdN i 4 &&& s.rdN i 5 | none => false
  s.rdB i 1 && s.rdBit i 2 p &&
    match s.rdN i 3 with
    | 0 => true
    | 1 => test (vlanKey f)
    | 2 => test (mplsKey f)
    | _ => f.vlan.isNone

/-- The rules written to, ascending; a rule never written is not enabled. -/
def State.rules (s : State) : List Nat :=
  uniq ((s.dict.filter fun p => decide (key 0x7200 0 ≤ p.1) && decide (p.1 < key 0x7600 0)).map fun p => p.1 / 256 - 0x7200)

/-- The tenant of a frame and the wildcard rule that gave it, by the lookup order (R282). -/
def State.classify (s : State) (p : Nat) (f : Frame) : Nat × Option Nat :=
  let exact := match s.rdN (0x7010 + p) 3 with
    | 1 => (vlanKey f).bind fun v => lget (exactKey p 1 v) s.grm.exact
    | 2 => (mplsKey f).bind fun v => lget (exactKey p 2 v) s.grm.exact
    | _ => none
  match exact with
  | some n => (n, none)
  | none =>
    match s.rules.find? fun r => s.ruleMatches r p f with
    | some r => (s.rdN (0x7200 + r) 6, some r)
    | none => (s.rdN (0x7010 + p) 4, none)

/-- The class of a frame from port p (R283). -/
def State.classOf (s : State) (p : Nat) (f : Frame) (rule : Option Nat) : Nat :=
  let given := match rule with | some r => s.rdN (0x7200 + r) 7 | none => 8
  if given < 8 then given
  else
    match f.mpls, f.vlan with
    | some (_, tc), v =>
      if s.rdN (0x7010 + p) 3 = 2 then tc % 8
      else match v with | some (_, pcp) => pcp % 8 | none => s.rdN (0x7010 + p) 5
    | none, some (_, pcp) => pcp % 8
    | none, none => s.rdN (0x7010 + p) 5

/-- The enabled protection groups, ascending. -/
def State.protGroups (s : State) : List Nat :=
  ((s.dict.filter fun p => decide (key 0x8D00 1 ≤ p.1) && decide (p.1 < key 0x8E00 0) && decide (p.1 % 256 = 1)
    && decide (p.2.int = 1)).map fun p => p.1 / 256 - 0x8D00)

/-- The enabled protection group that a tenant belongs to, and whether it is the protect tenant (R436). -/
def State.protOf (s : State) (n : Nat) : Option (Nat × Bool) :=
  s.protGroups.findSome? fun j =>
    if s.rdN (0x8D00 + j) 2 = n then some (j, false)
    else if s.rdN (0x8D00 + j) 3 = n then some (j, true)
    else none

/-- A protection group of which nothing has happened. -/
def Prot.start : Prot :=
  { command := 0, sfWorking := false, sfProtect := false, rawWorking := false, rawProtect := false, wtr := false,
    farReq := 0, lastNumber := none, txSeqNo := 0, delivered := none, carrier := 255, carrierW := 255, nibble := 0, sent := none }
/-- A protection group. -/
def State.prot (s : State) (j : Nat) : Prot := lgetD j Prot.start s.bob.prots
/-- A protection group changed. -/
def State.setProt (s : State) (j : Nat) (x : Prot) : State :=
  { s with bob := { s.bob with prots := lput j x s.bob.prots } }

/-- A classified frame waits for its cells; the frame of a protected tenant goes to both tenants with the group's next
sequence, six bytes longer, and so is tagged each frame of a tenant that spans members (R435, R437). Whether a tenant
with its home here has positions on other members is not told to the home by the spec: a free value (log entry 47). -/
def State.toInbox (s : State) (p n c : Nat) (f : Frame) : State :=
  match s.protOf n with
  | some (j, _) =>
    let x := s.prot j
    let q := some x.txSeqNo
    let g := taggedFrame f x.txSeqNo
    let t := s.setProt j { x with txSeqNo := (x.txSeqNo + 1) % 2 ^ 32 }
    { t with grm := { t.grm with inbox := t.grm.inbox ++
      [{ port := p, frame := g, tenant := s.rdN (0x8D00 + j) 2, cls := c, seqNo := q },
       { port := p, frame := g, tenant := s.rdN (0x8D00 + j) 3, cls := c, seqNo := q }] } }
  | none =>
    if s.groupHome n && s.freeBool then
      let q := lgetD n 0 s.bob.spanTx
      let t := s.drawn
      { t with
        bob := { t.bob with spanTx := lput n ((q + 1) % 2 ^ 32) t.bob.spanTx }
        grm := { t.grm with inbox := t.grm.inbox ++
          [{ port := p, frame := taggedFrame f q, tenant := n, cls := c, seqNo := some q }] } }
    else
      let t := if s.groupHome n then s.drawn else s
      { t with grm := { t.grm with inbox := t.grm.inbox ++ [{ port := p, frame := f, tenant := n, cls := c, seqNo := none }] } }

/-- INGRESS_FRAME: stored, checked and classified, or discarded (R271, R272, R282, R283). A PAUSE or PFC frame that passes the check
is not carried: its count and its effect are PAUSE_RECEIVE's or PFC_RECEIVE's (log entry 187). -/
def execIngressFrame (p : Fin 16) (id : Nat) (b : List Byte) (s : State) : Host.Outcome State Fault Refusal :=
  .next (
    let i := 0x7010 + p.val
    let f := Frame.ofBytes id b
    let bad := !f.fcsOk || decide (f.len < 64) || decide (s.rdN i 6 < f.len)
    if !s.on 17 || s.portMode p.val != 1 || (f.control && !bad) then s
    else
      let t := s.inc64 i 0x0D
      if bad then t.inc64 i 0x0F
      else
        let r := t.classify p.val f
        let t := match r.2 with | some w => t.inc64 (0x7200 + w) 8 | none => t
        if r.1 < 4096 ∧ t.packetTenant r.1 ∧ t.portMode (t.portOf r.1) = 1 then
          t.toInbox p.val r.1 (t.classOf p.val f r.2) f
        else t.inc64 i 0x10)

/-- PAUSE_REPEAT: the XOFF frame is repeated while the count stays above XON and flow control stays on (R271, R296). -/
def execPauseRepeat (p : Fin 16) (s : State) : Host.Outcome State Fault Refusal :=
  .next (
    let still := (s.flow p.val).xoff.filter fun c => (s.watched p.val).contains c && decide (s.rdN (0x7010 + p.val) 0x0A < s.portCells p.val c)
    if still = [] then s
    else
      let t := s.inc64 (0x7010 + p.val) 0x12
      if 8 ∈ still then t.emit (.pause p.val 0xFFFF) else t.emit (.pfc p.val (still.map fun c => (c, 0xFFFF))))

/-! ### Cell requests (R291) -/

/-- The place of a writer in the rotating order of a cycle: each writer ranks first once in 22 cycles, and the phase is
not specified (R291). -/
def State.writerRank (s : State) (cycle writer : Nat) : Nat :=
  (writer + 22 - (Config.rankPhase s.grm.phase + cycle) % 22) % 22

/-- A request inserted by rank, after those of its rank. -/
def insertRank (rank : CellReq → Nat) (r : CellReq) : List CellReq → List CellReq
  | [] => [r]
  | a :: l => if rank r < rank a then r :: a :: l else a :: insertRank rank r l

/-- Requests in the order of their rank. -/
def byRank (rank : CellReq → Nat) (l : List CellReq) : List CellReq := l.foldl (fun a r => insertRank rank r a) []

/-- Whether sequence `a` is at or below `b`, of 32 bits that wrap. -/
def seqLe (a b : Nat) : Bool := decide ((b + 2 ^ 32 - a) % 2 ^ 32 < 2 ^ 31)

/-- Whether a tagged frame is discarded at once: of a protection group, one at or below the sequence delivered last (R438);
of a spanning tenant, one whose turn has passed (R435). -/
def State.standbyStale (s : State) (n : Nat) (q : Option Nat) : Bool :=
  match s.protOf n, q with
  | some (j, _), some q =>
    match (s.prot j).delivered with | some d => seqLe q d | none => false
  | none, some q => s.groupHome n && q != lgetD n 0 s.bob.spanSeq && seqLe q (lgetD n 0 s.bob.spanSeq)
  | _, _ => false

/-- A frame put in its place by sequence, after those at or below it. -/
def insertSeq (f : QFrame) : List QFrame → List QFrame
  | [] => [f]
  | g :: l =>
    match f.seqNo, g.seqNo with
    | some a, some b => if seqLe b a then g :: insertSeq f l else f :: g :: l
    | _, _ => g :: insertSeq f l

/-- The frames of a spanning tenant's queue put back in sequence (R435). -/
def State.resequence (s : State) (n c : Nat) : State :=
  if s.groupHome n then
    let q := s.queueFor n c true
    s.setQueue q { s.queue q with frames := (s.queue q).frames.foldl (fun l f => insertSeq f l) [] }
  else s

/-- The class of a frame at egress, found again from its first bytes with the tenant's own port and without an override
(R283). -/
def State.egressClass (s : State) (n : Nat) (b : List Byte) : Nat := s.classOf (s.portOf n) (Frame.ofBytes 0 b) none

/-- One request judged. A frame from a client port is the one its classification left, the oldest of the port; a frame of a bobbin
port carries its tenant and class, and the class of a frame of the line is found from its first bytes. Such a frame is there only
while its container is in SYNC and no receive condition of R261 holds (R253, R261, R281, R283, R289, R291, R306). -/
def State.cellRequest (s : State) (taken : Bool) (r : CellReq) : State :=
  let n := r.tenant.val
  let frame := fun (len : Nat) (b : List Byte) (p c : Nat) (q : Option Nat) (ready : Bool) =>
    ({ id := r.id, len := len, bytes := b, cells := cellsOf len, port := p, cls := c, headroom := false, seqNo := q
       ready := ready } : QFrame)
  if r.egress then
    let line := decide (18 ≤ r.writer.val)
    if !s.packetTenant n || s.standbyStale n r.seqNo || (line && (s.tenantRdiSent n || decide ((s.ten n).delin.st ≠ 2))) then s
    else
      let c := if line then s.egressClass n r.bytes else r.cls.val
      (s.judgeFrame n c r.port.val true taken (frame r.len r.bytes r.port.val c r.seqNo (!s.sealedTenant n))).resequence n c
  else if r.writer.val < 16 then
    match s.grm.inbox.find? fun x => x.port == r.writer.val with
    | some x =>
      let t : State := { s with grm := { s.grm with inbox := s.grm.inbox.erase x } }
      if t.packetTenant x.tenant then
        t.judgeFrame x.tenant x.cls x.port false taken
          { frame x.frame.len x.frame.bytes x.port x.cls x.seqNo true with id := x.frame.id }
      else if t.portMode x.port = 1 then t.inc64 (0x7010 + x.port) 0x10
      else t
    | none => s
  else if s.packetTenant n then
    s.judgeFrame n r.cls.val 16 false taken (frame r.len r.bytes 16 r.cls.val r.seqNo true)
  else s

/-- CELL_REQUEST: the requests of one cycle in rank order, each against the pool as those before it left it. One PFC frame of a
port carries every class whose state the cycle changed (R291, R296). -/
def execCellRequest (cycle : Nat) (rs : List CellReq) (s : State) : Host.Outcome State Fault Refusal :=
  .next (if s.on 17 then
      let taken := decide (s.sharedFree ≠ 0)
      (s.each (byRank (fun r => s.writerRank cycle r.writer.val) rs) fun t r => t.cellRequest taken r).pauseAll
    else s)

/-! ### Scheduling (R293 to R295) -/

/-- The member of a round after `cur`, in cyclic ascending order. -/
def nextIn (cur : Nat) (cs : List Nat) : Nat := ((cs.find? fun c => decide (cur < c)).getD (cs.headD 0))

/-- Deficit round robin among candidates that each hold something to send: the candidate whose turn it is sends while
its head fits the deficit; a visit adds the quantum (R294, R295). -/
def drr (size quantum : Nat → Nat) (cs : List Nat) : Nat → Nat → List (Nat × Nat) → Option (Nat × List (Nat × Nat))
  | 0, _, _ => none
  | fuel + 1, cur, ds =>
    if cs.contains cur && decide (size cur ≤ lgetD cur 0 ds) then some (cur, lput cur (lgetD cur 0 ds - size cur) ds)
    else if cs = [] then none
    else drr size quantum cs fuel (nextIn cur cs) (lmod (nextIn cur cs) 0 (· + quantum (nextIn cur cs)) ds)

/-- Whether an egress queue of a tenant is stopped by received flow control (R298). -/
def State.queueStopped (s : State) (n q : Nat) : Bool :=
  (s.flow (s.portOf n)).stopped.any fun c => decide (c < 8) && s.queueFor n c true == q

/-- The sequences at the heads of a tenant's egress queues. -/
def State.headSeqs (s : State) (n : Nat) : List Nat :=
  (s.tenantQueues n true).filterMap fun q => match (s.queue q).frames with | f :: _ => f.seqNo | [] => none

/-- Whether a queue's head may be chosen: not empty, not stopped, at egress released by the tag check, and at a
protection group's selector of the selected copy and next in sequence, of a spanning tenant the one due (R294, R315, R435,
R438). -/
def State.eligible (s : State) (n q : Nat) (egress : Bool) : Bool :=
  match (s.queue q).frames with
  | [] => false
  | f :: _ =>
    if !egress then true
    else f.ready && !s.queueStopped n q &&
      match s.protOf n, f.seqNo with
      | some (j, p), some x => p == s.rdB (0x8D00 + j) 9 && (s.headSeqs n).all fun y => seqLe x y
      | some (j, p), none => p == s.rdB (0x8D00 + j) 9
      | none, some x => !s.groupHome n || x == lgetD n 0 s.bob.spanSeq
      | none, none => true

/-- The choice of the class scheduler of a tenant in one direction: the lowest level first, deficit round robin within
it (R294). The result carries the scheduler's new state. -/
def State.classPick (s : State) (n : Nat) (egress : Bool) : Option (Nat × QFrame × State) :=
  let qs := (s.tenantQueues n egress).filter fun q => s.eligible n q egress
  match qs with
  | [] => none
  | q0 :: r =>
    let level := r.foldl (fun a q => min a (s.queue q).level) (s.queue q0).level
    let cs := qs.filter fun q => (s.queue q).level == level
    let turn := (n * 2 + (if egress then 1 else 0)) * 4 + level
    let size := fun (q : Nat) => match (s.queue q).frames with | f :: _ => f.len | [] => 0
    match drr size (fun q => 256 * (s.queue q).weight) cs (70 * cs.length + 1) (lgetD turn 0 s.grm.turns)
        (cs.map fun q => (q, (s.queue q).deficit)) with
    | some (q, ds) =>
      match (s.queue q).frames with
      | f :: _ =>
        let t := s.each ds fun u d => u.setQueue d.1 { u.queue d.1 with deficit := d.2 }
        some (q, f, { t with grm := { t.grm with turns := lput turn q t.grm.turns } })
      | [] => none
    | none => none

/-- The head of a queue leaves it, its cells with it; an emptied queue's deficit returns to 0 (R292, R294). -/
def State.dequeue (s : State) (q : Nat) : State :=
  let x := s.queue q
  let rest := x.frames.drop 1
  s.setQueue q { x with frames := rest, dequeued := wrapInc 64 x.dequeued, deficit := if rest = [] then 0 else x.deficit }

/-- A queue with those of its frames that pass; an emptied queue's deficit returns to 0 (R294). -/
def Queue.keeping (x : Queue) (p : QFrame → Bool) : Queue :=
  let l := x.frames.filter p
  { x with frames := l, deficit := if l = [] then 0 else x.deficit }

/-- Whether egress of port p is stopped as a whole (R298). -/
def State.portStopped (s : State) (p : Nat) : Bool := (s.flow p).stopped.contains 8

/-- Frames of the standby tenant at or below a delivered sequence are discarded at once, uncounted (R438). -/
def State.dropStale (s : State) (n d : Nat) : State :=
  s.each (s.tenantQueues n true) fun t q =>
    let x := t.queue q
    t.setQueue q (x.keeping fun f => match f.seqNo with | some y => !seqLe y d | none => true)

/-- The sequence of a tagged frame that is delivered: of a protection group, those skipped are counted; of a spanning
tenant, the next is due (R435, R438). -/
def State.selectorSent (s : State) (n : Nat) (q : Option Nat) : State :=
  match s.protOf n, q with
  | some (j, _), some q =>
    let x := s.prot j
    let t := s.setProt j { x with delivered := some q }
    let t := match x.delivered with | some d => t.bump (0x8D00 + j) 0x0F 64 ((q + 2 ^ 32 - d - 1) % 2 ^ 32) | none => t
    t.dropStale (s.rdN (0x8D00 + j) (if s.rdB (0x8D00 + j) 9 then 2 else 3)) q
  | none, some q =>
    if s.groupHome n then { s with bob := { s.bob with spanSeq := lput n ((q + 1) % 2 ^ 32) s.bob.spanSeq } } else s
  | _, _ => s

/-- The frame in progress on port p has ended: it leaves its queue with its cells (R292, R298). -/
def State.egressDone (s : State) (p : Nat) : State :=
  match (s.flow p).sending with
  | some (q, id) =>
    let t := s.setFlow p { s.flow p with sending := none }
    match (t.queue q).frames with
    | f :: _ => if f.id = id then t.dequeue q else t
    | [] => t
  | none => s

/-- The port and class schedulers of port p choose the next frame, which starts to leave (R292, R295). -/
def State.egressStart (s : State) (p : Nat) (fcsOk : Bool) : State :=
  if !s.on 17 || s.portMode p != 1 || s.portStopped p then s
  else
    let x := s.flow p
    let picks := (s.portTenants p).filterMap fun n => (s.classPick n true).map fun r => (n, r)
    let size := fun (n : Nat) => match lget n picks with | some r => r.2.1.len | none => 0
    match drr size (fun n => max 256 (16 * s.rxTotal n)) (picks.map fun r => r.1) (64 * picks.length + 1) x.tenant
        x.deficits with
    | some (n, ds) =>
      match lget n picks with
      | some (q, f, t) =>
        let sends := fcsOk && !s.rdBit (0x7010 + p) 0x14 3
        let t := if sends then t else t.dequeue q
        let left := (t.tenantQueues n true).all fun a => ((t.queue a).frames.all fun g => g.id == f.id)
        let t := t.setFlow p { t.flow p with
          tenant := n, deficits := if left then lput n 0 ds else ds, sending := if sends then some (q, f.id) else none }
        let t := t.selectorSent n f.seqNo
        if sends then (t.inc64 (0x7010 + p) 0x0E).emit (.frameOut p f.id)
        else t.inc64 (0x7010 + p) 0x11
      | none => s
    | none => s

/-- EGRESS_FRAME_START: the MAC of port p is ready, so that the frame before has ended, and the port and class schedulers choose
the next frame. It stays in its queue until its last byte has left; one whose FCS fails, or that leaves while Local Fault is
sent, is discarded at once (R273, R274, R292, R295). -/
def execEgressFrameStart (p : Fin 16) (fcsOk : Bool) (s : State) : Host.Outcome State Fault Refusal :=
  .next ((s.egressDone p.val).egressStart p.val fcsOk)

/-! ### Shaping (R252, R293) -/

/-- A tenant's shaper before its first position. -/
def Shaper.start : Shaper := { inProgress := none, idle := [], pos := 0, ready := [], control := false }
/-- A tenant's shaper. -/
def State.shaper (s : State) (n : Nat) : Shaper := lgetD n Shaper.start s.grm.shapers
/-- A tenant's shaper changed. -/
def State.setShaper (s : State) (n : Nat) (x : Shaper) : State :=
  { s with grm := { s.grm with shapers := lput n x s.grm.shapers } }

/-- The control frame code that packet tenant n sends in place of idle: loss of signal, or loss of synchronisation of its
Ethernet client port (R252, R274). -/
def State.controlCode (s : State) (n : Nat) : Option Nat :=
  let d := s.rdN (0x7010 + s.portOf n) 0x14
  if bit d 0 then some 1 else if bit d 1 then some 2 else none

/-- A core header (R252). -/
def coreBytes (pli : Nat) : List Byte := beBytes 4 (coreHeader pli)

/-- At least `wanted` bytes of what stands between frames: the multiframe's control frame while a client condition holds and it has
not been sent, and idle headers (R252). -/
def State.idleBytes (s : State) (n wanted : Nat) : List Byte :=
  let c := match s.controlCode n with
    | some c => if (s.shaper n).control then [] else coreBytes 4 ++ [BitVec.ofNat 8 c, 0, 0, 0]
    | none => []
  c ++ (List.replicate (ceilDiv (wanted - c.length) 4) (coreBytes 0)).flatten

/-- The class scheduler chooses the next frame, which is then in progress behind its core header, 4 bytes. None starts while tenant
traffic has stopped (R41, R252, R293). -/
def State.pickFrame (s : State) (n : Nat) : State :=
  match (if s.ctl.traffic then s.classPick n false else none) with
  | some (q, f, t) => t.setShaper n { t.shaper n with inProgress := some (some q, coreBytes f.len ++ padTo f.len (f.bytes.take f.len)) }
  | none => s

/-- The frame in progress has been drawn whole: it leaves its queue with its cells (R292, R296). -/
def State.drawnWhole (s : State) (q : Option Nat) : State :=
  match q with
  | some q =>
    let p := match (s.queue q).frames with | f :: _ => f.port | [] => 16
    (s.dequeue q).whenB (decide (p < 16)) fun t => t.pauseSend p
  | none => s

/-- Draw `wanted` bytes of the container byte stream: from the frame in progress, whose successor is chosen the moment it has been
drawn whole, and where no frame is there from idle headers or the control frame (R252, R293). -/
def State.drawBytes (s : State) (n : Nat) : Nat → Nat → State
  | 0, _ => s
  | fuel + 1, wanted =>
    let x := s.shaper n
    match x.inProgress with
    | some (q, l) =>
      if wanted < l.length then s.setShaper n { x with inProgress := some (q, l.drop wanted), ready := x.ready ++ l.take wanted }
      else
        let t := s.setShaper n { x with inProgress := none, ready := x.ready ++ l }
        ((t.drawnWhole q).pickFrame n).drawBytes n fuel (wanted - l.length)
    | none =>
      if wanted = 0 then s
      else if x.idle ≠ [] then
        (s.setShaper n { x with idle := x.idle.drop wanted, ready := x.ready ++ x.idle.take wanted }).drawBytes n fuel
          (wanted - x.idle.length)
      else
        let t := s.pickFrame n
        if (t.shaper n).inProgress.isSome then t.drawBytes n fuel wanted
        else
          let b := t.idleBytes n wanted
          t.setShaper n { t.shaper n with
            idle := b.drop wanted, ready := x.ready ++ b.take wanted, control := x.control || (t.controlCode n).isSome }

/-- The bytes of container position `i` of a tenant's multiframe: 104 in the first stitch of a sealed tenant, else 128
(R293). -/
def State.positionBytes (s : State) (n i : Nat) : Nat := if s.sealedTenant n && decide (i % max 1 (s.txLit n) = 0) then 104 else 128

/-- One transmit position of a packet tenant: the bytes of it and of the next are drawn before it is assembled (R293). The result
carries its bytes. -/
def State.shapePosition (s : State) (n : Nat) (first : Bool) : List Byte × State :=
  let x := s.shaper n
  let i := if first then 0 else x.pos
  let now := s.positionBytes n i
  let t := s.whenB first fun u => u.setShaper n { x with control := false }
  let wanted := now + s.positionBytes n (i + 1) - x.ready.length
  let t := t.drawBytes n (2 * wanted + 4) wanted
  let y := t.shaper n
  (y.ready.take now, t.setShaper n { y with pos := i + 1, ready := y.ready.drop now })

/-- One transmit position of a CBR tenant: its part of the container payload of the multiframe (R254, R255). -/
def State.mapPosition (s : State) (n : Nat) (first : Bool) : List Byte × State :=
  let x := s.shaper n
  let i := if first then 0 else x.pos
  let o := if s.sealedTenant n then 128 * i - 24 else 128 * i
  (bitsBytes (((s.cbrSent n).drop (8 * o)).take (8 * s.positionBytes n i)), s.setShaper n { x with pos := i + 1 })

/-- The payload bytes of the position of tenant n that is due (R254, R293). -/
def State.takePosition (s : State) (n : Nat) (first : Bool) : List Byte × State :=
  if s.tenCbr n then s.mapPosition n first else s.shapePosition n first

/-! ### Flow control received (R298) -/

/-- The classes a port's egress is stopped for, and bit 4 of 7010+p:14. -/
def State.setStopped (s : State) (p : Nat) (l : List Nat) : State :=
  (s.setFlow p { s.flow p with stopped := l }).defect (0x7010 + p) 0x14 4 (decide (l ≠ []))

/-- PAUSE_RECEIVE (R298). -/
def execPauseReceive (p : Fin 16) (quanta : Nat) (s : State) : Host.Outcome State Fault Refusal :=
  .next (if !s.on 17 || s.portMode p.val != 1 then s
    else
      let t := s.inc64 (0x7010 + p.val) 0x13
      if t.rdN (0x7010 + p.val) 7 = 0 then t
      else t.setStopped p.val (if quanta = 0 then dropFrom 8 (t.flow p.val).stopped else addTo 8 (t.flow p.val).stopped))

/-- PFC_RECEIVE: the named classes with their quanta (R298). -/
def execPfcReceive (p : Fin 16) (cls : List (Fin 8 × Nat)) (s : State) : Host.Outcome State Fault Refusal :=
  .next (if !s.on 17 || s.portMode p.val != 1 then s
    else
      let t := s.inc64 (0x7010 + p.val) 0x13
      if t.rdN (0x7010 + p.val) 7 = 0 then t
      else t.setStopped p.val (cls.foldl (fun l c => if c.2 = 0 then dropFrom c.1.val l else addTo c.1.val l)
        (t.flow p.val).stopped))

/-- PAUSE_EXPIRY: the pause time of the port, or of one class, runs out (R298). -/
def execPauseExpiry (p : Fin 16) (cls : Option (Fin 8)) (s : State) : Host.Outcome State Fault Refusal :=
  .next (
    let c := match cls with | some c => c.val | none => 8
    if (s.flow p.val).stopped.contains c then s.setStopped p.val (dropFrom c (s.flow p.val).stopped) else s)

/-! ### Local Fault (R274) -/

/-- Whether every packet tenant that names port p and holds receive positions has TEN_SSF, TEN_LOD or TEN_CSF; there is
at least one (R274). -/
def State.portFaulty (s : State) (p : Nat) : Bool :=
  let ns := (s.portTenants p).filter fun n => decide (s.rxTotal n ≠ 0)
  decide (ns ≠ []) && ns.all fun n => decide (s.rdN (0x6000 + n) 0x0D % 8 ≠ 0)

/-- LOCAL_FAULT_TIMER: after 10 ms Local Fault starts, with the frames queued for the port discarded, or ends (R274). -/
def execLocalFaultTimer (p : Fin 16) (clear : Bool) (s : State) : Host.Outcome State Fault Refusal :=
  .next (
    let i := 0x7010 + p.val
    if !s.on 17 || s.portMode p.val != 1 then s
    else if !clear && s.rdB i 0x0C && s.portFaulty p.val && !s.rdBit i 0x14 3 then
      let qs := (s.portTenants p.val).flatMap fun n => s.tenantQueues n true
      let n := (qs.map fun q => (s.queue q).frames.length).sum
      let t := s.each qs fun u q => u.setQueue q { u.queue q with frames := [], deficit := 0 }
      ((t.bump i 0x11 64 n).raise i 0x14 3).emit (.localFault p.val true)
    else if clear && s.rdBit i 0x14 3 && !s.portFaulty p.val then (s.clear i 0x14 3).emit (.localFault p.val false)
    else s)

/-! ### The exact-match table (R285) -/

/-- The rule of a command of 7100:05 (R285). -/
def State.exactEffect (s : State) (v : Nat) : Effect :=
  let kind := s.rdN 0x7100 2
  let val := s.rdN 0x7100 3
  let k := exactKey (s.rdN 0x7100 1) kind val
  let bad := need (decide (kind ≠ 1 ∨ (1 ≤ val ∧ val ≤ 4095))) .outOfRange
  let here := lget k s.grm.exact
  match v with
  | 1 =>
    { fails := bad ++ need (here.isSome || decide (s.grm.exact.length < 65536)) .exhausted
      state := { s with grm := { s.grm with exact := lput k (s.rdN 0x7100 4) s.grm.exact } } }
  | 2 => { fails := bad ++ need here.isSome .noEntry, state := { s with grm := { s.grm with exact := ldel k s.grm.exact } } }
  | _ => { fails := bad, state := s.wrN 0x7100 6 (here.getD 4096) }

/-- EXACT_ADD (R285). -/
def execExactAdd (s : State) : Host.Outcome State Fault Refusal := .next (s.command 0x7100 5 (.num 1) (s.exactEffect 1))
/-- EXACT_DELETE (R285). -/
def execExactDelete (s : State) : Host.Outcome State Fault Refusal := .next (s.command 0x7100 5 (.num 2) (s.exactEffect 2))
/-- EXACT_LOOK_UP (R285). -/
def execExactLookUp (s : State) : Host.Outcome State Fault Refusal := .next (s.command 0x7100 5 (.num 3) (s.exactEffect 3))

/-! ### Ports and queues: rules of writes (R275, R277, R288, R290) -/

/-- The rules of writes to a port record (R275, R277, R290). -/
def State.portEffect (s : State) (p sub : Nat) (v : DVal) : Effect :=
  let i := 0x7010 + p
  let n := v.int.toNat
  match sub with
  | 1 =>
    { fails := need (s.configured.all fun t => s.portOf t != p || n == (if s.tenCbr t then 2 else 1)) .conflict
      state := (s.wr i 1 v).pauseSend p }
  | 7 => { fails := (s.wr i 7 v).poolEffect.fails, state := (s.wr i 7 v).pauseSend p }
  | 8 => .ok ((s.wr i 8 v).pauseSend p)
  | 9 => { fails := need (decide (s.rdN i 0x0A < n)) .conflict, state := (s.wr i 9 v).pauseSend p }
  | 0x0A => { fails := need (decide (n < s.rdN i 9)) .conflict, state := (s.wr i 0x0A v).pauseSend p }
  | 0x0B => (s.wr i 0x0B v).poolEffect
  | 0x0C =>
    let t := s.wr i 0x0C v
    .ok (if n = 0 && s.rdBit i 0x14 3 then (t.clear i 0x14 3).emit (.localFault p false) else t)
  | _ => .ok (s.wr i sub v)

/-- The value of an entry of 7801 for a queue (R288). -/
def Queue.view (q : Queue) (sub : Nat) : Nat :=
  match sub with
  | 1 => q.owner | 2 => if q.egress then 1 else 0 | 3 => q.level | 4 => q.weight | 5 => q.reserve | 6 => q.limit
  | 7 => q.threshold | 8 => q.depth | 9 => q.frames.length | 0x0A => q.admitted | 0x0B => q.thrDrops
  | 0x0C => q.emptyDrops | 0x0D => q.dequeued | 0x0E => q.peak | _ => 0x0E

/-- A queue's setting written through 7801 (R288). -/
def Queue.withSetting (q : Queue) (sub v : Nat) : Queue :=
  match sub with
  | 3 => { q with level := v } | 4 => { q with weight := v } | 5 => { q with reserve := v }
  | 6 => { q with limit := v } | _ => { q with threshold := v }

/-- The rule of a write to 7801:03 to 7801:07 (R288, R290). -/
def State.queueEffect (s : State) (sub v : Nat) : Effect :=
  let q := s.rdN 0x7800 1
  let t := s.setQueue q ((s.queue q).withSetting sub v)
  { fails := need ((s.queue q).owner != 4096) .conflict ++ (if sub = 5 then t.poolEffect.fails else []), state := t }

/-- Reading 7801:0E returns the peak and resets it to the present depth (R288). -/
def State.peakRead (s : State) : State :=
  let q := s.rdN 0x7800 1
  s.setQueue q { s.queue q with peak := (s.queue q).depth }

/-! ### Resize (R300, R301) and the shed sets (R303) -/

/-- RESIZE_CALENDAR_BUILD: the calendars and shaper tables of a staged transaction are in their shadow copies (R301). -/
def execResizeCalendarBuild (num : Nat) (s : State) : Host.Outcome State Fault Refusal :=
  .next { s with tra := { s.tra with staged := s.tra.staged.map fun x => if x.num = num then { x with built := true } else x } }

/-- The threads whose transmit positions all belong to tenants of shed priority at least `least`, or to no tenant
(R303). -/
def State.shedSet (s : State) (least : Nat) : List Nat :=
  s.threads.filter fun k =>
    s.placed.all fun n => decide (s.txPos n k = 0) || decide (least ≤ s.rdN (0x4000 + n) 8)

/-- 4000+n:13: some transmit position lies on a darkened thread (R278, R304). -/
def State.shedHeld (s : State) (n : Nat) : Bool := s.grm.darkened.any fun k => decide (s.txPos n k ≠ 0)

/-- The grooming islands lose what they hold: every queued frame and every count; the allocation and the queues'
settings stay (R287, R307). -/
def State.groomClear (s : State) : State :=
  { s with grm := { s.grm with
    queues := s.grm.queues.map fun q => (q.1, { q.2 with
      frames := [], admitted := 0, thrDrops := 0, emptyDrops := 0, dequeued := 0, peak := 0, deficit := 0 })
    flows := [], shapers := [], turns := [], inbox := [], darkened := [] } }

end Sys2Proof.Machine
end

