-- ==== Sys2Proof/Machine/Sealing.lean ====
section
/-! DEFINITION. Tenant sealing and key handling (spec/10_sealing.md R309 to R344): seal headers and tags, tenant key slots,
wrapped and derived keys, link key agreement, management slots and the entropy source. -/

namespace Sys2Proof.Machine

/-! ### Slots and keys (R318 to R324) -/

/-- The tenant slot K`q`. -/
def State.keySlot (s : State) (q : Nat) : Option KeySlot := lget q s.sls.slots

/-- The check value of a key (R320). -/
def checkValue (k : List Byte) : List Byte := (hmac k (ascii "RINEZ-KCV")).take 4

/-- Whether tenant n's keys are derived (5000+n:01). -/
def State.derivedMode (s : State) (n : Nat) : Bool := s.rdN (0x5000 + n) 1 == 1
/-- The transmit epoch in force of tenant n. -/
def State.epoch (s : State) (n : Nat) : Nat := s.rdN (0x5000 + n) 2
/-- Whether sealing is agreed on the link (R327). -/
def State.sealAgreed (s : State) : Bool := s.rdB 0x3800 2

/-- A key over the key bus into a tenant slot (R320). -/
def State.writeSlot (s : State) (q : Nat) (k : KeySlot) : State :=
  ({ s with sls := { s.sls with slots := lput q k s.sls.slots } } : State).inc64 0x1040 6

/-- A tenant slot erased. -/
def State.eraseSlot (s : State) (q : Nat) : State := { s with sls := { s.sls with slots := ldel q s.sls.slots } }

/-- Every tenant slot erased, with what the line knows of the sealed multiframes (R319). -/
def State.eraseTenantSlots (s : State) : State :=
  { s with sls := { s.sls with slots := [], tenants := [], derive := [], epochs := [] } }

/-- A management slot; role 0 is an empty one. -/
def State.mgmtSlot (s : State) (m : Nat) : MgmtSlot := lgetD m { role := 0, id := 0, key := [] } s.sls.mgmt

/-- A management slot set, or with role 0 erased, and its record (R330, R343). -/
def State.setMgmt (s : State) (m : Nat) (x : MgmtSlot) : State :=
  let t : State := { s with sls := { s.sls with mgmt := if x.role = 0 then ldel m s.sls.mgmt else lput m x s.sls.mgmt } }
  ((t.wrN (0x1050 + m) 1 x.role).wrN (0x1050 + m) 4 x.id).wrS (0x1050 + m) 5 (if x.role = 0 then [] else checkValue x.key)

/-- A management slot erased. -/
def State.eraseMgmt (s : State) (m : Nat) : State := s.setMgmt m { role := 0, id := 0, key := [] }

/-- The root that 3800:05 names, where the slot's role matches and M63 holds a link root (R324, R326). -/
def State.rootKey (s : State) : Option (List Byte) :=
  let link := s.mgmtSlot 63
  let root := if s.rdN 0x3800 5 = 0 then link else s.mgmtSlot (s.rdN 0x3800 6)
  if link.role = 5 ∧ root.role = (if s.rdN 0x3800 5 = 0 then 5 else 3) then some root.key else none

/-- The session salt of the link root (R324). -/
def State.sessionSalt (s : State) : List Byte := (hmac (s.mgmtSlot 63).key (ascii "RINEZ-SESSION")).take 16

/-- The message of the KDF (R324). -/
def kdfMessage (label : List Byte) (tenant position direction epoch : Nat) (salt : List Byte) : List Byte :=
  beBytes 4 1 ++ label ++ [0] ++ beBytes 2 tenant ++ beBytes 1 position ++ beBytes 1 direction ++ beBytes 4 epoch
    ++ salt ++ beBytes 4 0x100

/-- A derived key: the first 256 bits of HMAC-SHA-384 over the message (R324). -/
def State.deriveKey (s : State) (root : List Byte) (n position direction epoch : Nat) : List Byte :=
  (hmac root (kdfMessage (s.rdS 0x3800 7) n position direction epoch s.sessionSalt)).take 32

/-- The key that seals transmit traffic of tenant n, for the epoch in force (R318, R322). -/
def State.txKeyOf (s : State) (n : Nat) : Option (List Byte) :=
  let e := s.epoch n
  match s.keySlot (if s.derivedMode n then 2 * n else 2 * n + e % 2) with
  | some k => if k.epoch = e ∧ e ≠ 0 ∧ !k.only then some k.key else none
  | none => none

/-- The key latched for the epoch in force serves until the epoch changes: the slot of a derived tenant holds the next
key already (R320, R325). -/
def State.keyInForce (s : State) (n : Nat) : Option (List Byte) :=
  let x := s.sealTen n
  match s.txKeyOf n with
  | some k => some k
  | none => if s.derivedMode n && decide (x.txEpoch = s.epoch n) && decide (x.txEpoch ≠ 0) && (s.keySlot (2 * n)).isSome
      then some x.txKey else none

/-- SEAL_NOKEY of tenant n (R317, R324, R326). -/
def State.sealNokey (s : State) (n : Nat) : Bool :=
  s.sealedTenant n && ((s.derivedMode n && s.rootKey.isNone)
    || (decide (s.txTotal n ≠ 0) && (decide (s.epoch n = 0) || (s.keyInForce n).isNone)))

/-- SEAL_UNAGREED of tenant n (R317). -/
def State.sealUnagreed (s : State) (n : Nat) : Bool := s.sealedTenant n && !s.sealAgreed

/-- The transmit sealing defects of the tenants brought up to date (R317). -/
def State.sealDefects (s : State) : State :=
  if !s.on 16 then s
  else s.each s.knownTenants fun t n =>
    (t.defect (0x5000 + n) 0x14 2 (t.sealNokey n)).defect (0x5000 + n) 0x14 3 (t.sealUnagreed n)

/-- The rule of a write to a tenant record; the sealing defects follow it at once (R276 to R278, R317). -/
def State.tenantRule (s : State) (n sub : Nat) (v : DVal) : Effect :=
  let e := s.tenantEffect n sub v
  { e with state := e.state.sealDefects }

/-- TENANT_ALLOCATE (R276, R287). -/
def execTenantAllocate (n : Fin 4096) (s : State) : Host.Outcome State Fault Refusal :=
  .next (s.command (0x4000 + n.val) 1 (.num 1) (s.tenantRule n.val 1 (.num 1)))

/-- TENANT_FREE (R276, R287). -/
def execTenantFree (n : Fin 4096) (s : State) : Host.Outcome State Fault Refusal :=
  .next (s.command (0x4000 + n.val) 1 (.num 0) (s.tenantRule n.val 1 (.num 0)))

/-- Whether an epoch of tenant n is in use: in force, staged, or named by one of the last 16 received headers (R322). -/
def State.epochInUse (s : State) (n e : Nat) : Bool :=
  decide (e = s.epoch n) || (s.sealTen n).recent.contains e
    || s.tra.staged.any fun x => x.items.any fun i => i == (key (0x5000 + n) 2, .num e)

/-- Whether a wrapped slot of tenant n is in use (R322). -/
def State.slotInUse (s : State) (n h : Nat) : Bool :=
  match s.keySlot (2 * n + h) with
  | some k => !s.derivedMode n && s.epochInUse n k.epoch
  | none => false

/-- The state a read of a slot gives: empty, ready, receive only where its epoch does not exceed the last one transmitted, or in
use. Of derived slots the transmit one is in use and the receive one receive only (R318, R322, R344, log entry 40). -/
def State.slotState (s : State) (n h : Nat) : Nat :=
  match s.keySlot (2 * n + h) with
  | none => 0
  | some k =>
    if s.derivedMode n then (if h = 1 then 2 else if k.epoch = s.epoch n then 3 else 1)
    else if s.epochInUse n k.epoch then 3
    else if k.only || decide (k.epoch ≤ s.rdN (0x5000 + n) 3) then 2 else 1

/-- The readings of the slots in 5000+n:06 to :0B (R344). -/
def State.viewSlots (s : State) (n sub : Nat) : DVal :=
  let h := (sub - 6) / 3
  let k := s.keySlot (2 * n + h)
  match (sub - 6) % 3 with
  | 0 => .num (s.slotState n h)
  | 1 => .num (match k with | some k => k.epoch | none => 0 : Nat)
  | _ => .bytes (match k with | some k => checkValue k.key | none => [])

/-- A slot whose memory has an uncorrectable error is erased alone and counted (R317, R319). -/
def State.slotError (s : State) (q : Nat) : State := ((s.eraseSlot q).inc32 0x1040 0x0B).sealDefects

/-- A foundry derivation written to a slot (R320, R324). -/
def State.foundryWrite (s : State) (n h e : Nat) (k : List Byte) : State :=
  ((s.inc32 0x1040 5).writeSlot (2 * n + h) { only := false, epoch := e, key := k }).sealDefects

/-! ### What a sealed tenant sends (R310 to R313, R320) -/

/-- Whether the tag of the multiframe before is valid in the one being sent (R311). -/
def State.tagValid (s : State) (n : Nat) : Bool :=
  match (s.sealTen n).sealedMf with
  | some m => decide (m + 1 = s.mf)
  | none => false

/-- Whether a staged change of tenant n's epoch has its target within the next two multiframes (R325). -/
def State.nextEpochSent (s : State) (n : Nat) : Bool :=
  s.derivedMode n && s.tra.staged.any fun x =>
    decide (s.mf < x.target) && decide (x.target ≤ s.mf + 2) && x.items.any fun i => i.1 == key (0x5000 + n) 2

/-- A seal header word (R311). -/
def sealWord (position direction : Nat) (derived valid : Bool) (generation : Nat) (next : Bool) (epoch : Nat) : Nat :=
  withCrc (0x5E * 2 ^ 56 + position * 2 ^ 54 + direction * 2 ^ 53 + (if derived then 2 ^ 52 else 0)
    + (if valid then 2 ^ 51 else 0) + (if derived then generation % 2 * 2 ^ 50 else 0) + (if next then 2 ^ 49 else 0)
    + epoch * 2 ^ 16)

/-- The seal header of the multiframe that tenant n begins, at an epoch (R311, R317). -/
def State.sealHeaderOf (s : State) (n epoch : Nat) : Nat :=
  sealWord s.ownPosition (s.rdN 0x3800 0x0A % 2) (s.derivedMode n) (s.tagValid n) (s.rdN 0x3800 9) (s.nextEpochSent n) epoch

/-- The nonce of a multiframe that this end sends (R312). -/
def State.ownNonce (s : State) (n mf : Nat) : List Byte := sealNonce n s.ownPosition (s.rdN 0x3800 0x0A % 2) mf

/-- The tag of tenant n's last multiframe, where it was sealed, over what was sent of it; else a free value (R309, R310). -/
def State.tagSent (s : State) (n : Nat) : List Byte :=
  let x := s.sealTen n
  if s.tagValid n then
    gcmTag x.txKey (s.ownNonce n (s.mf - 1)) (beBytes 8 x.txHeader) x.txCipher (8 * x.txCipher.length)
  else (padTo 16 (Config.unsentTag n s.mf)).take 16

/-- KEY_LATCH, at the first stitch of a multiframe: the tag of the one before is ready; the key and epoch that seal this one, or none
while SEAL_NOKEY or SEAL_UNAGREED holds, are taken, and its header is made (R311, R313, R317, R320, R323). -/
def State.keyLatch (s : State) (n : Nat) : State :=
  let x := s.sealTen n
  let none := s.sealNokey n || s.sealUnagreed n
  let e := if none then 0 else s.epoch n
  let t := s.whenB (s.tagValid n) fun t => t.inc64 (0x5000 + n) 0x0E
  let t := t.setSealTen n { x with
    txKey := if none then [] else (s.keyInForce n).getD [], txEpoch := e
    sealedMf := if none then x.sealedMf else some s.mf
    txHeader := s.sealHeaderOf n e, txCipher := [], txTag := s.tagSent n }
  if none then t else t.wrN (0x5000 + n) 3 e

/-- What the stitch of tenant n's position due carries: in a sealed tenant's first stitch the seal header and the tag of the
multiframe before stand ahead of its payload, and that is encrypted, or zeros where no key was latched, with its frames and
client bits still waiting (R309, R310, R317). -/
def State.sealPosition (s : State) (n : Nat) (first : Bool) : List Byte × State :=
  let x := s.sealTen n
  let head := if first then beBytes 8 x.txHeader ++ x.txTag else []
  if x.txEpoch = 0 then (head ++ List.replicate (if first then 104 else 128) 0, s)
  else
    let r := s.takePosition n first
    let b := gcmFrom x.txKey (s.ownNonce n s.mf) x.txCipher.length r.1
    (head ++ b, r.2.setSealTen n { r.2.sealTen n with txCipher := x.txCipher ++ b })

/-- SHAPER_POSITION: one transmit position of tenant n is due, and its stitch is assembled. A sealed tenant latches its key at its
first stitch (R254, R293, R310, R320). -/
def execShaperPosition (n : Fin 4096) (first : Bool) (s : State) : Host.Outcome State Fault Refusal :=
  .next (if !s.on 17 || !s.tenOn n.val || decide (s.txLit n.val = 0) then s
    else
      let r := if s.sealedTenant n.val then (if first then s.keyLatch n.val else s).sealPosition n.val first
        else s.takePosition n.val first
      r.2.emit (.stitch n.val r.1))

/-! ### Checking on receipt (R314 to R317, R325) -/

/-- The header predicted from the previous one: tag valid 1, and the epoch stepped by one after two multiframes with Next
epoch (R314, R325). -/
def predictHeader (w run : Nat) : Nat :=
  let v := setBit w 51
  withCrc (if 2 ≤ run then clearBit v 49 + 2 ^ 16 else v)

/-- The key of tenant n's received epoch (R314, R318). -/
def State.rxKeyOf (s : State) (n e : Nat) : Option (List Byte) :=
  match s.keySlot (if s.derivedMode n then 2 * n + 1 else 2 * n + e % 2) with
  | some k => if k.epoch = e ∧ e ≠ 0 then some k.key else none
  | none => none

/-- The epoch that a received header calls anew to be derived: the next one at the first Next epoch, or the header's own
where the slot holds another and no Next epoch was seen (R325). -/
def State.deriveDue (s : State) (n : Nat) (h : SealHeader) : Option Nat :=
  let x := s.sealTen n
  if !s.derivedMode n || decide (h.epoch = 0) then none
  else if h.next && decide (x.nextRun = 0) then some (h.epoch + 1)
  else if !h.next && decide (x.nextRun = 0) && (s.rxKeyOf n h.epoch).isNone then some h.epoch
  else none

/-- SEAL_HEADER_RECEIVE: the header of multiframe `m` of tenant n read, or predicted where its CRC fails, and the key of
its epoch latched; a key derived for the next epoch is written after that latch (R314, R320, R325). -/
def execSealHeaderReceive (n : Fin 4096) (h : BitVec 64) (m : Nat) (s : State) : Host.Outcome State Fault Refusal :=
  .next (if !s.on 16 || !s.sealedTenant n.val || decide (s.rxTotal n.val = 0) then s
    else
      let x := s.sealTen n.val
      let w := if headerCrcOk h.toNat then h.toNat
        else match x.rx with | some r => predictHeader r.word x.nextRun | none => 0
      let f := sealFields w
      let r : SealMf := { word := w, mf := m, bits := containerBits (s.rxLit n.val) true, key := s.rxKeyOf n.val f.epoch
                          reflect := decide (f.direction = s.rdN 0x3800 0x0A) }
      let d := s.deriveDue n.val f
      let t := s.setSealTen n.val { x with
        rx := some r, prev := x.rx, check := f.valid && decide (f.epoch ≠ 0), due := d.orElse fun _ => x.due
        later := d.isSome && f.next, derived := none
        nextRun := if f.next then x.nextRun + 1 else 0, recent := (f.epoch :: x.recent).take 16 }
      match x.derived with
      | some k => t.foundryWrite n.val 1 k.1 k.2
      | none => t)

/-- What the tag of a multiframe shows. -/
inductive TagVerdict where
  | pass | fail | miss | unverified
  deriving DecidableEq, Repr

/-- The judgement of a multiframe (R314): reflection fails, an unchecked tag leaves it unverified, an epoch that no slot
held is a key miss, and the tag decides the rest. -/
def tagVerdict (n : Nat) (check : Bool) (x : SealMf) (cipher tag : List Byte) : TagVerdict :=
  let h := sealFields x.word
  if x.reflect then .fail
  else if !check || decide (h.epoch = 0) then .unverified
  else match x.key with
    | none => .miss
    | some k =>
      if gcmTag k (sealNonce n h.position h.direction x.mf) (beBytes 8 x.word) cipher x.bits = tag then .pass else .fail

/-- The egress frames of tenant n with the given numbers released to the scheduler (R315). -/
def State.releaseFrames (s : State) (n : Nat) (ids : List Nat) : State :=
  s.each (s.tenantQueues n true) fun t q =>
    t.setQueue q { t.queue q with
      frames := (t.queue q).frames.map fun f => if ids.contains f.id then { f with ready := true } else f }

/-- The egress frames of tenant n with the given numbers discarded (R316). -/
def State.dropFrames (s : State) (n : Nat) (ids : List Nat) : State :=
  s.each (s.tenantQueues n true) fun t q => t.setQueue q ((t.queue q).keeping fun f => !ids.contains f.id)

/-- The egress frames of unsealed tenants that lie in an LF not accepted free their cells; a sealed tenant's frames wait for its
tag (R218, R289). -/
def State.dropBad (s : State) (frames : List (Nat × List Nat)) : State :=
  s.each (frames.filter fun p => !s.sealedTenant p.1) fun t p => t.dropFrames p.1 p.2

/-- TEN_TAG and SEAL_KEYMISS after a verdict: runs of three (R317). -/
def State.tagRuns (s : State) (n : Nat) (v : TagVerdict) (hadKey accepted : Bool) : State :=
  let x := s.sealTen n
  let fails := if v = .fail ∧ accepted then min 3 (x.fails + 1) else 0
  let passes := if v = .pass then min 3 (x.passes + 1) else 0
  let misses := if v = .miss then min 3 (x.misses + 1) else 0
  let hits := if hadKey then min 3 (x.hits + 1) else 0
  let t := s.setSealTen n { x with fails := fails, passes := passes, misses := misses, hits := hits, prev := none }
  (t.runDefect (0x5000 + n) 0x14 0 3 fails passes).runDefect (0x5000 + n) 0x14 1 3 misses hits

/-- TAG_RECEIVE: the tag in a first stitch is checked against the multiframe before, as it was received. `frames` are the packet
frames that a pass completes, or that have a byte in a multiframe that does not pass. The demapper takes a CBR multiframe once it
has passed; the generic AIS stands for one that has not, and the previous C stays. The multiframe is counted with its verdict (R262,
R314, R315, R316). -/
def execTagReceive (n : Fin 4096) (tag : List Byte) (lfsAccepted : Bool) (frames : List Nat) (s : State) :
    Host.Outcome State Fault Refusal :=
  .next (if !s.on 16 || !s.sealedTenant n.val then s
    else match (s.sealTen n.val).prev with
    | none => s
    | some m =>
      let i := 0x5000 + n.val
      let v := tagVerdict n.val (s.sealTen n.val).check m (s.ten n.val).cipher tag
      let t := s.tagRuns n.val v m.key.isSome lfsAccepted
      let held := (t.ten n.val).held
      let t := t.setTen n.val { t.ten n.val with held := none }
      if v = .pass then
        let t := ((t.inc64 i 0x0F).wrN i 0x0C (sealFields m.word).epoch).releaseFrames n.val frames
        match held with
        | some b => (t.sealCounted n.val (!jcGood b.1 b.2)).jcIn n.val b.1 b.2
        | none => t.sealCounted n.val false
      else
        let t := t.inc64 i (match v with
          | .fail => if lfsAccepted then 0x10 else 0x11 | .miss => 0x12 | _ => 0x13)
        let t := t.sealCounted n.val true
        if s.tenCbr n.val then t.emit (.client n.val none)
        else (t.bump i 0x15 64 frames.length).dropFrames n.val frames)

/-- A sealed tenant whose receive positions have fallen to 0, by a resize or by S3 at the far end: the tag of its last multiframe has
no stitch, and the multiframe is discarded as unverified, with the frames that wait for a tag (R316, R340). -/
def State.sealGone (s : State) : State :=
  s.each ((s.sls.tenants.filter fun p => p.2.rx.isSome && decide (s.rxLit p.1 = 0)).map fun p => p.1) fun t n =>
    let waiting := (t.tenantQueues n true).flatMap fun q => ((t.queue q).frames.filter fun f => !f.ready).map fun f => f.id
    let t := (t.setSealTen n { t.sealTen n with rx := none, prev := none }).inc64 (0x5000 + n) 0x13
    let t := (t.setTen n { t.ten n with held := none }).sealCounted n true
    if s.tenCbr n then t.emit (.client n none) else (t.bump (0x5000 + n) 0x15 64 waiting.length).dropFrames n waiting

/-- The receive hold 5000+n:0D in ps: the multiframe and (i + 1) LFs of a thread, `i` being the LF of the tenant's first
receive stitch (R248, R315). -/
def State.receiveHold (s : State) (n : Nat) : Nat :=
  let c := s.inForce
  match (List.range 32).find? fun k => s.rxHas n k && !bit s.frm.shedMuted k with
  | some k =>
    let sn := c.stitches k
    let at_ := (calendar sn (s.rxEntries k)).idxOf n
    (16 + at_ / max 1 sn + 1) * (c.threads * c.lfBits * 1000000) / (c.bits * c.rate)
  | none => 0

/-! ### Wrapped keys (R321 to R323) -/

/-- Whether the foundry is not ready: the entropy source has failed, or cluster C8's item is moving (R338, R340). -/
def State.foundryBusy (s : State) : Bool := s.rdN 0x1040 2 == 2 || !s.itemRuns 8

/-- What the unwrapped plaintext of a wrapped key holds (R321). -/
def wrappedEpoch (p : List Byte) : Nat := beField p 36 4

/-- The rule of a write to 5000+n:04 (R321, R323). -/
def State.wrappedKeyEffect (s : State) (n : Nat) (data : List Byte) : Effect :=
  let kek := s.mgmtSlot (s.rdN 0x3800 4)
  let plain := kwUnwrap kek.key data
  let p := plain.getD []
  let e := wrappedEpoch p
  { fails := need (!s.foundryBusy) .busy
    late := need s.lineMode .wrongMode ++ need (!s.derivedMode n && kek.role == 2) .conflict
      ++ need plain.isSome .authFail
      ++ need (beField p 32 2 == n && beField p 34 2 == 0 && beField p 40 8 == 0 && e != 0) .outOfRange
      ++ need (!s.slotInUse n (e % 2)) .sealed
    retry := if s.rdN 0x1040 2 == 2 then some 1000 else none
    state :=
      let only := decide (e ≤ s.rdN (0x5000 + n) 3)
      let t : State := if s.epoch n = 0 ∧ only = false then { s with sls := { s.sls with epochs := lput n e s.sls.epochs } } else s
      ((t.inc32 0x1040 5).writeSlot (2 * n + e % 2) { only := only, epoch := e, key := p.take 32 }).sealDefects }

/-- The epochs that wrapped keys have brought come into force at the multiframe that begins (R323). -/
def State.epochsDue (s : State) : State :=
  let t := s.each s.sls.epochs fun u p => if u.epoch p.1 = 0 then u.wrN (0x5000 + p.1) 2 p.2 else u
  { t with sls := { t.sls with epochs := [] } }

/-- WRAPPED_KEY_LOAD (R321). -/
def execWrappedKeyLoad (n : Fin 4096) (data : List Byte) (s : State) : Host.Outcome State Fault Refusal :=
  .next (s.command (0x5000 + n.val) 4 (.bytes data) (s.wrappedKeyEffect n.val data))

/-- The rule of a command of 5000+n:05 (R322, R344). -/
def State.slotEraseEffect (s : State) (n c : Nat) : Effect :=
  { fails := need (!s.derivedMode n) .conflict ++ need (!s.slotInUse n (c - 1)) .sealed
    state := (s.eraseSlot (2 * n + (c - 1))).sealDefects }

/-- ERASE_EVEN_SLOT (R322). -/
def execEraseEvenSlot (n : Fin 4096) (s : State) : Host.Outcome State Fault Refusal :=
  .next (s.command (0x5000 + n.val) 5 (.num 1) (s.slotEraseEffect n.val 1))
/-- ERASE_ODD_SLOT (R322). -/
def execEraseOddSlot (n : Fin 4096) (s : State) : Host.Outcome State Fault Refusal :=
  .next (s.command (0x5000 + n.val) 5 (.num 2) (s.slotEraseEffect n.val 2))

/-- The rule of a write to 5000+n:01: an accepted write erases both slots (R318). -/
def State.keyModeEffect (s : State) (n : Nat) (v : DVal) : Effect :=
  { fails := need (!s.holdsPositions n && decide (s.rxTotal n = 0)) .conflict
    state := (((s.wr (0x5000 + n) 1 v).eraseSlot (2 * n)).eraseSlot (2 * n + 1)).sealDefects }

/-! ### Derived keys (R324 to R326) -/

/-- The tenants in derived mode, ascending. -/
def State.derivedTenants (s : State) : List Nat :=
  (s.dict.filter fun p => decide (key 0x5000 0 ≤ p.1) && decide (p.1 < key 0x6000 0) && decide (p.1 % 256 = 1)
    && decide (p.2 = .num 1)).map fun p => p.1 / 256 - 0x5000

/-- NEW_ROOT: every derived tenant restarts at epoch 1 with no key of the old root left, and its transmit key waits to be
derived, in ascending order of tenant (R326, log entry 41). -/
def State.newRoot (s : State) : State :=
  let ns := s.derivedTenants
  let t := s.each ns fun t n =>
    let t := (t.eraseSlot (2 * n)).eraseSlot (2 * n + 1)
    let t := (t.wrN (0x5000 + n) 2 1).wrN (0x5000 + n) 3 0
    t.setSealTen n { t.sealTen n with txKey := [], txEpoch := 0, due := none, later := false, derived := none, nextRun := 0 }
  let t : State := { t with sls := { t.sls with derive := ns } }
  t.sealDefects

/-- Direction roles are agreed (R329). -/
def State.hasRole (s : State) : Bool := decide (s.rdN 0x3800 0x0A < 2)

/-- DERIVED_KEY_WRITE: the transmit key of a new root, in ascending order, or of a staged epoch in the multiframe before
its target (R325, R326). -/
def execDerivedKeyWrite (n : Fin 4096) (s : State) : Host.Outcome State Fault Refusal :=
  .next (match s.rootKey with
    | none => s
    | some root =>
      if !s.on 16 || !s.derivedMode n.val || !s.hasRole then s
      else
        let write := fun (t : State) (e : Nat) =>
          t.foundryWrite n.val 0 e (t.deriveKey root n.val t.ownPosition (t.rdN 0x3800 0x0A) e)
        if s.sls.derive.head? = some n.val then
          let t : State := { s with sls := { s.sls with derive := s.sls.derive.drop 1 } }
          write t (t.epoch n.val)
        else if s.tra.staged.any fun x => x.target == s.mf + 1 && x.items.any fun i => i.1 == key (0x5000 + n.val) 2 then
          write s (s.epoch n.val + 1)
        else s)

/-- RECEIVE_KEY_DERIVE: the receive key that a header called for, with the position that header names and the far end's
direction. That of a coming epoch is held until the latch of the following multiframe (R324, R325). -/
def execReceiveKeyDerive (n : Fin 4096) (s : State) : Host.Outcome State Fault Refusal :=
  .next (
    let x := s.sealTen n.val
    match x.due, s.rootKey with
    | some e, some root =>
      if !s.on 16 || !s.derivedMode n.val || !s.hasRole then s
      else
        let p := match x.rx with | some r => (sealFields r.word).position | none => 0
        let k := s.deriveKey root n.val p (1 - s.rdN 0x3800 0x0A) e
        if x.later then s.setSealTen n.val { x with due := none, derived := some (e, k) }
        else (s.setSealTen n.val { x with due := none }).foundryWrite n.val 1 e k
    | _, _ => s)

/-- The rule of writes to 3800:05 and 3800:06 (R326). -/
def State.rootEffect (s : State) (sub : Nat) (v : DVal) : Effect := .ok ((s.wr 0x3800 sub v).newRoot)

/-! ### Link key agreement (R327 to R329) -/

/-- A condition of R36 in 1001:07. -/
def State.progress (s : State) (i : Nat) (v : Bool) : State := s.wrBit 0x1001 7 i v

/-- A picot packet due. A packet of a kind that repeats replaces the one of its kind not yet started; FAULTs, each sent
for its change, and answers wait side by side (R354, R355). -/
def State.picotDue (s : State) (kind : Nat) (payload : List Byte) : State :=
  let keep := s.pic.due.filter fun p => decide (p.1 ≠ kind) || decide (kind ≤ 2)
  let before := keep.filter fun p => decide (p.1 ≤ kind)
  let after := keep.filter fun p => decide (kind < p.1)
  { s with pic := { s.pic with due := before ++ [(kind, payload)] ++ after } }

/-- Packets of a kind that have not started are dropped. -/
def State.picotCancel (s : State) (kind : Nat) : State :=
  { s with pic := { s.pic with due := s.pic.due.filter fun p => decide (p.1 ≠ kind) } }

/-- Whether this end offers sealing (R327). -/
def State.sealOffered (s : State) : Bool :=
  !s.noSeal && s.rdB 0x3800 1 && decide (s.inForce.profile = 0) && (s.mgmtSlot (s.rdN 0x3800 3)).role == 4

/-- The exchange fails with a cause, until it is tried again (R328, R341). -/
def State.exchangeFails (s : State) (cause : Nat) : State :=
  let t : State := { s with
    sls := { s.sls with link := { s.sls.link with step := 5, scalar := 0, confirm := [], held := [], far := [] } }
    pic := { s.pic with shareOn := false } }
  (((t.wrN 0x3800 8 3).wrN 0x3800 0x0B cause).inc32 0x3800 0x0D).picotCancel 5

/-- Step 1 of the exchange: with a healthy DRBG an ephemeral key pair is generated (R328). -/
def State.exchangeStart (s : State) : State :=
  let t : State := { s with
    sls := { s.sls with link := { step := 1, scalar := 0, own := [], far := [], farMac := [], root := [], key := [],
                                  confirm := [], held := [] } }
    pic := { s.pic with shareOn := false } }
  let t := (t.inc32 0x3800 0x0C).wrN 0x3800 8 1
  if (s.mgmtSlot (s.rdN 0x3800 3)).role != 4 then t.exchangeFails 1
  else if !s.sls.drbgUp then t.exchangeFails 5 else t

/-- Once OFFER and ACCEPT are done: the exchange where both OFFERs include sealing, else the key is not required (R327,
R328, R361). -/
def State.sealDecide (s : State) (agreed : Bool) : State :=
  let t := s.wrB 0x3800 2 agreed
  (if agreed then (t.progress 2 false).exchangeStart
   else ((t.wrN 0x3800 8 4).progress 2 true)).sealDefects

/-- The SHARE payload of this end (R328). -/
def State.shareBytes (s : State) : List Byte :=
  [1, 0] ++ padTo 6 s.fuse.mac ++ beBytes 4 (s.mgmtSlot (s.rdN 0x3800 3)).id ++ s.sls.link.own

/-- A draw of the DRBG, which reseeds once 65 536 requests have been served (R338). -/
def State.drbgDraw (s : State) : State :=
  let t := s.drawn
  if t.sls.drbgCount + 1 < 65536 then { t with sls := { t.sls with drbgCount := t.sls.drbgCount + 1 } }
  else ({ t with sls := { t.sls with drbgCount := 0 } } : State).inc32 0x1040 4

/-- The check of a far end's SHARE before its key is validated: the cause of its failure, or 0 (R328, R329). -/
def State.shareCause (s : State) (b : List Byte) : Nat :=
  if beField b 8 4 ≠ (s.mgmtSlot (s.rdN 0x3800 3)).id then 2
  else if slice b 2 6 = padTo 6 s.fuse.mac then 6
  else 0

/-- A SHARE accepted into the exchange: the directions are settled, and ECDH, which validates its key, starts once the own key pair
exists (R328, R329, R334). -/
def State.shareTaken (s : State) (b : List Byte) : State :=
  match s.shareCause b with
  | 0 =>
    let mac := slice b 2 6
    let l := s.sls.link
    let t : State := { s with sls := { s.sls with link := { l with
      far := b.drop 12, farMac := mac, step := if l.step = 1 then 1 else 3 } } }
    t.wrN 0x3800 0x0A (if beNat (padTo 6 s.fuse.mac) < beNat mac then 0 else 1)
  | c => s.exchangeFails c

/-- What a SHARE brings about (R328, R354, R363): it joins the exchange in progress, is answered again where it repeats,
or opens a new exchange where the far end has a new key. After a failure it waits for the next restart. -/
def State.shareIn (s : State) (b : List Byte) : State :=
  let l := s.sls.link
  let same := decide (l.far = b.drop 12)
  if b.length ≠ 109 ∨ !s.sealAgreed ∨ l.step = 5 then s
  else if l.step = 1 ∨ l.step = 2 then s.shareTaken b
  else if same then (if l.confirm = [] then s else s.picotDue 2 l.confirm)
  else if l.step = 0 then
    let t := s.exchangeStart
    if t.sls.link.step = 1 then t.shareTaken b else t
  else s.shareTaken b

/-- The two keys of the link: the root and the confirmation key (R329). -/
def linkKeys (psk z macA macB xA xB : List Byte) : List Byte × List Byte :=
  let msg := fun (i : Nat) => beBytes 4 i ++ ascii "RINEZ-LINK" ++ [0] ++ z ++ macA ++ macB ++ xA ++ xB ++ beBytes 4 0x200
  let o := hmac psk (msg 1) ++ hmac psk (msg 2)
  (o.take 32, slice o 32 32)

/-- A confirmation tag (R329). -/
def confirmTag (k ownMac xOwn xFar : List Byte) : List Byte :=
  (hmac k (ascii "RINEZ-CONFIRM" ++ ownMac ++ xOwn ++ xFar)).take 16

/-- The x coordinate of a public key. -/
def keyX (b : List Byte) : List Byte := slice b 1 48

/-- The confirmation tag expected of the far end. -/
def State.farTag (s : State) : List Byte :=
  let l := s.sls.link
  confirmTag l.key l.farMac (keyX l.far) (keyX l.own)

/-- Step 4 of the exchange: a CONFIRM whose tag matches agrees the link root, and NEW_ROOT follows (R326, R328). -/
def State.confirmIn (s : State) (b : List Byte) : State :=
  let l := s.sls.link
  if b.drop 2 = s.farTag then
    let t : State := { s with
      sls := { s.sls with link := { l with step := 0, scalar := 0, root := [], key := [], held := [] } }
      pic := { s.pic with shareOn := false } }
    let t := (t.picotCancel 5).setMgmt 63 { role := 5, id := 0, key := l.root }
    ((((t.wrN 0x3800 8 2).wrN 0x3800 0x0B 0).bump 0x3800 9 8 1).progress 2 true).newRoot
  else s.exchangeFails 4

/-! ### Management slots (R330 to R332) -/

/-- Whether a management slot is in use by a staged derivation (R331). -/
def State.rootStaged (s : State) (m : Nat) : Bool :=
  decide (s.rdN 0x3800 5 = 1 ∧ s.rdN 0x3800 6 = m) &&
    (decide (s.sls.derive ≠ []) || s.tra.staged.any fun x => x.items.any fun i =>
      decide (key 0x5000 0 ≤ i.1) && decide (i.1 < key 0x6000 0) && i.1 % 256 == 2 && s.derivedMode (i.1 / 256 - 0x5000))

/-- The plaintext of a load judged: role, slot number and reserved bytes (R331). -/
def plainFails (m : Nat) (p : List Byte) : List Status :=
  need (1 ≤ beField p 32 1 && beField p 32 1 ≤ 4 && beField p 33 1 == m && beField p 38 2 == 0) .outOfRange

/-- A management slot loaded from its plaintext; both message counters of the slot return to 0 (R78, R331). -/
def State.loadMgmt (s : State) (m : Nat) (p : List Byte) : State :=
  let t : State := { s with srv := { s.srv with rxCounter := ldel m s.srv.rxCounter, txCounter := ldel m s.srv.txCounter } }
  ((t.setMgmt m { role := beField p 32 1, id := beField p 34 4, key := p.take 32 }).inc32 0x1040 5).sealDefects

/-- The key that wraps a load by device key (R331). -/
def State.provisionKey (s : State) (z qh : List Byte) : List Byte :=
  (hmac z (beBytes 4 1 ++ ascii "RINEZ-PROVISION" ++ [0] ++ keyX (s.rdS 0x1040 1) ++ keyX qh ++ beBytes 4 0x100)).take 32

/-- The rule of a write to 1050+m:02 (R331, R336). A rejected key is counted although the write fails. -/
def State.deviceLoadEffect (s : State) (m : Nat) (data : List Byte) : Effect :=
  let q := data.take 97
  let cause := keyCause q
  let z := if cause = 0 then ecdh Config.deviceKey q else none
  let cause := if cause = 0 ∧ z = none then 4 else cause
  let plain := kwUnwrap (s.provisionKey (z.getD []) q) (data.drop 97)
  { fails := need (!s.foundryBusy) .busy ++ need (m != 63) .sealed ++ need (decide (data.length = 145)) .badType
    late := need (cause == 0) .conflict ++ need plain.isSome .authFail ++ plainFails m (plain.getD [])
      ++ need (!s.rootStaged m) .sealed
    retry := if s.rdN 0x1040 2 == 2 then some 1000 else none
    failed := if cause = 0 then some (s.inc32 0x1040 7) else some (((s.inc32 0x1040 7).inc32 0x1040 9).wrN 0x1040 0x0A cause)
    state := (s.inc32 0x1040 7).loadMgmt m (plain.getD []) }

/-- LOAD_BY_DEVICE_KEY (R331). -/
def execLoadByDeviceKey (m : Fin 64) (data : List Byte) (s : State) : Host.Outcome State Fault Refusal :=
  .next (s.command (0x1050 + m.val) 2 (.bytes data) (s.deviceLoadEffect m.val data))

/-- The rule of a write to 1050+m:03 (R331). -/
def State.kekLoadEffect (s : State) (m : Nat) (data : List Byte) : Effect :=
  let kn := beField data 0 1
  let kek := s.mgmtSlot kn
  let plain := kwUnwrap kek.key (data.drop 1)
  { fails := need (!s.foundryBusy) .busy ++ need (m != 63) .sealed ++ need (decide (data.length = 49)) .badType
    late := need (kek.role == 2) .conflict ++ need plain.isSome .authFail ++ plainFails m (plain.getD [])
      ++ need (kn != m && !s.rootStaged m) .sealed
    retry := if s.rdN 0x1040 2 == 2 then some 1000 else none
    state := s.loadMgmt m (plain.getD []) }

/-- LOAD_BY_KEK (R331). -/
def execLoadByKek (m : Fin 64) (data : List Byte) (s : State) : Host.Outcome State Fault Refusal :=
  .next (s.command (0x1050 + m.val) 3 (.bytes data) (s.kekLoadEffect m.val data))

/-- The rule of 1050+m:07 (R343). -/
def State.mgmtEraseEffect (s : State) (m : Nat) : Effect :=
  { fails := need (m != 63 && !s.rootStaged m) .sealed, state := (s.eraseMgmt m).sealDefects }

/-- MANAGEMENT_SLOT_ERASE (R343). -/
def execManagementSlotErase (m : Fin 64) (s : State) : Host.Outcome State Fault Refusal :=
  .next (s.command (0x1050 + m.val) 7 (.num 1) (s.mgmtEraseEffect m.val))

/-- The rule of 1050+m:06: M63 is never kept in flash (R343). -/
def State.persistEffect (s : State) (m : Nat) (v : DVal) : Effect :=
  { fails := need (m != 63 || decide (v.int = 0)) .outOfRange, state := s.wr (0x1050 + m) 6 v }

/-! ### The entropy source (R338) -/

/-- The longest run of equal bits: the one at the front, where `run` bits equal to `last` came before it, or a later one. -/
def longestRun (last : Bool) : Nat → List Bool → Nat
  | run, [] => run
  | run, b :: r => max run (if b = last then longestRun last (run + 1) r else longestRun b 1 r)

/-- The repetition count test with cutoff 41 fails (R338). -/
def repetitionFails (l : List Bool) : Bool := decide (41 ≤ longestRun false 0 l)

/-- The adaptive proportion test fails in a window of 1 024: its first bit occurs 589 times or more (R338). -/
def proportionFails (l : List Bool) : Bool :=
  (pieces (l.length / 1024) 1024 l).any fun w => decide (589 ≤ (w.filter fun b => b == w.headD false).length)

/-- ENTROPY_TEST_FAIL: raw bits that fail a health test (R338, R340). -/
def execEntropyTestFail (bits : List Bool) (s : State) : Host.Outcome State Fault Refusal :=
  .next (if !s.on 0 || !(repetitionFails bits || proportionFails bits) then s
    else
      let t : State := { s with sls := { s.sls with drbgUp := false, drbgCount := 0 } }
      let t := (t.wrN 0x1040 2 2).inc32 0x1040 3
      if 1 ≤ t.sls.link.step ∧ t.sls.link.step ≤ 4 then t.exchangeFails 5 else t)

/-- The start-up tests pass, and the DRBG is instantiated (R338). -/
def State.entropyUp (s : State) : State :=
  let t : State := { s with sls := { s.sls with drbgUp := true, drbgCount := 0 } }
  t.wrN 0x1040 2 0

/-- DRBG_RESEED (R338). -/
def execDrbgReseed (s : State) : Host.Outcome State Fault Refusal :=
  .next (if s.sls.drbgUp then
      let t : State := { s with sls := { s.sls with drbgCount := 0 } }
      t.inc32 0x1040 4
    else s)

/-! ### Transactions (R339) -/

/-- The check of an epoch item in wrapped mode: the epoch exceeds that in force and the last transmitted, and a slot in state 1 holds
it (R339). -/
def State.wrappedItemFails (s : State) (n e : Nat) : List Status :=
  need (decide (s.epoch n < e ∧ s.rdN (0x5000 + n) 3 < e)) .outOfRange
    ++ need ([0, 1].any fun h => s.slotState n h == 1 && (match s.keySlot (2 * n + h) with | some k => k.epoch == e | none => false))
      .conflict

end Sys2Proof.Machine
end

