-- ==== Sys2Proof/Machine/Picot.lean ====
section
/-! DEFINITION. The picot channel (spec/11_picot.md R345 to R365): its offset, packets, messages and exchanges. -/

namespace Sys2Proof.Machine

/-! ### Offset (R346) -/

/-- The automatic offset: the lower bound rounded up to a multiple of 250 MHz, in MHz (R346). -/
def Carrier.picotAuto (c : Carrier) : Int :=
  (250 * (ceilDiv (c.rate * (c.rollSum c.threads + 4)) (200 * c.threads * 250) + 1) : Nat)

/-- The offset that the settings give (R346). -/
def Carrier.picotOffset (c : Carrier) (mode : Nat) (fixed : Int) : Int := if mode = 0 then c.picotAuto else fixed

/-- The offset check: the lowest code that fails (R346, R365). -/
def Carrier.picotCheck (c : Carrier) (mode : Nat) (fixed : Int) : Nat :=
  let f := (c.picotOffset mode fixed).natAbs
  if 200 * c.threads * f < c.rate * (c.rollSum c.threads + 4) + 250 * 200 * c.threads then 1
  else if c.slot < 2 * f + 500 ∨ 9 * c.rate < 16 * (f + 250) then 2
  else if mode = 1 ∧ f % 250 ≠ 0 then 3
  else 0

/-- 8800:07 now, on the configuration as written (R346). -/
def State.offsetCheck (s : State) : Nat := s.written.picotCheck (s.rdN 0x8800 1) (s.rdI 0x8800 2)
/-- 8800:06 now: the offset latched, or before a line mode the one written (R346, R364). -/
def State.offsetShown (s : State) : Int :=
  if s.lineMode then s.pic.offset else s.written.picotOffset (s.rdN 0x8800 1) (s.rdI 0x8800 2)

/-! ### Packets (R347 to R350) -/

/-- A packet after its sync word: length, type, payload, CRC (R349). -/
def picotPacket (type : Nat) (payload : List Byte) : List Byte :=
  let b := beBytes 1 payload.length ++ beBytes 1 type ++ payload
  b ++ beBytes 4 (crc32 b)

/-- Symbols of a packet: 96 + 8 (p + 6) / b (R349). -/
def picotSymbols (payload bits : Nat) : Nat := 96 + 8 * (payload + 6) / bits

/-- The deviation of a 2-level symbol, in units of 31.25 kHz: 0 = +62.5 kHz, 1 = −62.5 kHz (R348). -/
def deviation2 (b : Bool) : Int := if b then -2 else 2

/-- The deviation of a 4-level symbol, first bit first (R348). -/
def deviation4 (first second : Bool) : Int :=
  match first, second with
  | false, false => 1 | false, true => 3 | true, false => -1 | true, true => -3

/-- The deviation of preamble symbol `i`: 0, 1, 0, 1 … (R349, R350). -/
def preambleSymbol (i : Int) : Int := deviation2 (decide (i % 2 = 1))

/-- The deviations of a packet's symbols: 64 of preamble, 32 of the sync word that tells the body's levels, then the bytes most
significant bit first (R348, R349). -/
def picotDeviations (type : Nat) (payload : List Byte) (bits : Nat) : List Int :=
  let body := byteBits (picotPacket type payload)
  (List.range 64).map (fun i => preambleSymbol (i : Nat))
    ++ (natBits 32 (if bits = 2 then 0xD1B42E58 else 0x2E4BD1A7)).map deviation2
    ++ (if bits = 2 then (pieces (body.length / 2) 2 body).map fun q => deviation4 (q.getD 0 false) (q.getD 1 false)
        else body.map deviation2)

/-- The deviation sent at symbol `i` from the start of the packet in progress: the packet's, and preamble where no packet is
due (R350). -/
def State.picotDeviation (s : State) (i : Int) : Int :=
  match s.pic.sending with
  | some (kind, b, bits) =>
    if i < 0 then preambleSymbol i else (picotDeviations (picotType kind) b bits).getD i.toNat (preambleSymbol i)
  | none => preambleSymbol i

/-- The picot signal at carrier sample `n` from the start of the packet in progress: a complex tone at f_p, keyed at 250 kBd with
a Gaussian of BT 0.5, at the total power of the main signal at full level less 8800:04 (R345, R347, R348). -/
def State.picotSignal (s : State) (n : Int) : Sample :=
  if !s.picotOn then Sample.zero
  else
    let u : Rat := (2 * n : Int) / (9 * s.inForce.rate : Nat)
    let keyed := realSum (List.range (u.floor + 2 * filterSpan + 1).toNat) fun j =>
      let i : Int := (j : Int) - filterSpan
      (s.picotDeviation i : Rat) / 8 * gaussPhase (u - i)
    (turn ((s.pic.offset * 8 * n : Int) / (9 * s.inForce.rate : Nat) + keyed)).scale
      (2 * (s.rdN 0x2400 0x0F : Rat) / 256 * dbGain (-(s.rdN 0x8800 4 : Int)))

/-- What DAC c is given at its sample n, the picot signal joined (R145, R345). -/
def State.dacGiven (s : State) (info : Nat → Nat → List Bool) (around : Nat → Signal) (ramp : Rat) (c : Nat) (n : Int) :
    Option (Nat × Int) := s.txChain info around s.picotSignal ramp c n

/-- 8801:01: the picot state as it stands (R365). -/
def State.picotState (s : State) : Nat :=
  if !s.picotOn then 0 else if s.pic.cond1 then 3 else if s.pic.heard then 2 else 1

/-- A message falls due, and starts at once where nothing is in progress. -/
def State.picotSend (s : State) (kind : Nat) (payload : List Byte) : State := (s.picotDue kind payload).picotKick

/-! ### Payloads (R356 to R359, R161) -/

/-- Whether every configured thread is in SYNC. -/
def State.allInSync (s : State) : Bool :=
  (s.threads.filter fun k => s.rxStatus k == 1).all fun k => s.huntState k == 3

/-- A HELLO payload (R356). -/
def State.helloBytes (s : State) : List Byte :=
  [1, BitVec.ofNat 8 s.fuse.code.val] ++ padTo 4 (s.rdS 0 3) ++ padTo 6 s.fuse.mac
    ++ [BitVec.ofNat 8 s.ctl.mode.num,
        BitVec.ofNat 8 ((if s.pic.heard then 1 else 0) + (if s.allInSync then 2 else 0)), 0, 0]

/-- An OFFER payload of the configuration in force (R357, R361). -/
def State.offerBytes (s : State) : List Byte :=
  let c := s.inForce
  [1] ++ beBytes 1 c.profile ++ beBytes 4 c.rate ++ beBytes 1 c.threads ++ beBytes 1 c.bits
    ++ [if s.sealOffered then 1 else 0, 0] ++ beBytes 4 (unsignedOf 4 s.pic.offset)
    ++ (List.range 32).flatMap (fun k => beBytes 1 (c.rolls.getD k 0))
    ++ (List.range 32).flatMap (fun k => beBytes 1 (s.rdN (0x3410 + k) 1))
    ++ beBytes 4 (maskOf 32 fun k => s.rdN (0x3410 + k) 3 == 1)

/-- Whether an OFFER includes sealing. -/
def offersSealing (b : List Byte) : Bool := bit (b.getD 8 0).toNat 0

/-- The result of an OFFER against the own one: the first difference (R357, R361). -/
def offerResult (own far : List Byte) : Nat :=
  let same := fun (o n : Nat) => slice own o n == slice far o n
  if !same 1 1 then 1
  else if !same 2 4 then 2
  else if !same 6 1 then 3
  else if !same 7 1 then 4
  else if !same 14 (beField own 6 1) then 5
  else if !same 10 4 then 6
  else 0

/-- An ACCEPT payload (R357). -/
def acceptBytes (result : Nat) (offer : List Byte) (both : Bool) : List Byte :=
  [1] ++ beBytes 1 result ++ beBytes 4 (crc32 offer) ++ [if both then 1 else 0, 0]

/-- The fields of a FAULT payload after its reason: the shed step, the receive defects, the remote defect field
(R358). -/
def State.faultFields (s : State) : List Byte :=
  beBytes 1 (s.rdN 0x1011 1 % 4) ++ beBytes 4 (s.rdN 0x2800 0x0D) ++ beBytes 4 s.remoteDefectSent

/-- A TIME payload but for its departure stamp. Its stamps are valid under the conditions that R371 sets for those of the
line (R359, log entry 167). -/
def State.timeBytes (s : State) : List Byte :=
  let good := decide (s.rdN 0x8030 4 ≠ 0) && !s.tim.xoFail
  let flags := (if good then 1 else 0) + (if good && decide (s.pic.farTimeArrival ≠ 0) then 2 else 0)
    + (if s.rdN 0x8030 4 ≤ 2 then 4 else 0)
  List.replicate 12 0 ++ beBytes 2 s.pic.timeSeq ++ beBytes 2 s.pic.farTimeSeq
    ++ Ty.time96.bytes (time96 s.pic.farTimeArrival) ++ beBytes 1 flags ++ [0, 0, 0]

/-- A DPD_FEEDBACK payload (R161). -/
def dpdBytes (m : DpdMsg) : List Byte :=
  beBytes 1 m.pol.val ++ beBytes 8 m.first ++ beBytes 8 m.last ++ padTo 192 (m.corr.take 192)
    ++ beBytes 2 (unsignedOf 2 m.residual) ++ beBytes 2 (unsignedOf 2 m.cd)

/-- The message of one polarisation at the end of a window: the 128 received multiframes up to the last, the corrections and
residual measured, and the accumulated dispersion that R178 tracks (R161). -/
def State.windowMessage (s : State) (p : Fin 2) (m : List Byte × Int) : DpdMsg :=
  let last := s.rdN 0x3440 0x0D
  { pol := p, first := last - 127, last := last, corr := m.1, residual := m.2, cd := roundFree s.free (s.rdI 0x2800 0x17) 10 }

/-! ### Conditions of R36 (R360, R361) -/

/-- Conditions 1 to 3 are cleared, with the exchanges behind them (R360). -/
def State.picotClear (s : State) : State :=
  let t : State := { s with
    pic := { s.pic with cond1 := false, offerOn := false, acceptSent := false, acceptGot := false, farOffer := [],
                        shareOn := false }
    sls := { s.sls with link := { s.sls.link with step := 0, scalar := 0, far := [], confirm := [], held := [] } } }
  ((((t.picotCancel 4).picotCancel 5).progress 0 false).progress 1 false).progress 2 false

/-- An acquisition restart, or the entry to DISCOVER: conditions 1 to 3 and the heard flag are cleared, and a HELLO with bit 0 clear
is sent (R360). In the legacy profiles there is no picot channel and no sealing: their conditions hold, and the link key is not
required (R111, R327). -/
def State.picotRestart (s : State) : State :=
  let t : State := { s with pic := { s.pic with heard := false } }
  if s.inForce.profile = 0 then
    let t := t.picotClear
    t.picotSend 3 t.helloBytes
  else (((((t.progress 0 true).progress 1 true).progress 2 true).wrB 0x3800 2 false).wrN 0x3800 8 4).sealDefects

/-- The entry to DISCOVER or TEST: the offset and the OFFER are fixed; a packet already started is finished (R350, R361, R364). -/
def State.picotEntry (s : State) : State :=
  let c := s.inForce
  let t : State := { s with pic := { s.pic with
    offset := c.picotOffset (s.rdN 0x8800 1) (s.rdI 0x8800 2), due := [] } }
  let t : State := { t with pic := { t.pic with offer := t.offerBytes } }
  ((t.clear 0x8801 2 1).clear 0x8801 2 0).picotRestart

/-- Condition 1 holds: offering begins (R360, R361). -/
def State.picotCond1 (s : State) : State :=
  if s.pic.cond1 then s
  else
    let t : State := { s with pic := { s.pic with cond1 := true, offerOn := true } }
    (t.progress 0 true).picotSend 4 t.pic.offer

/-- A message of the far end is heard; HELLO is sent at once when the flag changes (R354, R356). -/
def State.picotHeard (s : State) : State :=
  if s.pic.heard then s
  else
    let t : State := { s with pic := { s.pic with heard := true } }
    t.picotSend 3 t.helloBytes

/-- The receive status of every thread follows the configured states of the far end's OFFER; the island of a thread that the
far end has configured retired is gated (R579). -/
def State.followOffer (s : State) : State :=
  let far := beField s.pic.farOffer 78 4
  s.each s.threads fun t k =>
    if !bit far k then (t.setRxStatus k 0).gateThread k
    else if t.rxStatus k = 0 then (t.ungateThread k).setRxStatus k 1
    else t

/-- Whether both OFFERs include sealing (R361). -/
def State.bothSeal (s : State) : Bool := offersSealing s.pic.offer && offersSealing s.pic.farOffer

/-- Condition 2, once both ACCEPTs have passed: the mode is agreed, and sealing with it; where an OFFER has changed since and with it
what both include, sealing is agreed anew (R361, R327, R328, R579). -/
def State.picotAgree (s : State) : State :=
  if s.pic.acceptSent && s.pic.acceptGot then
    if !s.rdBit 0x1001 7 1 then ((s.progress 1 true).followOffer.sealDecide s.bothSeal).picotKick
    else if s.bothSeal ≠ s.sealAgreed then (s.sealDecide s.bothSeal).picotKick
    else s
  else s

/-- DISCOVER entered without an acquisition restart, from SERVICE or SHED: OFFER describes the configuration now in force, one that
changed is offered until the far end accepts it, and where sealing is agreed the keys of the link are exchanged afresh (R328,
R361). -/
def State.discoverAgain (s : State) : State :=
  let b := s.offerBytes
  let t := if b = s.pic.offer then s
    else
      let t : State := { s with pic := { s.pic with offer := b, acceptGot := false, offerOn := s.pic.cond1 } }
      t.whenB t.pic.cond1 fun u => u.picotSend 4 b
  t.whenB t.sealAgreed State.exchangeStart

/-! ### Reception (R351, R352, R360 to R363) -/

/-- Whether the picot receiver runs: the ADC domains are powered and RX_INVALID is clear (R179, R347). -/
def State.picotRx (s : State) : Bool :=
  s.on 10 && s.on 14 && !s.rdBit 0x2800 0x0D 4 && decide (s.inForce.profile = 0)

/-- The symbols of the sync word's place that differ from a pattern (R351). -/
def syncErrors (a b : BitVec 32) : Nat := ((List.range 32).filter fun i => a.getLsbD i != b.getLsbD i).length

/-- The bits per body symbol that the sync word found selects: that of at most 8800:05 differing symbols; the two patterns are
complements, so at most one is found (R349, R351). -/
def State.syncLevel (s : State) (sync : BitVec 32) : Option Nat :=
  if syncErrors sync 0x2E4BD1A7 ≤ s.rdN 0x8800 5 then some 1
  else if syncErrors sync 0xD1B42E58 ≤ s.rdN 0x8800 5 then some 2
  else none

/-- Whether the receiver finds the packet: its preamble by a correlation above 0.5 and a tone within ±3 GHz, and its sync word
(R349, R351). -/
def State.picotFound (s : State) (rx : PicotRx) : Bool :=
  s.picotRx && decide (500 < rx.correlation) && decide (rx.afc.natAbs ≤ 3000000) && (s.syncLevel rx.sync).isSome

/-- The bits of a received body symbol by its deviation in units of 31.25 kHz, first bit first (R348). -/
def symbolBits (bits : Nat) (d : Int) : List Bool :=
  decide (d < 0) :: (if bits = 2 then [decide (2 < d.natAbs)] else [])

/-- The bytes of the received body symbols after a sync word, at the level that it selects (R349, R351). -/
def State.bodyBytes (s : State) (sync : BitVec 32) (body : List Int) : List Byte :=
  bitsBytes (body.flatMap (symbolBits ((s.syncLevel sync).getD 1)))

/-- A packet found and handed to E64 shows its frequency estimate; one that passed R352 is counted and clears PICOT_LOS, and one
of the wrong length or version is discarded. What arrives while E64 is stopped is lost and not counted (R351, R352, R363,
R364). -/
def State.picotIn (s : State) (rx : PicotRx) (good : Bool) (f : State → State) : State :=
  if !s.picotFound rx || !s.itemRuns 8 then s
  else
    let t := s.wrI 0x8801 7 rx.afc
    if good then f ((t.inc32 0x8801 4).clear 0x8801 2 0) else t.inc32 0x8801 6

/-- DPD_FEEDBACK_RECEIVE (R160, R352). -/
def execDpdFeedbackReceive (rx : PicotRx) (m : DpdMsg) (s : State) : Host.Outcome State Fault Refusal :=
  .next (s.picotIn rx true fun t => t.dpdFeedback m)

/-- A HELLO received. One with bit 0 clear tells of the far end's restart, at which an exchange that failed may be tried again (R328,
R356, R360, R363). -/
def State.helloIn (s : State) (b : List Byte) : State :=
  let t := (((s.wrS 0x8801 0x0A (slice b 6 6)).wrN 0x8801 0x0B (b.getD 1 0).toNat).wrS 0x8801 0x0C (slice b 2 4)).wrN
    0x8801 0x0D (b.getD 12 0).toNat
  let t := t.picotHeard
  if bit (b.getD 13 0).toNat 0 then t.picotCond1
  else if t.pic.cond1 && t.inMode .discover then t.picotClear
  else if t.sls.link.step = 5 then { t with sls := { t.sls with link := { t.sls.link with step := 0 } } }
  else t

/-- HELLO_RECEIVE (R352, R356, R360). -/
def execHelloReceive (rx : PicotRx) (payload : List Byte) (s : State) : Host.Outcome State Fault Refusal :=
  .next (s.picotIn rx (decide (payload.length = 16 ∧ payload.headD 0 = 1)) fun t => t.helloIn payload)

/-- An OFFER received is answered with an ACCEPT (R361, R364). -/
def State.offerIn (s : State) (b : List Byte) : State :=
  let t := s.picotHeard.picotCond1
  let r := offerResult t.pic.offer b
  let new := decide (t.pic.farOffer ≠ b)
  let t : State := { t with pic := { t.pic with
    farOffer := b, acceptSent := t.pic.acceptSent && !new && decide (r = 0) } }
  let t := t.whenB (decide (r ≠ 0) && t.inMode .discover) fun u => u.progress 1 false
  t.picotSend 1 (acceptBytes r b (offersSealing t.pic.offer && offersSealing b))

/-- OFFER_RECEIVE (R352, R361). -/
def execOfferReceive (rx : PicotRx) (payload : List Byte) (s : State) : Host.Outcome State Fault Refusal :=
  .next (s.picotIn rx (decide (payload.length = 82 ∧ payload.headD 0 = 1)) fun t => t.offerIn payload)

/-- An ACCEPT received: result 0 naming the current OFFER ends the offering, and another result is a mismatch (R361).
PICOT_MISMATCH clears at such an ACCEPT of result 0 (log entry 42). -/
def State.acceptIn (s : State) (b : List Byte) : State :=
  let t := s.picotHeard.picotCond1
  let r := (b.getD 1 0).toNat
  if r ≠ 0 then (t.wrN 0x8801 8 r).raise 0x8801 2 1
  else if beField b 2 4 = crc32 t.pic.offer then
    let t : State := { t with pic := { t.pic with acceptGot := true, offerOn := false } }
    ((t.picotCancel 4).clear 0x8801 2 1).picotAgree
  else t

/-- ACCEPT_RECEIVE (R352, R361). -/
def execAcceptReceive (rx : PicotRx) (payload : List Byte) (s : State) : Host.Outcome State Fault Refusal :=
  .next (s.picotIn rx (decide (payload.length = 8 ∧ payload.headD 0 = 1)) fun t => t.acceptIn payload)

/-- FAULT_RECEIVE: the payload is kept and feeds nothing else (R358). -/
def execFaultReceive (rx : PicotRx) (payload : List Byte) (s : State) : Host.Outcome State Fault Refusal :=
  .next (s.picotIn rx (decide (payload.length = 12)) fun t => t.wrS 0x8801 0x0E payload)

/-- KEY_PAIR_GENERATED: the scalar is a free value below the group order (R328, R334). A SHARE that came first is taken
up at once. -/
def execKeyPairGenerated (s : State) : Host.Outcome State Fault Refusal :=
  .next (if s.sls.link.step ≠ 1 ∨ !s.itemRuns 8 then s
    else
      let d := 1 + s.freeNat % (n384 - 1)
      let t := s.drbgDraw
      let t : State := { t with
        sls := { t.sls with link := { t.sls.link with
          step := if t.sls.link.far = [] then 2 else 3, scalar := d, own := pointBytes (ecMul 384 d (some g384)) } }
        pic := { t.pic with shareOn := true } }
      t.picotSend 5 t.shareBytes)

/-- ECDH_DONE: the far end's key is validated, Z gives the link root and the confirmation key, and CONFIRM is sent (R328, R329,
R334, R337). A CONFIRM that came first is judged at once. -/
def execEcdhDone (s : State) : Host.Outcome State Fault Refusal :=
  .next (
    let l := s.sls.link
    if l.step ≠ 3 ∨ !s.itemRuns 8 then s
    else
      let s := s.inc32 0x1040 7
      let cause := keyCause l.far
      match (if cause = 0 then ecdh l.scalar l.far else none) with
      | none => ((s.inc32 0x1040 9).wrN 0x1040 0x0A (if cause = 0 then 4 else cause)).exchangeFails 3
      | some z =>
        let own := padTo 6 s.fuse.mac
        let psk := (s.mgmtSlot (s.rdN 0x3800 3)).key
        let ks := if s.rdN 0x3800 0x0A = 0 then linkKeys psk z own l.farMac (keyX l.own) (keyX l.far)
          else linkKeys psk z l.farMac own (keyX l.far) (keyX l.own)
        let c : List Byte := [2, 0] ++ confirmTag ks.2 own (keyX l.own) (keyX l.far)
        let t : State := { s with sls := { s.sls with link := { l with
          step := 4, root := ks.1, key := ks.2, confirm := c, held := [] } } }
        let t := t.picotSend 2 c
        if l.held = [] then t else t.confirmIn l.held)

/-- KEYSHARE_SHARE_RECEIVE (R328, R352). -/
def execKeyshareShareReceive (rx : PicotRx) (payload : List Byte) (s : State) : Host.Outcome State Fault Refusal :=
  .next (s.picotIn rx (decide (payload.length = 109)) fun t =>
    if payload.headD 0 = 1 then (t.shareIn payload).picotKick else t)

/-- KEYSHARE_CONFIRM_RECEIVE: in step 3 a CONFIRM waits for the ECDH (R328, R352). -/
def execKeyshareConfirmReceive (rx : PicotRx) (payload : List Byte) (s : State) : Host.Outcome State Fault Refusal :=
  .next (s.picotIn rx (decide (payload.length = 18)) fun t =>
    if payload.headD 0 ≠ 2 then t
    else if t.sls.link.step = 4 then t.confirmIn payload
    else if t.sls.link.step = 3 then
      { t with sls := { t.sls with link := { t.sls.link with held := payload } } }
    else t)

/-- The payload lengths that suit a message type (R354). -/
def picotLengths (type : Nat) : List Nat :=
  match type with
  | 1 => [16] | 2 => [82] | 3 => [8] | 4 => [109, 18] | 5 => [213] | 6 => [12] | 7 => [32] | _ => []

/-- PICOT_BAD_PACKET: a packet found, its body read at the level of its sync word, that R352 discards, counted by its cause. -/
def execPicotBadPacket (rx : PicotRx) (body : List Int) (s : State) : Host.Outcome State Fault Refusal :=
  .next (
    let packet := s.bodyBytes rx.sync body
    let n := (packet.headD 0).toNat
    let type := (packet.getD 1 0).toNat
    let crcOk := packet.length = n + 6 ∧ beField packet (n + 2) 4 = crc32 (packet.take (n + 2))
    if !s.picotFound rx || !s.itemRuns 8 then s
    else
      let t := s.wrI 0x8801 7 rx.afc
      if !crcOk then t.inc32 0x8801 5
      else if !(picotLengths type).contains n || (type ≤ 3 && packet.getD 2 0 != 1) then t.inc32 0x8801 6
      else t)

/-! ### Sending (R354, R355, R361, R362) -/

/-- PICOT_PACKET_SENT: the packet in progress is finished and counted; a finished ACCEPT of result 0 to the far end's
current OFFER serves condition 2; the next due packet starts (R350, R355, R361). One whose signal is gone is not counted
(R364). -/
def execPicotPacketSent (s : State) : Host.Outcome State Fault Refusal :=
  .next (match s.pic.sending with
    | none => s.picotKick
    | some (kind, b, _) =>
      let t : State := { s with pic := { s.pic with sending := none } }
      if !s.picotOn then t
      else
        let t := t.inc32 0x8801 3
        let t := if kind = 1 ∧ (b.getD 1 0).toNat = 0 ∧ t.pic.farOffer ≠ [] ∧ beField b 2 4 = crc32 t.pic.farOffer then
            ({ t with pic := { t.pic with acceptSent := true } } : State).picotAgree
          else t
        t.picotKick)

/-- HELLO_TIMER (R354). -/
def execHelloTimer (s : State) : Host.Outcome State Fault Refusal :=
  .next (if s.picotEngine && s.picotOn then s.picotSend 3 s.helloBytes else s)

/-- OFFER_REPEAT: every 50 ms while offering (R361). -/
def execOfferRepeat (s : State) : Host.Outcome State Fault Refusal :=
  .next (if s.picotEngine && s.picotOn && s.pic.offerOn then s.picotSend 4 s.pic.offer else s)

/-- SHARE_REPEAT: every 20 ms until the far end's CONFIRM (R328, R354). -/
def execShareRepeat (s : State) : Host.Outcome State Fault Refusal :=
  .next (if s.picotEngine && s.picotOn && s.pic.shareOn then s.picotSend 5 s.shareBytes else s)

/-- A FAULT message when its fields have changed: reason 2 for the shed step, else 1 (R354, R358). The change is noticed
at the next multiframe boundary (log entry 43). -/
def State.faultCheck (s : State) : State :=
  let f := s.faultFields
  let old := if s.pic.lastFault = [] then List.replicate 9 0 else s.pic.lastFault
  if s.picotEngine && s.picotOn && decide (f ≠ old) then
    let t : State := { s with pic := { s.pic with lastFault := f } }
    t.picotSend 0 ([if f.headD 0 ≠ old.headD 0 then 2 else 1] ++ f ++ [0, 0])
  else s

/-- FAULT_PERIODIC: every second while a field is not zero (R354, R358). -/
def execFaultPeriodic (s : State) : Host.Outcome State Fault Refusal :=
  .next (
    let f := s.faultFields
    if s.picotEngine && s.picotOn && f.any fun x => decide (x ≠ 0) then
      let t : State := { s with pic := { s.pic with lastFault := f } }
      t.picotSend 0 ([3] ++ f ++ [0, 0])
    else s)

/-- TIME_PERIOD: a TIME message every 8800:08 ms (R354, R359). -/
def execTimePeriod (s : State) : Host.Outcome State Fault Refusal :=
  .next (if s.picotEngine && s.picotOn then
      let t : State := { s with pic := { s.pic with timeSeq := (s.pic.timeSeq + 1) % 65536 } }
      t.picotSend 6 t.timeBytes
    else s)

/-- DPD_WINDOW_COMPLETE: the pair of the latest window waits; a pair not yet started is replaced and counted. One of which
the first message has started stays, so that its second follows it (R355, R362). -/
def execDpdWindowComplete (x y : List Byte × Int) (s : State) : Host.Outcome State Fault Refusal :=
  .next (if !s.picotEngine || !(s.inMode .service || s.inMode .shed) then s
    else
      let waiting := s.pic.due.filter fun p => p.1 == 7
      let begun := waiting.length % 2
      let t := s.drawn.whenB (decide (2 ≤ waiting.length)) fun u => u.inc32 0x8801 9
      let others := t.pic.due.filter fun p => p.1 != 7
      let t : State := { t with pic := { t.pic with
        due := others ++ waiting.take begun ++ [(7, dpdBytes (s.windowMessage 0 x)), (7, dpdBytes (s.windowMessage 1 y))] } }
      t.picotKick)

/-- PICOT_LOS_TIMER: no packet has passed for 3 s in SERVICE or SHED (R363). -/
def execPicotLosTimer (s : State) : Host.Outcome State Fault Refusal :=
  .next (if s.on 14 && decide (s.inForce.profile = 0) && (s.inMode .service || s.inMode .shed) then s.raise 0x8801 2 0 else s)

end Sys2Proof.Machine
end

