-- ==== Sys2Proof/Machine/Timing.lean ====
section
/-! DEFINITION. Reference selection, holdover and time transfer (spec/12_timing.md R366 to R392). -/

namespace Sys2Proof.Machine

/-! ### Candidates (R366 to R368) -/

/-- A candidate since it was enabled. -/
def Cand.start : Cand := { freq := false, time := false, failed := false, everFailed := false, holdover := false, since := 0 }
/-- Candidate r. -/
def State.cand (s : State) (r : Nat) : Cand := lgetD r Cand.start s.tim.cands
/-- Candidate r changed. -/
def State.setCand (s : State) (r : Nat) (c : Cand) : State :=
  { s with tim := { s.tim with cands := lput r c s.tim.cands } }

/-- Whether candidate r exists on this device and is enabled (R366, R390). -/
def State.candOn (s : State) (r : Nat) : Bool := decide (r < 9) && !(s.is1608 && decide (7 ≤ r)) && s.rdB (0x8010 + r) 1

/-- The QL of candidate r: declared, the received SSM, or the one the bobbin exchange carried (R368). -/
def State.candQl (s : State) (r : Nat) : Nat :=
  if r < 6 then s.rdN (0x8010 + r) 3 else if r = 6 then s.rdN 0x3440 6 else s.rdN (0x8010 + r) 8

/-- The rank of a QL, best first; 4 for DNU (R368). -/
def qlRank (q : Nat) : Nat := match q with | 2 => 0 | 4 => 1 | 8 => 2 | 0xB => 3 | _ => 4

/-- Whether the far end's overhead announces holdover: flag bit 2 of R240. -/
def State.lineHoldover (s : State) : Bool := bit (beField (padTo 36 s.frm.farStamps) 32 4) 2

/-- Whether the sender of a time candidate announces holdover or free-run (R369). -/
def State.candHoldover (s : State) (r : Nat) : Bool := if r = 6 then s.lineHoldover else (s.cand r).holdover

/-- The status a read of 8010+r:07 gives (R390, R383). -/
def State.candStatus (s : State) (r : Nat) : Nat :=
  let c := s.cand r
  let f := s.tim.freqSel == some r
  let t := s.tim.timeSel == some r
  if !s.candOn r then 0
  else if !c.freq && c.time then 7
  else if f && t then 6 else if t then 5 else if f then 4
  else if c.freq then 3 else if c.failed then 1 else 2

/-! ### Selection (R369, R370) -/

/-- What ranks a candidate, compared first to last; the lower the better. -/
def State.candRank (s : State) (time : Bool) (r : Nat) : List Nat :=
  [qlRank (s.candQl r), if time && s.candHoldover r then 1 else 0, s.rdN (0x8010 + r) 4, r]

/-- Whether one rank is better than another. -/
def rankLess : List Nat → List Nat → Bool
  | a :: r, b :: q => decide (a < b) || (a == b && rankLess r q)
  | _, _ => false

/-- The candidates that may be selected. -/
def State.candidates (s : State) (time : Bool) : List Nat :=
  (List.range' (if time then 4 else 0) (if time then 5 else 9)).filter fun r =>
    s.candOn r && decide (qlRank (s.candQl r) < 4) && (if time then (s.cand r).time else (s.cand r).freq)

/-- The best candidate (R369). -/
def State.bestCand (s : State) (time : Bool) : Option Nat :=
  (s.candidates time).foldl (fun b r => match b with
    | none => some r
    | some x => if rankLess (s.candRank time r) (s.candRank time x) then some r else some x) none

/-- The selection that follows from the present one: forced, non-revertive or automatic (R369, R370). -/
def State.selectionOf (s : State) (time : Bool) (now : Option Nat) : Option Nat :=
  let cs := s.candidates time
  if s.rdN 0x8000 3 = 1 then
    let f := s.rdN 0x8000 (if time then 7 else 6)
    if cs.contains f then some f else none
  else
    let best := s.bestCand time
    match now, best with
    | some n, some b =>
      if !s.rdB 0x8000 5 && cs.contains n && !decide (qlRank (s.candQl b) < qlRank (s.candQl n)) then some n else some b
    | _, b => b

/-! ### The DPLL and the time status (R372, R374 to R377) -/

/-- The DPLL state (8020:03). -/
def State.dpll (s : State) : Nat := s.rdN 0x8020 3

/-- The frequency of the selected candidate, or the present output. -/
def State.selectedFrequency (s : State) : Int :=
  match s.tim.freqSel with | some r => s.rdI (0x8010 + r) 9 | none => s.rdI 0x8020 0x0D - s.tim.slewing

/-- The output frequency that goes with the DPLL's state, but for slewing: the holdover frequency, the steering frequency, the
selected candidate's, the XO_IN nominal, or while LOCKING the one it has (R372, R373, R375, R376). -/
def State.outputOf (s : State) : Int :=
  match s.dpll with
  | 3 => s.rdI 0x8020 8
  | 4 => s.rdI 0x8020 6
  | 0 => 0
  | 2 => s.selectedFrequency
  | _ => s.rdI 0x8020 0x0D - s.tim.slewing

/-- The output frequency becomes `v` with the slewing, and is kept for the mean of R376 for as long as 8020:07 may ask. -/
def State.setOutput (s : State) (v : Int) : State :=
  let v := v + s.tim.slewing
  let kept := s.tim.outputs.filter fun p => decide (s.uptime < p.1 + 3602000000)
  let last := (s.tim.outputs.drop kept.length).take 1
  let t : State := { s with tim := { s.tim with outputs := (s.uptime, v) :: (kept ++ last) } }
  t.wrI 0x8020 0x0D v

/-- The sum of the output frequency over the microseconds from `lo` to `hi`; `stop` is where the latest entry ends. -/
def outputSum (lo hi : Nat) : List (Nat × Int) → Nat → Int
  | [], _ => 0
  | (a, v) :: r, stop => v * ((min hi stop - max lo a : Nat) : Int) + outputSum lo hi r a

/-- The holdover frequency: the mean of the output over the 8020:07 seconds that ended 1 s before, or over as much of them as the
DPLL was LOCKED (R376). A mean that is not whole is rounded freely. -/
def State.holdoverMean (s : State) : Int :=
  let hi := s.uptime - 1000000
  let lo := max (s.tim.lockedAt.getD 0) (hi - s.rdN 0x8020 7 * 1000000)
  if lo < hi then roundFree s.free (outputSum lo hi s.tim.outputs s.uptime) (hi - lo) else s.rdI 0x8020 0x0D

/-- The DPLL enters a state. Holdover takes the mean frequency, and its age begins; leaving it clears HO_OUT_OF_SPEC (R372,
R376). -/
def State.dpllTo (s : State) (v : Nat) : State :=
  if s.dpll = v then s
  else
    let t := if v = 3 then ((s.drawn.wrI 0x8020 8 s.holdoverMean).wrN 0x8020 9 0).wrN 0x8020 0x0B 0 else s.clear 0x8000 0x0C 1
    let t : State := { t with tim := { t.tim with lockedAt := if v = 2 then some t.uptime else none } }
    let t := t.wrN 0x8020 3 v
    t.setOutput t.outputOf

/-- The state that follows when the frequency selection is lost, or holdover is forced: holdover where the DPLL was LOCKED for
1 s, else free-run (R372, R375, R376, log entry 168). -/
def State.dpllLost (s : State) : State :=
  let long := match s.tim.lockedAt with | some a => decide (a + 1000000 ≤ s.uptime) | none => false
  if s.dpll == 3 || (s.dpll == 2 && long) then s.dpllTo 3 else s.dpllTo 0

/-- The DPLL follows its loop mode, XO_FAIL and the selection (R372, R375, R377). -/
def State.dpllJudge (s : State) (changed : Bool) : State :=
  if s.tim.xoFail then s.dpllTo 0
  else match s.rdN 0x8020 1 with
    | 1 => s.dpllTo 4
    | 2 => s.dpllLost
    | 3 => s.dpllTo 0
    | _ =>
      match s.tim.freqSel with
      | none => s.dpllLost
      | some _ => if !changed && (s.dpll == 1 || s.dpll == 2) then s else s.dpllTo 1

/-- The time status (R386, R387, R391). While a time candidate is selected it converges, and once locked it stays so while the DPLL is
LOCKED. -/
def State.timeReport (s : State) : State :=
  let now := s.rdN 0x8030 4
  let v :=
    if s.tim.xoFail then 1
    else if s.dpll = 4 then 5
    else if s.tim.timeSel.isSome then (if now = 4 ∧ s.dpll = 2 then 4 else 3)
    else if s.rdBit 0x8000 0x0C 2 then 0
    else if s.dpll = 0 then 1 else 2
  let t : State := { s with tim := { s.tim with goodFor := if v = 3 ∨ v = 4 then s.tim.goodFor else 0 } }
  (t.wrN 0x8030 4 v).defect 0x8000 0x0C 3 t.tim.timeSel.isNone

/-- The SSM sent (R371). -/
def State.ssmOf (s : State) : Nat :=
  if s.tim.freqSel = some 6 ∨ s.tim.timeSel = some 6 ∨ !s.rdB 0x8000 0x0A ∨ s.tim.xoFail then 0xF
  else match s.tim.freqSel with
    | some r => if s.dpll = 1 ∨ s.dpll = 2 then s.candQl r else s.rdN 0x8000 8
    | none => s.rdN 0x8000 8

/-- The readings of records 8000 and 8010+r brought up to date. -/
def State.timingReport (s : State) : State :=
  let num := fun (x : Option Nat) => match x with | some r => r | none => 255
  let t := ((s.timeReport.wrN 0x8000 1 (num s.tim.freqSel)).wrN 0x8000 2 (num s.tim.timeSel))
  let t := t.wrN 0x8000 9 t.ssmOf
  t.each (List.range 9) fun u r => (u.wrN (0x8010 + r) 7 (u.candStatus r)).wrN (0x8010 + r) 8 (if u.candOn r ∨ 6 < r then u.candQl r else 0xF)

/-- The slew stops where it stands, and the output frequency with it (R374, R388). -/
def State.stopSlew (s : State) : State :=
  let base := s.rdI 0x8020 0x0D - s.tim.slewing
  let t : State := { s with tim := { s.tim with slew := none, stepPending := none, slewing := 0 } }
  if s.tim.slewing = 0 then t else t.setOutput base

/-- SELECTION_CHANGE: both selections re-evaluated. The engine decides; without it, hardware only loses a selected
candidate (R369, R373, R388). A time selection that is lost stops its slew; what the host moves in loop mode 1 goes on (R375). -/
def State.reselect (s : State) : State :=
  let keep := fun (time : Bool) (x : Option Nat) => x.filter fun r => (s.candidates time).contains r
  let runs := s.itemRuns 8
  let f := if runs then s.selectionOf false s.tim.freqSel else keep false s.tim.freqSel
  let m := if runs then s.selectionOf true s.tim.timeSel else keep true s.tim.timeSel
  let fNew := decide (f ≠ s.tim.freqSel)
  let mNew := decide (m ≠ s.tim.timeSel)
  let t : State := { s with tim := { s.tim with
    freqSel := f, timeSel := m, goodFor := if mNew then 0 else s.tim.goodFor } }
  let t := t.whenB (mNew && decide (s.dpll ≠ 4)) State.stopSlew
  let t := t.whenB (fNew || mNew) fun u => (u.inc32 0x8000 0x0B).count .selection
  let t := t.whenB mNew fun u => u.wrN 0x8030 4 (if m.isSome then 3 else 2)
  let t := t.whenB (mNew && match m with | some r => decide (6 ≤ r) | none => false) fun u => u.clear 0x8000 0x0C 2
  (t.dpllJudge fNew).timingReport

/-- Whether the picot offset carries the time part of the line candidate (R383). -/
def State.picotFallback (s : State) (cause : Nat) : Bool :=
  s.rdB 0x8040 0x0A && (cause == 4 || cause == 5) && s.picotRx && !s.rdBit 0x8801 2 0 && decide (s.pic.farTimeArrival ≠ 0)

/-- A candidate fails. For the line, want of exchanges fails only the time part (R367, R383, R390). -/
def State.candFail (s : State) (r cause : Nat) : State :=
  if !s.candOn r then s
  else
    let c := s.cand r
    let part := r == 6 && cause == 5
    let fall := r == 6 && s.picotFallback cause
    let fresh := if part then c.time || !c.failed else !c.failed
    let t := s.setCand r { c with
      freq := c.freq && part, time := fall, failed := c.failed || !part || !c.freq, everFailed := true, since := s.uptime }
    let t := t.whenB fresh fun u => (u.inc32 (0x8010 + r) 0x0C).count (.candidateFail r)
    let t := (t.wrN (0x8010 + r) 0x0D cause).whenB (r == 6) fun u => u.wrN 0x8040 0x0C (if !u.rdB 0x8040 1 then 0 else if fall then 3 else 1)
    t.reselect

/-- Whether the source of candidate r has a defect: the line's, or a bobbin link that is down (R367). -/
def State.sourceBad (s : State) (r : Nat) : Bool :=
  (r == 6 && (s.rxDown || s.rdBit 0x3440 7 1 || !s.lineMode)) ||
    (decide (7 ≤ r) && s.rdN (0x8C10 + (r - 7)) 1 != 3)

/-- Failure conditions of a candidate that the state itself shows (R367). -/
def State.candBlocked (s : State) (r : Nat) : Bool := decide (qlRank (s.candQl r) = 4) || s.sourceBad r

/-- The offset limit 8010+r:05 in 0.01 ppb (R390). -/
def State.offsetLimit (s : State) (r : Nat) : Nat := s.rdN (0x8010 + r) 5 * 10000

/-- The seconds that candidate r must be free of failure: 8000:04, but 2 at least, and 2 where it never failed (R367). -/
def State.restoreWait (s : State) (r : Nat) : Nat := if (s.cand r).everFailed then max 2 (s.rdN 0x8000 4) else 2

/-- 8010+r:0B: the seconds of the wait-to-restore that are left, the whole of it while a failure condition stands (R367, R390). -/
def State.restoreLeft (s : State) (r : Nat) : Nat :=
  if !s.candOn r || (s.cand r).freq then 0
  else if (s.cand r).failed || s.candBlocked r then s.restoreWait r
  else ceilDiv ((s.cand r).since + 1000000 * s.restoreWait r - s.uptime) 1000000

/-- The frequency of candidate r as measured, which a locked DPLL follows (R372). -/
def State.freqMeasured (s : State) (r : Nat) (offset : Int) : State :=
  let t := s.wrI (0x8010 + r) 9 offset
  t.whenB (t.dpll == 2 && t.tim.freqSel == some r) fun u => u.setOutput u.outputOf

/-- CANDIDATE_FAIL: hardware detects the loss of activity of REFIN and PPS_IN; the other conditions are engine E65's, each as the
state and the measurement show it. A frequency measured within the limit shows activity, and that the limit is kept (R367, R388). -/
def execCandidateFail (r : Fin 9) (cause : RefFail) (s : State) : Host.Outcome State Fault Refusal :=
  .next (match cause with
    | .activity => if r.val < 6 ∧ s.on 0 then s.candFail r.val 1 else s
    | .frequency offset =>
      if !s.itemRuns 8 || !s.candOn r.val then s
      else
        let v := max (-5000000) (min 5000000 offset)
        if s.offsetLimit r.val < offset.natAbs then (s.wrI (0x8010 + r.val) 9 v).candFail r.val 2
        else
          let t := s.freqMeasured r.val v
          let c := t.cand r.val
          let past := c.failed && (t.rdN (0x8010 + r.val) 0x0D == 1 || t.rdN (0x8010 + r.val) 0x0D == 2)
          (t.whenB past fun u => u.setCand r.val { c with failed := false, since := u.uptime }).timingReport
    | .dnu => if s.itemRuns 8 && decide (qlRank (s.candQl r.val) = 4) then s.candFail r.val 3 else s
    | .source => if s.itemRuns 8 && s.sourceBad r.val then s.candFail r.val 4 else s
    | .exchange => if s.itemRuns 8 && r.val == 6 then s.candFail r.val 5 else s)

/-- E65 judges candidate r by the conditions of failure that the state shows; once they are past, the wait-to-restore runs (R367,
R387). -/
def State.candJudge (s : State) (r : Nat) : State :=
  let c := s.cand r
  if !s.candOn r then s
  else if !s.candBlocked r then
    (if c.failed && (s.rdN (0x8010 + r) 0x0D == 3 || s.rdN (0x8010 + r) 0x0D == 4) then s.setCand r { c with failed := false } else s)
  else if c.freq || c.time then s.candFail r (if qlRank (s.candQl r) = 4 then 3 else 4)
  else s.setCand r { c with since := s.uptime }

/-- E65 re-evaluates every candidate and both selections: when it returns, and within 10 ms of each change (R367, R369, R388). -/
def State.timingReturn (s : State) : State := (s.each (List.range 9) State.candJudge).reselect

/-- WAIT_TO_RESTORE_EXPIRY: the candidate has been free of failure for its time, its frequency measured within its limit (R367,
R390). The time part of the line needs an exchange accepted in the last second. -/
def execWaitToRestoreExpiry (r : Fin 9) (offset : Int) (s : State) : Host.Outcome State Fault Refusal :=
  .next (if !s.candOn r.val || !s.itemRuns 8 || s.candBlocked r.val || decide (s.offsetLimit r.val < offset.natAbs)
      || decide (s.uptime < (s.cand r.val).since + 1000000 * s.restoreWait r.val) then s
    else
      let c := s.cand r.val
      let t := s.freqMeasured r.val offset
      let time := decide (4 ≤ r.val) && (r.val != 6 || s.rdN 0x8040 0x0C == 2)
      ((t.setCand r.val { c with freq := true, time := time, failed := false }).wrN (0x8010 + r.val) 0x0D 0).reselect)

/-- DPLL_LOCK (R372). -/
def execDpllLock (s : State) : Host.Outcome State Fault Refusal :=
  .next (if s.dpll = 1 then (s.dpllTo 2).timingReport else s)

/-- The holdover time error in ps after `t` seconds, times 1 728: u in 0.01 ppb and the aging in 0.1 ppb per day give
10 u t + v t² / 1 728 (R376). -/
def holdoverError (u v t : Nat) : Nat := 17280 * u * t + v * t * t

/-- HOLDOVER_UPDATE: once per second in holdover, with `u` the standard error of the mean frequency in 0.01 ppb (R376).
A sum that is not a whole number of ps is rounded freely. -/
def execHoldoverUpdate (u : Nat) (s : State) : Host.Outcome State Fault Refusal :=
  .next (if s.dpll = 3 && s.itemRuns 8 then
      let t := s.inc32 0x8020 9
      let e := holdoverError u (t.rdN 0x8020 0x0A) (t.rdN 0x8020 9)
      let t := (t.drawn).wrN 0x8020 0x0B (roundDraw t.free e 1728 % 2 ^ 64)
      t.defect 0x8000 0x0C 1 (decide (1728 * 1000 * t.rdN 0x8020 0x0C < e))
    else s)

/-- XO_FAIL_DETECT (R377). -/
def execXoFailDetect (s : State) : Host.Outcome State Fault Refusal :=
  .next (if !s.on 0 then s
    else
      let t : State := { s with tim := { s.tim with xoFail := true } }
      ((t.raise 0x8000 0x0C 0).dpllJudge false).timingReport)

/-- XO_RECOVERY: the DPLL re-enters LOCKING (R377). -/
def execXoRecovery (s : State) : Host.Outcome State Fault Refusal :=
  .next (if s.tim.xoFail then
      let t : State := { s with tim := { s.tim with xoFail := false } }
      ((t.clear 0x8000 0x0C 0).dpllJudge true).timingReport
    else s)

/-! ### Line time transfer (R378 to R383) -/

/-- A number inserted in ascending order. -/
def insertInt (a : Int) : List Int → List Int
  | [] => [a]
  | b :: r => if a ≤ b then a :: b :: r else b :: insertInt a r

/-- A list in ascending order. -/
def sortInt (l : List Int) : List Int := l.foldr insertInt []

/-- Twice the median: the middle one twice, or the two middle ones together. -/
def twiceMedian (l : List Int) : Int :=
  let a := sortInt l
  a.getD (l.length / 2) 0 + a.getD ((l.length - 1) / 2) 0

/-- ps in 2^-16 ns, rounded down (log entry 162). -/
def psTicks (ps : Int) : Int := ps * 65536 / 1000

/-- The departure at the DAC balls of what begins now at the framer's crossing: 2400:0A later, less the calibration of
R381 (R378). -/
def State.departureStamp (s : State) : Nat :=
  ((s.devTime : Int) + psTicks ((s.inForce.latencySent : Int) - s.rdI 0x8040 9)).toNat

/-- A departure moved to the plane of the line connector (R378). -/
def State.departurePlane (s : State) (t : Nat) : Int := t + psTicks (s.rdI 0x8040 3)
/-- An arrival less the calibration of R381, moved to the plane of the line connector (R378). -/
def State.arrivalPlane (s : State) (t : Nat) : Int := t - psTicks (s.rdI 0x8040 4) - psTicks (s.rdI 0x8040 9)

/-- The 12 bytes of a TIME96 stamp (R47). -/
def stampBytes (t : Nat) : List Byte := beBytes 6 (t / 65536000000000) ++ beBytes 6 (t % 65536000000000)

/-- The 36 bytes of the time-transfer channel in a multiframe that begins: the departure of the multiframe before it, the latest
received multiframe whose number is a multiple of 64, its arrival, and the flags (R240, R371, R378, R379). A stamp that is not
valid is sent as zeros (log entry 162). -/
def State.stampsNow (s : State) : List Byte :=
  let good := s.rdB 0x8040 1 && decide (s.rdN 0x8030 4 ≠ 0) && !s.tim.xoFail
  let e := s.rdN 0x3440 0x0D / 64 * 64
  let dep := if good then s.tim.lastDeparture else none
  let arr := if good then lget e s.tim.arrivals else none
  let bytes := fun (o : Option Int) => match o with | some t => stampBytes t.toNat | none => List.replicate 12 0
  let flags := (if dep.isSome then 1 else 0) + (if arr.isSome then 2 else 0) + (if s.rdN 0x8030 4 ≤ 2 then 4 else 0)
  bytes (dep.map s.departurePlane) ++ beBytes 8 e ++ bytes (arr.map s.arrivalPlane) ++ beBytes 4 flags

/-- A complete exchange, where the state holds one: t1, t2, t3 and t4 in 2^-16 ns at the plane of the line connectors. The
time-transfer channel last accepted, of multiframe N, gives t2 and t3; N − 1 is a multiple of 64 (R379). -/
def State.exchange (s : State) : Option (Int × Int × Int × Int) :=
  let b := padTo 36 s.frm.farStamps
  let flags := beField b 32 4
  let n := s.rdN 0x3440 0x0D
  let stamp := fun (o : Nat) => (ofTime96 (time96OfBytes (slice b o 12)) : Int)
  match lget (beField b 12 8) s.tim.departures, lget (n - 1) s.tim.arrivals with
  | some t1, some t4 =>
    if bit flags 0 && bit flags 1 && decide (n % 64 = 1) then
      some (s.departurePlane t1, stamp 20, stamp 0, s.arrivalPlane t4)
    else none
  | _, _ => none

/-- TIME_EXCHANGE: where the four stamps are there and valid they give an offset and a round trip; an exchange whose round
trip departs by more than 50 ns from the median of the last 16 accepted is rejected (R378 to R380). -/
def execTimeExchange (s : State) : Host.Outcome State Fault Refusal :=
  .next (match s.exchange with
    | none => s
    | some (t1, t2, t3, t4) =>
      if !s.rdB 0x8040 1 || !s.on 16 || !s.lineMode || !s.itemRuns 8 then s
      else
        let rtt := ((t4 - t1) - (t3 - t2)) * 1000
        if s.tim.rtts ≠ [] ∧ 2 * 50000 * 65536 < (2 * rtt - twiceMedian s.tim.rtts).natAbs then s.inc32 0x8040 8
        else
          let off := ((t2 - t1) - (t4 - t3)) * 1000 - s.rdI 0x8040 2 * 131072
          let t : State := { s with tim := { s.tim with
            rtts := (rtt :: s.tim.rtts).take 16, secOffset := s.tim.secOffset + off, secRtt := s.tim.secRtt + rtt
            secCount := s.tim.secCount + 1, accepted16 := min 16 (s.tim.accepted16 + 1) } }
          t.inc32 0x8040 7)

/-- The measured round trip in multiframes is in force (R90). -/
def State.roundTrip (s : State) : Nat :=
  if s.rdN 0x1020 4 ≠ 0xFFFFFFFF ∧ s.rdB 0x8040 1 then s.rdN 0x1020 4
  else if s.rdN 0x1020 0x0A = 0 then 0xFFFFFFFF
  else ceilDiv (s.rdN 0x1020 0x0A * 1000000000) s.shown.multiframeFs + 1

/-- The minimum lead of a two-ended transaction, 1020:03 (R90). -/
def State.twoEndedLead (s : State) : Nat := if s.roundTrip = 0xFFFFFFFF then 0xFFFFFFFF else 4 + s.roundTrip + 4

/-- The transmit counter restarts: the stamps go, and no round trip is measured (R380). -/
def State.transferRestart (s : State) : State :=
  let t : State := { s with tim := { s.tim with
    departures := [], arrivals := [], lastDeparture := none, sentStamps := [], rtts := [], secOffset := 0, secRtt := 0, secCount := 0, accepted16 := 0 } }
  t.wrN 0x1020 4 0xFFFFFFFF

/-- A multiframe begins: its time-transfer channel is composed and holds for its sixteen LFs, and its own departure is stamped
and, where its number is a multiple of 64, recorded; 4 096 are kept (R240, R379). -/
def State.departure (s : State) : State :=
  let d := s.departureStamp
  { s with tim := { s.tim with
    sentStamps := s.stampsNow, lastDeparture := some d
    departures := if s.mf % 64 = 0 then (lput s.mf d s.tim.departures).reverse.take 4096 |>.reverse
      else s.tim.departures } }

/-- The offset of the time selection, in ps. -/
def State.timeOffset (s : State) : Int :=
  match s.tim.timeSel with
  | some 6 => if s.rdN 0x8040 0x0C = 3 then s.rdI 0x8040 0x0B else s.rdI 0x8016 0x0A
  | some r => s.rdI (0x8010 + r) 0x0A
  | none => 0

/-- Device time moved by a number of ps, to the nearest 2^-16 ns below. -/
def State.moveTime (s : State) (ps : Int) : State := { s with devTime := ((s.devTime : Int) + ps * 65536 / 1000).toNat }

/-- An offset is to be removed: slewed up to the step threshold, stepped above it (R374). -/
def State.removeOffset (s : State) (ps : Int) : State :=
  let big := decide (s.rdN 0x8020 5 * 1000 < ps.natAbs)
  { s with tim := { s.tim with slew := if big then none else some ps, stepPending := if big then some ps else none } }

/-- One second of slewing, at most 8020:04 ns; the output frequency is offset by as much, 1 ps in a second being 0.1 of
0.01 ppb (R374). -/
def State.slewSecond (s : State) : State :=
  match s.tim.slew with
  | none =>
    if s.tim.slewing = 0 then s
    else
      let base := s.rdI 0x8020 0x0D - s.tim.slewing
      ({ s with tim := { s.tim with slewing := 0 } } : State).setOutput base
  | some ps =>
    let lim : Int := (s.rdN 0x8020 4 * 1000 : Nat)
    let m := max (-lim) (min lim ps)
    let base := s.rdI 0x8020 0x0D - s.tim.slewing
    let t : State := { s with tim := { s.tim with slew := if ps = m then none else some (ps - m), slewing := m / 10 } }
    (t.moveTime m).setOutput base

/-- One second of the move to a selected frequency while LOCKING: at most 8020:04 ns per second, which is 100 of 0.01 ppb for each
ns (R373, log entry 168). -/
def State.lockSecond (s : State) : State :=
  if s.dpll = 1 then
    let base := s.rdI 0x8020 0x0D - s.tim.slewing
    let lim : Int := (s.rdN 0x8020 4 * 100 : Nat)
    let d := max (-lim) (min lim (s.selectedFrequency - base))
    if d = 0 then s else s.setOutput (base + d)
  else s

/-- TRANSFER_SECOND: the exchanges accepted in the second are averaged, the round trip in multiframes updated; without one the time
part of the line fails (R367). The
time base is aligned to the selected candidate (R374, R380, R387). The phase of a PPS_IN candidate is what was measured, a
free value, less its input delay and taken modulo a second. Means are rounded freely. -/
def execTransferSecond (s : State) : Host.Outcome State Fault Refusal :=
  .next (if !s.itemRuns 8 || !s.on 0 then s
    else
      let n := s.tim.secCount
      let t : State := { s with
        tim := { s.tim with secOffset := 0, secRtt := 0, secCount := 0 }, free := s.free + 4 }
      let t :=
        if n = 0 then
          let u := t.wrN 0x8040 0x0C (if !s.rdB 0x8040 1 then 0 else if s.rdN 0x8040 0x0C = 3 then 3 else 1)
          u.whenB ((u.cand 6).time && decide (u.rdN 0x8040 0x0C ≠ 3)) fun v => v.candFail 6 5
        else
          let off := roundFree s.free s.tim.secOffset (131072 * n)
          let rtt := (roundFree (s.free + 1) s.tim.secRtt (65536 * n)).toNat
          let u := ((t.wrI 0x8016 0x0A off).wrI 0x8040 6 off).wrN 0x8040 5 rtt
          let u := if 16 ≤ u.tim.accepted16 then u.wrN 0x1020 4 (ceilDiv (1000 * rtt) u.shown.multiframeFs) else u
          u.wrN 0x8040 0x0C 2
      let t := t.each [4, 5] fun u r =>
        if (u.cand r).time then
          let p : Int := (Config.freeNat (s.free + r - 2) : Nat) - u.rdI (0x8010 + r) 6
          u.wrI (0x8010 + r) 0x0A ((p + 500000000000) % 1000000000000 - 500000000000)
        else u
      let t := t.slewSecond.lockSecond
      if t.tim.timeSel.isSome && !t.tim.xoFail && decide (t.dpll ≠ 4) then
        let o := t.timeOffset
        let good := if o.natAbs ≤ 100000 then t.tim.goodFor + 1 else 0
        let t := t.removeOffset o
        let t : State := { t with tim := { t.tim with goodFor := good } }
        (t.wrN 0x8030 4 (if 10 ≤ good ∧ t.dpll = 2 then 4 else 3)).timingReport
      else t.timingReport)

/-- CROSSING_CALIBRATION: of the crossings on the stamp path, while its domains are powered (R381). -/
def execCrossingCalibration (ps : Int) (s : State) : Host.Outcome State Fault Refusal :=
  .next (if s.on 14 && s.on 16 then s.wrI 0x8040 9 ps else s)

/-- TIME_STEP: the offset waiting is stepped at the whole second, and counted (R374). -/
def execTimeStep (s : State) : Host.Outcome State Fault Refusal :=
  .next (match s.tim.stepPending with
    | none => s
    | some ps =>
      let t : State := { s with tim := { s.tim with stepPending := none } }
      ((t.moveTime ps).inc32 0x8030 6).count .timeStep)

/-- TIME_RECEIVE: a picot TIME message, with the arrival of its first body symbol; the formula of R380 over its stamps
and the own departure it names gives the picot offset, in whole ps rounded freely (R359, R383). -/
def execTimeReceive (rx : PicotRx) (payload : List Byte) (arrival : Nat) (s : State) : Host.Outcome State Fault Refusal :=
  .next (s.picotIn rx (decide (payload.length = 32)) fun t =>
    let stamp := fun (o : Nat) => (ofTime96 (time96OfBytes (slice payload o 12)) : Int)
    let flags := beField payload 28 1
    let u : State := { t with pic := { t.pic with farTimeSeq := beField payload 12 2, farTimeArrival := arrival } }
    match lget (beField payload 14 2) t.pic.timeSent with
    | some t1 =>
      if bit flags 0 && bit flags 1 then
        let d := (stamp 16 - (t1 : Int)) - ((arrival : Int) - stamp 0)
        u.drawn.wrI 0x8040 0x0B (roundFree u.free (d * 1000) 131072 - u.rdI 0x8040 2)
      else u
    | none => u)

/-! ### Time base and outputs (R375, R385, R386) -/

/-- The rule of 8030:02: the next whole second becomes the value written (R386). -/
def State.setTimeEffect (s : State) (v : Int) : Effect :=
  { fails := need s.tim.timeSel.isNone .conflict
    state :=
      let t : State := { s with tim := { s.tim with setPending := some (ofTime96 v) } }
      (t.clear 0x8000 0x0C 2).timingReport }

/-- SET_TIME (R386): `t` is the TIME96 value written. -/
def execSetTime (t : Nat) (s : State) : Host.Outcome State Fault Refusal :=
  .next (s.command 0x8030 2 (.num t) (s.setTimeEffect t))

/-- The rule of 8030:03 (R375). -/
def State.phaseAdjustEffect (s : State) (ns : Int) : Effect :=
  { fails := need (s.rdN 0x8020 1 == 1) .conflict, state := s.removeOffset (ns * 1000) }

/-- PHASE_ADJUST (R375). -/
def execPhaseAdjust (ns : Int) (s : State) : Host.Outcome State Fault Refusal :=
  .next (s.command 0x8030 3 (.num ns) (s.phaseAdjustEffect ns))

/-- Whether the outputs are squelched (R385). -/
def State.squelched (s : State) : Bool :=
  (s.rdN 0x8050 7 == 1 && s.dpll == 0) || (s.rdN 0x8050 7 == 2 && (s.dpll == 0 || s.dpll == 3))

/-- The frequency in Hz that CLK_OUT0 or CLK_OUT1 carries; nothing while its output is held low (R385, R392, R538). -/
def State.clockOut (s : State) (i : Nat) : Option Nat :=
  if s.pow.configured && s.rdBit 0x8050 6 i && !s.squelched then some (s.rdN 0x8050 (4 + i)) else none

/-- PPS_OUT_EDGE: a pulse, unless it is disabled, squelched, unconfigured or less than 0.5 s after the last (R385,
R538). -/
def execPpsOutEdge (s : State) : Host.Outcome State Fault Refusal :=
  .next (
    let close := match s.tim.lastPulse with | some p => decide (s.uptime < p + 500000) | none => false
    if !s.pow.configured || !s.rdB 0x8050 1 || s.squelched || close then s
    else
      let t : State := { s with tim := { s.tim with lastPulse := some s.uptime } }
      t.emit (.pulse s.devTime (s.rdN 0x8050 2)))

/-- TIME_OF_DAY_UPDATE: 8030:05 holds the time of the next edge, the next whole second and the offset of 8050:03
(R385). -/
def execTimeOfDayUpdate (s : State) : Host.Outcome State Fault Refusal :=
  .next (if !s.on 0 then s
    else
      let sec : Int := ((s.devTime / 65536000000000 + 1) * 65536000000000 : Nat)
      s.wr 0x8030 5 (time96 (sec + s.rdI 0x8050 3 * 65536 / 1000).toNat))

/-! ### Writes to the timing records (R370, R375, R390) -/

/-- The rule of writes to 8000. -/
def State.selectEffect (s : State) (sub : Nat) (v : DVal) : Effect :=
  let n := v.int.toNat
  let t := s.wr 0x8000 sub v
  match sub with
  | 6 => { fails := need (n == 255 || s.candOn n) .conflict, state := t.reselect }
  | 7 => { fails := need (n == 255 || decide (4 ≤ n)) .outOfRange ++ need (n == 255 || s.candOn n) .conflict, state := t.reselect }
  | _ => .ok t.reselect

/-- The rule of writes to 8010+r. Enabling a candidate forgets its failures (R367). -/
def State.candEffect (s : State) (r sub : Nat) (v : DVal) : Effect :=
  let t := s.wr (0x8010 + r) sub v
  match sub with
  | 1 =>
    let fresh := decide (v.int = 1) && !s.rdB (0x8010 + r) 1
    .ok (if fresh then ((t.setCand r { Cand.start with since := t.uptime }).wrN (0x8010 + r) 0x0D 0).reselect
         else if v.int = 0 then (t.setCand r Cand.start).reselect else t)
  | 2 => { fails := need (decide (r < 4)) .conflict, state := t }
  | 3 => .ok (if r < 6 ∧ qlRank v.int.toNat = 4 then t.candFail r 3 else t.reselect)
  | 4 => .ok t.reselect
  | _ => .ok t

/-- The rule of a write to 8040:01: disabled, the transfer is off at once; enabled, it has no exchange yet (R392). -/
def State.transferEffect (s : State) (v : DVal) : Effect :=
  let t := s.wr 0x8040 1 v
  .ok (if v.int = 0 then t.wrN 0x8040 0x0C 0 else if s.rdB 0x8040 1 then t else t.wrN 0x8040 0x0C 1)

/-- The rule of writes to 8020: the loop mode, and the steering frequency (R375). -/
def State.dpllEffect (s : State) (sub : Nat) (v : DVal) : Effect :=
  match sub with
  | 1 =>
    let out := s.rdI 0x8020 0x0D
    let enters := decide (v.int = 1) && s.rdN 0x8020 1 != 1
    let t := (s.wr 0x8020 1 v).whenB enters fun u => u.wrI 0x8020 6 out
    .ok (((t.dpllJudge (decide (v.int ≠ s.rdI 0x8020 1))).reselect))
  | 6 =>
    let t := s.wr 0x8020 6 v
    { fails := need (s.rdN 0x8020 1 == 1) .conflict, state := if s.dpll = 4 then t.setOutput v.int else t }
  | _ => .ok (s.wr 0x8020 sub v)

/-- The line and bobbin candidates fail when QUIET is entered (R388). -/
def State.timingQuiet (s : State) : State := ((s.candFail 6 4).candFail 7 4).candFail 8 4

end Sys2Proof.Machine
end

