-- ==== Sys2Proof/Machine/Lanes.lean ====
section
/-! DEFINITION. Host, bobbin and PCIe lanes (spec/13_lanes.md R393 to R422): acquisition of the host lanes, the bobbin lane
layer, lane tests, and the PCIe endpoint with its vectors and wake causes. -/

namespace Sys2Proof.Machine

/-! ### Host lanes (R397 to R399) -/

/-- Whether every lane of port p is up. -/
def State.portUp (s : State) (p : Nat) : Bool := (List.range 16).all fun l => !s.laneOf p l || s.laneState l == 3

/-- LANE_SIGNAL_DETECT: the lane acquires, warm where its stored state was measured at this rate (R399). -/
def execLaneSignalDetect (l : Fin 16) (s : State) : Host.Outcome State Fault Refusal :=
  .next (match s.lanePort l.val with
    | none => s
    | some p =>
      if !bit s.lanesPowered l.val || !(s.laneState l.val == 1 || s.laneState l.val == 5) then s
      else
        let b := s.rdS (laneIdx l.val) 7
        let warm := decide (b ≠ []) && (b.headD 0).toNat == s.rdN (0x9010 + p) 3
        let t := s.wrN (laneIdx l.val) 1 2
        { t with lan := { t.lan with warm := if warm then addTo l.val t.lan.warm else dropFrom l.val t.lan.warm } })

/-- LANE_ADAPTATION_DONE: the lane is up and its state kept, unless the adaptation is fixed; or it fails, a warm start
into a cold one, and is counted. The electrical SNR is what was measured, a free value (R399, R413). -/
def execLaneAdaptationDone (l : Fin 16) (ok : Bool) (state : List Byte) (s : State) : Host.Outcome State Fault Refusal :=
  .next (match s.lanePort l.val with
    | none => s
    | some p =>
      let i := laneIdx l.val
      if s.laneState l.val ≠ 2 then s
      else if ok then
        let code := s.rdN (0x9010 + p) 3
        let t := (s.wrN i 1 3).whenB (s.rdN i 5 != 2) fun u => u.wrS i 7 (beBytes 1 code ++ padTo 31 ((state.drop 1).take 31))
        let t := t.drawn.wrI i 8 (signedOf 2 (t.freeNat % 65536))
        if t.portMode p = 2 && t.portUp p then t.clear (0x7010 + p) 0x14 0 else t
      else
        let t := s.inc32 i 9
        if s.lan.warm.contains l.val then { t with lan := { t.lan with warm := dropFrom l.val t.lan.warm } }
        else t.wrN i 1 5)

/-- LANE_RETRY_TIMER: a failed lane retries cold (R399). -/
def execLaneRetryTimer (l : Fin 16) (s : State) : Host.Outcome State Fault Refusal :=
  .next (if s.laneState l.val = 5 && bit s.lanesPowered l.val then s.wrN (laneIdx l.val) 1 2 else s)

/-- LANE_SIGNAL_LOSS: the lane loses signal detect, CDR lock or its frequency; an Ethernet port loses alignment, and a CBR client is in
loss of signal (R397, R411). -/
def execLaneSignalLoss (l : Fin 16) (s : State) : Host.Outcome State Fault Refusal :=
  .next (match s.lanePort l.val with
    | none => s
    | some p =>
      if !bit s.lanesPowered l.val then s
      else
        let t := (s.wrN (laneIdx l.val) 1 1).countRaise (.hostLos l.val)
        let t : State := { t with lan := { t.lan with aligned := dropFrom p t.lan.aligned } }
        t.signalLost p)

/-- PCS_ALIGNED: with every lane up the port's PCS aligns and its traffic flows; the skew between its lanes is what was
measured, a free value (R399, R412). -/
def execPcsAligned (p : Fin 16) (s : State) : Host.Outcome State Fault Refusal :=
  .next (if s.portMode p.val = 1 && decide ((s.laneSpan p.val).2 ≠ 0) && s.portUp p.val then
      let t : State := { s with lan := { s.lan with aligned := addTo p.val s.lan.aligned } }
      let t := t.drawn.wrN (0x9010 + p.val) 5 (t.freeNat % 2 ^ 32)
      (t.clear (0x7010 + p.val) 0x14 0).clear (0x7010 + p.val) 0x14 1
    else s)

/-! ### Lane settings and tests (R400, R408 to R410) -/

/-- A bobbin lane's receiver before any marker. -/
def BobLane.start : BobLane :=
  { lockRun := 0, missRun := 0, lastCounter := 0, locked := false, retired := false, readmitting := false, resume := false, skew := 0,
    cleanAt := 0 }

/-- The rules of writes to a lane record (R400, R409, R410, R413). -/
def State.laneEffect (s : State) (l sub : Nat) (v : DVal) : Effect :=
  let i := laneIdx l
  let t := s.wr i sub v
  let free := need (!s.laneUsed l || s.inMode .test) .conflict
  match sub with
  | 2 =>
    let taps := v.str.map fun b => signedOf 1 b.toNat
    { fails := need (taps.all (fun c => decide (-16 ≤ c ∧ c ≤ 16)) && decide ((taps.map Int.natAbs).sum ≤ 24)) .outOfRange
      state := t }
  | 3 => { fails := need (decide (v.int % 50 = 0)) .outOfRange, state := t }
  | 0x0A | 0x0B =>
    { fails := if v.int = 0 then [] else free
      state := if t.laneTested l then t.wrN i 1 6 else if s.laneState l = 6 then t.wrN i 1 (if bit t.lanesPowered l then 1 else 0) else t }
  | 0x0F =>
    { fails := if v.int = 0 then [] else free
      state := if v.int = 0 then t else t.emit (.bitFlip l (if v.int = 1 then 0 else s.rdN i 0x10)) }
  | _ => .ok t

/-- INJECT_SINGLE: one transmitted bit is inverted (R410). -/
def execInjectSingle (l : Fin 32) (s : State) : Host.Outcome State Fault Refusal :=
  .next (s.command (laneIdx l.val) 0x0F (.num 1) (s.laneEffect l.val 0x0F (.num 1)))
/-- INJECT_CONTINUOUS: each bit is inverted with probability 2^-n (R410). -/
def execInjectContinuous (l : Fin 32) (s : State) : Host.Outcome State Fault Refusal :=
  .next (s.command (laneIdx l.val) 0x0F (.num 2) (s.laneEffect l.val 0x0F (.num 2)))

/-- Leaving TEST sets every generator and checker on lanes in use to 0 (R409). -/
def State.lanesLeaveTest (s : State) : State :=
  s.each ((List.range 32).filter s.laneUsed) fun t l =>
    let i := laneIdx l
    let t := (t.wrN i 0x0A 0).wrN i 0x0B 0
    if t.laneState l = 6 then t.wrN i 1 (if bit t.lanesPowered l then 1 else 0) else t

/-! ### The bobbin lane layer (R401 to R407) -/

/-- The receiver of bobbin lane b. -/
def State.bobLane (s : State) (b : Nat) : BobLane := lgetD b BobLane.start s.lan.bob
/-- The receiver of bobbin lane b changed. -/
def State.setBobLane (s : State) (b : Nat) (x : BobLane) : State :=
  { s with lan := { s.lan with bob := lput b x s.lan.bob } }
/-- The lane layer of bobbin port q. -/
def State.bobPort (s : State) (q : Nat) : BobPort :=
  lgetD q { pendingMask := none, announced := 0, rxPending := none, rxSeen := 0, rxAt := 0, farRequest := 0 } s.lan.ports
/-- The lane layer of bobbin port q changed. -/
def State.setBobPort (s : State) (q : Nat) (x : BobPort) : State :=
  { s with lan := { s.lan with ports := lput q x s.lan.ports } }

/-- Payload of a port of `n` lanes in b/s, rounded down (R401, R414). -/
def bobPayload (n : Nat) : Nat := n * 19999755859375 / 100

/-- Whether bobbin port q is powered and its lanes are not idle. -/
def State.bobLit (s : State) (q : Nat) : Bool := s.grouped && s.on (20 + q) && !s.rdB (0x9060 + q) 8

/-- The lane acquisition of port q begins: all lanes striped, markers hunted (R399, R401, R434). -/
def State.bobPortStart (s : State) (q : Nat) : State :=
  let t := s.each (List.range 8) fun u i =>
    let b := 8 * q + i
    ((u.setBobLane b BobLane.start).wrN (0x9040 + b) 1 2).wrN (0x9040 + b) 0x15 0
  let t := t.setBobPort q { pendingMask := none, announced := 0, rxPending := none, rxSeen := 0, rxAt := 0, farRequest := 0 }
  ((((t.wrN (0x9060 + q) 1 0xFF).wrN (0x9060 + q) 2 0xFF).wrN (0x9060 + q) 3 0).wrN (0x9060 + q) 8 0).wrN (0x9060 + q) 9
    (bobPayload 8)

/-- BOBBIN_LANE_RETIRE: the receiver asks the far end to stop striping on the lane (R405). -/
def State.retireBob (s : State) (b cause : Nat) : State :=
  let x := s.bobLane b
  if x.retired then s
  else
    let t := s.setBobLane b { x with retired := true, readmitting := false, resume := false }
    (((t.wrN (0x9040 + b) 1 4).wrN (0x9040 + b) 0x17 cause).wrBit (0x9060 + b / 8) 3 (b % 8) true).count (.laneRetired b)

/-- Marker lock of a lane after a marker: it locks after two that fit, or when it leaves electrical idle on the first, where that
confirms the counter held, and loses lock after four that do not fit (R403, R407). -/
def markerLock (x : BobLane) (m : Marker) : BobLane :=
  let fits := m.crcOk && m.counter == x.lastCounter + 1
  if x.resume then
    let ok := m.crcOk && (m.counter == x.lastCounter || m.counter == x.lastCounter + 1)
    { x with resume := false, locked := ok, lastCounter := m.counter, missRun := 0, lockRun := 0 }
  else if x.locked then
    if fits then { x with missRun := 0, lastCounter := m.counter }
    else if 3 ≤ x.missRun then { x with locked := false, lockRun := 0, missRun := 0 }
    else { x with missRun := x.missRun + 1, lastCounter := x.lastCounter + 1 }
  else if !m.crcOk then { x with lockRun := 0 }
  else if fits && decide (1 ≤ x.lockRun) then { x with locked := true, lockRun := 0, missRun := 0, lastCounter := m.counter }
  else { x with lockRun := 1, lastCounter := m.counter }

/-- The switch announcements of the far end: its next mask takes force at the marker whose counter at least two earlier
markers named (R404). -/
def State.rxAnnounce (s : State) (q : Nat) (m : Marker) : State :=
  let x := s.bobPort q
  let x := { x with farRequest := m.retire }
  match x.rxPending with
  | some (mask, at_) =>
    if m.counter = at_ ∧ 2 ≤ x.rxSeen then
      (s.setBobPort q { x with rxPending := none, rxSeen := 0 }).wrN (0x9060 + q) 2 mask
    else if m.switchAt = at_ ∧ m.maskNext = mask ∧ x.rxAt < m.counter then
      s.setBobPort q { x with rxSeen := x.rxSeen + 1, rxAt := m.counter }
    else if m.switchAt ≠ 0 ∧ m.switchAt ≠ at_ then
      s.setBobPort q { x with rxPending := some (m.maskNext, m.switchAt), rxSeen := 1, rxAt := m.counter }
    else s.setBobPort q x
  | none =>
    if m.switchAt ≠ 0 ∧ m.counter < m.switchAt then
      s.setBobPort q { x with rxPending := some (m.maskNext, m.switchAt), rxSeen := 1, rxAt := m.counter }
    else s.setBobPort q x

/-- What a marker of lane b brings to the lane layer (R403 to R405). -/
def State.markerIn (s : State) (b : Nat) (m : Marker) : State :=
  let q := b / 8
  if !s.bobLit q then s
  else
    let i := 0x9040 + b
    let old := s.bobLane b
    let lock := markerLock old m
    let clean := lock.locked && old.locked && m.uncorrectable == 0
    let new := { lock with skew := m.skewPs, cleanAt := if clean then old.cleanAt else s.uptime }
    let t := s.setBobLane b new
    let t := (((t.bump i 0x11 64 4096).bump i 0x12 64 m.corrected).bump i 0x13 64 m.uncorrectable).bump i 0x14 64 m.symbols
    let t := t.wrB i 0x15 new.locked
    let t := if new.locked && !old.locked && !new.retired then t.wrN i 1 3 else t
    let t := if m.crcOk && new.locked then (t.rxAnnounce q m).wrN (0x9060 + q) 5 (min 40000 m.skewPs) else t
    if old.locked && !new.locked then t.retireBob b 2
    else if new.locked && decide (40000 < m.skewPs) then t.retireBob b 3
    else if new.locked && decide (t.rdN (0x9060 + q) 7 < m.uncorrectable) then t.retireBob b 1
    else t

/-- The lanes that would be left after the retire requests of either end. -/
def State.lanesLeft (s : State) (q : Nat) : Nat :=
  8 - max (popcount 8 (s.bobPort q).farRequest) (popcount 8 (s.rdN (0x9060 + q) 3))

/-- A marker on every lane of port q with the counter as it stands (R402). -/
def State.sendMarkers (s : State) (q : Nat) (idle : Bool) : State :=
  let p := (s.bobPort q).pendingMask
  s.each (List.range 8) fun u i => u.emit (.marker q
    { lane := i, port := q, position := u.ownPosition, idle := idle, maskNow := u.rdN (0x9060 + q) 1
      maskNext := match p with | some m => m.1 | none => u.rdN (0x9060 + q) 1
      retire := u.rdN (0x9060 + q) 3, switchAt := match p with | some m => m.2 | none => 0
      counter := u.rdN (0x9060 + q) 4, crcOk := true, skewPs := 0, uncorrectable := 0, corrected := 0, symbols := 0 })

/-- While port q is idle the counters that its lanes hold run on with its own (R407). -/
def State.idleRun (s : State) (q : Nat) : State :=
  s.each (List.range 8) fun u i =>
    let x := u.bobLane (8 * q + i)
    u.setBobLane (8 * q + i) { x with lastCounter := x.lastCounter + 1 }

/-- The markers of port q in one slot: the counter rises, a due switch takes force, and a changed request is announced
for two markers later, where enough lanes would be left (R404, R405). -/
def State.markerOut (s : State) (q : Nat) (idle : Bool) : State :=
  let c := s.rdN (0x9060 + q) 4 + 1
  let t := s.wrN (0x9060 + q) 4 (c % 2 ^ 64)
  if s.rdB (0x9060 + q) 8 && !idle then t.idleRun q
  else
    let x := t.bobPort q
    let t : State := match x.pendingMask with
      | some (mask, at_) =>
        if c = at_ then
          ((t.setBobPort q { x with pendingMask := none, announced := 0 }).wrN (0x9060 + q) 1 mask).wrN (0x9060 + q) 9
            (bobPayload (popcount 8 mask))
        else t.setBobPort q { x with announced := x.announced + 1 }
      | none => t
    let x := t.bobPort q
    let want := maskOf 8 fun i => !bit x.farRequest i
    let t : State := if x.pendingMask = none ∧ want ≠ t.rdN (0x9060 + q) 1 ∧ t.rdN 0x9000 4 ≤ popcount 8 want then
        t.setBobPort q { x with pendingMask := some (want, c + 2), announced := 1 }
      else t
    t.sendMarkers q idle

/-- LANE_READMIT_COMMAND starts the re-admission of a retired lane (R406). -/
def State.readmitEffect (s : State) (b : Nat) : Effect :=
  .ok (if (s.bobLane b).retired then s.setBobLane b { s.bobLane b with readmitting := true } else s)

/-- LANE_READMIT_COMMAND (R406). -/
def execLaneReadmitCommand (b : Fin 16) (s : State) : Host.Outcome State Fault Refusal :=
  .next (s.command (0x9040 + b.val) 0x16 (.num 2) (s.readmitEffect b.val))

/-- LANE_READMIT_TIMER: after 100 ms with marker lock, no uncorrectable codeword and its skew within 40 ns the receiver clears its
request, where re-admission is automatic or was commanded (R403, R406). -/
def execLaneReadmitTimer (b : Fin 16) (s : State) : Host.Outcome State Fault Refusal :=
  .next (
    let x := s.bobLane b.val
    let q := b.val / 8
    if s.bobLit q && x.retired && x.locked && decide (x.skew ≤ 40000) && decide (x.cleanAt + 100000 ≤ s.uptime)
        && (x.readmitting || s.rdB (0x9060 + q) 6) then
      let t := s.setBobLane b.val { x with retired := false, readmitting := false }
      ((t.wrN (0x9040 + b.val) 1 3).wrN (0x9040 + b.val) 0x17 0).wrBit (0x9060 + q) 3 (b.val % 8) false
    else s)

/-- The lanes of port q enter electrical idle after a marker with the idle notice; a re-admission is abandoned (R406,
R407). -/
def State.bobIdleEnter (s : State) (q : Nat) : State :=
  if !s.bobLit q then s
  else
    let t := (s.markerOut q true).wrN (0x9060 + q) 8 1
    t.each (List.range 8) fun u i =>
      let b := 8 * q + i
      let u := u.setBobLane b { u.bobLane b with readmitting := false, cleanAt := u.uptime }
      if (u.bobLane b).retired then u else u.wrN (0x9040 + b) 1 1

/-- The lanes of port q leave electrical idle: each sends a training burst and at once a marker with the running counter, and its
receiver locks on the first marker (R407). -/
def State.bobIdleExit (s : State) (q : Nat) : State :=
  if s.rdB (0x9060 + q) 8 && s.on (20 + q) then
    let t := ((s.wrN (0x9060 + q) 8 0).emit (.training q)).sendMarkers q false
    t.each (List.range 8) fun u i =>
      let b := 8 * q + i
      let u := u.setBobLane b { u.bobLane b with resume := true }
      if (u.bobLane b).retired then u else u.wrN (0x9040 + b) 1 3
  else s

/-! ### The PCIe endpoint (R415 to R422) -/

/-- The latched and enabled wake causes that a path has not signalled yet: paths 0 PM_PME, 1 WAKE_N, 2 vector 2 (R420). -/
def State.wakeFresh (s : State) (path : Nat) : List Nat :=
  (List.range 4).filter fun c => s.rdBit 0x9080 8 c && s.rdBit 0x9080 7 c && !bit s.lan.signalled (4 * path + c)

/-- The causes of a path marked as signalled. -/
def State.wakeMark (s : State) (path : Nat) (cs : List Nat) : State :=
  { s with lan := { s.lan with signalled := cs.foldl (fun a c => setBit a (4 * path + c)) s.lan.signalled } }

/-- WAKE_N driven or released (R420). -/
def State.wakeN (s : State) (low : Bool) : State :=
  if s.lan.wakeLow = low then s
  else
    let t : State := { s with lan := { s.lan with wakeLow := low } }
    (t.whenB low fun u => u.inc32 0x9080 9).emit (.wakeN low)

/-- The latched causes signalled as the power state asks: PM_PME in D3hot, WAKE_N in L2, vector 2 in D0 once MSI-X is
enabled; none while the link trains or is down, nor in the first millisecond of L2 (R420, R421). -/
def State.wakeSignal (s : State) : State :=
  if s.lan.l2 then
    if s.lan.wakeDue.isSome then s else match s.wakeFresh 1 with
    | [] => s
    | cs => (s.wakeMark 1 cs).wakeN true
  else if !s.lan.pcieUp then s
  else if s.lan.d3 then
    match s.wakeFresh 0 with
    | [] => s
    | cs =>
      let t := s.wakeMark 0 cs
      let t : State := { t with lan := { t.lan with pmeStatus := true } }
      ((t.wrN 0x9080 1 2).inc32 0x9080 0x0A).emit .pmPme
  else if s.lan.msixEnabled then
    match s.wakeFresh 2 with
    | [] => s
    | cs => (s.wakeMark 2 cs).vector 2
  else s

/-- A wake cause is latched and signalled (R420). -/
def State.wakeRaise (s : State) (c : Nat) : State :=
  if s.on 0 then (s.wrBit 0x9080 8 c true).wakeSignal else s

/-- WAKE_CAUSE (R420). -/
def execWakeCause (c : WakeCause) (s : State) : Host.Outcome State Fault Refusal :=
  .next (s.wakeRaise (match c with | .safe => 0 | .shed => 1 | .notification => 2 | .alert => 3))

/-- The link goes down: what the endpoint and its configuration space hold is lost (R419). -/
def State.pcieDown (s : State) : State :=
  let t := s.whenB s.lan.pcieUp fun u => u.countRaise .pcieDown
  let t : State := { t with lan := { t.lan with
    pcieUp := false, d3 := false, pmeStatus := false, msixEnabled := false, msixTable := [], pba := 0 } }
  (((t.wrN 0x9080 1 0).wrN 0x9080 2 0).wrN 0x9080 3 0).wrN 0x9080 6 0

/-- PERST_ASSERT (R419). -/
def execPerstAssert (s : State) : Host.Outcome State Fault Refusal :=
  .next (
    let l2 := s.lan.l2
    let t := s.pcieDown
    { t with lan := { t.lan with perst := true, l2 := l2 } })

/-- The link trains, once PERST_N is high and BOOT has begun; configuration requests are to be tried again until 60 ms later
(R419). -/
def State.pcieTrain (s : State) : State :=
  if !s.lan.perst && s.on 1 && !s.lan.pcieUp then
    ({ s with lan := { s.lan with crsUntil := s.uptime + 60000 } } : State).wrN 0x9080 1 1
  else s

/-- PERST_DEASSERT: the link trains, and WAKE_N is released (R419, R420). -/
def execPerstDeassert (s : State) : Host.Outcome State Fault Refusal :=
  .next (
    let t := s.wakeN false
    let t : State := { t with lan := { t.lan with perst := false, l2 := false, wakeDue := none } }
    t.pcieTrain)

/-- PCIE_LINK_TRAINED: the link reaches L0 within what the endpoint advertises (R415, R419, R422). -/
def execPcieLinkTrained (width speed : Nat) (s : State) : Host.Outcome State Fault Refusal :=
  .next (if s.rdN 0x9080 1 = 1 && !s.lan.perst && s.on 1 then
      let t : State := { s with lan := { s.lan with pcieUp := true, l2 := false } }
      (((t.wrN 0x9080 1 2).wrN 0x9080 2 (min (t.rdN 0x9080 5) width)).wrN 0x9080 3 (min (t.rdN 0x9080 4) speed)).wakeSignal
    else s)

/-- DEVICE_STATE_WRITE: D0 or D3hot, whose link rests in L1, with MSI-X Enable and the bytes that the host has written to the
MSI-X table; vectors that this lets through and causes latched meanwhile are signalled (R415, R417, R420, R421, log entry
171). -/
def execDeviceStateWrite (d3 msix : Bool) (table : List (Nat × Byte)) (s : State) : Host.Outcome State Fault Refusal :=
  .next (if !s.lan.pcieUp || decide (s.uptime < s.lan.crsUntil) then s
    else
      let t : State := { s with lan := { s.lan with
        d3 := d3, msixEnabled := msix, msixTable := table.foldl (fun m x => if x.1 < 1024 then lput x.1 x.2 m else m) s.lan.msixTable } }
      ((t.wrN 0x9080 6 (if d3 then 3 else 0)).wrN 0x9080 1 (if d3 then 3 else 2)).msixFlush.wakeSignal)

/-- A byte of BAR0 as the host reads it, past the mailbox: the MSI-X table, the PBA, and 0 in what is reserved (R417). -/
def State.barByte (s : State) (off : Nat) : Byte :=
  if 0x4000 ≤ off ∧ off < 0x4400 then s.msixByte (off - 0x4000)
  else if 0x4800 ≤ off ∧ off < 0x4808 then BitVec.ofNat 8 (s.lan.pba / 256 ^ (off - 0x4800))
  else 0

/-- The Device ID of an ordering code (R416). -/
def deviceId (code : Nat) : Nat := match code with | 0 => 0x3208 | 1 => 0x1608 | _ => 0x320E

/-- The identity words of the configuration space, by their offset in a type 0 header: Device and Vendor ID, class code and
Revision ID, Subsystem ID and Subsystem Vendor ID. The outer `none` is Configuration Request Retry Status, the inner one a word that
R416 does not give (R416, R419). -/
def State.configWord (s : State) (off : Nat) : Option (Option Nat) :=
  if s.uptime < s.lan.crsUntil then none
  else match off with
    | 0 => some (some (deviceId s.fuse.code.val * 65536 + 0x1E7B))
    | 8 => some (some (0x028000 * 256 + 0xA1))
    | 0x2C => some (some (s.rdN 0x9080 0x0E * 65536 + s.rdN 0x9080 0x0D))
    | _ => some none

/-- The Device Serial Number: the first eight bytes of 0001:02 (R415). -/
def State.serialNumber (s : State) : List Byte := padTo 8 (s.fuse.serial.take 8)

/-- PME_STATUS_CLEAR: PME_Status and the latched causes clear together (R420). -/
def execPmeStatusClear (s : State) : Host.Outcome State Fault Refusal :=
  .next (if !s.lan.pcieUp then s
    else
      let t : State := { s with lan := { s.lan with pmeStatus := false, signalled := 0 } }
      t.wrN 0x9080 8 0)

/-- PME_TURN_OFF: acknowledged; the link reaches L2, and a latched cause asserts WAKE_N 1 ms later (R421). -/
def execPmeTurnOff (s : State) : Host.Outcome State Fault Refusal :=
  .next (if !s.lan.pcieUp then s
    else
      let t := s.emit .pmeToAck
      let t : State := { t with lan := { t.lan with l2 := true, pcieUp := false, wakeDue := some (s.uptime + 1000) } }
      t.wrN 0x9080 1 4)

/-- A latched cause asserts WAKE_N once the link has been in L2 for 1 ms (R421). -/
def State.wakeTick (s : State) : State :=
  match s.lan.wakeDue with
  | some d => if d ≤ s.uptime then ({ s with lan := { s.lan with wakeDue := none } } : State).wakeSignal else s
  | none => s

end Sys2Proof.Machine
end

