-- ==== Sys2Proof/Machine/Engines.lean ====
section
/-! DEFINITION. Engine clusters, work items and their moves (spec/15_engines_matrix_dma.md R449 to R459). -/

namespace Sys2Proof.Machine

/-! ### Readings -/

/-- The state of cluster n (R451). -/
def State.clState (s : State) (n : Nat) : Nat := s.rdN (0x9410 + n) 1
/-- The work item of cluster n, 255 for none. -/
def State.clItem (s : State) (n : Nat) : Nat := s.rdN (0x9410 + n) 2
/-- A cluster's state set; one made running is counted (R459). -/
def State.setCl (s : State) (n v : Nat) : State :=
  (s.whenB (v == 2 && s.clState n != 2) fun t => t.inc32 (0x9410 + n) 8).wrN (0x9410 + n) 1 v
/-- The cluster that carries work item w, 255 for none. -/
def State.itemAt (s : State) (w : Nat) : Nat := s.rdN (0x9420 + w) 1
/-- The rank of work item w (R456). -/
def itemRank (w : Nat) : Nat :=
  match w with
  | 10 => 6 | 8 => 5 | 0 => 4 | 1 => 4 | 2 => 4 | 3 => 4 | 6 => 3 | 7 => 3 | 4 => 2 | 5 => 2 | _ => 1

/-- Whether work item w may be placed on cluster n (R450). -/
def mayPlace (w n : Nat) : Bool := !(w == 8 || w == 10) || decide (6 ≤ n)

/-- The clusters of a state, ascending. -/
def State.clustersIn (s : State) (v : Nat) : List Nat := (List.range 12).filter fun n => s.clState n == v

/-- The order in which an update takes the work items (R512). -/
def updateOrder : List Nat := [10, 8, 9, 4, 5, 6, 7, 0, 1, 2, 3]

/-- 9C10:05 while an update runs: the items on clusters that hold the new image, whichever move brought them there (R514). -/
def State.updateReport (s : State) : State :=
  match s.boot.update with
  | some u => s.wrN 0x9C10 5 (updateOrder.filter fun w => u.fresh.contains (s.itemAt w)).length
  | none => s

/-- Record 9400 brought up to date: spares, suspended items and the engine defects (R459); the calibration loops follow work
item 9 (R28, R134), and an update's count the items' places (R514). -/
def State.engReport (s : State) : State :=
  let s := s.updateReport
  let susp := maskOf 11 fun w => s.rdN (0x9420 + w) 3 == 2
  let n := (s.clustersIn 3).length
  (((s.wrN 0x9400 1 n).wrN 0x9400 2 susp).defect 0x9400 6 0 (decide (n = 0))).defect 0x9400 6 1 (decide (susp ≠ 0)) |>.convJudge

/-- The lowest-numbered ready spare that may carry work item w (R454). -/
def State.spareFor (s : State) (w : Nat) : Option Nat := (s.clustersIn 3).find? (mayPlace w)

/-- Whether a record is held in island n alone: a receive thread's or an engine cluster's (R11, R528). -/
def islandHolds (n idx : Nat) : Bool :=
  (decide (8 ≤ n ∧ n < 40) && idx + 8 == 0x2810 + n) || (decide (92 ≤ n ∧ n < 104) && idx + 92 == 0x9410 + n)

/-- An ISLAND reset of island n, with its cause of 1000:06: its class V values take their defaults, but for a cluster's state and
work item, which say what stands after the reload; subscriptions survive only a HITLESS RESTART (R80, R526, R529, R539, log entry
36). -/
def State.islandReset (s : State) (n cause : Nat) : State :=
  let s : State := { s with
    srv := { s.srv with subs := [] }
    eng := { s.eng with misses := s.eng.misses.filter fun m => decide (m.1 / 8 + 92 ≠ n) } }
  let s := s.clearIdx fun i u => islandHolds n i && !(decide (92 ≤ n) && (u == 1 || u == 2)) && match entryOf i u with
    | some e => e.cls == .v
    | none => false
  ((((s.inc32 0x1000 4).wrN 0x1000 5 n).wrN 0x1000 6 cause).wrN 0x1000 1 5).count (.reset 5)

/-! ### Moves (R454, R456, R458) -/

/-- Work item w suspended; the carrier-wide acquisition of item 0 begins its step afresh on its return (R193, R456). -/
def State.suspend (s : State) (w : Nat) : State :=
  ((s.wrN (0x9420 + w) 1 255).wrN (0x9420 + w) 3 2).whenB (w == 0) State.acqAfresh

/-- A move begins: destination and source, unless it is gated, take state 4, and the item moves (R193, R454). -/
def State.beginMove (s : State) (m : Move) : State :=
  let t : State := { s with eng := { s.eng with move := some m } }
  let t := if m.src < 12 ∧ t.clState m.src ≠ 0 then t.setCl m.src 4 else t
  let t := ((t.setCl m.dst 4).wrN (0x9420 + m.item) 3 1).inc32 0x9400 (if m.fault then 4 else 3)
  ((t.whenB m.fault fun u => u.count .faultMove).whenB (m.item == 0) State.acqAfresh).engReport

/-- The lowest-ranked running item among those that satisfy `p`, the lowest-numbered of equals. -/
def State.lowestItem (s : State) (p : Nat → Bool) : Option Nat :=
  argMin itemRank ((List.range 11).filter fun w => s.rdN (0x9420 + w) 3 == 0 && decide (s.itemAt w < 12) && p w)

/-- The work of a faulty cluster has left it: the ISLAND reset that an error of its memories asks for (R452, R487). -/
def State.clusterLeft (s : State) (n : Nat) : State :=
  s.whenB (s.rdN (0x9410 + n) 6 == 3) fun t => t.islandReset (92 + n) 2

/-- The fault move of item w from cluster `src`, 255 for none, to cluster `dst`. -/
def State.faultTo (s : State) (w src dst : Nat) : State :=
  s.beginMove { fault := true, item := w, src := src, dst := dst, retire := false, stopped := true, follow := none }

/-- The fault move of item w, which cluster `src` carried (255 for none): to a ready spare; for items 8 and 10, by way of the
cluster of a lower item that a spare in C0 to C5 takes first; else by evicting an item of lower rank; else the item is
suspended (R454, R456, R458). -/
def State.faultMove (s : State) (w src : Nat) : State :=
  match s.spareFor w with
  | some d => s.faultTo w src d
  | none =>
    match (s.clustersIn 3).head?, s.lowestItem fun v => v != w && decide (6 ≤ s.itemAt v ∧ s.itemAt v ≤ 10) && mayPlace v 0 with
    | some d, some v =>
      (s.wrN (0x9420 + w) 3 1).beginMove
        { fault := false, item := v, src := s.itemAt v, dst := d, retire := false, stopped := false, follow := some (w, src) }
    | _, _ =>
      match s.lowestItem fun v => decide (itemRank v < itemRank w) && mayPlace w (s.itemAt v) with
      | some v =>
        let d := s.itemAt v
        (((s.suspend v).inc32 0x9400 5).wrN (0x9410 + d) 2 255).faultTo w src d
      | none =>
        let t := s.suspend w
        (t.whenB (decide (src < 12)) fun u => (u.wrN (0x9410 + src) 2 255).clusterLeft src).engReport

/-- An item that waits for a fault move until no other is in progress (R458). -/
def State.moveLater (s : State) (w src : Nat) : State :=
  { s with eng := { s.eng with waiting := s.eng.waiting ++ [(w, src)] } }

/-- The suspended item of the highest rank for which a spare is ready begins its move there (R456). -/
def State.placeSuspended (s : State) : State :=
  match argMax itemRank ((List.range 11).filter fun w => s.rdN (0x9420 + w) 3 == 2 && (s.spareFor w).isSome) with
  | some w => match s.spareFor w with | some d => s.faultTo w 255 d | none => s
  | none => s

/-- The items that wait, in order, until one of them moves; then the suspended ones (R456, R458). -/
def State.serveWaiting (s : State) : List (Nat × Nat) → State
  | [] => s.placeSuspended
  | x :: r =>
    let t := ({ s with eng := { s.eng with waiting := r } } : State).faultMove x.1 x.2
    if t.eng.move.isSome then t else t.serveWaiting r

/-- The next thing that waits, once no move is in progress: a fault move, else a suspended item on a ready spare (R456,
R458). -/
def State.nextMove (s : State) : State := if s.eng.move.isSome then s else s.serveWaiting s.eng.waiting

/-- A move given up; the faulted item that was to follow it waits for a move of its own (R458). -/
def State.dropMove (s : State) (m : Move) : State :=
  let t : State := { s with eng := { s.eng with move := none } }
  match m.follow with
  | some f => t.moveLater f.1 f.2
  | none => t

/-- A planned move abandoned: the source resumes (R458). -/
def State.abandonMove (s : State) (m : Move) : State :=
  ((s.dropMove m).whenB (s.clState m.src != 0) fun t => t.setCl m.src 2).wrN (0x9420 + m.item) 3 0

/-- A cluster becomes faulty (R452, R454, R458). -/
def State.faultCluster (s : State) (n cause : Nat) : State :=
  if !(s.clState n == 1 || s.clState n == 2 || s.clState n == 3 || s.clState n == 4) then s
  else
    let t := (s.inc32 (0x9410 + n) 5).wrN (0x9410 + n) 6 cause
    let carries := decide (t.clItem n < 11 ∧ t.clState n = 2)
    match t.eng.move with
    | some m =>
      if m.src = n then
        let t : State := { t with eng := { t.eng with move := some { m with fault := true, stopped := true } } }
        if m.fault then t else t.inc32 0x9400 4 |>.count .faultMove
      else if m.dst = n then
        let t := t.setCl n 5
        if m.fault then ((t.dropMove m).faultMove m.item m.src).nextMove else (t.abandonMove m).engReport.nextMove
      else if carries then (((t.setCl n 5).wrN (0x9420 + t.clItem n) 3 1).moveLater (t.clItem n) n).engReport
      else (t.setCl n 5).engReport
    | none => if carries then ((t.setCl n 5).faultMove (t.clItem n) n).nextMove else (t.setCl n 5).engReport

/-- HEARTBEAT_MISS: the third in succession makes the cluster faulty; a miss more than 1.5 ms after the last is a first
one (R452). -/
def execHeartbeatMiss (n : Fin 12) (engine : Fin 8) (s : State) : Host.Outcome State Fault Refusal :=
  .next (if s.clState n.val != 2 && s.clState n.val != 4 then s
    else
      let k := 8 * n.val + engine.val
      let old := lgetD k (0, 0) s.eng.misses
      let c := if old.1 ≠ 0 ∧ s.uptime ≤ old.2 + 1500 then old.1 + 1 else 1
      let t := s.inc32 (0x9410 + n.val) 4
      if 3 ≤ c then ({ t with eng := { t.eng with misses := ldel k t.eng.misses } } : State).faultCluster n.val 1
      else { t with eng := { t.eng with misses := lput k (c, s.uptime) t.eng.misses } })

/-- ENGINE_TRAP (R452). -/
def execEngineTrap (n : Fin 12) (s : State) : Host.Outcome State Fault Refusal := .next (s.faultCluster n.val 2)

/-- MOVE_SOURCE_STOPPED: the source engines of a planned move have stopped, and the copy begins (R454). -/
def execMoveSourceStopped (s : State) : Host.Outcome State Fault Refusal :=
  .next (match s.eng.move with
    | some m => if m.stopped then s else { s with eng := { s.eng with move := some { m with stopped := true } } }
    | none => s)

/-- The destination of a move carries its item, whose loops resume; work item 8 re-evaluates the timing (R388, R454). -/
def State.moveArrives (s : State) (m : Move) : State :=
  let t : State := { s with eng := { s.eng with move := none } }
  let t := (t.setCl m.dst 2).wrN (0x9410 + m.dst) 2 m.item
  let t := ((t.wrN (0x9420 + m.item) 1 m.dst).wrN (0x9420 + m.item) 3 0).inc32 (0x9420 + m.item) 4
  t.whenB (decide (m.item = 8)) State.picotKick

/-- The source of a finished move: retired, handed to the faulted item that follows, held while S1 holds, or checked, after the
ISLAND reset that a memory error asks for; one whose domain is gated stays so. Of a source that has failed itself, the item that
was to follow waits for another move (R452, R454, R457, R458, R487). -/
def State.sourceFreed (s : State) (m : Move) : State :=
  let u := s.wrN (0x9410 + m.src) 2 255
  let u := u.whenB m.fault fun x => x.clusterLeft m.src
  let freed := fun (u : State) =>
    if u.clState m.src = 0 then u
    else if u.rdN 0x1011 1 = 0 then u.setCl m.src 1
    else { u with eng := { u.eng with heldFrom := addTo m.src u.eng.heldFrom } }
  if m.retire then u.setCl m.src 6
  else match m.follow with
    | some f => if m.fault then freed (u.moveLater f.1 f.2) else u.faultTo f.1 f.2 m.src
    | none => freed u

/-- MOVE_DESTINATION_RUNNING: the destination carries the item and its loops resume, and the source is freed (R454, R456, R458).
Work item 8 re-evaluates the timing on its return (R388). -/
def execMoveDestinationRunning (s : State) : Host.Outcome State Fault Refusal :=
  .next (match s.eng.move with
    | none => s
    | some m =>
      if !m.stopped then s
      else
        let t := s.moveArrives m
        let t := if m.src < 12 then t.sourceFreed m else t
        (t.whenB (decide (m.item = 8)) State.timingReturn).engReport.nextMove)

/-- CLUSTER_CHECK_DONE: a cluster's 50 ms check ends (R454, R457). -/
def execClusterCheckDone (n : Fin 12) (pass : Bool) (s : State) : Host.Outcome State Fault Refusal :=
  .next (if s.clState n.val ≠ 1 then s
    else if pass then (s.setCl n.val 3).engReport.nextMove
    else (((s.setCl n.val 5).wrN (0x9410 + n.val) 6 5).inc32 (0x9410 + n.val) 5).engReport)

/-- HISTORY_WRITE: the work item writes its history to studio memory; the spec gives neither its place nor its bytes, so
what stands in studio memory is left as it is (R453, log entry 44). -/
def execHistoryWrite (w : Fin 11) (s : State) : Host.Outcome State Fault Refusal :=
  .next (if s.itemRuns w.val && s.clState (s.itemAt w.val) == 2 then s.wr (0x9420 + w.val) 5 s.now else s)

/-- S1 is left: sources held in state 4 are checked (R454). -/
def State.enginesUnshed (s : State) : State :=
  let t := s.each (s.eng.heldFrom.filter fun n => s.clState n == 4) fun t n => t.setCl n 1
  { t with eng := { t.eng with heldFrom := [] } }

/-! ### Commands (R457) -/

/-- A planned move off cluster n. -/
def State.plannedMove (s : State) (n : Nat) (retire : Bool) : Effect :=
  let w := s.clItem n
  { fails := need (s.spareFor w).isSome .exhausted
    state := match s.spareFor w with
      | some d => s.beginMove { fault := false, item := w, src := n, dst := d, retire := retire, stopped := false, follow := none }
      | none => s }

/-- What a gated cluster was to carry is suspended, to be placed on a ready spare (R449, R456, log entry 172). -/
def State.orphan (s : State) (n : Nat) : State :=
  if s.clItem n < 11 then (s.suspend (s.clItem n)).wrN (0x9410 + n) 2 255 else s

/-- The rule of 9410+n:07. A cluster whose domain is gated is checked once it is powered (R457, R458, log entry 172). -/
def State.clusterEffect (s : State) (n v : Nat) : Effect :=
  let st := s.clState n
  let busy := need s.eng.move.isNone .busy
  let e : Effect := match v with
    | 1 => if st = 2 then s.plannedMove n false else { fails := [.conflict], state := s }
    | 2 =>
      if st = 2 then
        let e := s.plannedMove n true
        { e with state := e.state.wrBit 0x9400 8 n true }
      else if st = 4 ∨ st = 6 then { fails := [.conflict], state := s }
      else .ok (((s.setCl n 6).wrBit 0x9400 8 n true).whenB (st == 0) fun t => t.orphan n).engReport.nextMove
    | _ =>
      if st = 5 ∨ st = 6 then
        .ok (((s.wrBit 0x9400 8 n false).setCl n (if n < 6 ∧ !s.on 22 then 0 else 1)).engReport)
      else { fails := [.conflict], state := s }
  { e with fails := busy ++ e.fails }

/-- CLUSTER_MOVE_OFF (R457). -/
def execClusterMoveOff (n : Fin 12) (s : State) : Host.Outcome State Fault Refusal :=
  .next (s.command (0x9410 + n.val) 7 (.num 1) (s.clusterEffect n.val 1))
/-- CLUSTER_RETIRE (R457). -/
def execClusterRetire (n : Fin 12) (s : State) : Host.Outcome State Fault Refusal :=
  .next (s.command (0x9410 + n.val) 7 (.num 2) (s.clusterEffect n.val 2))
/-- CLUSTER_READMIT (R457). -/
def execClusterReadmit (n : Fin 12) (s : State) : Host.Outcome State Fault Refusal :=
  .next (s.command (0x9410 + n.val) 7 (.num 3) (s.clusterEffect n.val 3))

/-! ### Placement and power (R449, R450, R458) -/

/-- Place the work items on the entry to QUIET from BOOT: item w on Cw, C11 the spare; a cluster that failed its check or
is retired is left out, and its item placed as though by a fault move (R449). -/
def State.enginesPlace (s : State) (failed : Nat) : State :=
  let out := fun (n : Nat) => bit failed n || s.rdBit 0x9400 8 n
  let t : State := { s with eng := { move := none, waiting := [], misses := [], heldFrom := [] } }
  let t := t.each (List.range 12) fun u n =>
    if out n then
      ((u.setCl n (if s.rdBit 0x9400 8 n then 6 else 5)).wrN (0x9410 + n) 2 255).whenB (bit failed n) fun x => x.wrN (0x9410 + n) 6 5
    else (u.setCl n (if n = 11 then 3 else 2)).wrN (0x9410 + n) 2 (if n = 11 then 255 else n)
  let t := t.each (List.range 11) fun u w => (u.wrN (0x9420 + w) 1 w).wrN (0x9420 + w) 3 0
  let lost := (List.range 11).filter out
  let t := t.each lost fun u w => (u.wrN (0x9420 + w) 3 1).moveLater w 255
  t.engReport.nextMove

/-- PD22 gated: its clusters read 0, and what they carry stays theirs. A planned move to or from one of them is abandoned; a fault
move goes on, to another cluster where its destination is gated (R451, R458, log entry 172). -/
def State.enginesGate (s : State) : State :=
  let t := s.each (List.range 6) fun u n => if u.clState n = 5 ∨ u.clState n = 6 then u else u.setCl n 0
  match t.eng.move with
  | none => t.engReport
  | some m =>
    if 6 ≤ m.dst ∧ (m.fault ∨ 6 ≤ m.src) then t.engReport
    else if m.fault then
      let u := (t.dropMove m).whenB (decide (6 ≤ m.src ∧ m.src < 12)) fun x => x.setCl m.src 5
      (u.faultMove m.item m.src).nextMove
    else ((t.abandonMove m).whenB (decide (6 ≤ m.dst)) fun x => x.setCl m.dst 3).engReport.nextMove

/-- PD22 powered: its clusters run what they carry, and a spare is checked again (R458). -/
def State.enginesUngate (s : State) : State :=
  (s.each (List.range 6) fun u n =>
    if u.clState n = 0 then u.setCl n (if u.clItem n < 11 then 2 else 1) else u).engReport

end Sys2Proof.Machine
end

