-- ==== Sys2Proof/Machine/Matrix.lean ====
section
/-! DEFINITION. The control matrix (spec/15_engines_matrix_dma.md R460 to R470): the address map, who reaches what, the
remap windows, and reads and writes of the on-chip memories. -/

namespace Sys2Proof.Machine

/-! ### The map (R460, R461) -/

/-- The targets of the matrix. -/
inductive Target where
  | rom | sram | studio | telemetry | cluster (n : Nat) | dictionary | block | flash | foundry | remote (i : Nat)
  deriving DecidableEq, Repr

/-- The target of a matrix address and the offset in it; none where it is unmapped (R460). -/
def State.target (s : State) (a : Nat) : Option (Target × Nat) :=
  if a < 0x200000 then some (if s.rdB 0x9480 1 then .sram else .rom, a)
  else if 0x10000000 ≤ a ∧ a < 0x10040000 then some (.rom, a - 0x10000000)
  else if 0x20000000 ≤ a ∧ a < 0x20200000 then some (.sram, a - 0x20000000)
  else if 0x40000000 ≤ a ∧ a < 0x41000000 then some (.studio, a - 0x40000000)
  else if 0x50000000 ≤ a ∧ a < 0x50800000 then some (.telemetry, a - 0x50000000)
  else if 0x60000000 ≤ a ∧ a < 0x60C00000 then some (.cluster ((a - 0x60000000) / 0x100000), a % 0x100000)
  else if 0x70000000 ≤ a ∧ a < 0x70400000 then some (.dictionary, a - 0x70000000)
  else if 0x80000000 ≤ a ∧ a < 0x90000000 then some (.block, a - 0x80000000)
  else if 0xC0000000 ≤ a ∧ a < 0xD0000000 then some (.flash, a - 0xC0000000)
  else if 0xD0000000 ≤ a ∧ a < 0xD0001000 then some (.foundry, a - 0xD0000000)
  else if 0x100000000 ≤ a ∧ a < 0x500000000 then
    let i := a / 0x100000000 - 1
    if s.grouped && i == s.ownPosition then none else some (.remote i, a % 0x100000000)
  else none

/-- The number by which TARGET_TIMEOUT isolates a target (log entry 59). -/
def Target.number : Target → Nat
  | .rom => 0 | .sram => 1 | .studio => 2 | .telemetry => 3 | .cluster n => 4 + n | .dictionary => 16 | .block => 17
  | .flash => 18 | .foundry => 19 | .remote i => 20 + i

/-- Register slices and access cycles of a target (R462). -/
def Target.cycles : Target → Option (Nat × Nat)
  | .rom => some (2, 4) | .sram => some (1, 3) | .studio => some (4, 6) | .telemetry => some (4, 6) | .cluster _ => some (3, 4)
  | .block => some (6, 8) | .foundry => some (2, 4) | .dictionary => some (2, 100) | .flash => none | .remote _ => none

/-- The latency of an uncontended access in ns, without crossings: each register slice twice, and the access (R462). -/
def Target.latency (t : Target) : Option Nat := t.cycles.map fun c => 2 * c.1 + c.2

/-- The QoS of a master, numbered as 9480:03 numbers them; `level` is that of a DMA channel (R463). -/
def State.masterQos (s : State) (master level : Nat) : Nat :=
  match master with
  | 0 => 15 | 1 => 13 | 2 => s.rdN 0x9481 5 | 3 => 11 | 4 => 11 | 5 => s.rdN 0x9481 (1 + level) | _ => 12

/-- A request's effective QoS after a wait in ns: one more for each whole microsecond, up to 14 (R463). -/
def effectiveQos (qos waitNs : Nat) : Nat := max qos (min 14 (qos + waitNs / 1000))

/-- The request that a target serves next of those that wait, each a master, its DMA level and its wait: the highest effective
QoS, and among equals the master next after the last in round robin (R463). -/
def State.nextServed (s : State) (waiting : List (Nat × Nat × Nat)) (last : Nat) : Option (Nat × Nat × Nat) :=
  (argMax (fun i =>
    let x := waiting.getD i (0, 0, 0)
    32 * effectiveQos (s.masterQos x.1 x.2.1) x.2.2 + (17 - (x.1 + 17 - last) % 18)) (List.range waiting.length)).bind
      fun i => waiting[i]?

/-- Whether a master reaches a target for a read or a write; masters are numbered as 9480:03 numbers them (R461). -/
def State.reaches (s : State) (master : Nat) (t : Target) (write : Bool) : Bool :=
  let engine := decide (6 ≤ master)
  match t with
  | .rom | .sram => master == 0
  | .studio => true
  | .telemetry => master == 0 || engine || master == 5 || master == 3 || master == 4 || (master == 2 && !write)
  | .cluster _ => master == 0 || engine
  | .dictionary => master == 0 || master == 1 || (engine && s.clItem (master - 6) == 10)
  | .block | .foundry => master == 0 || engine
  | .flash => master == 0 || engine || (master == 5 && !write)
  | .remote _ => engine || master == 5

/-! ### Windows (R466) -/

/-- The size of a window: 4 KiB × 2^code. -/
def windowSize (code : Nat) : Nat := 4096 * 2 ^ code

/-- The lowest-numbered enabled window that holds an address. -/
def State.windowOf (s : State) (a : Nat) : Option Nat :=
  (List.range 16).find? fun i =>
    s.rdB (0x94A0 + i) 1 && decide (s.rdN (0x94A0 + i) 2 ≤ a)
      && decide (a < s.rdN (0x94A0 + i) 2 + windowSize (s.rdN (0x94A0 + i) 3))

/-- An address as the windows redirect it, once (R466). -/
def State.redirect (s : State) (a : Nat) : Nat :=
  match s.windowOf a with
  | some i => s.rdN (0x94A0 + i) 4 + (a - s.rdN (0x94A0 + i) 2)
  | none => a

/-- A piece redirected is counted (R470). -/
def State.windowHit (s : State) (a : Nat) : State :=
  match s.windowOf a with
  | some i => s.inc64 (0x94A0 + i) 5
  | none => s

/-- Whether a range lies wholly within supervisor SRAM, studio memory or telemetry memory. -/
def inCentral (a n : Nat) : Bool :=
  (decide (0x20000000 ≤ a) && decide (a + n ≤ 0x20200000)) || (decide (0x40000000 ≤ a) && decide (a + n ≤ 0x41000000))
    || (decide (0x50000000 ≤ a) && decide (a + n ≤ 0x50800000))

/-- The rule of writes to a window record (R466). -/
def State.windowEffect (s : State) (i sub : Nat) (v : DVal) : Effect :=
  let r := 0x94A0 + i
  let t := s.wr r sub v
  if sub = 1 then
    let n := windowSize (s.rdN r 3)
    let ok := fun (a : Nat) => a % n == 0 && inCentral a n
    { fails := if v.int = 1 then need (ok (s.rdN r 2) && ok (s.rdN r 4)) .outOfRange else [], state := t }
  else { fails := need (!s.rdB r 1) .conflict, state := t }

/-! ### The bytes of the on-chip memories (R460, R482) -/

/-- The memory identifier and byte address within its memory of an address (R479), where it names SRAM. -/
def State.memOf (s : State) (a : Nat) : Option (Nat × Nat) :=
  match s.target a with
  | some (.studio, o) => some (4, o)
  | some (.telemetry, o) => some (5, o)
  | some (.sram, o) => some (6, o)
  | _ => none

/-- Where the bytes of a memory stand in `mem`: the supervisor SRAM is one, under either of its addresses. -/
def memBase (id : Nat) : Nat := match id with | 4 => 0x40000000 | 5 => 0x50000000 | _ => 0x20000000

/-- Whether a word of a memory is poisoned. -/
def State.poisoned (s : State) (id word : Nat) : Bool := s.mms.poison.contains (id, word)

/-- The 64-bit words that `n` bytes from an offset touch. -/
def wordsOf (o n : Nat) : List Nat := List.range' (o / 8) ((o + n + 7) / 8 - o / 8)

/-- Whether the flash erases or programs: its window then answers with an error (R510). -/
def State.flashWorks (s : State) : Bool :=
  s.boot.commit.isSome || decide (s.boot.write ≠ .none)
    || match s.boot.job with | .erase _ _ | .program _ _ => true | _ => false

/-- Cycles of the interface clock that a read of 64 bytes in the flash window takes with `d` dummy cycles (R510). -/
def windowCycles (profile d : Nat) : Nat := if profile = 1 then 6 + d + 64 else 3 + d + 32

/-- The time of such a read in ns: its cycles at 100 or 200 MHz, and 14 ns in the matrix (R510). -/
def windowNs (profile d : Nat) : Nat := windowCycles profile d * (if profile = 1 then 10 else 5) + 14

/-- `n` bytes at a redirected address, of an on-chip memory or of the flash window, or none where a word of a memory is
uncorrectable (R460, R482). -/
def State.matrixRead (s : State) (a n : Nat) : Option (List Byte) :=
  match s.memOf a with
  | some (id, o) =>
    if (wordsOf o n).any fun w => s.poisoned id w then none else some (s.memRead (memBase id + o) n)
  | none => match s.target a with | some (.flash, o) => some (s.flashRead o n) | _ => some (List.replicate n 0)

/-- Bytes written at a redirected address: whole words lose their poison; a part of a poisoned word is refused (R481,
R482). -/
def State.matrixWrite (s : State) (a : Nat) (b : List Byte) : Option State :=
  match s.memOf a with
  | some (id, o) =>
    let whole := fun (w : Nat) => decide (o ≤ 8 * w) && decide (8 * w + 8 ≤ o + b.length)
    if (wordsOf o b.length).any fun w => s.poisoned id w && !whole w then none
    else
      let t := s.memWrite (memBase id + o) b
      let left := t.mms.poison.filter fun p => !(p.1 == id && whole p.2)
      let t : State := { t with mms := { t.mms with poison := left } }
      some (if left.length = s.mms.poison.length then t else t.wrN (0x9810 + id) 3 ((left.filter fun p => p.1 == id).length))
  | none => some s

/-- The pieces of an access to `n` bytes: it is split at each 256-byte boundary (R464). -/
def matrixPieces (a n : Nat) : List (Nat × Nat) :=
  (List.range ((a % 256 + n + 255) / 256)).map fun i =>
    let lo := max a (a / 256 * 256 + 256 * i)
    (lo, min (a + n) (a / 256 * 256 + 256 * (i + 1)) - lo)

/-- `n` bytes as a master reads them, each piece through the windows; none where a word of them is uncorrectable (R464, R466). -/
def State.masterRead (s : State) (a n : Nat) : Option (List Byte) :=
  (matrixPieces a n).foldr
    (fun p l => match s.matrixRead (s.redirect p.1) p.2, l with | some b, some l => some (b ++ l) | _, _ => none) (some [])

/-- Bytes as a master writes them, each piece through the windows and counted by the one that redirects it (R464, R466, R470). -/
def State.masterWrite (s : State) (a : Nat) (b : List Byte) : State :=
  (matrixPieces a b.length).foldl (fun t p =>
    let u := t.windowHit p.1
    (u.matrixWrite (u.redirect p.1) (slice b (p.1 - a) p.2)).getD u) s

/-! ### Decode errors (R467) -/

/-- A fault logged in 9480. -/
def State.matrixLog (s : State) (master a action : Nat) : State :=
  (((s.inc32 0x9480 2).wrN 0x9480 3 master).wrN 0x9480 4 (a % 2 ^ 64)).wrN 0x9480 5 action

/-- Whether an address lies where only the supervisor pair writes until the canvas is entered: supervisor SRAM, the dictionary
store, the cluster memories and the staging region of studio memory (R504). -/
def State.bootGuards (s : State) (t : Target) (o : Nat) : Bool :=
  s.inMode .boot && !s.rdB 0x9480 1 && match t with
    | .sram | .dictionary | .cluster _ => true
    | .studio => decide (0x400000 ≤ o)
    | _ => false

/-- Whether an access at an address is unmapped for a master: no target, or one it does not reach for either access, or does
not yet (R461, R467, R504). -/
def State.unmapped (s : State) (master a : Nat) : Bool :=
  match s.target (s.redirect a) with
  | some (t, o) => !(s.reaches master t false && s.reaches master t true) || (master != 0 && s.bootGuards t o)
  | none => true

end Sys2Proof.Machine
end

