-- ==== Sys2Proof/Machine/Persist.lean ====
section
/-! DEFINITION. The persistence images in flash (spec/17_boot_firmware.md R505, R507; spec/10_sealing.md R332): what a commit
writes, how an image is read back and judged, and how it is applied. -/

namespace Sys2Proof.Machine

/-! ### Images (R505) -/

/-- An entry as an image holds it. -/
structure RawEntry where
  idx : Nat
  sub : Nat
  ty : Nat
  val : List Byte
  deriving DecidableEq, Repr

/-- A valid image. -/
structure Image where
  seq : Nat
  len : Nat
  entries : List RawEntry
  deriving DecidableEq, Repr

/-- The flash offset of a persistence slot (R494). -/
def slotBase (i : Nat) : Nat := if i = 0 then 0x100000 else 0x500000

/-- Bytes filled with zeros to a multiple of 4. -/
def pad4 (b : List Byte) : List Byte := padTo (4 * ceilDiv b.length 4) b

/-- The bytes of an entry in an image. -/
def RawEntry.bytes (e : RawEntry) : List Byte :=
  pad4 (beBytes 2 e.idx ++ beBytes 1 e.sub ++ beBytes 1 e.ty ++ beBytes 2 e.val.length ++ e.val)

/-- The bytes of an image: header, entries and HMAC. The length counts the header and the entries (log entry 50). -/
def imageBytes (seq format : Nat) (l : List RawEntry) : List Byte :=
  let body := l.flatMap RawEntry.bytes
  let b := beBytes 4 0x4E434647 ++ beBytes 4 seq ++ beBytes 4 (16 + body.length) ++ beBytes 2 format ++ [0, 0] ++ body
  b ++ hmac Config.storageKey b

/-- The entries read from the body of an image. -/
def rawEntries : Nat → List Byte → List RawEntry
  | 0, _ => []
  | fuel + 1, b =>
    if b.length < 6 then []
    else
      let n := beField b 4 2
      { idx := beField b 0 2, sub := beField b 2 1, ty := beField b 3 1, val := slice b 6 n }
        :: rawEntries fuel (b.drop (4 * ceilDiv (6 + n) 4))

/-- The image of a slot, where its magic, its length and its HMAC are right (R505). -/
def State.imageAt (s : State) (i : Nat) : Option Image :=
  let h := s.flashRead (slotBase i) 16
  let n := beField h 8 4
  if beField h 0 4 ≠ 0x4E434647 ∨ n < 16 ∨ 0x400000 < n + 48 then none
  else
    let b := s.flashRead (slotBase i) n
    if s.flashRead (slotBase i + n) 48 = hmac Config.storageKey b then
      some { seq := beField h 4 4, len := n, entries := rawEntries n (b.drop 16) }
    else none

/-- The slot in force: the valid one of the higher sequence (R505). -/
def State.slotInForce (s : State) : Option Nat :=
  match s.imageAt 0, s.imageAt 1 with
  | some a, some b => if a.seq < b.seq then some 1 else some 0
  | some _, none => some 0
  | none, some _ => some 1
  | none, none => none

/-- The image in force. -/
def State.image (s : State) : Option Image := s.slotInForce.bind s.imageAt

/-- The dictionary value of an image's entry, where the pattern book has the entry with that type as class N. -/
def RawEntry.value (e : RawEntry) : Option DVal :=
  match entryOf e.idx e.sub with
  | some t => if t.ty.code = e.ty && t.cls == .n then t.ty.parse e.val else none
  | none => none

/-- The committed value of an entry: what the image in force holds, or its default (R529). -/
def State.committed (s : State) (k : Nat) : DVal :=
  match s.image with
  | some i => ((i.entries.find? fun e => key e.idx e.sub == k).bind RawEntry.value).getD (defaultOf k)
  | none => defaultOf k

/-- Whether an entry is of class N. -/
def isN (k : Nat) : Bool :=
  match entryOf (k / 256) (k % 256) with
  | some e => e.cls == .n
  | none => false

/-! ### The snapshot of a commit (R507, R332) -/

/-- The dictionary's class N values that are not the default. An image of at most 4 MiB cannot hold the settings of every
queue, so defaults are left out (log entry 50). -/
def State.rawDict (s : State) : List RawEntry :=
  s.dict.filterMap fun p =>
    match entryOf (p.1 / 256) (p.1 % 256) with
    | some e => if e.cls == .n then some { idx := p.1 / 256, sub := p.1 % 256, ty := e.ty.code, val := e.ty.bytes p.2 } else none
    | none => none

/-- The settings of the queues, each value after the number of its queue (R288, log entry 50). -/
def State.rawQueues (s : State) : List RawEntry :=
  s.grm.queues.flatMap fun q => (List.range' 3 5).filterMap fun u =>
    match entryOf 0x7801 u with
    | some e =>
      if q.1 < 262144 ∧ q.2.view u ≠ Queue.free.view u then
        some { idx := 0x7801, sub := u, ty := e.ty.code, val := beBytes 4 q.1 ++ e.ty.bytes (.num (q.2.view u)) }
      else none
    | none => none

/-- The exact-match entries: key and tenant (R285, log entry 50). -/
def State.rawExact (s : State) : List RawEntry :=
  s.grm.exact.map fun x => { idx := 0x7100, sub := 4, ty := 3, val := beBytes 4 x.1 ++ beBytes 2 x.2 }

/-- The management slots that persist, wrapped under the storage key (R332). -/
def State.rawSlots (s : State) : List RawEntry :=
  (List.range 63).filterMap fun m =>
    let x := s.mgmtSlot m
    if s.rdB (0x1050 + m) 6 && decide (x.role ≠ 0) then
      some { idx := 0x1050 + m, sub := 2, ty := 12
             val := kwWrap Config.storageKey (x.key ++ beBytes 1 x.role ++ beBytes 1 m ++ beBytes 4 x.id ++ [0, 0]) }
    else none

/-- What a commit writes. -/
def State.snapshot (s : State) : List RawEntry := s.rawDict ++ s.rawQueues ++ s.rawExact ++ s.rawSlots

/-! ### Applying an image (R505) -/

/-- Whether an entry of an image is one of the kinds that stand for what a cursor shows. -/
def RawEntry.special (e : RawEntry) : Bool :=
  (e.idx == 0x7801 && decide (3 ≤ e.sub ∧ e.sub ≤ 7) && decide (4 ≤ e.val.length)) || (e.idx == 0x7100 && e.sub == 4 && e.val.length == 6)
    || (decide (0x1050 ≤ e.idx ∧ e.idx < 0x108F) && e.sub == 2)

/-- The queue blocks that the tenants' allocation gives, with default settings (R276, R287). -/
def State.rebuildQueues (s : State) : State :=
  let t : State := { s with grm := { s.grm with queues := [], blocks := [] } }
  t.each t.configured fun u n =>
    let j := u.blockSize n
    let b := u.queueBase n
    if j = 0 ∨ b = 0xFFFFFFFF then u
    else
      let u : State := { u with grm := { u.grm with blocks := lput b j u.grm.blocks } }
      u.each (List.range (2 ^ j)) fun x q => x.setQueue (b + q) { Queue.free with owner := n, egress := decide (2 ^ (j - 1) ≤ q) }

/-- One entry of an image applied; one that the pattern book lacks, or of another type, is skipped and counted. The
management slots wait for the entropy source (R505). -/
def State.applyRaw (s : State) (e : RawEntry) : State :=
  if e.special then
    if e.idx = 0x7801 then
      let q := beField e.val 0 4
      if (s.queue q).owner = 4096 then s else s.setQueue q ((s.queue q).withSetting e.sub (beNat (e.val.drop 4)))
    else if e.idx = 0x7100 then
      { s with grm := { s.grm with exact := lput (beField e.val 0 4) (beField e.val 4 2) s.grm.exact } }
    else s
  else
    match e.value with
    | some v => s.setK (key e.idx e.sub) v
    | none => s.inc32 0x9C00 0x0C

/-- PERSISTENCE_APPLY: every class N entry takes its committed value, and the boot defects say which image it was (R505,
R529). -/
def State.applyImage (s : State) : State :=
  let t := s.clearIdx fun i u => isN (key i u)
  let t : State := { t with grm := { t.grm with exact := [] } }
  match s.slotInForce, s.image with
  | some q, some i =>
    let plain := i.entries.filter fun e => !e.special
    let special := i.entries.filter RawEntry.special
    let t := ((t.each plain State.applyRaw).rebuildQueues).each special State.applyRaw
    -- the other slot holds something that fails, and would be the newer
    let h := t.flashRead (slotBase (1 - q)) 16
    let older := (t.imageAt (1 - q)).isNone && beField h 0 4 == 0x4E434647 && decide (i.seq < beField h 4 4)
    (((t.defect 0x9C00 0x0B 2 older).wrN 0x9C30 3 i.seq).wrN 0x9C30 4 i.len).wrN 0x9C30 7 q
  | _, _ => (t.rebuildQueues).raise 0x9C00 0x0B 1

/-- The management slots of the image in force restored where they are empty (R332, R505). A slot restored after PIN or POR
starts with both counters at 0, class A being lost, though its key is unchanged (R78, DESIGN CHOICE, log entry 136). -/
def State.restoreSlots (s : State) : State :=
  match s.image with
  | some i =>
    s.each (i.entries.filter fun e => e.special && decide (0x1050 ≤ e.idx ∧ e.idx < 0x108F)) fun t e =>
      match kwUnwrap Config.storageKey e.val with
      | some p =>
        let m := e.idx - 0x1050
        if (t.mgmtSlot m).role = 0 then t.setMgmt m { role := beField p 32 1, id := beField p 34 4, key := p.take 32 } else t
      | none => t
  | none => s

end Sys2Proof.Machine
end

