-- ==== Sys2Proof/Machine/Memories.lean ====
section
/-! DEFINITION. The on-chip memories (spec/16_memories.md R479 to R492): the code and its syndrome, the log, the actions on
an uncorrectable word, the background test, and the retirement of pages and banks. -/

namespace Sys2Proof.Machine

/-! ### Memories and the code (R479, R480) -/

/-- The identifier of a memory operand: they are numbered 1 to 18 (R479). -/
def memId (m : Fin 18) : Nat := m.val + 1

/-- The domain in which instance `inst` of memory `id` lies: the instance is a cluster, a thread, an ADC, a bobbin port, a lane, or
for memory 15 the island, and 0 where the memory is single; none where there is no such instance (R11, R479, R486). -/
def memDomain (id inst : Nat) : Option Nat :=
  let one := fun (n d : Nat) => if inst < n then some d else none
  match id with
  | 1 => one 1 17 | 2 => one 1 17 | 3 => one 1 17
  | 7 => one 1 0
  | 8 => one 12 (22 + inst / 6)
  | 9 => one 12 (22 + inst / 6)
  | 10 => one 1 16 | 11 => one 1 16
  | 13 => one 32 15
  | 14 => one 32 (10 + inst / 8)
  | 15 => if 4 ≤ inst ∧ inst < 8 then some (2 + inst) else if 40 ≤ inst ∧ inst < 48 then some 14 else none
  | 16 => one 4 (2 + inst)
  | 17 => one 2 (20 + inst)
  | 18 => one 16 (18 + inst / 8)
  | _ => one 1 1

/-- Whether an instance of memory `id` is there and powered (R479). -/
def State.memOn (s : State) (id inst : Nat) : Bool := match memDomain id inst with | some d => s.on d | none => false

/-- The number of 64-byte lines of a memory, all its instances together, where R479 gives its size as a whole number of bytes. -/
def memLines (id : Nat) : Option Nat :=
  match id with
  | 1 => some 1048576 | 2 => some 131072 | 4 => some 262144 | 5 => some 131072 | 6 => some 32768 | 7 => some 65536
  | 8 => some 196608 | 9 => some 196608 | 10 => some 49152 | 11 => some 4096 | 12 => some 32 | 13 => some 196608
  | 17 => some 4096 | 18 => some 1024 | _ => none

/-- The columns of 8 bits with a number of ones. -/
def columnsOf (weight : Nat) : List (BitVec 8) :=
  ((List.range 256).filter fun v => popcount 8 v == weight).map (BitVec.ofNat 8)

/-- `n` different columns of a list, in an order of the silicon's. -/
def pickColumns (n at_ : Nat) (l : List (BitVec 8)) : List (BitVec 8) := pickFree Config.columnRaw n at_ l

/-- The data columns of a (72,64) Hsiao code: the 56 of weight three and eight of weight five, in an order of the silicon's
(R480). -/
def dataColumns : List (BitVec 8) := pickColumns 64 8 (columnsOf 3 ++ pickColumns 8 0 (columnsOf 5))
/-- The address columns: distinct, not zero, of even weight (R480). -/
def addrColumns : List (BitVec 8) := pickColumns 24 72 (columnsOf 2 ++ columnsOf 4 ++ columnsOf 6 ++ columnsOf 8)
/-- Column `i` of the data bits. -/
def dataColumn (i : Nat) : BitVec 8 := dataColumns.getD i 0
/-- Column `i` of the address bits. -/
def addrColumn (i : Nat) : BitVec 8 := addrColumns.getD i 0

/-- The exclusive or of the columns of the bits set in a number. -/
def columnSum (col : Nat → BitVec 8) (v n : Nat) : BitVec 8 :=
  (bitsOf n v).foldl (fun a i => a ^^^ col i) 0

/-- The check byte of data `d` at word address `a` (R480). -/
def checkByte (d a : Nat) : BitVec 8 := columnSum dataColumn d 64 ^^^ columnSum addrColumn a 24

/-- The syndrome of a stored word: its data in the 64 low bits, its check byte above (R480). -/
def syndrome (stored a : Nat) : BitVec 8 := BitVec.ofNat 8 (stored / 2 ^ 64) ^^^ checkByte (stored % 2 ^ 64) a

/-- How a syndrome is judged (R480). -/
inductive Verdict480 where
  | good | corrected | uncorrectable
  deriving DecidableEq, Repr

/-- A syndrome judged: zero is good, one that equals a data column or a check-bit column names the bit that is corrected,
any other is uncorrectable (R480). -/
def judgeSyndrome (x : BitVec 8) : Verdict480 :=
  if x = 0 then .good
  else if (List.range 64).any (fun i => dataColumn i == x) || (List.range 8).any (fun i => x == BitVec.ofNat 8 (2 ^ i)) then
    .corrected
  else .uncorrectable

/-! ### The log (R485, R486) -/

/-- The 32 bytes of a log entry (R486). -/
def LogEntry.bytes (e : LogEntry) : List Byte :=
  Ty.time96.bytes (time96 e.time) ++ beBytes 1 e.mem ++ beBytes 1 e.kind ++ beBytes 1 e.action ++ beBytes 1 e.syndrome
    ++ beBytes 8 e.addr ++ beBytes 4 e.inst ++ beBytes 4 e.count

/-- The log set, with what 9808 shows of it (R492). -/
def State.setLog (s : State) (l : List LogEntry) : State :=
  let t : State := { s with mms := { s.mms with log := l } }
  (t.wrN 0x9808 1 l.length).wrS 0x9808 2 (l.flatMap LogEntry.bytes)

/-- A new log entry; the last 64 are held (R486). -/
def State.logAdd (s : State) (id kind action syn addr inst : Nat) : State :=
  let e : LogEntry := { time := s.devTime, mem := id, kind := kind, action := action, syndrome := syn, addr := addr, inst := inst, count := 1 }
  let l := s.mms.log ++ [e]
  let t := s.setLog (l.drop (l.length - 64))
  { t with mms := { t.mms with lastAt := s.uptime } }

/-- A corrected event in the log: added to the newest entry's count where it is at that address within 1 s (R485). -/
def State.logCorrected (s : State) (id syn addr inst : Nat) : State :=
  match s.mms.log.getLast? with
  | some e =>
    if e.mem = id ∧ e.kind = 1 ∧ e.addr = addr ∧ e.inst = inst ∧ s.uptime ≤ s.mms.lastAt + 1000000 then
      s.setLog (s.mms.log.dropLast ++ [{ e with count := min (2 ^ 32 - 1) (e.count + 1) }])
    else s.logAdd id 1 0 syn addr inst
  | none => s.logAdd id 1 0 syn addr inst

/-! ### Corrected events and MEM_WEAK (R485) -/

/-- The unit of an address: a 4 KiB page, or for memory 1 a bank of 1 024 cells of 256 bytes (R479, R485). -/
def unitOf (id addr : Nat) : Nat := if id = 1 then addr / 262144 else addr / 4096

/-- The key of a unit of an instance of a memory. -/
def unitKey (id inst unit : Nat) : Nat := 32 * (64 * unit + inst) + id

/-- The microseconds of 24 h. -/
def dayUs : Nat := 86400000000

/-- A corrected event: counted, logged, and held for 24 h against the threshold of its page or bank (R485). -/
def State.corrected (s : State) (id syn addr inst : Nat) : State :=
  let t := (s.inc64 (0x9810 + id) 1).logCorrected id syn addr inst
  let k := unitKey id inst (unitOf id addr)
  let old := (lgetD k [] t.mms.units).filter fun u => decide (s.uptime < u + dayUs)
  let t : State := { t with mms := { t.mms with units := lput k (s.uptime :: old) t.mms.units } }
  if t.rdN 0x9800 4 < old.length + 1 ∧ k ∉ t.mms.weak then
    (({ t with mms := { t.mms with weak := k :: t.mms.weak } } : State).raise 0x9800 5 id).logAdd id 4 0 0 addr inst
  else t

/-- CORRECTED_ERROR: the bit is corrected and written back, counted and logged (R480, R482, R485). -/
def execCorrectedError (mem : Fin 18) (addr syndrome inst : Nat) (s : State) : Host.Outcome State Fault Refusal :=
  .next (if s.memOn (memId mem) inst then s.corrected (memId mem) syndrome addr inst else s)

/-! ### Uncorrectable words (R482, R487) -/

/-- The row of R487 for a memory, and whether its action writes the word again. -/
def actionRow (id : Nat) : Nat :=
  match id with
  | 1 => 1 | 2 => 2 | 3 => 3 | 4 => 4 | 5 => 4 | 6 => 5 | 7 => 6 | 8 => 7 | 9 => 7 | 10 => 8 | 11 => 9 | 12 => 10
  | 13 => 11 | 14 => 12 | 15 => 13 | 16 => 14 | 17 => 15 | _ => 16

/-- A discarded frame of queue q counted against its tenant (R487 rows 1 and 2). -/
def State.cellDrops (s : State) (q n : Nat) : State :=
  let x := s.queue q
  if x.owner < 4096 then s.bump (0x4000 + x.owner) (if x.egress then 0x12 else 0x10) 64 n else s

/-- Every frame of queue q discarded; the queue's settings stand (R487 row 2). -/
def State.flushQueue (s : State) (q : Nat) : State :=
  let x := s.queue q
  if x.frames = [] then s
  else (((s.cellDrops q x.frames.length).setQueue q { x with frames := [], deficit := 0 }).cutShapers q).pauseAll

/-- The frame that holds a cell is discarded as it leaves its queue. Which frame that is the spec does not say: a free
choice among the heads of the queues (R487 row 1). -/
def State.discardCell (s : State) : State :=
  let qs := (s.grm.queues.filter fun q => decide (q.2.frames ≠ [])).map fun q => q.1
  match qs.getD (s.freeNat % qs.length) 0, qs with
  | _, [] => s
  | q, _ => (((s.drawn.cellDrops q 1).dequeue q).cutShapers q).pauseAll

/-- A HITLESS RESTART falls due; one that is due already keeps its cause (R526, R527). -/
def State.restartFor (s : State) (cause : RestartCause) : State :=
  { s with pow := { s.pow with restartDue := some (s.pow.restartDue.getD cause) } }

/-- The action of a row of R487. Row 13's second copy keeps the output as it was, unless both copies have failed; rows 3 and 8
rebuild what they hold from the dictionary store and the page in force, and row 15 shows at the far end. -/
def State.memAction (s : State) (row addr inst master : Nat) (scrub both : Bool) : State :=
  match row with
  | 1 => s.discardCell
  | 2 => s.flushQueue (addr / 32)
  | 4 => if master = 0 && !scrub then s.restartFor .memory else s
  | 5 => s.restartFor .memory
  | 6 => let k := addr % 2 ^ 24; s.setK k (if isN k then s.committed k else defaultOf k)
  | 7 =>
    let idle := decide (11 ≤ s.clItem inst)
    let t := s.faultCluster inst 3
    t.whenB (idle && t.clState inst == 5) fun u => u.islandReset (92 + inst) 2
  | 9 => s.slotError (addr / 32)
  | 10 => s.eraseMgmt (addr / 32)
  | 11 => s.setFec inst { s.fecOf inst with force := (s.fecOf inst).force + 1 }
  | 12 => (s.islandReset (8 + inst) 2).loseThread inst 1
  | 13 => s.whenB both fun t => t.islandReset inst 2
  | 14 => let a := inst; s.drawn.sliceFault a ((s.inRole a 0).getD (s.freeNat % 144) 0) 2
  | 16 =>
    if s.laneState inst = 3 ∨ s.laneState inst = 2 then
      let t := s.wrN (laneIdx inst) 1 2
      { t with lan := { t.lan with warm := dropFrom inst t.lan.warm, aligned := t.lan.aligned.filter fun p => !t.laneOf p inst } }
    else s
  | _ => s

/-- An uncorrectable read: counted, logged, the word poisoned, and the action of its row taken. The words of memories 1, 4,
5 and 6 stay poisoned until they are written; those of the others are written by the action or by the data that
follows (R482, R485, R487, log entry 46). -/
def State.uncorrectable (s : State) (id addr syn inst master : Nat) (scrub both : Bool) : State :=
  let row := actionRow id
  let t := ((s.inc64 (0x9810 + id) 2).count (.memUncorrectable id)).logAdd id 2 row syn addr inst
  let p := (id, addr / 8)
  let t : State :=
    if (id == 1 || id == 4 || id == 5 || id == 6) && !t.mms.poison.contains p then
      let u : State := { t with mms := { t.mms with poison := p :: t.mms.poison } }
      u.inc32 (0x9810 + id) 3
    else t
  t.memAction row addr inst master scrub both

/-- A master's access to a poisoned word: an uncorrectable read of syndrome 0xFF (R481, R482, R485). -/
def State.poisonRead (s : State) (a n master : Nat) : State :=
  match s.memOf a with
  | some (id, o) => match (wordsOf o n).find? fun w => s.poisoned id w with
    | some w => s.uncorrectable id (8 * w) 0xFF 0 master false false
    | none => s
  | none => s

/-- UNCORRECTABLE_READ; `both` tells that the second copy of a word of memory 15 is uncorrectable too (R482, R485, R487). -/
def execUncorrectableRead (mem : Fin 18) (addr syndrome inst : Nat) (master : Fin 18) (both : Bool) (s : State) :
    Host.Outcome State Fault Refusal :=
  .next (if s.memOn (memId mem) inst then s.uncorrectable (memId mem) addr syndrome inst master.val false both else s)

/-- SCRUB_READ: a word read by scrubbing is judged by its syndrome, and corrected or poisoned (R480, R482, R483). -/
def execScrubRead (mem : Fin 18) (word stored inst : Nat) (s : State) : Host.Outcome State Fault Refusal :=
  .next (
    let id := memId mem
    let x := syndrome stored word
    let addr := if id = 7 then word else 8 * word
    if !s.memOn id inst then s
    else match judgeSyndrome x with
      | .good => s
      | .corrected => s.corrected id x.toNat addr inst
      | .uncorrectable => s.uncorrectable id addr x.toNat inst 0 true false)

/-- The port served first at a word, from the cycles in which ports 0 and 1 present their accesses; the other is busy for a cycle
(R488). -/
def portFirst (cycle0 cycle1 : Nat) : Nat := if cycle1 < cycle0 then 1 else 0

/-! ### The background test (R484) -/

/-- 9800:06: the test runs, is frozen by S1, or is off (R492). -/
def State.testState (s : State) : Nat := if !s.rdB 0x9800 2 then 2 else if 1 ≤ s.rdN 0x1011 1 then 1 else 0

/-- MARCH_TEST_LINE: a line tested; a mismatch is counted and logged, and the last line ends a pass. Where R479 gives no
whole size, whether the line was the last is a free value (R484, R485). -/
def execMarchTestLine (mem : Fin 18) (line inst : Nat) (mismatch : Bool) (s : State) : Host.Outcome State Fault Refusal :=
  .next (
    let id := memId mem
    if !s.memOn id inst || s.testState != 0 then s
    else
      let t := if mismatch then (s.inc32 (0x9810 + id) 5).logAdd id 3 0 0 (64 * line) inst else s
      match memLines id with
      | some n => if line + 1 = n then t.inc32 (0x9810 + id) 4 else t
      | none => if t.freeBool then t.drawn.inc32 (0x9810 + id) 4 else t.drawn)

/-! ### Retirement (R490, R491) -/

/-- Whether a page of memory `id` at a byte address may be retired or taken as a spare: 4 KiB-aligned and within memory 4,
5 or 6 (R490). -/
def pageOk (id addr : Nat) : Bool :=
  decide (addr % 4096 = 0) &&
    (match id with | 4 => decide (addr < 0x1000000) | 5 => decide (addr < 0x800000) | 6 => decide (addr < 0x200000) | _ => false)

/-- Whether an address lies inside a page retired by a window, or inside an enabled window's target (R490). -/
def State.pageTaken (s : State) (a : Nat) : Bool :=
  (List.range 16).any fun w =>
    let r := 0x94A0 + w
    let n := windowSize (s.rdN r 3)
    s.rdB r 1 && ((decide (s.rdN r 2 ≤ a) && decide (a < s.rdN r 2 + n)) || (decide (s.rdN r 4 ≤ a) && decide (a < s.rdN r 4 + n)))

/-- The highest-numbered window whose enable is 0 (R490). -/
def State.freeWindow (s : State) : Option Nat := ((List.range 16).reverse).find? fun w => !s.rdB (0x94A0 + w) 1

/-- The retirement of a unit counted, and its MEM_WEAK ended (R485, R492). -/
def State.unitRetired (s : State) (id unit : Nat) : State :=
  let k := unitKey id 0 unit
  let t := s.inc32 (0x9810 + id) 7
  let t : State := { t with mms := { t.mms with units := ldel k t.mms.units, weak := dropFrom k t.mms.weak } }
  if t.mms.weak.any fun u => u % 32 == id then t else t.clear 0x9800 5 id

/-- A page copied to its spare, poison with it, and redirected (R490 steps 1 to 4). -/
def State.retirePage (s : State) (id page spare w : Nat) : State :=
  let src := memBase id + page
  match s.memOf spare with
  | some (sid, o) =>
    let t := s.memWrite (memBase sid + o) (s.memRead src 4096)
    let inPage := fun (m a : Nat) (p : Nat × Nat) => p.1 == m && decide (a ≤ 8 * p.2) && decide (8 * p.2 < a + 4096)
    let moved := (s.mms.poison.filter (inPage id page)).map fun p => (sid, p.2 - page / 8 + o / 8)
    let kept := s.mms.poison.filter fun p => !inPage sid o p
    let poison := moved ++ kept
    let t : State := { t with mms := { t.mms with poison := poison } }
    let t := t.each [4, 5, 6] fun u m => u.wrN (0x9810 + m) 3 (poison.filter fun p => p.1 == m).length
    let r := 0x94A0 + w
    ((((t.wrN r 2 src).wrN r 3 0).wrN r 4 spare).wrN r 1 1).unitRetired id (page / 4096)
  | none => s

/-- Bit b of 9831:01: bank b is retired, byte 0 bit 0 first (R492). -/
def State.bankRetired (s : State) (b : Nat) : Bool := bit ((s.rdS 0x9831 1).getD (b / 8) 0).toNat (b % 8)

/-- A bank marked in 9831:01. -/
def State.markBank (s : State) (b : Nat) : State :=
  s.wrS 0x9831 1 ((padTo 32 (s.rdS 0x9831 1)).modify (b / 8) fun x => x ||| BitVec.ofNat 8 (2 ^ (b % 8)))

/-- The rule of a command of 9830:04; its status stands in 9830:05 whether it succeeds or not (R490 to R492). -/
def State.retireEffect (s : State) (v : Nat) : Effect :=
  let id := s.rdN 0x9830 1
  let unit := s.rdN 0x9830 2
  let spare := s.rdN 0x9830 3
  let late :=
    if v = 1 then
      let spareOk := match s.memOf spare with | some (m, o) => pageOk m o | none => false
      need (pageOk id unit && spareOk) .outOfRange ++ need (!s.pageTaken spare) .conflict ++ need s.freeWindow.isSome .exhausted
    else
      need (id == 1 && decide (unit < 256)) .outOfRange ++
        need (s.bankRetired unit || decide (s.retiredCells + 1024 + 16384 ≤ s.sharedPart)) .exhausted
  let t :=
    if v = 1 then (match s.freeWindow with | some w => s.retirePage id unit spare w | none => s)
    else if s.bankRetired unit then s
    else (s.markBank unit).unitRetired 1 unit
  { fails := [], late := late, state := t.wrN 0x9830 5 0, failed := some (s.wrN 0x9830 5 (firstListed late).code) }

/-- The rule of a write to 9831:01: the banks it leaves out return to use (R491, R492). -/
def State.banksEffect (s : State) (v : List Byte) : Effect :=
  .ok ((s.wrS 0x9831 1 v).wrN 0x9811 7 (v.map fun b => popcount 8 b.toNat).sum)

/-- RETIRE_PAGE (R490). -/
def execRetirePage (s : State) : Host.Outcome State Fault Refusal := .next (s.command 0x9830 4 (.num 1) (s.retireEffect 1))
/-- RETIRE_BANK (R491). -/
def execRetireBank (s : State) : Host.Outcome State Fault Refusal := .next (s.command 0x9830 4 (.num 2) (s.retireEffect 2))
/-- CLEAR_LOG empties the log (R492). -/
def execClearLog (s : State) : Host.Outcome State Fault Refusal := .next (s.command 0x9808 3 (.num 1) (.ok (s.setLog [])))

end Sys2Proof.Machine
end

