-- ==== Sys2Proof/Machine/Bobbin.lean ====
section
/-! DEFINITION. Bobbin groups and protection (spec/14_bobbin_group.md R423 to R448): the links with their credits and retry,
requests from and to other members, how a DMA channel ends (R474 to R477), spanning tenants, 1+1 protection, and the group's alerts. -/

namespace Sys2Proof.Machine

/-! ### Positions and routes (R423, R424, R429) -/

/-- The group size. -/
def State.groupSize (s : State) : Nat := s.rdN 0x8C00 3
/-- The state of link q, as 8C10+q:01. -/
def State.linkState (s : State) (q : Nat) : Nat := s.rdN (0x8C10 + q) 1
/-- Whether link q is up. -/
def State.linkUp (s : State) (q : Nat) : Bool := s.linkState q == 3
/-- The position that R423 places at port q: W (0) faces the member before, E (1) the member after. -/
def State.neighbour (s : State) (q : Nat) : Nat :=
  (s.ownPosition + (if q = 0 then s.groupSize - 1 else 1)) % max 1 s.groupSize

/-- The port towards a member: the fewer hops, E where they are equal; the other port where that one is down (R429). -/
def State.route (s : State) (dest : Nat) : Option Nat :=
  let g := max 1 s.groupSize
  let d := (dest + g - s.ownPosition % g) % g
  let first := if 2 * d ≤ g then 1 else 0
  if !s.grouped || d = 0 || s.groupSize ≤ dest then none
  else if s.linkUp first then some first
  else if s.linkUp (1 - first) then some (1 - first)
  else none

/-- 8C00:05: this member and those to which a port has a route (log entry 48). -/
def State.membersReachable (s : State) : Nat :=
  if s.grouped then maskOf s.groupSize fun i => i == s.ownPosition || (s.route i).isSome else 0

/-- The bytes of an entry. -/
def State.entryBytes (s : State) (idx sub : Nat) : List Byte :=
  match entryOf idx sub with
  | some e => e.ty.bytes (s.rd idx sub)
  | none => []

/-- 8C00:04: CRC-32 over the group-wide entries, taken in the order of their addresses (R446, log entry 49). -/
def State.groupDigest (s : State) : List Byte :=
  beBytes 4 (crc32 (s.entryBytes 0x8C00 3 ++ s.entryBytes 0x8C00 0x0B ++ s.entryBytes 0x8C00 0x0C
    ++ (List.range 256).flatMap fun j => (List.range' 1 7).flatMap fun u => s.entryBytes (0x8D00 + j) u))

/-! ### Alerts (R444) -/

/-- A member's alert causes. -/
def State.alertCauses (s : State) : Nat :=
  putBit (putBit s.bob.latched 2 (s.inMode .safe)) 3 (s.rdN 0x8C00 0x0D != 0)

/-- 8C00:07 and the line brought up to date. The line's fall is counted and is a wake cause (R420, R444, R543). -/
def State.alertUpdate (s : State) : State :=
  if s.is1608 then s
  else
    let c := s.alertCauses
    let low := s.bob.alertSensed || decide (c &&& s.rdN 0x8C00 6 ≠ 0)
    let t := (s.wrN 0x8C00 7 c).wrB 0x8C00 9 low
    if low && !s.rdB 0x8C00 9 then ((t.countRaise .alertLow).vector 5).wakeRaise 3 else t

/-- A latched alert cause. -/
def State.alertLatch (s : State) (i : Nat) : State :=
  ({ s with bob := { s.bob with latched := setBit s.bob.latched i } } : State).alertUpdate

/-- ALERT_REPORT: the cause words of the members as the master collects them, and whether another member holds the line
low (R444). -/
def execAlertReport (causes : List Nat) (low : Bool) (s : State) : Host.Outcome State Fault Refusal :=
  .next (if s.is1608 || !s.on 1 then s
    else
      let t : State := { s with bob := { s.bob with alertSensed := low } }
      let t := t.alertUpdate
      if s.groupRole = 1 then
        t.wrS 0x8C00 0x0A ((List.range 4).flatMap fun i =>
          beBytes 4 (if i = s.ownPosition then t.alertCauses else causes.getD i 0))
      else t)

/-- Clear latched causes (R444). -/
def State.clearAlertsEffect (s : State) (mask : Nat) : Effect :=
  let t : State := { s with bob := { s.bob with latched := maskOf 5 fun i => bit s.bob.latched i && !bit mask i } }
  .ok t.alertUpdate

/-- CLEAR_ALERTS (R444). -/
def execClearAlerts (mask : BitVec 32) (s : State) : Host.Outcome State Fault Refusal :=
  .next (s.command 0x8C00 8 (.num mask.toNat) (s.clearAlertsEffect mask.toNat))

/-! ### Sending flits (R428 to R432) -/

/-- A link at its start: nothing sent, nothing received, all credits held (R430). -/
def Link.start : Link :=
  { txSeq := 0, rxSeq := 0, retry := [], vc0 := 256, vc1 := 128, back0 := 0, back1 := 0, waiting := [], resends := 0,
    outstanding := [], nakAt := none }
/-- A link. -/
def State.link (s : State) (q : Nat) : Link := lgetD q Link.start s.bob.links
/-- A link changed. -/
def State.setLink (s : State) (q : Nat) (x : Link) : State := { s with bob := { s.bob with links := lput q x s.bob.links } }

/-- The virtual channel of a flit; none uses no credit (R428). -/
def flitVc : FlitBody → Option Nat
  | .tenant .. => some 0 | .request .. => some 0 | .response .. => some 1 | _ => none

/-- A header's returned credits and acknowledgement filled in, and the flit sent (R430, R432). -/
def State.putFlit (s : State) (q : Nat) (f : Flit) : State :=
  let x := s.link q
  let g := { f with acked := (x.rxSeq + 4095) % 4096, vc0 := min 255 x.back0, vc1 := min 255 x.back1 }
  let t := s.setLink q { x with back0 := x.back0 - g.vc0, back1 := x.back1 - g.vc1 }
  (t.inc64 (0x8C10 + q) 7).emit (.flit q g)

/-- A numbered flit sent: it takes its credit and stands in the retry buffer until it is acknowledged (R430, R432). -/
def State.sendNow (s : State) (q : Nat) (f : Flit) : State :=
  let x := s.link q
  let f := { f with seqNo := x.txSeq }
  let x := { x with txSeq := (x.txSeq + 1) % 4096, retry := x.retry ++ [f] }
  let x := match flitVc f.body with | some 0 => { x with vc0 := x.vc0 - 1 } | some _ => { x with vc1 := x.vc1 - 1 } | none => x
  (s.setLink q x).putFlit q f

/-- Whether a flit may go now: a credit of its channel and room in the retry buffer (R430, R432). -/
def Link.maySend (x : Link) (f : Flit) : Bool :=
  decide (x.retry.length < 1024) &&
    match flitVc f.body with | some 0 => decide (0 < x.vc0) | some _ => decide (0 < x.vc1) | none => true

/-- A flit queued behind those of its channel that wait. -/
def State.linkSend (s : State) (q : Nat) (f : Flit) : State :=
  let x := s.link q
  if x.maySend f && !x.waiting.any (fun g => flitVc g.body == flitVc f.body) then s.sendNow q f
  else s.setLink q { x with waiting := x.waiting ++ [f] }

/-- The waiting flits that may go, in order (R430). -/
def State.pump (s : State) (q : Nat) : State :=
  let ws := (s.link q).waiting
  let t := s.setLink q { s.link q with waiting := [] }
  t.each ws fun u f => u.linkSend q f

/-- A flit made here for a member, sent on the route to it; lost where there is none. -/
def State.bobSend (s : State) (dest : Nat) (body : FlitBody) : State :=
  match s.route dest with
  | some q => s.linkSend q { source := s.ownPosition, dest := dest, seqNo := 0, acked := 0, vc0 := 0, vc1 := 0, body := body }
  | none => s

/-- A flit for the neighbour of port q. -/
def State.sendNear (s : State) (q : Nat) (body : FlitBody) : State :=
  s.sendNow q { source := s.ownPosition, dest := s.neighbour q, seqNo := 0, acked := 0, vc0 := 0, vc1 := 0, body := body }

/-- An unnumbered flit for the neighbour (R432). -/
def State.sendBare (s : State) (q : Nat) (body : FlitBody) : State :=
  s.putFlit q { source := s.ownPosition, dest := s.neighbour q, seqNo := 0, acked := 0, vc0 := 0, vc1 := 0, body := body }

/-! ### The requests of a DMA channel (R469) -/

/-- A burst of DMA channel c to the remote window of member i, split into REQUESTs that cross no 64-byte boundary, at most 64
outstanding (R469). -/
def State.remoteRequests (s : State) (c i : Nat) (write : Bool) : Nat → Nat → List Byte → Nat → State
  | 0, _, _, _ => s
  | fuel + 1, addr, data, left =>
    if left = 0 then s
    else
      let n := min left (64 - addr % 64)
      let t := match s.route i with
        | some q =>
          let x := s.link q
          match (List.range 64).find? fun k => (lget k x.outstanding).isNone with
          | some tag =>
            (s.setLink q { x with outstanding := lput tag (c, write) x.outstanding }).bobSend i (.request write tag n addr (data.take n))
          | none => s
        | none => s
      t.remoteRequests c i write fuel (addr + n) (data.drop n) (left - n)

/-! ### How a DMA channel ends (R474, R476, R477) -/

/-- The vector of channel c, where its interrupt is enabled (R418, R471). -/
def State.dmaVector (s : State) (c : Nat) : State := s.whenB (s.rdB (0x9500 + c) 8) fun t => t.vector (8 + c % 56)

/-- 9540:01 brought up to date. -/
def State.dmaReport (s : State) : State :=
  s.wrN 0x9540 1 ((List.range 64).filter fun c => s.rdN (0x9500 + c) 0x0A == 1).length

/-- The writeback record of channel c (R476). -/
def State.writeback (s : State) (c : Nat) : List Byte :=
  let i := 0x9500 + c
  padTo 64 (beBytes 8 (s.rdN i 0x0C) ++ beBytes 1 (s.rdN i 0x0A) ++ beBytes 1 (s.rdN i 0x0D) ++ [0, 0]
    ++ beBytes 4 (s.rdN i 0x10) ++ Ty.time96.bytes s.now)

/-- Where the engine may not write an address: error 3 outside its reach, error 4 in an isolated target or where no link leads to
the member (R461, R467, R468, R474). -/
def State.dmaBarred (s : State) (a : Nat) : Option Nat :=
  match s.target (s.redirect a) with
  | some (t, _) =>
    if !s.reaches 5 t true then some 3
    else if s.mat.isolated.contains t.number then some 4
    else match t with | .remote i => if (s.route i).isNone then some 4 else none | _ => none
  | none => some 3

/-- The writeback record written in the list space (R476). -/
def State.putWriteback (s : State) (c a : Nat) : State :=
  let b := s.writeback c
  if s.rdN (0x9500 + c) 2 = 1 then s.emit (.hostWrite a b)
  else
    let t := s.windowHit a
    match t.target (t.redirect a) with
    | some (.remote i, off) => t.remoteRequests c i true 2 off b b.length
    | _ => (t.matrixWrite (t.redirect a) b).getD t

/-- An access of the engine is held, logged and resolved, but for the modes in which it is answered at once (R467). -/
def State.dmaHeld (s : State) (a : Nat) : State :=
  if s.inMode .boot || s.inMode .test || s.inMode .safe then s
  else ((s.raise 0x9480 7 0).matrixLog 5 a 3).clear 0x9480 7 0

/-- The end of a job: the writeback in the list space, then the vector (R476). A writeback that the matrix refuses is not written,
and a job without another error ends with its error (R467, R474). -/
def State.dmaEnd (s : State) (c state err : Nat) : State :=
  let i := 0x9500 + c
  let a := s.rdN i 7
  let bad := if a = 0 ∨ s.rdN i 2 = 1 then none else s.dmaBarred a
  let s := s.whenB (bad == some 3) fun t => t.dmaHeld a
  let err := if err = 0 then bad.getD 0 else err
  let state := if err = 0 then state else 4
  let t := ((s.wrN i 0x0A state).wrN i 0x0D err).whenB (decide (err ≠ 0)) fun u => u.inc32 0x9540 3
  let t := t.whenB (decide (a ≠ 0) && bad.isNone) fun u => u.putWriteback c a
  let t : State := { t with mat := { t.mat with chans := ldel c t.mat.chans } }
  (t.dmaVector c).dmaReport

/-- Channel c stops with an error at entry `n` of its list, links excluded (R474). -/
def State.dmaError (s : State) (c n err : Nat) : State := (s.wrN (0x9500 + c) 0x0E n).dmaEnd c 4 err

/-- The entry of its source list at which a channel stands. -/
def State.dmaAt (s : State) (c : Nat) : Nat := match lget c s.mat.chans with | some x => x.src.count | none => 0

/-- A write answer of channel c carries an error after completion (R477). -/
def State.dmaLate (s : State) (c : Nat) : State :=
  let i := 0x9500 + c
  let ended := s.rdN i 0x0A == 3 || (s.rdN i 0x0A == 4 && s.rdN i 0x0D == 4)
  if !ended || s.rdB i 0x0B then s
  else ((((s.wrN i 0x0A 4).wrN i 0x0D 4).inc32 i 0x11).inc32 0x9540 3).dmaVector c

/-- The channel served next of those that have a burst ready: priority level 0 first, strictly; within a level in round robin
after the one served last (R475). -/
def State.dmaNext (s : State) (ready : List Nat) (last : Nat) : Option Nat :=
  argMin (fun c => 64 * s.rdN (0x9500 + c) 1 + (c + 63 - last) % 64) (ready.filter fun c => s.rdN (0x9500 + c) 0x0A == 1)

/-- Whether a channel has a job: running or paused (R475). -/
def State.dmaBusy (s : State) (c : Nat) : Bool := s.rdN (0x9500 + c) 0x0A == 1 || s.rdN (0x9500 + c) 0x0A == 2

/-- The default target's answer to a DMA channel: the job ends with error 3, after what R467 does with the access (log entry
45). -/
def State.dmaDecode (s : State) (c n a : Nat) : State := (s.dmaHeld a).dmaError c n 3

/-- MATRIX_DECODE_FAULT: in BOOT, TEST and SAFE, and for a master that is never held, the default target answers with an
error; elsewhere the access of a cluster or of DMA is held, logged and resolved (R467). Log entry 45 has the logging. -/
def execMatrixDecodeFault (master : Fin 18) (channel : Fin 64) (addr : Nat) (s : State) :
    Host.Outcome State Fault Refusal :=
  .next (
    let m := master.val
    let held := s.inMode .quiet || s.inMode .discover || s.inMode .service || s.inMode .shed
    if !s.on 1 || !s.unmapped m addr then s
    else if m = 5 then (if s.dmaBusy channel.val then s.dmaDecode channel.val (s.dmaAt channel.val) addr else s)
    else if m < 6 then s.matrixLog m addr 1
    else if held then
      (((s.raise 0x9480 7 0).matrixLog m addr 2).faultCluster (m - 6) 4).clear 0x9480 7 0
    else s)

/-! ### Signal fail and the request in force (R439 to R441) -/

/-- Whether this member's carrier holds a copy, and whether that copy has signal fail here. -/
def State.copyHere (s : State) (n : Nat) : Bool := decide (s.rxTotal n ≠ 0)
def State.copyFails (s : State) (n : Nat) : Bool :=
  decide (s.rdN (0x6000 + n) 0x0D % 4 ≠ 0) || decide (s.rdN (0x5000 + n) 0x14 % 4 ≠ 0)

/-- Whether the port with the fewer hops to a member is down (R429, R439). -/
def State.routeBroken (s : State) (dest : Nat) : Bool :=
  let g := max 1 s.groupSize
  let d := (dest + g - s.ownPosition % g) % g
  d != 0 && !s.linkUp (if 2 * d ≤ g then 1 else 0)

/-- The raw signal fail of a copy at its home: the tenant's own defects, or what its carrier reported, or the failure of the link on its
route; of a carrier that has not reported yet, of both links (R439, R443). -/
def State.rawFail (s : State) (n carrier : Nat) (reported : Bool) : Bool :=
  if s.copyHere n then s.copyFails n
  else reported || (s.grouped && s.homeOf n != 0xFF && (if carrier = 255 then !s.linkUp 0 && !s.linkUp 1 else s.routeBroken carrier))

/-- The request in force of a group: the highest-ranked present (R439). -/
def Prot.request (x : Prot) : Nat :=
  let l := (if x.command = 0 then [] else [x.command]) ++ (if x.sfProtect then [2] else []) ++ (if x.sfWorking then [4] else [])
    ++ (if x.wtr then [6] else []) ++ [7]
  l.foldl min 7

/-- What a request selects: false working, true protect (R439). -/
def requestSelects (revertive now : Bool) (r : Nat) : Bool :=
  if r ≤ 2 then false else if r ≤ 6 then true else if revertive then false else now

/-- PROTECTION_SWITCH: the selector moves; the time it took is a free value of at most 10 µs (R440, R444). -/
def State.protSwitch (s : State) (j : Nat) (v : Bool) : State :=
  let i := 0x8D00 + j
  if s.rdB i 9 = v then s
  else
    let t := ((s.wrB i 9 v).inc32 i 0x0C).wr i 0x0D s.now
    (t.drawn.wrN i 0x0E (t.freeNat % 10001)).alertLatch 1

/-- The far end's nibble for group j as last received (R441). -/
def State.apsNibble (s : State) (j : Nat) : Nat :=
  let b := ((padTo 128 s.frm.aps).getD (8 * (j / 16) + j % 16 / 2) 0).toNat
  if j % 2 = 0 then b / 16 else b % 16

/-- Bytes 64 to 71 of LF index i: the nibbles of groups 16i to 16i + 15 whose protect tenant this carrier sends, at a member
other than the home as the home told it (R441, log entry 170). -/
def State.apsSent (s : State) (i : Nat) : List Byte :=
  let nib := fun (j : Nat) =>
    let r := 0x8D00 + j
    if !s.rdB r 1 || decide (s.txTotal (s.rdN r 3) = 0) then 0
    else if s.homeHere (s.rdN r 3) then 2 * s.rdN r 0x0A + (if s.rdB r 9 then 1 else 0)
    else (s.prot j).nibble % 16
  (List.range 8).map fun b => BitVec.ofNat 8 (16 * nib (16 * i + 2 * b) + nib (16 * i + 2 * b + 1))

/-- The home tells the carrier of a protect copy that rides elsewhere which nibble to send (R441, log entry 170). -/
def State.protTell (s : State) (j : Nat) : State :=
  let i := 0x8D00 + j
  let x := s.prot j
  let nib := 2 * s.rdN i 0x0A + (if s.rdB i 9 then 1 else 0)
  if s.copyHere (s.rdN i 3) || x.carrier == 255 || x.sent == some nib then s
  else (s.setProt j { x with sent := some nib }).bobSend x.carrier (.prot j nib 0 true false false)

/-- A group at its home: the signal fails that count, the wait-to-restore, the far end's request, the request in force and
the selection (R439 to R441). -/
def State.protHome (s : State) (j : Nat) : State :=
  let i := 0x8D00 + j
  let x := s.prot j
  let w := s.rdN i 2
  let p := s.rdN i 3
  let at_ := s.rdN i 6 = 0
  let sfW := s.rawFail w x.carrierW x.rawWorking && (x.sfWorking || at_)
  let sfP := s.rawFail p x.carrier x.rawProtect && (x.sfProtect || at_)
  let wtr := !sfW && (x.wtr || (x.sfWorking && s.rdB i 5 && s.rdN i 7 != 0)) && s.rdB i 5
  let far := if s.rdB i 4 then (if s.copyHere p then s.apsNibble j else x.nibble) % 16 / 2 else 0
  let x := { x with sfWorking := sfW, sfProtect := sfP, wtr := wtr, farReq := far }
  let own := x.request
  let both := if far = 0 then own else min own (if far = 6 then 7 else far)
  ((((s.setProt j x).wrN i 0x0A own).wrN i 0x0B far).protSwitch j (requestSelects (s.rdB i 5) (s.rdB i 9) both)).protTell j

/-- A group at a carrier member: a change of signal fail of a copy held here, its own or of the link towards the home, is reported
to the home, with the nibble received on the carrier of the protect copy (R439, R441, log entry 170). -/
def State.protCarrier (s : State) (j : Nat) : State :=
  let i := 0x8D00 + j
  let x := s.prot j
  let w := s.rdN i 2
  let p := s.rdN i 3
  let cut := s.routeBroken (s.homeOf w)
  let rw := s.copyHere w && (s.copyFails w || cut)
  let rp := s.copyHere p && (s.copyFails p || cut)
  let held := (if s.copyHere w then 1 else 0) + (if s.copyHere p then 2 else 0)
  let nib := if s.copyHere p && s.rdB i 4 then s.apsNibble j else 0
  let told := (if rw then 1 else 0) + (if rp then 2 else 0) + 4 * held + 16 * nib
  if held = 0 ∨ x.sent = some told then s
  else (s.setProt j { x with rawWorking := rw, rawProtect := rp, sent := some told }).bobSend (s.homeOf w)
    (.prot j nib held true rw rp)

/-- A protection group brought up to date. -/
def State.protRefresh (s : State) (j : Nat) : State :=
  if !s.rdB (0x8D00 + j) 1 then s
  else if s.homeHere (s.rdN (0x8D00 + j) 2) then s.protHome j else s.protCarrier j

/-- Every enabled group brought up to date. -/
def State.protAll (s : State) : State := s.each s.protGroups State.protRefresh

/-- HOLD_OFF_EXPIRY: a signal fail that has persisted counts (R439). -/
def execHoldOffExpiry (j : Fin 256) (protect : Bool) (s : State) : Host.Outcome State Fault Refusal :=
  .next (
    let i := 0x8D00 + j.val
    let x := s.prot j.val
    if !s.rdB i 1 || !s.homeHere (s.rdN i 2) then s
    else if protect then
      (s.setProt j.val { x with sfProtect := s.rawFail (s.rdN i 3) x.carrier x.rawProtect }).protRefresh j.val
    else (s.setProt j.val { x with sfWorking := s.rawFail (s.rdN i 2) x.carrierW x.rawWorking }).protRefresh j.val)

/-- PROTECTION_WTR_EXPIRY: the wait-to-restore ends (R439). -/
def execProtectionWtrExpiry (j : Fin 256) (s : State) : Host.Outcome State Fault Refusal :=
  .next ((s.setProt j.val { s.prot j.val with wtr := false }).protRefresh j.val)

/-! ### Protection commands (R443) -/

/-- A command applied at the home: 1 clears the host request, 2 to 4 set it (R439, R443). -/
def State.protApply (s : State) (j v : Nat) : State :=
  (s.setProt j { s.prot j with command := match v with | 2 => 1 | 3 => 3 | 4 => 5 | _ => 0 }).protRefresh j

/-- Whether a command for group j is carried to another member. -/
def State.protRemote (s : State) (j : Nat) : Bool := s.groupRole == 1 && !s.homeHere (s.rdN (0x8D00 + j) 2)

/-- The rule of 8D00+j:08 (R426, R443). -/
def State.protCommand (s : State) (j v : Nat) : Effect :=
  let i := 0x8D00 + j
  let home := s.homeOf (s.rdN i 2)
  if s.protRemote j then
    let k := (s.bob.cmdNumber + 1) % 65536
    let t : State := { s with bob := { s.bob with
      cmdNumber := k, pendingCmd := s.bob.pendingCmd ++ [{ group := j, cmd := v, number := k, answer := none }] } }
    { fails := [], late := need (s.route home).isSome .aborted
      state := (t.wrN i 0x11 0).bobSend home (.prot j v k false false false)
      failed := some (s.wrN i 0x11 2) }
  else { fails := need (s.groupRole != 2) .notMaster, state := (s.protApply j v).wrN i 0x11 1 }

/-- The answer of the command carried last is held until the home acknowledges it. -/
def State.deferAnswer (s : State) (o : Out) : State :=
  { s with bob := { s.bob with pendingCmd :=
    s.bob.pendingCmd.dropLast ++ (s.bob.pendingCmd.getLast?.toList.map fun c => { c with answer := some o }) } }

/-- A protection command row: answered at once, or once the home acknowledges (R443). -/
def State.protRow (s : State) (j v : Nat) : State :=
  let i := 0x8D00 + j
  let r := s.judgeWrite i 8 (s.writeFails i 8 (.num v)) (s.protCommand j v)
  if s.identityServed && decide (r.1 = .done) && s.protRemote j then
    r.2.commandCount.deferAnswer (.answer (key i 8) .done 0)
  else s.command i 8 (.num v) (s.protCommand j v)

/-- PROTECTION_CLEAR (R443). -/
def execProtectionClear (j : Fin 256) (s : State) : Host.Outcome State Fault Refusal := .next (s.protRow j.val 1)
/-- PROTECTION_LOCKOUT (R443). -/
def execProtectionLockout (j : Fin 256) (s : State) : Host.Outcome State Fault Refusal := .next (s.protRow j.val 2)
/-- PROTECTION_FORCED (R443). -/
def execProtectionForced (j : Fin 256) (s : State) : Host.Outcome State Fault Refusal := .next (s.protRow j.val 3)
/-- PROTECTION_MANUAL (R443). -/
def execProtectionManual (j : Fin 256) (s : State) : Host.Outcome State Fault Refusal := .next (s.protRow j.val 4)

/-- An answer that was to say DONE says ABORTED for the command of group j. -/
def abortAnswer (j : Nat) : Out → Out
  | .answer k _ r => .answer k .aborted r
  | .response src op seq st r tag c items =>
    .response src op seq st r tag c
      (items.map fun x => if x.idx = 0x8D00 + j ∧ x.sub = 8 then { x with status := .aborted } else x)
  | .mdio _ ty val => .mdio Status.aborted.code ty val
  | o => o

/-- The home has acknowledged a command, or no route to it remains (R443). -/
def State.protAnswered (s : State) (c : PendCmd) (applied : Bool) : State :=
  let t : State := { s with bob := { s.bob with pendingCmd := s.bob.pendingCmd.filter fun x => x.number != c.number } }
  let t := t.wrN (0x8D00 + c.group) 0x11 (if applied then 1 else 2)
  match c.answer with
  | some o => t.answered (if applied then o else t.retag (abortAnswer c.group o))
  | none => t

/-- Unacknowledged commands sent again over the route that remains, or aborted (R443). -/
def State.protResend (s : State) : State :=
  s.each s.bob.pendingCmd fun t c =>
    let home := t.homeOf (t.rdN (0x8D00 + c.group) 2)
    if (t.route home).isSome then t.bobSend home (.prot c.group c.cmd c.number false false false) else t.protAnswered c false

/-! ### Distribution (R426) -/

/-- GROUP_DISTRIBUTION at the master: acknowledged where every member is reachable, else unacknowledged until its link
comes up (R426, R444). -/
def State.distribute (s : State) : State :=
  if s.groupRole ≠ 1 then s
  else
    let missing := decide (popcount 4 s.membersReachable < s.groupSize)
    let t : State := { s with bob := { s.bob with distUnacked := missing } }
    if missing then t.alertLatch 4 else t

/-- The entries a distribution brings a member, where they are group-wide (R426). -/
def State.takeDistribution (s : State) (l : List (Nat × DVal)) : State :=
  let ok := fun (p : Nat × DVal) =>
    match entryOf (p.1 / 256) (p.1 % 256) with | some e => e.groupWide && decide (p.1 / 256 ≠ 0 ∧ e.acc ≠ .wo) | none => false
  (s.each (l.filter ok) fun t p => t.setK p.1 p.2).protAll

/-- Whether a member still awaits the distribution that a link-up with differing digests started (R426, R445). -/
def State.distPending (s : State) : Bool :=
  match s.bob.awaited with
  | some d => s.grouped && decide (s.groupRole ≠ 1) && d != s.groupDigest
  | none => false

/-! ### Link failure and restart (R433, R434) -/

/-- What a change of the links changes elsewhere: the copies' signal fail, the commands on their way, and the members
reached. -/
def State.linksChanged (s : State) : State := ((s.wrN 0x8C00 5 s.membersReachable).protAll).protResend

/-- A REQUEST of a DMA channel has ended in an error: its job in progress stops with error 4, and of a job that is complete a write
gives a late error (R469, R474, R477). -/
def State.remoteError (s : State) (c : Nat) (write : Bool) : State :=
  if s.dmaBusy c then s.dmaError c (s.dmaAt c) 4 else if write then s.dmaLate c else s

/-- Of the flits that wait on a link which is lost, those that still mean something: not this member's own REQUESTs, which have ended in
an error, nor the rest of a frame whose first flit is gone; `seen` holds the source and tenant of the frames that begin among them
(R434). -/
def stillWhole (own : Nat) : List (Nat × Nat) → List Flit → List Flit
  | _, [] => []
  | seen, f :: r =>
    match f.body with
    | .tenant n start .. =>
      if start then f :: stillWhole own ((f.source, n) :: seen) r
      else if seen.contains (f.source, n) then f :: stillWhole own seen r else stillWhole own seen r
    | .request .. => if f.source = own then stillWhole own seen r else f :: stillWhole own seen r
    | _ => f :: stillWhole own seen r

/-- What a link loses: both retry buffers go, outstanding REQUESTs end in error, frames in part received are dropped, and what still
waits takes the other port (R434). -/
def State.linkDiscard (s : State) (q : Nat) : State :=
  let ws := stillWhole s.ownPosition [] (s.link q).waiting
  let asked := (s.link q).outstanding
  let t := (s.setLink q Link.start).each asked fun u x => u.remoteError x.2.1 x.2.2
  let t : State := { t with bob := { t.bob with partials := t.bob.partials.filter fun p => p.1 / 16384 != q } }
  t.each ws fun u f => match u.route f.dest with | some o => u.linkSend o f | none => u

/-- LINK_FAILURE (R433, R434). -/
def State.linkFail (s : State) (q cause : Nat) : State :=
  let i := 0x8C10 + q
  if s.linkState q = 0 ∨ s.linkState q = 4 then s
  else
    let t := ((s.wrN i 1 4).inc32 i 0x0B).linkDiscard q
    let t := ((t.wrN i 0x0C cause).candFail (7 + q) 4).count (.linkFail q)
    (t.alertLatch 0).linksChanged

/-- A port starts: its lanes acquire, its counters are reset, and what its link still held is lost (R434, R445). -/
def State.linkStart (s : State) (q : Nat) : State :=
  let i := 0x8C10 + q
  let t := ((s.bobPortStart q).wrN i 1 1).linkDiscard q
  (t.wrN i 2 255).wrN i 3 0

/-- Whether port q is powered in a group. -/
def State.bobOn (s : State) (q : Nat) : Bool := s.grouped && s.on (20 + q)

/-- LINK_RESTART_TIMER: 10 ms after a failure other than the host's (R434). -/
def execLinkRestartTimer (q : Fin 2) (s : State) : Host.Outcome State Fault Refusal :=
  .next (if s.bobOn q.val && s.linkState q.val = 4 && s.rdN (0x8C10 + q.val) 0x0C != 6 then (s.linkStart q.val).linksChanged else s)

/-- The rule of 8C10+q:0D: take down (an already failed link then stays down), or restart (R433, R434). -/
def State.linkEffect (s : State) (q v : Nat) : Effect :=
  .ok (if !s.bobOn q then s
    else if v = 1 then (if s.linkState q = 4 then s.wrN (0x8C10 + q) 0x0C 6 else s.linkFail q 6)
    else (s.linkStart q).linksChanged)

/-- LINK_TAKE_DOWN (R433). -/
def execLinkTakeDown (q : Fin 2) (s : State) : Host.Outcome State Fault Refusal :=
  .next (s.command (0x8C10 + q.val) 0x0D (.num 1) (s.linkEffect q.val 1))
/-- LINK_RESTART (R434). -/
def execLinkRestart (q : Fin 2) (s : State) : Host.Outcome State Fault Refusal :=
  .next (s.command (0x8C10 + q.val) 0x0D (.num 2) (s.linkEffect q.val 2))

/-- The error counter raised; at the limit the link fails (R433). -/
def State.linkErrors (s : State) (q n : Nat) : State :=
  let t := s.addSat (0x8C10 + q) 3 1024 n
  if t.rdN (0x8C10 + q) 4 ≤ t.rdN (0x8C10 + q) 3 then t.linkFail q 1 else t

/-- A NAK for the flit expected, at most once per 512 ns: of two in one microsecond of the clock, whether the second is
sent is a free value (R432, R433). The result counts the NAKs sent. -/
def State.nak (s : State) (q : Nat) : Nat × State :=
  let x := s.link q
  let again := x.nakAt == some s.uptime
  if again && !s.freeBool then (0, s.drawn)
  else
    let t := if again then s.drawn else s
    (1, (t.setLink q { x with nakAt := some s.uptime }).sendBare q (.nak x.rxSeq))

/-- FLIT_CRC_FAIL: the flit is discarded and a NAK sent (R432, R433). -/
def execFlitCrcFail (q : Fin 2) (s : State) : Host.Outcome State Fault Refusal :=
  .next (if !s.linkUp q.val then s
    else
      let r := (s.inc32 (0x8C10 + q.val) 9).nak q.val
      r.2.linkErrors q.val (1 + r.1))

/-- NULL_FLIT_DUE (R432). -/
def execNullFlitDue (q : Fin 2) (s : State) : Host.Outcome State Fault Refusal :=
  .next (if s.linkUp q.val then s.sendBare q.val .null else s)

/-- ERROR_COUNTER_LEAK (R433). -/
def execErrorCounterLeak (q : Fin 2) (s : State) : Host.Outcome State Fault Refusal :=
  .next (s.wrN (0x8C10 + q.val) 3 (s.rdN (0x8C10 + q.val) 3 - 1))

/-- CREDIT_TIMEOUT: a flit has waited 2 µs without a credit (R430, R433). -/
def execCreditTimeout (q vc : Fin 2) (s : State) : Host.Outcome State Fault Refusal :=
  .next (
    let x := s.link q.val
    let none_ := if vc.val = 0 then x.vc0 == 0 else x.vc1 == 0
    if s.linkUp q.val && none_ && x.waiting.any (fun f => flitVc f.body == some vc.val) then
      (s.inc32 (0x8C10 + q.val) 0x0A).linkFail q.val 2
    else s)

/-! ### Receiving flits (R429 to R432) -/

/-- What the header of a good flit brings: credits, and the acknowledgement of flits in the retry buffer (R430, R432). -/
def Link.header (x : Link) (f : Flit) : Link :=
  let x := { x with vc0 := min 256 (x.vc0 + f.vc0), vc1 := min 128 (x.vc1 + f.vc1) }
  if x.retry.any fun g => g.seqNo == f.acked then
    { x with retry := (x.retry.dropWhile fun g => g.seqNo != f.acked).drop 1, resends := 0 }
  else x

/-- A flit received on link q: one out of sequence is answered with a NAK; one for another member is forwarded; one for
this member goes to `k`. The credit of its channel is to be returned in any case (R429 to R432). -/
def State.flitIn (s : State) (q : Nat) (f : Flit) (k : State → State) : State :=
  if !s.linkUp q then s
  else
    let t := s.inc64 (0x8C10 + q) 8
    let t := t.setLink q ((t.link q).header f)
    if f.seqNo ≠ (t.link q).rxSeq then
      let r := t.nak q
      r.2.linkErrors q r.1
    else
      let x := t.link q
      let x := { x with rxSeq := (x.rxSeq + 1) % 4096 }
      let x := match flitVc f.body with | some 0 => { x with back0 := x.back0 + 1 } | some _ => { x with back1 := x.back1 + 1 } | none => x
      let t := (t.setLink q x).pump q
      if f.dest = t.ownPosition then k t
      else if t.linkUp (1 - q) then t.linkSend (1 - q) { f with seqNo := 0 }
      else t

/-- INIT_RECEIVE: the neighbour is checked; the link comes up with all its credits, or is refused. Of the entries that a
digest mismatch starts, those a member receives come with the event. The round trip is what was measured, a free value
(R425, R426, R430, R447). -/
def execInitReceive (q : Fin 2) (f : Flit) (distributed : List (Nat × DVal)) (s : State) : Host.Outcome State Fault Refusal :=
  .next (match f.body with
    | .init position size code digest =>
      let i := 0x8C10 + q.val
      if s.linkState q.val ≠ 2 then s
      else
        let t := (s.inc64 i 8).defect 0x8C00 0x0D 1 (decide (size ≠ s.groupSize))
        if position ≠ s.neighbour q.val ∨ size ≠ s.groupSize ∨ code = 1 ∨ s.is1608 then (t.linkFail q.val 5).alertUpdate
        else
          let x := t.link q.val
          let t := (t.setLink q.val { x with rxSeq := (f.seqNo + 1) % 4096, vc0 := 256, vc1 := 128 })
          let t := (((t.wrN i 1 3).wrN i 2 position).drawn.wrN i 0x0E (t.freeNat % 2 ^ 32)).alertUpdate
          let t := t.linksChanged
          if t.groupRole = 1 then (if digest ≠ t.groupDigest ∨ t.bob.distUnacked then t.distribute else t)
          else if digest ≠ t.groupDigest then
            ({ t with bob := { t.bob with awaited := some digest } } : State).takeDistribution distributed
          else t
    | _ => s)

/-- NAK_RECEIVE: what the NAK's sequence acknowledges goes, and the flits from there on are sent again in order; a flit
sent again 8 times fails the link. Of the other flit without a number, NULL, only the header counts (R432, R433). -/
def execNakReceive (q : Fin 2) (f : Flit) (s : State) : Host.Outcome State Fault Refusal :=
  .next (match f.body with
    | .nak expected =>
      if !s.linkUp q.val then s
      else
        let t := (s.inc64 (0x8C10 + q.val) 8).setLink q.val ((s.link q.val).header f)
        let x := t.link q.val
        let rest := x.retry.dropWhile fun g => g.seqNo != expected
        if rest = [] then t
        else
          let moved := decide (rest.length < x.retry.length)
          let n := if moved then 1 else x.resends + 1
          let t := t.setLink q.val { x with retry := rest, resends := n }
          let t := (t.each rest fun u g => u.putFlit q.val g).bump (0x8C10 + q.val) 6 32 rest.length
          if 8 ≤ n then t.linkFail q.val 4 else t.pump q.val
    | .null =>
      if s.linkUp q.val then ((s.inc64 (0x8C10 + q.val) 8).setLink q.val ((s.link q.val).header f)).pump q.val else s
    | _ => s)

/-! ### Tenant flits (R427, R431, R435) -/

/-- The key of a frame that arrives in flits from a member over port q. -/
def partialKey (q source n : Nat) : Nat := 16384 * q + 4096 * source + n

/-- A whole frame has arrived for tenant n: at its home it joins the egress queues in sequence, at a carrier the piece
queue; it is admitted or dropped (R290, R431, R435). -/
def State.frameArrives (s : State) (n : Nat) (x : Partial) : State :=
  let home := s.homeHere n
  let p := if home then s.portOf n else 16
  let f : QFrame := { id := x.frame, len := x.len, bytes := x.bytes, cells := cellsOf x.len, port := p, cls := x.cls, headroom := false,
                      seqNo := x.tag, ready := true }
  if !s.packetTenant n || !s.on 17 || (home && s.standbyStale n x.tag) then s
  else (s.judgeFrame n x.cls p home false f).resequence n x.cls

/-- TENANT_FLIT_RECEIVE; a flit of a frame whose first flit is lost is discarded (R429, R431, R434, R435). -/
def execTenantFlitReceive (q : Fin 2) (f : Flit) (s : State) : Host.Outcome State Fault Refusal :=
  .next (match f.body with
    | .tenant n start last valid _ frame cls tag data =>
      s.flitIn q.val f fun t =>
        let k := partialKey q.val f.source n
        match (if start then some { len := 0, bytes := [], frame := frame, cls := cls, tag := tag } else lget k t.bob.partials) with
        | none => t
        | some x =>
          let x : Partial := { x with len := x.len + valid, bytes := x.bytes ++ padTo valid (data.take valid) }
          if last then ({ t with bob := { t.bob with partials := ldel k t.bob.partials } } : State).frameArrives n x
          else { t with bob := { t.bob with partials := lput k x t.bob.partials } }
    | _ => s)

/-- RESEQUENCE_TIMEOUT: the frame waited for is skipped, up to the lowest sequence that waits (R435). -/
def execResequenceTimeout (n : Fin 4096) (s : State) : Host.Outcome State Fault Refusal :=
  .next (
    let d := lgetD n.val 0 s.bob.spanSeq
    match s.headSeqs n.val with
    | [] => s
    | a :: r =>
      let low := r.foldl (fun x y => if seqLe y x then y else x) a
      if !s.groupHome n.val || (s.protOf n.val).isSome || low = d then s
      else
        let t := s.bump 0x8C00 0x0E 64 ((low + 2 ^ 32 - d) % 2 ^ 32)
        { t with bob := { t.bob with spanSeq := lput n.val low t.bob.spanSeq } })

/-- A frame of tenant n sent to a member in TENANT flits of up to 112 bytes (R428). -/
def State.sendFrame (s : State) (n dest : Nat) (f : QFrame) : State :=
  let m := max 1 (ceilDiv f.len 112)
  s.each (List.range m) fun t i =>
    t.bobSend dest (.tenant n (i == 0) (i + 1 == m) (if i + 1 = m then f.len - 112 * i else 112) (dest % 4) f.id f.cls f.seqNo
      (slice f.bytes (112 * i) 112))

/-- Whether frames may be dispatched to a member now: a route with nothing waiting on it. -/
def State.dispatchTo (s : State) (dest : Nat) : Bool :=
  match s.route dest with | some q => decide ((s.link q).waiting = []) | none => false

/-- One frame of tenant n dispatched over the links, where there is one: from a carrier to the home, or from the home to a
member that holds a piece. Which member takes it is a free choice: the spec does not say how the home knows the others'
positions (R427, R435, log entry 47). -/
def State.dispatchOne (s : State) (n : Nat) : State :=
  if s.homeHere n then
    let dest := s.freeNat % max 1 s.groupSize
    let t := s.drawn
    if dest = t.ownPosition || !t.groupHome n || (t.shaper n).inProgress.isSome || !t.dispatchTo dest then t
    else match t.classPick n false with
      | some (q, f, u) => (u.dequeue q).sendFrame n dest f
      | none => t
  else
    let q := pieceQueue n true
    match (s.queue q).frames with
    | f :: _ => if f.ready && s.dispatchTo (s.homeOf n) then (s.dequeue q).sendFrame n (s.homeOf n) f else s
    | [] => s

/-- What the links carry away in one microsecond (R435): a frame of each packet tenant of the group that has one. -/
def State.bobDispatch (s : State) : State :=
  if s.grouped && s.on 17 && (s.linkUp 0 || s.linkUp 1) then
    s.each (s.configured.filter fun n => !s.tenCbr n && s.homeOf n != 0xFF) State.dispatchOne
  else s

/-! ### Requests (R431, R469) -/

/-- A REQUEST performed as one matrix transaction of the bobbin master of port q: status and data (R461, R469). -/
def State.serveRequest (s : State) (q : Nat) (write : Bool) (len addr : Nat) (data : List Byte) : Nat × List Byte × State :=
  let a := s.redirect addr
  match s.target a with
  | some (tg, _) =>
    if s.mat.isolated.contains tg.number then (1, [], s)
    else if s.reaches (3 + q) tg write then
      let t := s.windowHit addr
      if write then
        match t.matrixWrite a (data.take len) with | some u => (0, [], u) | none => (3, [], t.poisonRead a len (3 + q))
      else
        match t.matrixRead a len with | some b => (0, b, t) | none => (3, [], t.poisonRead a len (3 + q))
    else (1, [], s.matrixLog (3 + q) addr 1)
  | none => (1, [], s.matrixLog (3 + q) addr 1)

/-- REQUEST_FLIT_RECEIVE (R469). -/
def execRequestFlitReceive (q : Fin 2) (f : Flit) (s : State) : Host.Outcome State Fault Refusal :=
  .next (match f.body with
    | .request write tag len addr data =>
      s.flitIn q.val f fun t =>
        let r := t.serveRequest q.val write len addr data
        r.2.2.bobSend f.source (.response tag r.1 r.2.1)
    | _ => s)

/-- REQUEST_ACCEPT_TIMEOUT: the REQUEST is answered with status 2 (R431, R469). -/
def execRequestAcceptTimeout (q : Fin 2) (f : Flit) (s : State) : Host.Outcome State Fault Refusal :=
  .next (match f.body with
    | .request _ tag _ _ _ => s.flitIn q.val f fun t => t.bobSend f.source (.response tag 2 [])
    | _ => s)

/-- RESPONSE_FLIT_RECEIVE: an outstanding REQUEST is complete, or has ended in an error (R469). -/
def execResponseFlitReceive (q : Fin 2) (f : Flit) (s : State) : Host.Outcome State Fault Refusal :=
  .next (match f.body with
    | .response tag status _ =>
      s.flitIn q.val f fun t =>
        let x := t.link q.val
        let u := t.setLink q.val { x with outstanding := ldel tag x.outstanding }
        match lget tag x.outstanding with
        | some a => if status = 0 then u else u.remoteError a.1 a.2
        | none => u
    | _ => s)

/-! ### Time and protection flits (R384, R443) -/

/-- TIME_FLIT_RECEIVE: the stamps give the candidate's phase offset, with the QL and the holdover flag of the neighbour; half
a ps is rounded freely (R368, R380, R384). -/
def execTimeFlitReceive (q : Fin 2) (f : Flit) (s : State) : Host.Outcome State Fault Refusal :=
  .next (match f.body with
    | .time t1 t2 t3 t4 ql holdover =>
      s.flitIn q.val f fun t =>
        let r := 7 + q.val
        let off := roundFree t.free ((t2 - t1) - (t4 - t3)) 2
        let t := (t.drawn.wrI (0x8010 + r) 0x0A off).wrN (0x8010 + r) 8 (ql % 16)
        (t.setCand r { t.cand r with holdover := holdover }).reselect
    | _ => s)

/-- BOBBIN_TIME_EXCHANGE: a TIME flit with the stamps measured at the lane balls, free values, the QL in force and whether
the DPLL is in holdover or free-run (R384). -/
def execBobbinTimeExchange (q : Fin 2) (s : State) : Host.Outcome State Fault Refusal :=
  .next (if !s.linkUp q.val then s
    else
      let v := fun (i : Nat) => (Config.freeNat (s.free + i) : Int)
      let t : State := { s with free := s.free + 4 }
      t.sendNear q.val (.time (v 0) (v 1) (v 2) (v 3) s.ssmOf (decide (s.dpll = 3 ∨ s.dpll = 0))))

/-- PROT_FLIT_RECEIVE: a report of signal fail and of the far end's nibble to the home, or the nibble that the home has a carrier
send; a command, applied once for its number and acknowledged; or, at
the master, the acknowledgement (R439, R441, R443, log entry 170). -/
def execProtFlitReceive (q : Fin 2) (f : Flit) (s : State) : Host.Outcome State Fault Refusal :=
  .next (match f.body with
    | .prot j cmd number report sfW sfP =>
      s.flitIn q.val f fun t =>
        let x := t.prot j
        if report && t.homeHere (t.rdN (0x8D00 + j) 2) then
          let x := if bit number 0 then { x with rawWorking := sfW, carrierW := f.source } else x
          (t.setProt j (if bit number 1 then { x with rawProtect := sfP, nibble := cmd, carrier := f.source } else x)).protRefresh j
        else if report then t.setProt j { x with nibble := cmd }
        else if t.groupRole = 1 then
          match t.bob.pendingCmd.find? fun c => c.number == number && c.group == j with
          | some c => t.protAnswered c true
          | none => t
        else
          let u := if x.lastNumber = some number then t
            else (t.setProt j { x with lastNumber := some number }).protApply j cmd
          u.bobSend f.source (.prot j cmd number false false false)
    | _ => s)

/-! ### Markers, lanes and idle (R403 to R407) -/

/-- What the lane layer does to link q: too few lanes fail it (R433), and lock on every lane in use brings INIT (R425). -/
def State.lanesJudge (s : State) (q : Nat) : State :=
  if s.linkState q = 0 ∨ s.linkState q = 4 then s
  else if s.lanesLeft q < s.rdN 0x9000 4 then s.linkFail q 3
  else if s.linkState q = 1 && (List.range 8).all (fun i => (s.bobLane (8 * q + i)).retired || (s.bobLane (8 * q + i)).locked) then
    (s.wrN (0x8C10 + q) 1 2).sendNear q (.init s.ownPosition s.groupSize s.fuse.code.val s.groupDigest)
  else s

/-- MARKER_RECEIVE (R403 to R405). -/
def execMarkerReceive (b : Fin 16) (m : Marker) (s : State) : Host.Outcome State Fault Refusal :=
  .next ((s.markerIn b.val m).lanesJudge (b.val / 8))

/-- MARKER_TRANSMIT (R404). -/
def execMarkerTransmit (q : Fin 2) (s : State) : Host.Outcome State Fault Refusal :=
  .next (if s.bobOn q.val then (s.markerOut q.val false).lanesJudge q.val else s)

/-- LANE_RETIRE_COMMAND: command 1 of 9040+b:16 (R405). -/
def execLaneRetireCommand (b : Fin 16) (s : State) : Host.Outcome State Fault Refusal :=
  .next (s.command (0x9040 + b.val) 0x16 (.num 1) (.ok ((s.retireBob b.val 4).lanesJudge (b.val / 8))))

/-- PORT_IDLE_ENTER (R407). -/
def execPortIdleEnter (q : Fin 2) (s : State) : Host.Outcome State Fault Refusal :=
  .next (if s.linkUp q.val then ((s.bobIdleEnter q.val).wrN (0x8C10 + q.val) 1 5).linksChanged else s)

/-- PORT_IDLE_EXIT (R407). -/
def execPortIdleExit (q : Fin 2) (s : State) : Host.Outcome State Fault Refusal :=
  .next (if s.linkState q.val = 5 then ((s.bobIdleExit q.val).wrN (0x8C10 + q.val) 1 3).linksChanged else s)

/-! ### Rules of writes (R436, R437, R446, R448) -/

/-- Whether tenants w and p may form group j (R436, R437). Whether one of them spans members is a free value where the
home does not see it (log entry 47). -/
def State.pairOk (s : State) (j w p : Nat) : Bool :=
  let other := fun (n : Nat) => s.protGroups.any fun g => g != j && (s.rdN (0x8D00 + g) 2 == n || s.rdN (0x8D00 + g) 3 == n)
  w != p && s.homeOf w == s.homeOf p && s.tenCbr w == s.tenCbr p && s.tenSealed w == s.tenSealed p
    && (!s.tenCbr w || s.txTotal w == s.txTotal p) && !other w && !other p
    && (s.tenCbr w || decide (s.rdN (0x7010 + s.portOf w) 6 ≤ 15994))
    && !((s.groupHome w || s.groupHome p) && s.freeBool)

/-- The rules of writes to a protection record (R436, R437, R448). -/
def State.protEffect (s : State) (j sub : Nat) (v : DVal) : Effect :=
  let i := 0x8D00 + j
  let t := s.wr i sub v
  match sub with
  | 1 =>
    { fails := need (v.int ≠ 1 || s.rdB i 1 || s.pairOk j (s.rdN i 2) (s.rdN i 3)) .conflict
      state := if v.int = 1 && !s.rdB i 1 then ((t.drawn.setProt j Prot.start).protRefresh j) else t }
  | 2 | 3 | 4 => { fails := need (!s.rdB i 1) .conflict, state := t }
  | 6 => { fails := need (decide (v.int % 10 = 0)) .outOfRange, state := t.protRefresh j }
  | 8 => s.protCommand j v.int.toNat
  | _ => .ok (t.protRefresh j)

/-- The rules of writes to the group record (R427, R444, R446). -/
def State.groupEffect (s : State) (sub : Nat) (v : DVal) : Effect :=
  match sub with
  | 6 => .ok (s.wr 0x8C00 6 v).alertUpdate
  | 8 => s.clearAlertsEffect v.int.toNat
  | _ => .ok (s.wr 0x8C00 sub v)

end Sys2Proof.Machine
end

