-- ==== Sys2Proof/Machine/Boot.lean ====
section
/-! DEFINITION. Gesso boot, the flash manager and updates in service (spec/17_boot_firmware.md R493 to R517). The canvas
bundle, the boot records and the persistence images are read from the bytes of the flash. -/

namespace Sys2Proof.Machine

/-! ### Boot records (R495, R496) -/

/-- A boot record's copy, where it is valid (R495). -/
def State.recordAt (s : State) (i : Nat) : Option BootRecord :=
  let b := s.flashRead (4096 * i) 64
  if beField b 0 4 = 0x42524543 ∧ beField b 60 4 = crc32 (b.take 16 ++ slice b 24 36) then
    some { seq := beField b 4 4, bank := beField b 8 1 % 2, profile := beField b 9 1, dummy := beField b 10 1
           size := beField b 11 1, trial := beField b 12 1 == 1, trialField := beField b 16 8 }
  else none

/-- The record of no valid copy (R495). -/
def BootRecord.dflt : BootRecord :=
  { seq := 0, bank := 0, profile := 1, dummy := 20, size := 26, trial := false, trialField := 2 ^ 64 - 1 }

/-- The copy in force and its record (R495). -/
def State.recordInForce (s : State) : Option (Nat × BootRecord) :=
  match s.recordAt 0, s.recordAt 1 with
  | some a, some b => if a.seq < b.seq then some (1, b) else some (0, a)
  | some a, none => some (0, a)
  | none, some b => some (1, b)
  | none, none => none

/-- The record in force, or the defaults. -/
def State.bootRecord (s : State) : BootRecord := match s.recordInForce with | some (_, r) => r | none => BootRecord.dflt

/-- Trial bits already 0. -/
def BootRecord.trialBoots (r : BootRecord) : Nat := 64 - popcount 64 r.trialField

/-- The bytes of a record (R495). -/
def BootRecord.bytes (r : BootRecord) : List Byte :=
  let a := beBytes 4 0x42524543 ++ beBytes 4 r.seq ++ beBytes 1 r.bank ++ beBytes 1 r.profile ++ beBytes 1 r.dummy
    ++ beBytes 1 r.size ++ beBytes 1 (if r.trial then 1 else 0) ++ [0, 0, 0]
  let z := List.replicate 36 (0 : Byte)
  a ++ beBytes 8 r.trialField ++ z ++ beBytes 4 (crc32 (a ++ z))

/-! ### The manifest and its checks (R497 to R499) -/

/-- The offset of a bank (R494). -/
def bankBase (b : Nat) : Nat := if b = 0 then 0x1000000 else 0x2000000

/-- A section of a bundle (R497). -/
structure Section where
  type : Nat
  mask : Nat
  off : Nat
  len : Nat
  digest : List Byte
  deriving DecidableEq, Repr

/-- A manifest (R497). -/
structure Manifest where
  count : Nat
  version : Nat
  security : Nat
  keyIndex : Nat
  codes : Nat
  revision : List Byte
  len : Nat
  format : Nat
  hitlessFrom : Nat
  sections : List Section
  headOk : Bool                      -- magic and format fields
  signed : List Byte
  pub : List Byte
  r : Nat
  s : Nat
  deriving DecidableEq, Repr

/-- The bytes of a bank's manifest, read from flash; a section count above 32 is read as 0 sections. -/
def State.manifestBytes (s : State) (bank : Nat) : List Byte :=
  let n := beNat (s.flashRead (bankBase bank + 6) 2)
  s.flashRead (bankBase bank) (260 + 64 * (if n ≤ 32 then n else 0))

/-- A manifest by its bytes (R497). -/
def Manifest.ofBytes (b : List Byte) : Manifest :=
  let n := beField b 6 2
  let m := if n ≤ 32 then n else 0
  { count := n, version := beField b 8 4, security := beField b 12 1, keyIndex := beField b 13 1, codes := beField b 14 1
    revision := slice b 16 4, len := beField b 20 4, format := beField b 24 2, hitlessFrom := beField b 28 4
    sections := (List.range m).map fun i =>
      let o := 64 + 64 * i
      { type := beField b o 1, mask := beField b (o + 2) 2, off := beField b (o + 4) 4, len := beField b (o + 8) 4
        digest := slice b (o + 16) 48 }
    headOk := beField b 0 4 == 0x434E5653 && beField b 4 2 == 1
    signed := b.take (164 + 64 * m), pub := slice b (64 + 64 * m) 97
    r := beField b (164 + 64 * m) 48, s := beField b (212 + 64 * m) 48 }

/-- The manifest of a bank as the flash holds it. -/
def State.manifest (s : State) (bank : Nat) : Manifest := Manifest.ofBytes (s.manifestBytes bank)

/-- The manifest of the running bundle: supervisor SRAM's own copy (R503). -/
def State.running (s : State) : Manifest := Manifest.ofBytes s.boot.manifest

/-- The largest section of a type; 0 for a type that R498 does not list. -/
def sectionMax (type : Nat) : Nat := match type with | 1 => 2 ^ 20 | 2 => 2 ^ 21 | 3 => 2 ^ 21 | 4 => 2 ^ 20 | _ => 0

/-- Whether two sections are apart. -/
def Section.apart (a b : Section) : Bool := decide (a.off + a.len ≤ b.off) || decide (b.off + b.len ≤ a.off)

/-- Whether sections are pairwise apart. -/
def allApart : List Section → Bool
  | [] => true
  | a :: r => r.all (fun b => a.apart b) && allApart r

/-- The layout check (R499 code 2). A section of a type that R498 does not list, or above its type's largest length, is a wrong
length field (DEDUCED, log entry 173). -/
def Manifest.layoutOk (m : Manifest) : Bool :=
  let one := fun (t : Nat) => (m.sections.filter fun x => x.type == t).length == 1
  m.headOk && decide (1 ≤ m.count ∧ m.count ≤ 32) && decide (m.len ≤ 12582912)
    && m.sections.all (fun x => decide (4096 ≤ x.off) && decide (x.off % 64 = 0) && decide (x.off + x.len ≤ m.len)
        && decide (1 ≤ x.type ∧ x.type ≤ 4 ∧ x.len ≤ sectionMax x.type))
    && allApart m.sections && one 1 && one 3
    && (List.range 11).all fun w => (m.sections.filter fun x => x.type == 2 && bit x.mask w).length == 1

/-- 9C00:07: the fused minimum security version, as made or as raised since (R513). -/
def State.secFuse (s : State) : Nat := max s.boot.fuse (defaultOf (key 0x9C00 7)).int.toNat

/-- Why the public-key engine rejects a manifest's signature: the public key's cause, which comes from outside the device, or the
verification's; 0 where it does not (R336, R337). -/
def Manifest.signatureCause (m : Manifest) : Nat :=
  if keyCause m.pub ≠ 0 then keyCause m.pub else ecdsaCause m.pub m.signed m.r m.s

/-- Check 3 of R499: a key of the device's that is not revoked. -/
def Manifest.keyOk (m : Manifest) : Bool :=
  decide (m.keyIndex ≤ 3) && !Config.keyRevoked m.keyIndex && sha384 m.pub == Config.keyDigest m.keyIndex

/-- Checks 2 to 6 of R499, in order; 1 where all pass. -/
def State.checkManifest (s : State) (m : Manifest) : Nat :=
  if !m.layoutOk then 2
  else if !m.keyOk then 3
  else if m.signatureCause ≠ 0 then 4
  else if m.security < s.secFuse then 5
  else if !bit m.codes s.fuse.code.val || m.revision != ascii "A1" ++ [0, 0] then 6
  else 1

/-- What the public-key engine counts of a manifest's check: the verification, where the checks before it passed, and its rejection
with its cause (R336, R342). -/
def State.manifestVerified (s : State) (m : Manifest) : State :=
  if !m.layoutOk || !m.keyOk then s
  else
    let t := s.inc32 0x1040 8
    if m.signatureCause = 0 then t else (t.inc32 0x1040 9).wrN 0x1040 0x0A m.signatureCause

/-- The bytes of a section as a bank holds them. -/
def State.sectionBytes (s : State) (bank : Nat) (x : Section) : List Byte := s.flashRead (bankBase bank + x.off) x.len

/-- Whether a section of a bank hashes to its manifest's digest (R499 code 7). -/
def State.sectionOk (s : State) (bank : Nat) (x : Section) : Bool := sha384 (s.sectionBytes bank x) == x.digest

/-- The supervisor firmware of a bank loaded into a half of supervisor SRAM (R498). -/
def State.loadSupervisor (s : State) (bank half : Nat) (m : Manifest) : State :=
  s.each (m.sections.filter fun x => x.type == 1) fun t x => t.memWrite (0x20000000 + half * 0x100000) (s.sectionBytes bank x)

/-- The engine images of a bank loaded into the staging region of studio memory, one after the other as far as it goes; their
places are the model's, and the cluster memories' contents are not modelled (R498, R504, DESIGN CHOICE, log entry 173). -/
def State.loadStaging (s : State) (bank : Nat) (m : Manifest) : State :=
  s.memWrite 0x40400000 (((m.sections.filter fun x => x.type == 2).flatMap (s.sectionBytes bank)).take 0xC00000)

/-- The result of a whole check of a bank (R499, R511). -/
def State.checkBank (s : State) (bank : Nat) (answers : Bool) : Nat :=
  let m := s.manifest bank
  if !answers then 8
  else if s.checkManifest m ≠ 1 then s.checkManifest m
  else if m.sections.all (s.sectionOk bank) then 1 else 7

/-! ### The boot chain (R500 to R506) -/

/-- The strapped boot source. -/
def State.bootSrc (s : State) : Nat := field s.pow.straps 14 2
/-- The bank in use, or being tried (9C00:02). -/
def State.bank (s : State) : Nat := s.rdN 0x9C00 2

/-- BOOT is held: nothing is loaded (R33, R34, R506). -/
def State.bootHeld (s : State) (h : BootHold) : State :=
  { s with pow := { s.pow with hold := h }, boot := { s.boot with checked := false } }

/-- Step 2 of R501: the record in force is read, a bank is chosen, and a trial boot programs its trial bit (R495, R500,
R502). -/
def State.chooseBank (s : State) : State :=
  let src := s.bootSrc
  let t := ((((s.wrN 0x9C00 1 src).wrN 0x9C00 3 0).wrN 0x9C00 4 0).wrN 0x9C00 9 0).clear 0x9C00 0x0B 0
  if src = 3 then t.bootHeld .noCanvas
  else
    let r := t.bootRecord
    let t := (((t.wrN 0x9C20 8 r.size).wrN 0x9C20 0x0C r.profile).wrN 0x9C20 0x0D r.dummy).wrN 0x9C00 0x0A r.trialBoots
    if src ≠ 0 then t.wrN 0x9C00 2 (src - 1)
    else if !r.trial then t.wrN 0x9C00 2 r.bank
    else if 3 ≤ r.trialBoots then (t.wrN 0x9C00 2 (1 - r.bank)).wrN 0x9C00 9 2
    else
      let f := clearBit r.trialField r.trialBoots
      let t := match t.recordInForce with | some (i, _) => t.flashSet (4096 * i + 16) (beBytes 8 f) | none => t
      ((t.wrN 0x9C00 2 r.bank).wrN 0x9C00 9 1).wrN 0x9C00 0x0A (r.trialBoots + 1)

/-- Steps 1 and 2 of R501: the supervisor pair starts the gesso ROM, whose uncorrectable word stops the boot (R506). -/
def State.bootStart (s : State) (romOk : Bool) : State :=
  let t : State := { s.wrN 0x9480 1 0 with
    pow := { s.pow with hold := .none }
    boot := { s.boot with
      triedOther := false, checked := false, manifest := [], half := 0, commit := none, job := .none, update := none
      write := .none } }
  if romOk then t.chooseBank else t.bootHeld .noCanvas

/-- BANK_FALLBACK: the bank's cause is kept, and the other bank tried where BOOT_SRC allows it; when none is left BOOT is
held (R33, R502). With the trial flag set the trial state follows the bank: on trial for the active one, reverted for the
other (DEDUCED, log entry 173). -/
def State.bankFails (s : State) (cause : Nat) : State :=
  let t := s.wrN 0x9C00 (3 + s.bank) cause
  if t.bootSrc = 0 && !t.boot.triedOther then
    let r := t.bootRecord
    let next := 1 - t.bank
    let t := ((t.wrN 0x9C00 2 next).whenB r.trial fun u => u.wrN 0x9C00 9 (if next = r.bank then 1 else 2)).raise 0x9C00 0x0B 0
    { t with boot := { t.boot with triedOther := true, checked := false, manifest := [] } }
  else t.bootHeld .noCanvas

/-- Whether a boot is under way and not held. -/
def State.booting (s : State) : Bool := s.inMode .boot && decide (s.pow.hold = .none) && !s.pow.configured

/-- MANIFEST_CHECKED: the manifest of the bank being tried is read into supervisor SRAM and passes, or the bank fails; a flash
that stops answering while the sections are loaded fails it as well (R499, R502, R503). -/
def execManifestChecked (bank : Fin 2) (answers : Bool) (s : State) : Host.Outcome State Fault Refusal :=
  .next (if !s.booting || decide (s.bank ≠ bank.val) then s
    else if !answers then s.bankFails 8
    else if s.boot.checked then s
    else
      let b := s.manifestBytes bank.val
      let c := s.checkManifest (Manifest.ofBytes b)
      let s := s.manifestVerified (Manifest.ofBytes b)
      if c = 1 then { s with boot := { s.boot with checked := true, manifest := b } } else s.bankFails c)

/-- The settings of the management paths as written take force: 1030:01 to 1030:05 (R91). -/
def State.takeSettings (s : State) : State :=
  { s with srv := { s.srv with settings := (List.range 5).map fun i => s.rdN 0x1030 (i + 1) } }

/-- BOOT_COMPLETE: every section is loaded and its hash matches the manifest's copy, remap is set and the canvas entered; the
outputs are configured and the persistence image applied. A hash that does not match fails the bank, and what was loaded from
it is discarded (R498, R499, R501 to R505, R538). -/
def execBootComplete (s : State) : Host.Outcome State Fault Refusal :=
  .next (if !s.booting || !s.boot.checked then s
    else
      let m := s.running
      if !(m.sections.all (s.sectionOk s.bank)) then s.bankFails 7
      else
        let s := (s.loadSupervisor s.bank 0 m).loadStaging s.bank m
        let t := (((s.wrN 0x9C00 (3 + s.bank) 1).wrN 0x9C00 5 m.version).wrN 0x9C00 6 m.security).wrN 0x9480 1 1
        let t : State := { t with
          pow := { t.pow with configured := true }
          boot := { t.boot with restoreDue := decide (s.rdN 0x1000 1 ≠ 3) }
          tel := { t.tel with hkOn := true } }
        t.applyImage.takeSettings.timingReturn)

/-- The management slots restored, once the entropy source is healthy (R505). -/
def State.restoreIfDue (s : State) : State :=
  if s.boot.restoreDue && s.rdN 0x1040 2 == 0 then
    { s.restoreSlots with boot := { s.restoreSlots.boot with restoreDue := false } }
  else s

/-- ENTROPY_RETEST: the start-up tests are repeated on 4 096 samples (R338). -/
def execEntropyRetest (bits : List Bool) (s : State) : Host.Outcome State Fault Refusal :=
  .next (if s.rdN 0x1040 2 = 0 ∨ !s.on 0 then s
    else if decide (4096 ≤ bits.length) && !(repetitionFails bits || proportionFails bits) then s.entropyUp.restoreIfDue else (s.wrN 0x1040 2 2).inc32 0x1040 3)

/-! ### What keeps the flash busy (R507, R508) -/

/-- A commit, a flash manager command, an update or a record write in progress. -/
def State.flashBusy (s : State) : Bool :=
  s.boot.commit.isSome || decide (s.boot.job ≠ .none) || s.boot.update.isSome || decide (s.boot.write ≠ .none)

/-- The modes of R507: any but SHED, of those in which a command is served. -/
def State.commitModes (s : State) : List Status := need (!s.inMode .shed) .wrongMode

/-! ### Committing settings (R507) -/

/-- The rule of 9C30:01 (R507). -/
def State.commitEffect (s : State) (v : Nat) : Effect :=
  let fails := s.commitModes ++ need (!(s.boot.commit.isSome || decide (s.boot.job ≠ .none) || s.boot.update.isSome)) .busy
  if v = 1 then
    let seq := match s.image with | some i => (i.seq + 1) % 2 ^ 32 | none => 1
    let slot := match s.slotInForce with | some q => 1 - q | none => 0
    let b := imageBytes seq s.running.format s.snapshot
    let t := s.flashErase (slotBase slot) 0x400000
    let t : State := { t with boot := { t.boot with commit := some (slot, b) } }
    { fails := fails, state := (t.wrN 0x9C30 2 2).wrN 0x9C30 8 0 }
  else
    let t := (s.flashErase (slotBase 0) 0x400000).flashErase (slotBase 1) 0x400000
    { fails := fails, state := ((t.wrN 0x9C30 3 0).wrN 0x9C30 4 0).wrN 0x9C30 7 255 }

/-- COMMIT_SETTINGS (R507). -/
def execCommitSettings (s : State) : Host.Outcome State Fault Refusal := .next (s.command 0x9C30 1 (.num 1) (s.commitEffect 1))
/-- ERASE_PERSISTENCE (R507). -/
def execErasePersistence (s : State) : Host.Outcome State Fault Refusal := .next (s.command 0x9C30 1 (.num 2) (s.commitEffect 2))

/-- COMMIT_COMPLETE: the image stands in its slot and is in force, or the commit fails and the former slot stays (R507). -/
def execCommitComplete (ok : Bool) (s : State) : Host.Outcome State Fault Refusal :=
  .next (match s.boot.commit with
    | none => s
    | some (slot, b) =>
      let t : State := { s with boot := { s.boot with commit := none } }
      if ok && decide (b.length ≤ 0x400000) then
        let t := t.flashSet (slotBase slot) b
        ((((((t.wrN 0x9C30 2 4).wrN 0x9C30 3 (beField b 4 4)).wrN 0x9C30 4 (beField b 8 4)).wr 0x9C30 5 t.now).wrN 0x9C30 6 0).wrN
          0x9C30 7 slot)
      else (t.wrN 0x9C30 2 5).wrN 0x9C30 6 Status.aborted.code)

/-! ### The flash manager (R508, R509) -/

/-- The flash size in bytes. -/
def State.flashSize (s : State) : Nat := 2 ^ s.rdN 0x9C20 8

/-- Whether two ranges meet. -/
def meets (a n b m : Nat) : Bool := decide (a < b + m) && decide (b < a + n)

/-- Whether a range touches a protected region (R508). -/
def State.protectedRange (s : State) (a n : Nat) : Bool :=
  meets a n 0 0x2000 || meets a n 0x100000 0x800000 || meets a n (bankBase s.bank) 0x1000000
    || (s.rdN 0x9C00 9 == 1 && meets a n (bankBase (1 - s.bank)) 0x1000000)

/-- The rule of 9C20:04 (R508). -/
def State.flashEffect (s : State) (v : Nat) : Effect :=
  let a := s.rdN 0x9C20 1
  let n := s.rdN 0x9C20 2
  let buf := s.rdS 0x9C20 3
  let len := if v = 1 then 4096 else if v = 2 then 65536 else n
  let job : FlashJob := match v with
    | 1 => .erase a 4096 | 2 => .erase a 65536 | 3 => .program a (buf.take n) | 4 => .read a n | _ => .blank a n
  let own := match v with
    | 1 => decide (a % 4096 = 0) | 2 => decide (a % 65536 = 0) | 3 => decide (n ≤ buf.length) | _ => true
  let t : State := { s with boot := { s.boot with job := job } }
  { fails := s.commitModes ++ need (!s.flashBusy) .busy
      ++ need (own && decide (a + len ≤ s.flashSize) && !(decide (v ≤ 3) && s.protectedRange a len)) .outOfRange
    state := t.wrN 0x9C20 5 1 }

/-- FLASH_ERASE_SECTOR (R508). -/
def execFlashEraseSector (s : State) : Host.Outcome State Fault Refusal := .next (s.command 0x9C20 4 (.num 1) (s.flashEffect 1))
/-- FLASH_ERASE_BLOCK (R508). -/
def execFlashEraseBlock (s : State) : Host.Outcome State Fault Refusal := .next (s.command 0x9C20 4 (.num 2) (s.flashEffect 2))
/-- FLASH_PROGRAM (R508, R509). -/
def execFlashProgram (s : State) : Host.Outcome State Fault Refusal := .next (s.command 0x9C20 4 (.num 3) (s.flashEffect 3))
/-- FLASH_READ (R508). -/
def execFlashRead (s : State) : Host.Outcome State Fault Refusal := .next (s.command 0x9C20 4 (.num 4) (s.flashEffect 4))
/-- FLASH_BLANK_CHECK (R508). -/
def execFlashBlankCheck (s : State) : Host.Outcome State Fault Refusal := .next (s.command 0x9C20 4 (.num 5) (s.flashEffect 5))

/-- The address of the first byte of a range that is not erased; 0xFFFF_FFFF where all are (R508). -/
def State.firstUnerased (s : State) (a n : Nat) : Nat :=
  match (s.flashRead a n).findIdx? fun b => b != 0xFF with | some i => a + i | none => 0xFFFFFFFF

/-- The outcome of a flash command, with vector 6 (R508). -/
def State.flashOutcome (s : State) (st result : Nat) : State :=
  let t : State := { s with boot := { s.boot with job := .none } }
  ((t.wrN 0x9C20 5 st).wrN 0x9C20 6 result).vector 6

/-- Flash bytes that a failed erase or program left: free values. -/
def State.flashScrap (s : State) (a n : Nat) : State :=
  let t := s.flashSet a ((List.range n).map fun i => BitVec.ofNat 8 (Config.freeNat (s.free + i)))
  { t with free := t.free + n }

/-- FLASH_COMMAND_DONE: the command in progress completes or fails (R508, R509). A program whose target is not erased is
refused whole. -/
def execFlashCommandDone (ok : Bool) (s : State) : Host.Outcome State Fault Refusal :=
  .next (match s.boot.job with
    | .none => s
    | .erase a n =>
      let t := s.inc32 0x9C20 9
      if ok then (t.flashErase a n).flashOutcome 2 0 else ((t.flashScrap a n).inc32 0x9C20 0x0B).flashOutcome 4 Status.aborted.code
    | .program a b =>
      let f := s.firstUnerased a b.length
      if f ≠ 0xFFFFFFFF then (s.wrN 0x9C20 7 f).flashOutcome 3 Status.conflict.code
      else
        let t := s.inc32 0x9C20 0x0A
        if ok then (t.flashSet a b).flashOutcome 2 0
        else ((t.flashScrap a b.length).inc32 0x9C20 0x0B).flashOutcome 4 Status.aborted.code
    | .read a n => (s.wrS 0x9C20 3 (s.flashRead a n)).flashOutcome 2 0
    | .blank a n => (s.wrN 0x9C20 7 (s.firstUnerased a n)).flashOutcome 2 0)

/-- FLASH_WINDOW_TIMEOUT: an error answer, counted (R510). -/
def execFlashWindowTimeout (s : State) : Host.Outcome State Fault Refusal :=
  .next (if s.on 1 then s.inc32 0x9C20 0x0B else s)

/-! ### Record writes (R496, R513) -/

/-- A record write begins: the copy that is not in force is erased (R496). -/
def State.recordWrite (s : State) (w : RecordWrite) : State :=
  let other := match s.recordInForce with | some (i, _) => 1 - i | none => 0
  let t := s.flashErase (4096 * other) 4096
  { t with boot := { t.boot with write := w } }

/-- BOOT_RECORD_WRITE_DONE: the new copy is programmed and in force (R496, R511 to R513). -/
def execBootRecordWriteDone (s : State) : Host.Outcome State Fault Refusal :=
  .next (
    let r := s.bootRecord
    let other := match s.recordInForce with | some (i, _) => 1 - i | none => 0
    let r : BootRecord := { r with seq := (r.seq + 1) % 2 ^ 32, profile := s.rdN 0x9C20 0x0C, dummy := s.rdN 0x9C20 0x0D, size := s.rdN 0x9C20 8 }
    let put := fun (r : BootRecord) =>
      let t := s.flashSet (4096 * other) r.bytes
      ({ t with boot := { t.boot with write := .none } } : State)
    match s.boot.write with
    | .none => s
    | .rewrite => put r
    | .clearTrial => ((put { r with trial := false, trialField := 2 ^ 64 - 1 }).wrN 0x9C00 9 0).wrN 0x9C00 0x0A 0
    | .activate bank hitless =>
      let t := put { r with bank := bank, trial := true, trialField := 2 ^ 64 - 1 }
      if hitless then
        let m := t.running
        let t := ((((t.wrN 0x9C00 2 bank).wrN 0x9C00 5 m.version).wrN 0x9C00 6 m.security).wrN 0x9C00 9 1).wrN 0x9C00 0x0A 0
        let t : State := { t with boot := { t.boot with update := none } }
        (((t.wrN 0x9C10 2 4).wrN 0x9C10 6 0).inc32 0x9C10 7).vector 6
      else t.wrN 0x9C10 6 0)

/-- The rule of 9C00:0D (R513). -/
def State.trialEffect (s : State) (v : Nat) : Effect :=
  let trial := s.rdN 0x9C00 9 == 1
  match v with
  | 1 => { fails := need (!s.flashBusy) .busy ++ need trial .conflict, state := s.recordWrite .clearTrial }
  | 2 =>
    let run := s.rdN 0x9C00 6
    { fails := need (!s.flashBusy) .busy
        ++ need (!trial && decide (run ≤ (s.manifest (1 - s.bank)).security)) .conflict ++ need (decide (s.secFuse < 64)) .exhausted
      state := { s with boot := { s.boot with fuse := max s.secFuse run } } }
  | _ => { fails := need (!s.flashBusy) .busy, state := s.recordWrite .rewrite }

/-- ACCEPT_TRIAL (R513). -/
def execAcceptTrial (s : State) : Host.Outcome State Fault Refusal := .next (s.command 0x9C00 0x0D (.num 1) (s.trialEffect 1))
/-- RAISE_SECURITY_FUSE (R513). -/
def execRaiseSecurityFuse (s : State) : Host.Outcome State Fault Refusal := .next (s.command 0x9C00 0x0D (.num 2) (s.trialEffect 2))
/-- REWRITE_BOOT_RECORD (R513). -/
def execRewriteBootRecord (s : State) : Host.Outcome State Fault Refusal := .next (s.command 0x9C00 0x0D (.num 3) (s.trialEffect 3))

/-! ### Updating in service (R511, R512, R514) -/

/-- The failures that a bank's cause gives commands 2 and 3 (R511); a flash that does not answer aborts them. -/
def bankFailure (c : Nat) : List Status :=
  match c with
  | 1 => [] | 2 => [.outOfRange] | 5 => [.outOfRange] | 6 => [.outOfRange] | 3 => [.authFail] | 4 => [.authFail] | _ => [.aborted]

/-- The rule of 9C10:01 (R511). The failures counted against the other bank are reported in 9C10:03. -/
def State.bankEffect (s : State) (v : Nat) (answers : Bool) : Effect :=
  let other := 1 - s.bank
  let m := s.manifest other
  let c := if answers then s.checkManifest m else 8
  let late := bankFailure c ++ (if v = 2 then
      need (m.format == s.running.format && decide (m.hitlessFrom ≤ s.rdN 0x9C00 5)) .conflict
        ++ need (!(s.clustersIn 3).isEmpty) .exhausted
    else [])
  let modes := s.inMode .quiet || s.inMode .discover || s.inMode .service || s.inMode .test || (v == 3 && s.inMode .safe)
  let s := if answers then s.manifestVerified m else s
  let told := fun (c : Nat) => (s.wrN 0x9C10 3 c).whenB answers fun t => t.wrN 0x9C10 4 m.version
  let t := told c
  if v = 1 then
    { fails := need (!s.flashBusy) .busy
      state := (told (s.checkBank other answers)).wrN 0x9C10 6 0 }
  else
    { fails := need (!s.flashBusy) .busy ++ need modes .wrongMode ++ need (s.bootSrc == 0) .conflict
      late := late
      failed := some (t.wrN 0x9C10 6 (firstListed late).code)
      state :=
        if v = 2 then
          let t : State := { t with boot := { t.boot with
            update := some { manifest := s.manifestBytes other, fresh := [], supervisor := false, restarted := false, reversing := false } } }
          (t.wrN 0x9C10 2 2).wrN 0x9C10 5 0
        else t.recordWrite (.activate other false) }

/-- BANK_CHECK (R511). -/
def execBankCheck (answers : Bool) (s : State) : Host.Outcome State Fault Refusal :=
  .next (s.command 0x9C10 1 (.num 1) (s.bankEffect 1 answers))
/-- BANK_ACTIVATE_HITLESS (R511, R512). -/
def execBankActivateHitless (answers : Bool) (s : State) : Host.Outcome State Fault Refusal :=
  .next (s.command 0x9C10 1 (.num 2) (s.bankEffect 2 answers))
/-- BANK_ACTIVATE_AT_RESET (R511). -/
def execBankActivateAtReset (answers : Bool) (s : State) : Host.Outcome State Fault Refusal :=
  .next (s.command 0x9C10 1 (.num 3) (s.bankEffect 3 answers))

/-- The work items still to move, forwards or back: those whose cluster holds the wrong image. -/
def State.updateLeft (s : State) (u : Update) : List Nat :=
  updateOrder.filter fun w => decide (s.itemAt w < 12) && (u.fresh.contains (s.itemAt w) == u.reversing)

/-- The next item to move: the next in order; where items 8 or 10 are due and no spare may carry them, one of C6 to C10
first, and one that is not due itself where there is no other (R512). -/
def State.updateNext (s : State) (u : Update) : Option Nat :=
  match s.updateLeft u with
  | [] => none
  | w :: r =>
    if (s.spareFor w).isSome then some w
    else (r ++ updateOrder).find? fun v => decide (6 ≤ s.itemAt v ∧ s.itemAt v ≤ 10) && (s.spareFor v).isSome

/-- Work item w has moved, by a planned move, to a spare loaded with the image that is wanted, and its source, loaded likewise,
is the spare (R454, R512). Item 10 brings the pattern book, and the layout digest changes to a value the spec does not give. -/
def State.updateMove (s : State) (u : Update) (w d : Nat) : State :=
  let src := s.itemAt w
  let m : Move := { fault := false, item := w, src := src, dst := d, retire := false, stopped := true, follow := none }
  let t := (s.beginMove m).moveArrives m
  let t := (t.setCl src 3).wrN (0x9410 + src) 2 255
  let fresh := if u.reversing then dropFrom d (dropFrom src u.fresh) else addTo d (addTo src u.fresh)
  let t : State := { t with boot := { t.boot with update := some { u with fresh := fresh } } }
  let t := if w = 10 then
      ({ t with free := t.free + 8 } : State).wrS 0x0001 3 ((List.range 8).map fun i => BitVec.ofNat 8 (Config.freeNat (t.free + i)))
    else t
  (if w = 8 then t.timingReturn else t).engReport

/-- The update reverses (R514). -/
def State.updateReverse (s : State) (u : Update) (st : Status) : State :=
  let t : State := { s with boot := { s.boot with update := some { u with reversing := true, supervisor := false } } }
  (t.wrN 0x9C10 2 6).wrN 0x9C10 6 st.code

/-- The update ends without its bank taking force; the items keep their images (R514). -/
def State.updateEnds (s : State) : State :=
  let t : State := { s with boot := { s.boot with update := none } }
  t.wrN 0x9C10 2 5

/-- The manifest's copy that an update step's bytes are compared with: the new bank's, or the running one's (R503, R514). -/
def State.updateManifest (s : State) (u : Update) : Manifest :=
  if u.reversing then s.running else Manifest.ofBytes u.manifest

/-- Whether the section that holds work item w's image, or (none) the supervisor's, hashes as its manifest says. -/
def State.updateImageOk (s : State) (u : Update) (bank : Nat) (w : Option Nat) : Bool :=
  (s.updateManifest u).sections.all fun x =>
    match w with
    | some w => !(x.type == 2 && bit x.mask w) || s.sectionOk bank x
    | none => x.type != 1 || s.sectionOk bank x

/-- UPDATE_STEP_DONE: an item is loaded and moved, forwards or back, or the supervisor's half is loaded and its HITLESS
RESTART falls due. A failed hash or flash reverses the update; a fault move goes first, and S1 pauses it (R512, R514). -/
def execUpdateStepDone (ok flashAnswers : Bool) (s : State) : Host.Outcome State Fault Refusal :=
  .next (match s.boot.update with
    | none => s
    | some u =>
      if s.eng.move.isSome || u.supervisor || 1 ≤ s.rdN 0x1011 1 || s.pow.restarting then s
      else
        let bank := if u.reversing then s.bank else 1 - s.bank
        match s.updateNext u with
        | some w =>
          if !flashAnswers then (if u.reversing then s else s.updateReverse u .aborted)
          else if !(ok && s.updateImageOk u bank (some w)) then (if u.reversing then s else s.updateReverse u .authFail)
          else match s.spareFor w with
            | some d => s.updateMove u w d
            | none => s
        | none =>
          if u.reversing then (if s.updateLeft u = [] then s.updateEnds else s)
          else if s.updateLeft u ≠ [] then s
          else if !flashAnswers then s.updateReverse u .aborted
          else if !(ok && s.updateImageOk u bank none) then s.updateReverse u .authFail
          else
            let t := s.loadSupervisor bank (1 - s.boot.half) (s.updateManifest u)
            let t : State := { t with boot := { t.boot with update := some { u with supervisor := true } } }
            (t.restartFor .update).wrN 0x9C10 2 3)

end Sys2Proof.Machine
end

