-- ==== Sys2Proof/Machine/Views.lean ====
section
/-! DEFINITION. What a read of an entry shows: the readings that are computed from other state, and the defaults that the
entries of a gated domain show (R528, R530, R578). -/

namespace Sys2Proof.Machine

/-! ### Where an entry lives (R8, R9, R11, R17, R528) -/

/-- The domain of a host lane or of the first lane of a client port. -/
def hostLaneDomain (l : Nat) : Nat := if l < 8 then 18 else 19

/-- The power domain that holds the block of a record; PD0 and PD1 where it is none of the gated ones (R528). Record 1020 is the
transaction manager's and so not gated with the framer: 1020:01 keeps the last counter in QUIET and SAFE (log entry 181). -/
def State.domainOf (s : State) (idx : Nat) : Nat :=
  if idx < 0x2000 then 0
  else if idx < 0x2010 then 2
  else if idx < 0x2014 then 2 + (idx - 0x2010)
  else if idx < 0x2022 then 2
  else if 0x2030 ≤ idx ∧ idx < 0x2034 then 6 + (idx - 0x2030)
  else if idx < 0x2400 then 1
  else if idx < 0x2800 then 14
  else if 0x2810 ≤ idx ∧ idx < 0x2830 then 10 + (idx - 0x2810) / 8
  else if idx < 0x3000 then 10
  else if idx < 0x3400 then 15
  else if idx < 0x3410 then 1
  else if idx < 0x4000 then 16
  else if idx < 0x5000 then 17
  else if idx < 0x7000 then 16
  else if idx < 0x7900 then 17
  else if idx < 0x8800 then 0
  else if idx < 0x8C00 then 14
  else if 0x8C10 ≤ idx ∧ idx < 0x8C12 then 20 + (idx - 0x8C10)
  else if 0x8D00 ≤ idx ∧ idx < 0x8E00 then 17
  else if 0x9010 ≤ idx ∧ idx < 0x9020 then hostLaneDomain (s.rdN idx 1)
  else if 0x9020 ≤ idx ∧ idx < 0x9030 then hostLaneDomain (idx - 0x9020)
  else if 0x9040 ≤ idx ∧ idx < 0x9050 then 20 + (idx - 0x9040) / 8
  else if 0x9060 ≤ idx ∧ idx < 0x9062 then 20 + (idx - 0x9060)
  else if idx < 0xA000 then 1
  else 0

/-- The configuration checks and computed readings that the dictionary service holds whatever is gated (R528). -/
def heldByService (idx sub : Nat) : Bool :=
  (idx == 0x3400 && decide (5 ≤ sub ∧ sub ≤ 0x0D)) || (decide (0x3410 ≤ idx ∧ idx < 0x3430) && decide (8 ≤ sub ∧ sub ≤ 0x0B))
    || (idx == 0x2000 && decide (3 ≤ sub ∧ sub ≤ 5)) || (idx == 0x7000 && (sub == 0x0A || sub == 0x0B))
    || (idx == 0x8800 && sub == 7) || (idx == 0x9000 && (sub == 1 || sub == 2))

/-- Whether an entry is a reading of an absent thread, which reads 0: the RO entries of 2810+k, 3010+k and 3450+k but for
subindex 00, for k from T on (R94, R200, R228, R267). -/
def absentThread (threads idx sub : Nat) : Bool :=
  decide (sub ≠ 0) && ((decide (0x2810 + threads ≤ idx ∧ idx < 0x2830) && decide (sub ≠ 0x0B))
    || decide (0x3010 + threads ≤ idx ∧ idx < 0x3030) || decide (0x3450 + threads ≤ idx ∧ idx < 0x3470))

/-- Whether a read of an entry shows its default, its domain being gated; a reading of an absent thread is 0 whatever is gated, and
the base matrix, which is fixed, is its own default (R200, R203, R227, R228, R267, R528, R530). -/
def State.shownDefault (s : State) (e : Entry) (idx sub : Nat) : Bool :=
  e.cls.volatile && !heldByService idx sub && !(idx == 0x3002 && sub == 1) && !absentThread s.cfg.threads idx sub && decide (2 ≤ s.domainOf idx) && !s.on (s.domainOf idx)

/-! ### Computed readings -/

/-- 0000:01: the number of entries present on this device (R5). The record tables give more entries than its Range of
1 to 262 144 holds: the model shows the exact number (DESIGN CHOICE, log entry 130). -/
def State.entryCount (s : State) : Nat :=
  (records.map fun r => ((List.range r.count).filter fun i => s.hasIdx (r.base + i)).length * r.entries.length).sum

/-- Carrier capacity in b/s: the stitches of the threads whose transmit status is ACTIVE together (R95). -/
def State.capacity (s : State) : Nat := s.inForce.rateOf (s.inForce.sumStitches fun k => s.txStatus k == 1)

/-- The reference mode that 3400:05 shows: in QUIET of the configuration as written, in other modes of the one in force
(R100, R578). -/
def State.referenceShown (s : State) : Nat := if s.inMode .quiet then s.written.reference else s.inForce.reference

/-- 1010:04 in 0.1 W: a free value within 10 % of the power drawn, which R524 gives for QUIET, and at most its maximum elsewhere; the
default until the first microsecond has passed (log entry 119). -/
def State.powerEstimate (s : State) : Nat :=
  let v := Config.reading (key 0x1010 4) s.uptime
  if s.uptime = 0 then 0 else if s.inMode .quiet then 36 + v % 9 else v % 1651

/-- A400+e:04: 0 for a condition, 1 for an occurrence; of an event number that no event has the factory's value (R544). -/
def eventKind (e : Nat) : Option Nat :=
  if 0x30000000 ≤ eventCode e then none else some (if isCondition (eventCode e) then 0 else 1)

/-- Computed readings of 0000 to 1FFF. -/
def State.viewDevice (s : State) (idx sub : Nat) : Option Nat :=
  match idx, sub with
  | 0x0000, 1 => some s.entryCount
  | 0x0000, 2 => some s.fuse.code.val
  | 0x1000, 9 => some s.pow.straps
  | 0x1010, 4 => some s.powerEstimate
  | 0x1001, 1 => some s.mode.num
  | 0x1001, 7 => some s.discoverProgress
  | 0x1011, 0x0D => some (if s.pow.warnLow then 1 else 0)
  | 0x1011, 8 => some (if s.rdN 0x1011 2 = 0 then 0 else Config.returnLeft s.uptime % 101)
  | 0x1020, 3 => some s.twoEndedLead
  | 0x1020, 4 => some s.roundTrip
  | _, _ => none

/-- The readings of the slice cursor (R140). -/
def State.viewSlice (s : State) (sub : Nat) : Option DVal :=
  let x := s.adcSlice s.cursorSlice.1 s.cursorSlice.2
  match sub with
  | 1 => some (.num x.role)
  | 2 => some (.num x.position)
  | 3 => some (.num (putBit x.corr.trim 62 (decide (x.role = 6))))
  | 4 => some (.num x.corr.offset)
  | 5 => some (.num x.corr.gain)
  | 6 => some (.num x.corr.skew)
  | 7 => some (.bytes x.corr.bandwidth)
  | 8 => some (.num (min 0xFFFFFFFF ((s.uptime - x.measuredAt) / 1000) : Nat))
  | 0x0A => some (.num x.cause)
  | 0x0B => some (.num x.timesLive)
  | _ => none

/-- Computed readings of the carrier record 3400 (R100, R578). -/
def State.viewCarrier (s : State) (sub : Nat) : Option Nat :=
  let c := s.shown
  match sub with
  | 5 => some s.referenceShown
  | 6 => some c.lfLength
  | 7 => some c.lfFs
  | 8 => some c.multiframeFs
  | 9 => some c.grain
  | 0x0A => some (if s.lineMode then s.capacity else 0)
  | 0x0B => some c.occupied
  | 0x0C => some c.slot
  | 0x0D => some s.configCheck
  | _ => none

/-- Computed readings of thread k (R100, R110, R578). -/
def State.viewThread (s : State) (k sub : Nat) : Option DVal :=
  let c := s.shown
  match sub with
  | 1 => if s.written.profile = 0 then none else some (.num (8 * s.written.bits : Nat))
  | 2 => if s.inForce.profile = 0 then none else some (.num (8 * s.inForce.bits : Nat))
  | 8 => some (.num (if k < c.threads then c.stitches k else 0 : Nat))
  | 9 => some (.num (if k < c.threads then c.fill k else 0 : Nat))
  | 0x0A => some (.num (if k < c.threads then c.rateOf (c.stitches k) else 0 : Nat))
  | 0x0B => some (.num (if k < c.threads then c.centre k else 0))
  | 0x0D => some (.num (if k < c.threads then (s.placed.map fun n => s.txPos n k).sum else 0 : Nat))
  | _ => none

/-- Computed readings of a tenant (R278, R279). -/
def State.viewTenant (s : State) (n sub : Nat) : Option Nat :=
  match sub with
  | 0x0B => some ((List.range 32).map fun k => s.rdN (0x4000 + n) (0x20 + k)).sum
  | 0x0C => some (s.rxTotal n)
  | 0x0D => some (s.inForce.containerRate (s.txTotal n) (s.sealedTenant n))
  | 0x0E => some (s.inForce.containerRate (s.rxTotal n) (s.sealedTenant n))
  | 0x13 => some (if s.shedHeld n then 1 else 0)
  | _ => none

/-- Computed readings of the global grooming record (R308). -/
def State.viewPools (s : State) (sub : Nat) : Option Nat :=
  match sub with
  | 1 => some s.sharedFree
  | 2 => some s.cellsInUse
  | 3 => some s.reserves
  | 4 => some s.headroom
  | 5 => some s.sharedPart
  | 7 => some s.queuesFree
  | 8 => some s.largestFree
  | 9 => some s.configured.length
  | 0x0A => some s.placementCheck.1
  | 0x0B => some s.placementCheck.2
  | 0x0C => some s.grm.exact.length
  | _ => none

/-- Computed readings of the decoder (R209, R211, R215). -/
def State.viewFec (s : State) (sub : Nat) : Option Nat :=
  match sub with
  | 3 => some s.fecCap
  | 4 => some s.fecLimiter
  | 8 => some (s.inForce.decoderLatency (s.rdN 0x3000 1))
  | 9 => some s.inForce.encoderLatency
  | _ => none

/-- Computed readings of the bobbin group (R424, R426, R446). -/
def State.viewGroup (s : State) (sub : Nat) : Option DVal :=
  match sub with
  | 1 => some (.num s.groupRole)
  | 2 => some (.num (field s.pow.straps 0 2 : Nat))
  | 4 => some (.bytes s.groupDigest)
  | 5 => some (.num s.membersReachable)
  | _ => none

/-! ### Readings of the hardware that no command brings (log entry 119) -/

/-- Whether an entry shows what the hardware measures, estimates or counts by itself, no row bringing it: clipped samples,
image levels, receive readings of R198 and R200, lane and link readings, utilisation, port-busy and bank-wait counters,
and error counters of AER. -/
def measuredEntry (idx sub : Nat) : Bool :=
  if idx < 0x2000 then false
  else if idx < 0x2800 then
    (decide (0x2010 ≤ idx ∧ idx < 0x2014) && sub == 8) || (decide (0x2030 ≤ idx ∧ idx < 0x2034) && sub == 7)
      || (decide (0x2404 ≤ idx ∧ idx < 0x2408) && sub == 4)
  else if idx < 0x3000 then
    (idx == 0x2800 && sub == 0x15)
      || (decide (0x2810 ≤ idx ∧ idx < 0x2830) && (sub == 2 || sub == 3 || sub == 4 || sub == 8))
  else if 0x9020 ≤ idx ∧ idx < 0x9050 then sub == 8 || sub == 0x0D || sub == 0x0E
  else (decide (0x8C10 ≤ idx ∧ idx < 0x8C12) && sub == 0x0E) || (decide (0x8D00 ≤ idx ∧ idx < 0x8E00) && sub == 0x10)
    || (idx == 0x9080 && (sub == 0x0B || sub == 0x0C)) || (decide (0x9410 ≤ idx ∧ idx < 0x941C) && sub == 3)
    || (decide (0x9811 ≤ idx ∧ idx < 0x9823) && sub == 6)
    || (decide (0x9840 ≤ idx ∧ idx < 0x9852) && (sub == 1 || sub == 2))

/-- The locked threads below T (R200). -/
def State.lockedThreads (s : State) : List Nat :=
  (List.range (min 32 s.cfg.threads)).filter fun k => s.rdN (0x2810 + k) 1 == 4

/-- 2800:14: the mean DGD over the locked threads. A mean that is not whole is rounded one way or the other, and no rule
says what is shown while no thread is locked: free values (R198). -/
def State.meanDgd (s : State) : DVal :=
  let ks := s.lockedThreads
  if s.uptime = 0 ∨ ks = [] then s.reading 0x2800 0x14
  else
    let sum := (ks.map fun k => (s.reading (0x2810 + k) 4).int.toNat).sum
    .num ((sum + Config.reading (key 0x2800 0x14) s.uptime % ks.length) / ks.length : Nat)

/-- The readings of the transmit records (R169, R171). -/
def State.viewTransmit (s : State) (idx sub : Nat) : Option DVal :=
  if idx = 0x2400 ∧ sub = 5 then some (.num s.txStateOf)
  else if idx = 0x2400 ∧ sub = 6 then some (.num s.causes)
  else if idx = 0x2400 ∧ sub = 0x0A then
    some (.num (if s.lineMode then s.inForce.latencySent else 0 : Nat))
  else if 0x2410 ≤ idx ∧ idx < 0x2430 then
    match sub with
    | 2 => some (.num (if s.grm.darkened.contains (idx - 0x2410) then 1 else 0))
    | 3 => some (.num (if s.rdB 0x2400 0x0C && !s.tx.nlOff then (s.nlTableOf (idx - 0x2410)).length else 0 : Nat))
    | _ => none
  else none

/-- The reading of an entry that is computed; `none` where the dictionary store holds it. -/
def State.computed (s : State) (idx sub : Nat) : Option DVal :=
  let num := fun (o : Option Nat) => o.map fun v => DVal.num v
  if idx = 1 then
    match sub with | 1 => some (.bytes s.fuse.mac) | 2 => some (.bytes s.fuse.serial) | _ => none
  else if 0x10 ≤ idx ∧ idx < 0x1000 then patternBook idx sub
  else if absentThread s.cfg.threads idx sub then some (if idx < 0x3030 ∧ 0x3010 ≤ idx ∧ sub = 0x0C then .bytes [] else .num 0)
  else if measuredEntry idx sub && (decide (idx < 0x8D00 ∨ 0x8E00 ≤ idx) || s.homeHere (s.rdN idx 2)) then
    some (s.reading idx sub)
  else if idx < 0x2000 then num (s.viewDevice idx sub)
  else if idx = 0x2000 then
    match sub with
    | 3 => num (some (s.shown.sampleRate s.shown.adc))
    | 4 => num (some (s.shown.sampleRate s.shown.dac))
    | 5 => num (some s.shown.sliceRate)
    | _ => none
  else if idx = 0x2021 then s.viewSlice sub
  else if 0x2030 ≤ idx ∧ idx < 0x2034 then (if sub = 0x0A then num (some s.dacBackground) else none)
  else if idx = 0x2800 then
    match sub with
    | 9 => some (.num s.offsetMhz)
    | 0x0F => num (some s.stampCorrection)
    | 0x14 => some s.meanDgd
    | _ => none
  else if 0x2801 ≤ idx ∧ idx < 0x2805 then (if sub = 4 then some (.num (s.dcTracked (idx - 0x2801))) else none)
  else if idx = 0x3002 then (if sub = 1 then some (.bytes baseMatrix) else none)
  else if 0x2400 ≤ idx ∧ idx < 0x2430 then s.viewTransmit idx sub
  else if (0x9020 ≤ idx ∧ idx < 0x9050) ∧ sub = 0x0C then
    some (if s.rdN idx 0x0B = 0 then .num 0 else s.reading idx sub)
  else if idx = 0x3000 then num (s.viewFec sub)
  else if idx = 0x3400 then num (s.viewCarrier sub)
  else if 0x3410 ≤ idx ∧ idx < 0x3430 then s.viewThread (idx - 0x3410) sub
  else if 0x4000 ≤ idx ∧ idx < 0x5000 then num (s.viewTenant (idx - 0x4000) sub)
  else if 0x5000 ≤ idx ∧ idx < 0x6000 then
    if sub = 0x0D then num (some (s.receiveHold (idx - 0x5000)))
    else if 6 ≤ sub ∧ sub ≤ 0x0B then some (s.viewSlots (idx - 0x5000) sub)
    else none
  else if idx = 0x7000 then num (s.viewPools sub)
  else if idx = 0x7801 then num (some ((s.queue (s.rdN 0x7800 1)).view sub))
  else if 0x8010 ≤ idx ∧ idx < 0x8019 then
    if sub = 2 ∧ 0x8014 ≤ idx then num (some (if idx < 0x8016 then 1 else 0))
    else if sub = 0x0B then num (some (s.restoreLeft (idx - 0x8010)))
    else none
  else if idx = 0x8030 then (if sub = 1 then some s.now else none)
  else if idx = 0x8800 then
    match sub with | 6 => some (.num s.offsetShown) | 7 => num (some s.offsetCheck) | _ => none
  else if idx = 0x8801 then (if sub = 1 then num (some s.picotState) else none)
  else if idx = 0x8C00 then s.viewGroup sub
  else if 0x8D00 ≤ idx ∧ idx < 0x8E00 then
    (if decide (9 ≤ sub ∧ sub ≤ 0x10) && !s.homeHere (s.rdN idx 2) then some (.num 0) else none)
  else if idx = 0x9000 then
    match sub with
    | 1 => num (some s.laneCheck.1) | 2 => num (some s.laneCheck.2) | 3 => num (some s.lanesPowered) | _ => none
  else if idx = 0x9800 then (if sub = 6 then num (some s.testState) else none)
  else if idx = 0x9C00 then (if sub = 7 then num (some s.secFuse) else none)
  else if 0xA400 ≤ idx then
    match sub with
    | 1 => num (some (s.eventCount (eventCode (idx - 0xA400))))
    | 3 => num (some (s.eventLatched (eventCode (idx - 0xA400))))
    | 4 => (eventKind (idx - 0xA400)).map fun v => .num v
    | _ => none
  else none

/-- The value a read of an entry returns (R528, R530, R578). -/
def State.view (s : State) (idx sub : Nat) : DVal :=
  match entryOf idx sub with
  | some e => if s.shownDefault e idx sub then defaultOf (key idx sub) else (s.computed idx sub).getD (s.rd idx sub)
  | none => .num 0

/-- The same as an unsigned number. -/
def State.viewN (s : State) (idx sub : Nat) : Nat := (s.view idx sub).int.toNat

/-- What a read does besides returning the value: two peaks, the lowest core voltage and the deepest queue return to the
present value (R91, R288, R540). -/
def State.readEffect (s : State) (idx sub : Nat) : State :=
  match idx, sub with
  | 0x1011, 0x0A => s.wr 0x1011 0x0A (s.rd 0x1010 3)
  | 0x1012, 7 => s.wr 0x1012 7 (s.rd 0x1012 1)
  | 0x1030, 0x0A => s.wrN 0x1030 0x0A (s.srv.queue.length + (if s.srv.engaged.isSome then 1 else 0))
  | 0x7801, 0x0E => if s.on 17 then s.peakRead else s
  | _, _ => s

end Sys2Proof.Machine
end

