-- ==== Sys2Proof/Machine/Telemetry.lean ====
section
/-! DEFINITION. The PM second, sketch dumps and the housekeeping ADC (spec/19_telemetry.md R545 to R559). -/

namespace Sys2Proof.Machine

/-! ### Sketch dumps (R547 to R552) -/

/-- The dump map: every entry with the wrapping-counter flag and every event count, in ascending order (R547). -/
def State.dumpMap (s : State) : List (Nat × Nat) :=
  records.flatMap fun r => (List.range r.count).flatMap fun i =>
    if s.hasIdx (r.base + i) then
      (r.entries.filter fun e => e.flags.testBit 3 || (decide (0xA400 ≤ r.base) && e.sub == 1)).map fun e => (r.base + i, e.sub)
    else []

/-- The largest body of a slot, in entries (R549). -/
def dumpLimit : Nat := 131064

/-- The matrix address of the slot of dump q (R548). -/
def dumpAddr (q : Nat) : Nat := 0x50000000 + q % 8 * 0x100000

/-- The body bytes of a dump. -/
def Dump.bytes (d : Dump) : List Byte := d.body.flatMap fun v => beBytes 8 v

/-- The first 44 bytes of a slot header, in state 0, 1 or 2 and with a CRC (R548). -/
def State.dumpHeader (s : State) (d : Dump) (state crc : Nat) : List Byte :=
  beBytes 4 0x534B5443 ++ beBytes 4 d.number ++ Ty.time96.bytes (time96 d.time) ++ beBytes 4 d.second
    ++ beBytes 4 (8 * d.body.length) ++ padTo 8 (s.rdS 1 3) ++ beBytes 1 d.trigger ++ beBytes 1 state ++ [0, 0]
    ++ beBytes 4 crc

/-- Bytes written by the dump hardware into telemetry memory. -/
def State.dumpWrite (s : State) (a : Nat) (b : List Byte) : State := s.masterWrite a b

/-- The counters are latched at the dump time, and the slot's header says that it is being written (R547, R548, R549). -/
def State.dumpLatch (s : State) (time trigger : Nat) : State :=
  let map := s.dumpMap
  let d : Dump := { number := s.tel.nextDump, time := time, second := s.rdN 0xA000 5, trigger := trigger,
                    body := (map.take dumpLimit).map fun p => s.viewN p.1 p.2 }
  let t := s.whenB (decide (dumpLimit < map.length)) fun u => u.raise 0xA010 0x0A 0
  let t : State := { t with tel := { t.tel with
    due := none, writing := some d, nextDump := (t.tel.nextDump + 1) % 2 ^ 32
    copied := t.tel.copied.filter fun q => decide (q % 8 ≠ d.number % 8) } }
  t.dumpWrite (dumpAddr d.number) (t.dumpHeader d 0 0)

/-- What the host reads at an offset of BAR2: telemetry memory, or nothing where a word of it is uncorrectable or the link is down
(R417, R487, R548). -/
def State.bar2Bytes (s : State) (off n : Nat) : Option (List Byte) :=
  if s.lan.pcieUp ∧ off + n ≤ 0x800000 then s.masterRead (0x50000000 + off) n else none

/-- Whether the bytes of a slot as read are a consistent dump: complete, its two sequences equal, and the start sequence the same when
it is read again (R549). -/
def dumpConsistent (slot : List Byte) (again : Nat) : Bool :=
  beField slot 37 1 == 1 && beField slot 4 4 == beField slot 60 4 && beField slot 4 4 == again

/-- Whether a dump is being written. -/
def State.dumping (s : State) : Bool := s.tel.writing.isSome || s.tel.due.isSome

/-- Whether S1 or a higher step holds. -/
def State.shedS1 (s : State) : Bool := decide (1 ≤ s.rdN 0x1011 1)

/-- A periodic trigger at a PM boundary (R550, R552). -/
def State.dumpPeriodic (s : State) (time : Nat) : State :=
  let p := s.rdN 0xA010 2
  if p = 0 ∨ s.rdN 0xA000 5 % p ≠ 0 then s
  else if s.dumping || s.shedS1 || !s.on 1 then s.inc32 0xA010 8
  else s.dumpLatch time 1

/-- The next whole 10 µs of device time (R550). -/
def State.nextTen (s : State) : Nat := (s.devTime / 655360000 + 1) * 655360000

/-- The rule of A010:03 (R550, R552). -/
def State.dumpEffect (s : State) : Effect :=
  { fails := need (!s.dumping) .busy
    state := if s.shedS1 then s.inc32 0xA010 8
             else { s with tel := { s.tel with due := some (s.nextTen, 2) } } }

/-- DUMP_NOW (R550). -/
def execDumpNow (s : State) : Host.Outcome State Fault Refusal := .next (s.command 0xA010 3 (.num 1) s.dumpEffect)

/-- A dump whose time has come is latched (R547). -/
def State.dumpTick (s : State) : State :=
  match s.tel.due with
  | some (time, trigger) => if time ≤ s.devTime then s.dumpLatch time trigger else s
  | none => s

/-- DUMP_COMPLETE: the body, its CRC, the end sequence and state 1 (R548, R549). -/
def execDumpComplete (s : State) : Host.Outcome State Fault Refusal :=
  .next (match s.tel.writing with
    | none => s
    | some d =>
      let a := dumpAddr d.number
      let b := d.bytes
      let t := s.dumpWrite (a + 64) b
      let t := t.dumpWrite a (t.dumpHeader d 1 (crc32 b) ++ List.replicate 16 0 ++ beBytes 4 d.number)
      let t : State := { t with tel := { t.tel with
        writing := none, copied := if t.rdB 0xA010 4 then t.tel.copied ++ [d.number] else t.tel.copied } }
      t.wrN 0xA010 1 d.number)

/-- S1 abandons a dump in progress, which reads state 2, and drops a trigger whose time has not come (R552). -/
def State.dumpAbandon (s : State) : State :=
  let t : State := { s with tel := { s.tel with writing := none, due := none } }
  let t := t.whenB s.tel.due.isSome fun u => u.inc32 0xA010 8
  match s.tel.writing with
  | some d => t.dumpWrite (dumpAddr d.number + 37) [2]
  | none => t

/-- A job of firmware channel 56 that copies a slot: its record, and the counts of the engine (R478, R551, log entry 188). -/
def State.streamJob (s : State) (bytes err : Nat) : State :=
  let i := 0x9538
  let t := (((s.inc32 i 0x10).wrN i 0x0C bytes).wrN i 0x0A (if err = 0 then 3 else 4)).wrN i 0x0D err
  ((t.wrB i 0x0B (decide (err = 0))).bump 0x9540 2 64 bytes).whenB (decide (err ≠ 0)) fun u => u.inc32 0x9540 3

/-- DUMP_STREAM_COPY: channel 56 copies the oldest complete dump to the next buffer of the ring, or skips it where the ring is
full. S1, a restart and a stopped work item 10 pause it; a slot with an uncorrectable word ends the job with error 6 (R474, R551,
R552). -/
def execDumpStreamCopy (s : State) : Host.Outcome State Fault Refusal :=
  .next (match s.tel.copied with
    | [] => s
    | q :: r =>
      let t : State := { s with tel := { s.tel with copied := r } }
      let w := s.rdN 0xA010 9
      if !s.rdB 0xA010 4 || s.shedS1 || !s.itemRuns 10 || !s.lan.pcieUp then s
      else if s.rdN 0xA010 6 ≤ (w + 2 ^ 32 - s.rdN 0xA010 7) % 2 ^ 32 then t.inc32 0xA010 8
      else
        match s.masterRead (dumpAddr q) 0x100000 with
        | none => t.streamJob 0 6
        | some b =>
          let t := (t.streamJob 0x100000 0).emit (.hostWrite (s.rdN 0xA010 5 + w % s.rdN 0xA010 6 * 0x100000) b)
          let t := t.inc32 0xA010 9
          t.whenB (t.rdB 0xA010 0x0B) fun u => u.vector 8)

/-- The rule of writes to A010 (R552). -/
def State.dumpSettingEffect (s : State) (sub : Nat) (v : DVal) : Effect :=
  match sub with
  | 3 => s.dumpEffect
  | 5 => { fails := need (decide (v.int.toNat % 64 = 0)) .outOfRange ++ need (!s.rdB 0xA010 4) .conflict, state := s.wr 0xA010 5 v }
  | 6 => { fails := need (!s.rdB 0xA010 4) .conflict, state := s.wr 0xA010 6 v }
  | _ => .ok (s.wr 0xA010 sub v)

/-! ### The PM second (R545, R546) -/

/-- A PM boundary: every count is latched, the seconds of the decoder and of the line end, a periodic dump is triggered,
and a change of the PM source takes effect (R545, R546, R550). -/
def State.pmAt (s : State) (time : Nat) : State :=
  let t : State := { s with latched := s.events }
  let t := (t.wr 0xA000 3 (time96 time)).inc32 0xA000 5
  let t := t.fecSeconds.pmSecond.easelEvent 4 0
  let t : State := { t with tel := { t.tel with source := t.rdN 0xA000 1 } }
  t.dumpPeriodic time

/-- PM_BOUNDARY: at a whole second of device time, where it is the source (R545). -/
def execPmBoundary (s : State) : Host.Outcome State Fault Refusal :=
  .next (if s.on 0 && s.tel.source == 0 then s.pmAt (s.devTime - s.devTime % 65536000000000) else s)

/-- PM_SYNC_EDGE: an edge `sinceNs` after the previous boundary, less the declared delay, is accepted from 0.9 s on or
counted as rejected (R545). -/
def execPmSyncEdge (sinceNs : Nat) (s : State) : Host.Outcome State Fault Refusal :=
  .next (
    let delay := s.rdI 0xA000 2
    if !s.on 0 || s.tel.source != 1 then s
    else if (sinceNs : Int) - delay < 900000000 then s.inc32 0xA000 4
    else
      let t : State := { s with tel := { s.tel with placed := 0, accepted := s.tel.accepted + 1 } }
      let t := t.whenB (decide (3 ≤ t.tel.accepted)) fun u => u.clear 0xA000 6 0
      t.pmAt ((s.devTime : Int) - delay * 65536).toNat)

/-- PM_SYNC_MISSING: a boundary is placed 1.0 s after the previous one; the third in succession raises PMSYNC_LOSS
(R545). -/
def execPmSyncMissing (s : State) : Host.Outcome State Fault Refusal :=
  .next (if !s.on 0 || s.tel.source != 1 then s
    else
      let t : State := { s with tel := { s.tel with placed := s.tel.placed + 1, accepted := 0 } }
      let t := t.whenB (decide (3 ≤ t.tel.placed)) fun u => u.raise 0xA000 6 0
      t.pmAt (ofTime96 (s.rdI 0xA000 3) + 65536000000000))

/-- The rule of A400+e:02: an occurrence counts in edge mode only (R542). -/
def State.eventModeEffect (s : State) (e : Nat) (v : DVal) : Effect :=
  { fails := need (!(decide (v.int = 1) && eventKind e == some 1)) .conflict, state := s.wr (0xA400 + e) 2 v }

/-! ### The housekeeping ADC: curves (R555) -/

/-- Fraction bits of the logarithm. -/
def lnBits : Nat := 96

/-- 2^lnBits × atanh(n / d), a series whose terms shrink at least ninefold for |n / d| of at most 1/3. -/
def atanhFrom : Nat → Int → Int → Int → Nat → Int
  | 0, _, _, _, _ => 0
  | fuel + 1, n, d, term, i => term / (2 * (i : Int) + 1) + atanhFrom fuel n d (term * n * n / (d * d)) (i + 1)

/-- 2^lnBits × atanh(n / d). -/
def atanhFp (n d : Int) : Int := atanhFrom 32 n d (n * 2 ^ lnBits / d) 0

/-- 2^lnBits × ln(a / b) for positive a and b. -/
def lnFp (a b : Nat) : Int :=
  let k : Int := (a.log2 : Int) - b.log2
  let x : Int := if 0 ≤ k then a else a * 2 ^ (-k).toNat
  let y : Int := if 0 ≤ k then b * 2 ^ k.toNat else b
  2 * k * atanhFp 1 3 + 2 * atanhFp (x - y) (x + y)

/-- 10^23 × R / R0 at t hundredths of a degree by the Callendar–Van Dusen equations of IEC 60751 (R555). -/
def platinum (t : Int) : Int :=
  10 ^ 23 + 39083 * t * 10 ^ 14 - 5775 * t * t * 10 ^ 9 - (if t < 0 then 4183 * (t - 10000) * t * t * t else 0)

/-- The largest t with `p t`, for a `p` that holds up to some t from `lo` on, among 2^fuel values. -/
def bisect (p : Int → Bool) : Nat → Int → Int
  | 0, lo => lo
  | fuel + 1, lo => bisect p fuel (if p (lo + 2 ^ fuel) then lo + 2 ^ fuel else lo)

/-- What a curve makes of R / R0 = v / w: hundredths of a degree rounded down with whether that is exact, or none where
the resistance lies outside the curve's range (R555). -/
def platinumTemp (v w : Nat) : Option (Int × Bool) :=
  let le := fun (t : Int) => decide (platinum t * w ≤ (v : Int) * 10 ^ 23)
  if le (-20000) && decide ((v : Int) * 10 ^ 23 ≤ platinum 85000 * w) then
    let t := bisect (fun t => decide (t ≤ 85000) && le t) 17 (-20000)
    some (t, decide (platinum t * w = (v : Int) * 10 ^ 23))
  else none

/-- The same for a thermistor of value B: T = 1 / (1/298.15 K + ln(R/R0) / B). -/
def thermistorTemp (b v w : Nat) : Option (Int × Bool) :=
  if v = 0 then none
  else
    let n : Int := 29815 * b * 100 * 2 ^ lnBits
    let d : Int := 100 * b * 2 ^ lnBits + 29815 * lnFp v w
    if d ≤ 0 then none
    else
      let t := n / d - 27315
      let exact := decide (n % d = 0)
      if -5500 ≤ t ∧ (t < 15000 ∨ (t = 15000 ∧ exact)) then some (t, exact) else none

/-- The temperature of a curve from an input of `uv` µV at a current of `ua` µA (R555). -/
def curveTemp (curve uv ua : Nat) : Option (Int × Bool) :=
  match curve with
  | 1 => platinumTemp uv (ua * 100)
  | 2 => platinumTemp uv (ua * 1000)
  | 3 => thermistorTemp 3380 uv (ua * 10000)
  | 4 => thermistorTemp 3950 uv (ua * 10000)
  | _ => thermistorTemp 4250 uv (ua * 100000)

/-- The current of an excitation source in µA (R555, R557). -/
def State.excitation (s : State) (source : Nat) : Nat :=
  match (if source = 0 then 0 else s.rdN 0xA020 (0x0D + source)) with
  | 1 => 10 | 2 => 100 | 3 => 250 | 4 => 1000 | _ => 0

/-! ### The housekeeping ADC: sequences (R553 to R557) -/

/-- The record of housekeeping slot i: 0 to 63 regular, 64 to 71 injected (R558). -/
def hkIdx (i : Nat) : Nat := if i < 64 then 0xA030 + i else 0xA070 + (i - 64)

/-- How long a slot lasts, in 0.1 µs: its settling, a discharge, and 1 µs for each conversion (R554). -/
def HkSlot.tenths (x : HkSlot) : Nat := x.settling + (if x.discharge = 0 then 0 else 1) + 10 * x.averaging

/-- The settings of slot i as they stand (R558). -/
def State.hkSettings (s : State) (i : Nat) : HkSlot :=
  let r := hkIdx i
  { input := s.rdN r 1, curve := s.rdN r 2, settling := s.rdN r 3, discharge := s.rdN r 4, excitation := s.rdN r 5,
    averaging := s.rdN r 6 }

/-- The reference in use in µV: HK_VREF at its declared value, or the internal 2.500 V (R553). -/
def State.hkRef (s : State) : Nat := if s.tel.reference = 1 ∧ s.rdBit 0xA020 0x0D 0 = false then s.tel.declared * 1000 else 2500000

/-- A change that may change the reference in use, noted with its time (R553). -/
def State.hkRefChange (s : State) (f : State → State) : State :=
  let t := f s
  if t.hkRef = s.hkRef then t else { t with tel := { t.tel with refAt := some t.uptime } }

/-- A regular pass starts with the settings as they stand (R556). -/
def State.hkPassStart (s : State) : State :=
  let n := s.rdN 0xA020 3
  let t : State := { s with tel := { s.tel with passDue := false, interval := s.rdN 0xA020 4, regular := none } }
  let t := t.hkRefChange fun u =>
    let u : State := { u with tel := { u.tel with reference := u.rdN 0xA020 1, declared := u.rdN 0xA020 2 } }
    u.whenB (decide (u.tel.reference = 0)) fun w => w.clear 0xA020 0x0D 0
  if n = 0 then t
  else { t with tel := { t.tel with regular := some 0, regSlots := (List.range n).map t.hkSettings } }

/-- HK_REGULAR_PASS: a pass is due; where one is in progress it has overrun (R556). -/
def execHkRegularPass (s : State) : Host.Outcome State Fault Refusal :=
  .next (if !s.tel.hkOn then s
    else match s.tel.regular with
      | some _ => { s with tel := { s.tel with passDue := true } }
      | none => s.hkPassStart)

/-- A slot's conversions, each a code with the voltage then measured at HK_VREF in µV: the sum of code × reference in µV,
with HK_REF_BAD judged at each (R553). -/
def State.hkConvert (s : State) : List (BitVec 16 × Nat) → Nat × State
  | [] => (0, s)
  | (c, v) :: r =>
    let d := s.tel.declared * 1000
    let bad := decide (s.tel.reference = 1) && decide (d < 100 * (v - d) ∨ d < 100 * (d - v))
    let t := s.hkRefChange fun u => u.defect 0xA020 0x0D 0 bad
    let x := State.hkConvert t r
    (c.toNat * t.hkRef + x.1, x.2)

/-- The result of a slot: raw result, value, flags and sample time (R553, R555, R558). The mean and a temperature are rounded
freely, and a resistance outside the curve's range gives a free value. -/
def State.hkResult (s : State) (i : Nat) (x : HkSlot) (conv : List (BitVec 16 × Nat)) : State :=
  let cs := conv.take x.averaging
  let c := s.hkConvert cs
  let t := c.2
  let raw := roundDraw t.free c.1 (65536 * x.averaging)
  let t := t.drawn
  let unsettled := match t.tel.refAt with | some a => decide (t.uptime < a + 1000 + x.averaging) | none => false
  let ua := t.excitation x.excitation
  let open_ := decide (0 < ua) && decide (98 * t.hkRef < 100 * raw)
  let scale := cs.any fun p => p.1 == 0xFFFF
  let value : Int × Bool :=
    if x.curve = 0 then (raw, false)
    else if ua = 0 then (0, true)
    else match curveTemp x.curve raw ua with
      | some (v, exact) => (v + (if !exact && t.freeBool then 1 else 0), false)
      | none => (t.freeNat, true)
  let flags := (if unsettled then 1 else 0) + (if scale then 2 else 0) + (if value.2 then 4 else 0) + (if open_ then 8 else 0)
  let r := hkIdx i
  (((t.drawn.wrN r 7 raw).wrI r 8 value.1).wrN r 9 flags).wr r 0x0A (time96 (t.devTime - x.averaging * 65536000))

/-- HK_SLOT_DONE: the slot in progress has its result, and the next slot, pass or idleness follows (R554, R556, R557). -/
def execHkSlotDone (slot : Fin 72) (conversions : List (BitVec 16 × Nat)) (s : State) : Host.Outcome State Fault Refusal :=
  .next (
    let i := slot.val
    if !s.tel.hkOn then s
    else if i < 64 then
      match s.tel.regSlots[i]? with
      | some x =>
        if s.tel.regular ≠ some i ∨ conversions.length < x.averaging then s
        else
          let t := s.hkResult i x conversions
          if i + 1 < t.tel.regSlots.length then { t with tel := { t.tel with regular := some (i + 1) } }
          else
            let t : State := { t.inc32 0xA020 9 with tel := { t.tel with regular := none } }
            if t.tel.passDue ∨ t.tel.interval = 0 then t.hkPassStart else t
      | none => s
    else
      match s.tel.injSlots[i - 64]? with
      | some x =>
        if s.tel.injected ≠ some (i - 64) ∨ conversions.length < x.averaging then s
        else
          let t := s.hkResult i x conversions
          if i - 63 < t.tel.injSlots.length then { t with tel := { t.tel with injected := some (i - 63) } }
          else { t.inc32 0xA020 0x0A with tel := { t.tel with injected := none } }
      | none => s)

/-- An injected trigger: it starts the sequence with the settings as they stand, its latency within the bounds of A020:07 and
otherwise free, or it is missed (R557). -/
def State.hkInject (s : State) : State :=
  let n := s.rdN 0xA020 5
  if !s.tel.hkOn || n == 0 then s
  else if s.tel.injected.isSome then s.inc32 0xA020 0x0B
  else
    let lat := 10 + s.freeNat % (if s.rdN 0xA020 7 = 0 then 1001 else 11)
    let t := s.drawn.wrN 0xA020 0x0C lat
    { t with tel := { t.tel with injected := some 0, injSlots := (List.range n).map fun j => t.hkSettings (64 + j) } }

/-- HK_INJECT_TRIGGER: a PM boundary (1), a PPS_OUT edge (2) or a shed step change (3) comes, and is the source chosen in
A020:06 (R557). -/
def execHkInjectTrigger (source : Fin 4) (s : State) : Host.Outcome State Fault Refusal :=
  .next (if source.val ≠ 0 ∧ s.rdN 0xA020 6 = source.val then s.hkInject else s)

/-- HK_INJECT_NOW (R557). -/
def execHkInjectNow (s : State) : Host.Outcome State Fault Refusal :=
  .next (s.command 0xA020 8 (.num 1) (.ok s.hkInject))

end Sys2Proof.Machine
end

