-- ==== Sys2Proof/Machine/Modes.lean ====
section
/-! DEFINITION. The operating modes (spec/01_architecture.md R30 to R41): powering and gating of the domains, the requests of
1001:02, the transitions, and the advance from DISCOVER to SERVICE. -/

namespace Sys2Proof.Machine

/-! ### Power domains by mode (R30) -/

/-- Whether some client port uses a host lane of domain 18 or 19. -/
def State.hostUsed (s : State) (d : Nat) : Bool := (List.range 16).any fun l => hostLaneDomain l == d && (s.lanePort l).isSome

/-- The domains powered in DISCOVER, SERVICE and TEST (R30, R94). -/
def State.lineMask (s : State) : Nat :=
  maskOf 24 fun d => decide (d < 18) || (decide (d < 20) && s.hostUsed d) || (decide (20 ≤ d ∧ d < 22) && s.grouped) || decide (22 ≤ d)

/-- The domains powered in QUIET, and what SAFE adds to them (R30). -/
def State.quietMask (_ : State) : Nat := maskOf 24 fun d => decide (d < 2) || d == 23
/-- The domains powered in SAFE (R30). -/
def State.safeMask (s : State) : Nat :=
  maskOf 24 fun d => decide (d < 2) || d == 23 || (decide (20 ≤ d ∧ d < 22) && s.grouped)
/-- The domains powered in BOOT (R30). -/
def bootMask : Nat := maskOf 24 fun d => decide (d < 2) || decide (22 ≤ d)

/-- What the state beside the dictionary loses when a domain is gated (R319, R451, R529, R531). -/
def State.gateClean (s : State) (d : Nat) : State :=
  match d with
  | 2 => { s with cnv := State.reset.cnv }
  | 10 => { s with rx := State.reset.rx }
  | 14 =>
    let t : State := { s with tx := State.reset.tx, pic := State.reset.pic }
    t.wrN 0x1001 7 (t.rdN 0x1001 7 / 32 * 32)
  | 15 => { s with fec := State.reset.fec }
  | 16 =>
    let t : State := s.eraseTenantSlots
    { t with frm := State.reset.frm, tra := { t.tra with far := [], withdrawn := [], answers := [] } }
  | 17 =>
    let t := (s.groomClear.wrN 0x1011 7 0).wrN 0x9811 3 0
    { t with
      bob := { t.bob with prots := [], spanSeq := [], spanTx := [], partials := [] }
      mms := { t.mms with poison := t.mms.poison.filter fun p => p.1 != 1 } }
  | 18 => { s with lan := { s.lan with
      aligned := s.lan.aligned.filter fun p => decide (8 ≤ (s.laneSpan p).1), warm := s.lan.warm.filter fun l => decide (8 ≤ l) } }
  | 19 => { s with lan := { s.lan with
      aligned := s.lan.aligned.filter fun p => decide ((s.laneSpan p).1 < 8), warm := s.lan.warm.filter fun l => decide (l < 8) } }
  | 20 => { s with
      lan := { s.lan with ports := ldel 0 s.lan.ports, bob := s.lan.bob.filter fun b => decide (8 ≤ b.1) }
      bob := { s.bob with links := ldel 0 s.bob.links } }
  | 21 => { s with
      lan := { s.lan with ports := ldel 1 s.lan.ports, bob := s.lan.bob.filter fun b => decide (b.1 < 8) }
      bob := { s.bob with links := ldel 1 s.bob.links } }
  | 22 => s.enginesGate
  | _ => s

/-- A domain gated: its blocks lose their V and W values, and what they hold beside (R18, R529). -/
def State.gate (s : State) (d : Nat) : State :=
  if !s.on d then s
  else
    let t := s.gateClean d
    let t := t.forget (fun i => t.domainOf i == d) Cls.volatile
    { t with pow := { t.pow with domains := clearBit t.pow.domains d } }

/-- What a domain starts with when it is powered (R124, R216, R398, R434, R458, R530). -/
def State.powerStart (s : State) (d : Nat) : State :=
  match d with
  | 2 => s.convStart
  | 14 =>
    let t : State := { s with tx := { State.reset.tx with dpdMode := s.rdN 0x2401 1 } }
    (t.wrN 0x2400 6 (16 + t.rdN 0x2400 1))
  | 15 => s.fecStart
  | 17 => ({ s with grm := { s.grm with phase := s.freeNat } } : State).drawn
  | 18 => s.hostLanesStart
  | 19 => s.hostLanesStart
  | 20 => s.linkStart 0
  | 21 => s.linkStart 1
  | 22 => s.enginesUngate
  | _ => s

/-- A domain powered, with the A and N values in force (R530). -/
def State.power (s : State) (d : Nat) : State :=
  if s.on d then s
  else ({ s with pow := { s.pow with domains := setBit s.pow.domains d } } : State).powerStart d

/-- The domains brought to those of a mask: first what is gated, then what is powered. -/
def State.setDomains (s : State) (mask : Nat) : State :=
  let t := s.each (List.range 24) fun u d => if bit mask d then u else u.gate d
  t.each (List.range 24) fun u d => if bit mask d then u.power d else u

/-! ### The mode in force -/

/-- The entry a pending copy builds may still be written in the mode in force (R49, R577). -/
def State.copyAllowed (s : State) (k : Nat) : Bool :=
  match entryOf (k / 256) (k % 256) with
  | some e => (s.accessW e false).isEmpty
  | none => false

/-- TEST is left: the loopback and the lane tests end (R224, R409). -/
def State.leaveTest (s : State) : State := (s.wrN 0x3000 0x0A 0).lanesLeaveTest

/-- What leaving a mode for another, SHED and SAFE among them, does: the management settings take force where QUIET or TEST is left,
and the tests end where TEST is (R91, R224, R409). -/
def State.modeLeft (s : State) (m : Mode) : State :=
  if decide (m.num < 2) || s.inMode m then s
  else
    let t := s.whenB (s.inMode .test) State.leaveTest
    t.whenB (s.inMode .test || s.inMode .quiet) State.takeSettings

/-- The mode changes: 1001:01, 1001:03 and 1001:06, the event, vector 3 from QUIET on, and what the mode alone decides
(R32, R39, R91, R224, R264, R362, R409, R418, R420, R444, R543). -/
def State.setMode (s : State) (m : Mode) : State :=
  let t := s.modeLeft m
  let t : State := { t with ctl := { t.ctl with mode := m } }
  let t := ((t.wr 0x1001 3 t.now).inc32 0x1001 6).count (.modeEntry m.num)
  let t := t.whenB (m != .shed) fun u => u.wrN 0x1001 5 0
  let t : State := { t with srv := { t.srv with copies := t.srv.copies.filter fun c => t.copyAllowed c.entry } }
  let t : State := if m = .service || m = .shed then t else { t with frm := { t.frm with carExcluded := true } }
  let t := t.whenB (m != .service && m != .shed) fun u => u.picotCancel 7
  let t := t.whenB t.pow.configured State.alertUpdate
  let t := t.whenB (decide (2 ≤ m.num)) fun u => u.vector 3
  t.whenB (m == .safe) fun u => u.wakeRaise 0

/-- A shed entry or exit is due: the step in force calls for SHED, or for leaving it (R32, R533, R535). While another
transition is in progress it waits for its end: the spec gives no order (DESIGN CHOICE, log entry 134). -/
def State.shedDue (s : State) : Bool :=
  let step := s.rdN 0x1011 1
  s.ctl.target.isNone &&
    (((s.inMode .quiet || s.inMode .discover || s.inMode .service || s.inMode .test) && decide (1 ≤ step ∧ step ≤ 3))
      || (s.inMode .shed && step == 0))

/-- 1001:08: a transition is in progress, or a request for 4 waits in DISCOVER (R39). -/
def State.inTransition (s : State) : Bool :=
  s.ctl.target.isSome || (s.inMode .discover && s.rdN 0x1001 2 == 4) || s.shedDue

/-- 1001:08 brought up to date. -/
def State.modeReport (s : State) : State := s.wrB 0x1001 8 s.inTransition

/-- The host lane transmitters go to electrical idle (R38). -/
def State.hostLanesIdle (s : State) : State :=
  let t := s.each (List.range 16) fun u l => u.wrN (laneIdx l) 1 0
  { t with lan := { t.lan with aligned := [], warm := [] } }

/-- An update in service is abandoned by SAFE (R514). -/
def State.updateSafe (s : State) : State :=
  if s.boot.update.isSome && decide (s.boot.write = .none) then s.updateEnds.wrN 0x9C10 6 Status.aborted.code else s

/-- ENTER_SAFE for a cause of 1001:04 (R32, R38, R88, R166, R537): the line is muted and the mode is SAFE at once; the domains
are gated when the transition completes. In SAFE only the cause is kept. Causes 1 and 5 persist. -/
def State.toSafe (s : State) (cause : Nat) : State :=
  let keep := fun (t : State) =>
    if cause = 1 ∨ cause = 5 then
      ({ t with pow := { t.pow with safeCauses := addTo cause t.pow.safeCauses } } : State)
    else t
  if s.inMode .reset || s.inMode .boot then s
  else if s.inMode .safe then
    let t := keep s
    if t.ctl.target = some .quiet then
      ({ t with ctl := { t.ctl with target := some .safe } } : State).wrN 0x1001 4 cause
    else t
  else
    let t := s.whenB (s.on 14) fun u => u.muteCause 1
    let t := (t.hostLanesIdle.withdrawAll.updateSafe.wrN 0x1001 4 cause).count (.safeCause cause)
    let t : State := { t with ctl := { t.ctl with target := some .safe }, rx := { t.rx with step := .idle } }
    ((keep t).setMode .safe).modeReport

/-! ### Requests (R40, R41) -/

/-- The value of 1001:02 in force (R40): in SAFE it is 7, or the 2 on which the device is leaving it. -/
def State.requestInForce (s : State) (v : Nat) : Bool :=
  if s.inMode .safe then v == (if s.ctl.target = some .quiet then 2 else 7)
  else !s.inMode .shed && s.rdN 0x1001 2 == v

/-- Whether R32 allows the transition that a request asks for. -/
def State.requestAllowed (s : State) (v : Nat) : Bool :=
  match s.mode with
  | .quiet => true
  | .discover => v == 2 || v == 4 || v == 7 || (v == 3 && s.inTransition)
  | .service => v == 2 || v == 3 || v == 7
  | .test => v != 6
  | .shed => v == 7
  | .safe => v == 2 || v == 7
  | _ => false

/-- The line domains are powered for DISCOVER or TEST, and foreground calibration begins (R124). -/
def State.lineUp (s : State) (m : Mode) : State :=
  let t := s.setDomains s.lineMask
  { t with ctl := { t.ctl with target := some m } }

/-- What an accepted request for QUIET begins (R40, R88, R166). -/
def State.toQuiet (s : State) : State :=
  match s.mode with
  | .quiet =>
    let t : State := { s with ctl := { s.ctl with target := none } }
    t.setDomains t.quietMask
  | .safe => { s with ctl := { s.ctl with target := some .quiet } }
  | _ =>
    let t := (s.whenB (s.on 14) fun u => u.muteCause 3).withdrawAll
    { t with ctl := { t.ctl with target := some .quiet }, rx := { t.rx with step := .idle } }

/-- What the checks say of leaving QUIET or TEST (R102, R302, R346, R395). -/
def State.leaveChecks (s : State) : List Status :=
  s.leaveFails ++ need (s.placementCheck.1 == 0) .conflict ++ need (s.written.profile != 0 || s.offsetCheck == 0) .conflict ++ need (s.laneCheck.1 == 0) .conflict

/-- Whether an accepted request would leave QUIET or TEST (R102). -/
def State.leaves (s : State) (v : Nat) : Bool := (s.inMode .quiet && v != 2) || (s.inMode .test && v != 6)

/-- The rule of a write to 1001:02 (R40, R41, R102). A request for 7 in SAFE while the device leaves it for QUIET stops the
leaving as any SAFE cause does, with cause 2 (log entry 133). -/
def State.modeEffect (s : State) (v : Nat) : Effect :=
  let same := s.requestInForce v
  let t := s.wrN 0x1001 2 v
  { fails :=
      if same then []
      else need (s.requestAllowed v) .wrongMode ++ need (!s.inTransition || v == 2 || v == 7) .busy
        ++ need (!(s.inMode .safe && v == 2) || s.pow.safeCauses.isEmpty) .conflict
        ++ (if s.leaves v then s.leaveChecks else [])
    state :=
      if same then s
      else State.modeReport (match v with
        | 2 => t.toQuiet
        | 7 => t.toSafe 2
        | 6 => t.lineUp .test
        | _ =>
          if s.inMode .quiet then t.lineUp .discover
          else if s.inMode .discover then t
          else { t with ctl := { t.ctl with target := some .discover } }) }

/-- REQUEST_QUIET (R40). -/
def execRequestQuiet (s : State) : Host.Outcome State Fault Refusal := .next (s.command 0x1001 2 (.num 2) (s.modeEffect 2))
/-- REQUEST_DISCOVER (R40, R41). -/
def execRequestDiscover (s : State) : Host.Outcome State Fault Refusal := .next (s.command 0x1001 2 (.num 3) (s.modeEffect 3))
/-- REQUEST_SERVICE (R40, R41). -/
def execRequestService (s : State) : Host.Outcome State Fault Refusal := .next (s.command 0x1001 2 (.num 4) (s.modeEffect 4))
/-- REQUEST_TEST (R40). -/
def execRequestTest (s : State) : Host.Outcome State Fault Refusal := .next (s.command 0x1001 2 (.num 6) (s.modeEffect 6))
/-- REQUEST_SAFE (R38, R40). -/
def execRequestSafe (s : State) : Host.Outcome State Fault Refusal := .next (s.command 0x1001 2 (.num 7) (s.modeEffect 7))

/-! ### Transitions (R32, R102, R164, R167, R239, R279, R319, R330, R388, R409) -/

/-- The entry to QUIET from DISCOVER, SERVICE, TEST or SAFE. A transaction staged since the request is withdrawn here
(R88). -/
def State.enterQuiet (s : State) : State :=
  let t := s.withdrawAll
  let t := t.whenB (!s.inMode .safe && s.on 14) State.saveStartSets
  let t := ((t.setDomains t.quietMask).timingQuiet.eraseMgmt 63).sealDefects
  let t : State := { t with ctl := { t.ctl with target := none, traffic := false } }
  t.setMode .quiet

/-- The islands of the threads from T on are gated, those of the others powered (R94). -/
def State.threadIslands (s : State) : State :=
  s.each (List.range 32) fun u k => if s.cfg.threads ≤ k then u.gateThread k else u.ungateThread k

/-- The entry to DISCOVER or TEST from QUIET or TEST: CONFIGURATION_COPY, the transmitter and its counter start, and the
receiver and the picot channel begin. -/
def State.enterLine (s : State) (m : Mode) : State :=
  let t := (s.setDomains s.lineMask).latchCarrier.threadIslands
  let t := t.whenB (m == .discover) State.placeTenants
  let t := t.each (List.range 32) fun u k => (u.setLock k 0).wrN (0x2810 + k) 0x0A 0
  let t : State := { t with
    frm := { t.frm with hunts := [], tenants := [], tenMf := none, ohAt := none, ohPend := none, rdiMf := none, remoteDefect := 0, shedMuted := 0 }
    tra := { t.tra with far := [], withdrawn := [], answers := [] }
    tx := { t.tx with dpdMode := t.rdN 0x2401 1 } }
  let t := (t.wrN 0x1020 1 0).loadStartSets.rxConfigure.fecStart.transferRestart.eraseTenantSlots
  let t : State := { t with ctl := { t.ctl with target := none, traffic := false } }
  let t := t.setMode m
  let t := t.whenB (m == .discover) State.lowPower
  ((t.unmuteCause 3).picotEntry.hostLanesStart.startAcquisition false).easelGuard

/-- The return from SERVICE to DISCOVER: the line stays lit at full level, the start sets are loaded as on each entry to
DISCOVER, and the picot channel goes on (R41, R88, R164, R167, R328, R361). -/
def State.enterHold (s : State) : State :=
  let t : State := { s with ctl := { s.ctl with target := none } }
  (t.setMode .discover).withdrawTwoEnded.loadStartSets.discoverAgain

/-- MODE_TRANSITION_COMPLETE: the transition in progress ends; one to DISCOVER or TEST waits for foreground calibration,
and from QUIET or TEST for a configuration that 3400:0D passes, since writes after the request still change it: no entry
brings a configuration into force that the request would have been rejected for (R2, R32, R102, R124, R537, log entry 131). The supervisor pair makes it, so not during a HITLESS RESTART (R22). -/
def execModeTransitionComplete (s : State) : Host.Outcome State Fault Refusal :=
  .next (if s.pow.restarting then s
    else match s.ctl.target with
    | none => s
    | some .quiet => s.enterQuiet.modeReport
    | some .safe =>
      let t := s.setDomains s.safeMask
      State.modeReport { t with ctl := { t.ctl with target := none, traffic := false } }
    | some m =>
      if s.rdN 0x2000 9 = 1 then s
      else if s.inMode .service then s.enterHold.modeReport
      else if s.configCheck ≠ 0 then s
      else (s.enterLine m).modeReport)

/-! ### From DISCOVER to SERVICE (R36) -/

/-- Whether the five conditions of R36 hold. -/
def State.conditions (s : State) : Bool := s.discoverProgress % 32 == 31

/-- DISCOVER_ADVANCE: under a request for 4 with every condition, SERVICE (R32, R36). -/
def execDiscoverAdvance (s : State) : Host.Outcome State Fault Refusal :=
  .next (if s.inMode .discover && s.rdN 0x1001 2 == 4 && s.conditions && s.ctl.target.isNone && !s.shedDue && !s.pow.restarting
    then (s.setMode .service).modeReport else s)

/-- DISCOVER_TIMEOUT: the timeout is counted, and acquisition restarts (R36, R112, R167, R189, R360). -/
def execDiscoverTimeout (s : State) : Host.Outcome State Fault Refusal :=
  .next (if s.inMode .discover && !s.conditions && s.ctl.target.isNone && !s.pow.restarting then
      let p := s.rdN 0x1001 7
      let t := s.wrN 0x1001 7 (p % 256 + 256 * min 255 (p / 256 + 1))
      t.restartAcquisition.picotRestart.lowPower
    else s)

end Sys2Proof.Machine
end

