-- ==== Sys2Proof/Machine/Power.lean ====
section
/-! DEFINITION. Supplies, resets, the shed ladder and the thermal limits (spec/18_power_reset.md R518 to R540), with the
lockstep pair and BOOT's causes (R23, R34), the entry to QUIET from BOOT, and targets that do not answer (R468). -/

namespace Sys2Proof.Machine

/-! ### The shed ladder (R533 to R536) -/

/-- Whether bobbin port q carries a copy of an enabled protection group: a copy of this member's carrier on the way to its
home, or a copy of another carrier on the way to its home here (R533, log entry 51). -/
def State.portCarries (s : State) (q : Nat) : Bool :=
  s.protGroups.any fun j =>
    [s.rdN (0x8D00 + j) 2, s.rdN (0x8D00 + j) 3].any fun n =>
      if s.groupHome n then !s.copyHere n else s.copyHere n && s.route (s.homeOf n) == some q

/-- A bobbin port enters electrical idle as a whole (R407). -/
def State.portIdle (s : State) (q : Nat) : State :=
  if s.linkUp q then (s.bobIdleEnter q).wrN (0x8C10 + q) 1 5 else s

/-- A bobbin port leaves electrical idle (R407). -/
def State.portWake (s : State) (q : Nat) : State :=
  if s.linkState q = 5 then (s.bobIdleExit q).wrN (0x8C10 + q) 1 3 else s

/-- The channels that S1 pauses: host channels with a list in space 1, and the firmware's (R475, R533). -/
def State.dmaPause (s : State) : State :=
  (s.each (List.range 64) fun u c =>
    let i := 0x9500 + c
    if u.rdN i 0x0A == 1 && (decide (56 ≤ c) || u.rdN i 3 == 1 || u.rdN i 5 == 1) then u.wrN i 0x0A 2 else u).dmaReport

/-- The paused channels run on (R475). -/
def State.dmaResume (s : State) : State :=
  (s.each (List.range 64) fun u c => if u.rdN (0x9500 + c) 0x0A == 2 then u.wrN (0x9500 + c) 0x0A 1 else u).dmaReport

/-- What entering step n gives up (R533). -/
def State.giveUp (s : State) (n : Nat) : State :=
  match n with
  | 1 => s.convJudge.dumpAbandon.dmaPause
  | 2 => s.fecShed
  | 3 => (s.each [0, 1] fun u q => if u.portCarries q then u else u.portIdle q).linksChanged
  | 4 => s.toSafe 1
  | _ => s

/-- What leaving step n gives back (R533, R534). The darkened threads are lit by S3_RELIGHT. -/
def State.giveBack (s : State) (n : Nat) : State :=
  match n with
  | 1 => s.convJudge.dmaResume.enginesUnshed
  | 2 => s.fecShed
  | 3 => (s.each [0, 1] State.portWake).linksChanged
  | _ => s

/-- The step in force follows the three steps: the highest of them (R533). A step found in RESET or BOOT takes effect in
QUIET; a step S4 found in BOOT is counted there as well (R34, log entry 132). A cause S4 of SAFE ends once no step is S4
and the voltage step is S0 (R535). -/
def State.stepUpdate (s : State) : State :=
  let v := s.rdN 0x1011 2
  let new := max v (max (s.rdN 0x1011 3) (s.rdN 0x1011 4))
  let old := s.rdN 0x1011 1
  let s : State := if new < 4 ∧ v = 0 then
      { s with pow := { s.pow with safeCauses := dropFrom 1 s.pow.safeCauses } }
    else s
  if s.inMode .boot && decide (new = 4) && !s.pow.safeCauses.contains 1 then
    ({ s with pow := { s.pow with safeCauses := addTo 1 s.pow.safeCauses } } : State).count (.stepEntry 4)
  else if s.inMode .reset || s.inMode .boot || decide (new = old) then s
  else
    let t := (s.wrN 0x1011 1 new).wr 0x1011 0x0B s.now
    let t : State :=
      if old < new then
        let b := t.rdS 0x1011 9
        let o := 4 * (new - 1)
        let c := (beField b o 4 + 1) % 2 ^ 32
        let t := (t.wrS 0x1011 9 (padTo o (b.take o) ++ beBytes 4 c ++ b.drop (o + 4))).count (.stepEntry new)
        t.each (List.range' (old + 1) (new - old)) State.giveUp
      else t.each (List.range' (new + 1) (old - new)).reverse State.giveBack
    ((t.vector 4).wakeRaise 1).modeReport

/-- The core voltage in mV as measured (1010:03), and the lowest since the last read (R540). -/
def State.coreSeen (s : State) (mv : Nat) : State :=
  let t := s.wrN 0x1010 3 mv
  t.wrN 0x1011 0x0A (if t.rdN 0x1011 0x0A = 0 then mv else min mv (t.rdN 0x1011 0x0A))

/-- The percentage of the set point below which step n + 1 is entered (R533). -/
def stepPercent (n : Nat) : Nat := 97 - 2 * n

/-- Whether the comparators run: from the start of BOOT (R533). -/
def State.ladderOn (s : State) : Bool := s.on 1 && !s.inMode .reset

/-- VOLTAGE_STEP_RISE: VDD_CORE has stayed below a step's fraction for 20 µs (R533). -/
def execVoltageStepRise (step : Fin 4) (mv : Nat) (s : State) : Host.Outcome State Fault Refusal :=
  .next (if s.ladderOn && decide (100 * mv < stepPercent step.val * s.rdN 0x1010 2) then
      let t := s.coreSeen mv
      (t.wrN 0x1011 2 (max (t.rdN 0x1011 2) (step.val + 1))).stepUpdate
    else s)

/-- VOLTAGE_STEP_RETURN: 100 ms above 0.98 of the set point (R533). -/
def execVoltageStepReturn (mv : Nat) (s : State) : Host.Outcome State Fault Refusal :=
  .next (if s.ladderOn && decide (98 * s.rdN 0x1010 2 < 100 * mv) then ((s.coreSeen mv).wrN 0x1011 2 0).stepUpdate else s)

/-- PWR_WARN_ASSERT: PWR_WARN_N low for `widthNs`; below 20 ns it is ignored, from 20 ns up to 100 ns it may be recognised or
not, a free choice (R533, R572). -/
def execPwrWarnAssert (widthNs : Nat) (s : State) : Host.Outcome State Fault Refusal :=
  .next (if !s.on 0 || decide (widthNs < 20) then s
    else
      let open_ := decide (widthNs < 100)
      let seen := !open_ || s.freeBool
      let t := s.whenB open_ State.drawn
      if !seen then t
      else
        let t : State := { t with pow := { t.pow with warnLow := true } }
        if t.ladderOn && t.rdB 0x1011 6 then (t.wrN 0x1011 3 (t.rdN 0x1011 5)).stepUpdate else t)

/-- PWR_WARN_RETURN: PWR_WARN_N has been inactive for 100 ms (R533). -/
def execPwrWarnReturn (s : State) : Host.Outcome State Fault Refusal :=
  .next (if s.pow.warnLow then
      let t : State := { s with pow := { s.pow with warnLow := false } }
      (t.wrN 0x1011 3 0).stepUpdate
    else s)

/-- SHED_ENTRY: the mode is SHED (R32, R535, R536). -/
def execShedEntry (s : State) : Host.Outcome State Fault Refusal :=
  .next (if s.shedDue && !s.inMode .shed && !s.pow.restarting then
      let m := s.mode.num
      ((s.setMode .shed).wrN 0x1001 5 m).modeReport
    else s)

/-- SHED_EXIT: the mode returns to the one held in 1001:05; into QUIET the active sets become the start sets, where their
domain is powered, and into DISCOVER or TEST the start sets are loaded; into DISCOVER the picot channel begins as on an entry (R32,
R164, R361, R535). -/
def execShedExit (s : State) : Host.Outcome State Fault Refusal :=
  .next (if s.shedDue && s.inMode .shed && !s.pow.restarting then
      let m := s.base
      let t := (s.whenB (m == .quiet && s.on 14) State.saveStartSets).setMode m
      let t := t.whenB (m == .discover || m == .test) State.loadStartSets
      (t.whenB (m == .discover) State.discoverAgain).modeReport
    else s)

/-- The threads of a set go dark (R88, R303, R534). -/
def State.darken (s : State) (least sets : Nat) : State :=
  let dark := s.shedSet least
  let t : State := { s with grm := { s.grm with
    darkened := uniq (s.grm.darkened ++ dark), darkAt := if sets = 1 then s.uptime else s.grm.darkAt } }
  (t.wrN 0x1011 7 sets).each dark State.withdrawDark

/-- Whether S3 acts on threads: the step in force is S3 or higher and the line's domains are powered (R533, R536). -/
def State.s3Acts (s : State) : Bool := decide (3 ≤ s.rdN 0x1011 1) && s.on 14 && !s.inMode .safe && s.ctl.target != some .quiet

/-- S3_DARKEN_FIRST_SET: at the next transmit multiframe boundary (R534). -/
def execS3DarkenFirstSet (s : State) : Host.Outcome State Fault Refusal :=
  .next (if s.s3Acts && s.rdN 0x1011 7 == 0 then s.darken 3 1 else s)

/-- S3_DARKEN_SECOND_SET: at the first boundary at least 1 ms after the first set, if the step has not fallen (R534). -/
def execS3DarkenSecondSet (s : State) : Host.Outcome State Fault Refusal :=
  .next (if s.s3Acts && s.rdN 0x1011 7 == 1 && decide (s.grm.darkAt + 1000 ≤ s.uptime) then s.darken 2 2 else s)

/-- S3_RELIGHT: below S3 all darkened threads are lit together at the next boundary (R534). -/
def execS3Relight (s : State) : Host.Outcome State Fault Refusal :=
  .next (if s.rdN 0x1011 7 != 0 && decide (s.rdN 0x1011 1 < 3) then
      let t : State := { s with grm := { s.grm with darkened := [] } }
      t.wrN 0x1011 7 0
    else s)

/-! ### Adaptive voltage (R522) -/

/-- AVS_LOW while the set point lies below the target. -/
def State.avsJudge (s : State) : State := s.defect 0x1010 6 0 (decide (s.rdN 0x1010 2 < s.rdN 0x1010 1))

/-- AVS_TARGET_UPDATE: the target from the critical-path monitors, rounded up to 5 mV and held within 600 to 750 mV
(R522). -/
def execAvsTargetUpdate (pathMv : Nat) (s : State) : Host.Outcome State Fault Refusal :=
  .next (if s.on 1 then (s.wrN 0x1010 1 (max 600 (min 750 (5 * ceilDiv pathMv 5)))).avsJudge else s)

/-- The rule of a write to 1010:02 (R522). -/
def State.setPointEffect (s : State) (mv : Nat) : Effect :=
  let now := s.rdN 0x1010 2
  let t := s.wrN 0x1010 2 mv
  { fails := need (!(s.inMode .shed || s.inMode .safe)) .wrongMode
      ++ need (decide (mv % 5 = 0) && decide (mv ≤ now + 10) && decide (now ≤ mv + 10)) .outOfRange
      ++ need (decide (s.rdN 0x1010 1 ≤ mv)) .conflict
    state := (t.whenB (mv != now) fun u => u.inc32 0x1010 7).avsJudge }

/-- SET_POINT_WRITE (R522, R523). -/
def execSetPointWrite (mv : Nat) (s : State) : Host.Outcome State Fault Refusal :=
  .next (s.command 0x1010 2 (.num mv) (s.setPointEffect mv))

/-! ### Boot (R23, R34, R449, R501, R532) -/

/-- BOOT begins, or begins again from step 1 of R501, with the outputs in their BOOT state (R34, R538). -/
def State.bootAgain (s : State) : State :=
  let t := s.setDomains bootMask
  ({ t with pow := { t.pow with configured := false } } : State).bootStart true

/-- Loading stops: PD22 and PD23 are gated and BOOT is held (R34). -/
def State.bootStops (s : State) (h : BootHold) : State := ((s.gate 22).gate 23).bootHeld h

/-- The entry to BOOT at a release: PD1, PD22 and PD23 are powered, the gesso ROM starts, and the PCIe link trains (R3, R32,
R419, R424, R501, R532, R539). A TEMP_SHUTDOWN that stands holds it (R34). -/
def State.enterBoot (s : State) (vddCoreMv : Nat) (romOk : Bool) : State :=
  let t := s.setDomains bootMask
  let t := t.setMode .boot
  let t := t.wrBit 0x1000 0x0A 1 (decide (vddCoreMv < 735 ∨ 775 < vddCoreMv))
  let t := t.wrN 0x1010 3 vddCoreMv
  let t := t.whenB (t.groupRole == 3 && !t.is1608) fun u => u.raise 0x8C00 0x0D 0
  let t := ({ t with boot := { t.boot with startAt := t.uptime } } : State).bootStart romOk |>.pcieTrain
  t.whenB (t.rdBit 0x1012 6 2) fun u => u.bootStops .shutdown

/-- CANVAS_PHASE_COMPLETE: the clusters that failed their check are left out, and the mode is QUIET (R338, R449, R501,
R505). A shed step found in BOOT takes effect (R533). -/
def execCanvasPhaseComplete (failed : BitVec 12) (s : State) : Host.Outcome State Fault Refusal :=
  .next (if s.inMode .boot && s.pow.configured && decide (s.pow.hold = .none) then
      let t := (s.wrN 0x9C00 8 (s.uptime - s.boot.startAt)).enginesPlace failed.toNat
      let t := if t.rdN 0x1040 2 = 1 then t.entropyUp else t
      let t := t.restoreIfDue
      (((t.setDomains t.quietMask).setMode .quiet).stepUpdate).modeReport
    else s)

/-- LOCKSTEP_MISMATCH: the first calls for a HITLESS RESTART, a second within 1 s leads to SAFE; in BOOT they start BOOT again,
or hold it. A first one that comes while TEMP_SHUTDOWN holds BOOT is only counted: nothing is loading, and the spec gives no
order between the two causes (R23, R34, R514, DESIGN CHOICE, log entry 135). -/
def execLockstepMismatch (s : State) : Host.Outcome State Fault Refusal :=
  .next (if !s.on 1 || s.inMode .reset then s
    else
      let second := match s.pow.lastMismatch with | some u => decide (s.uptime ≤ u + 1000000) | none => false
      let t := s.count .lockstep
      let t : State := { t with pow := { t.pow with lastMismatch := some t.uptime } }
      if t.inMode .boot then
        if t.pow.hold = .lockstep then t
        else if second then t.bootStops .lockstep
        else if t.pow.hold = .shutdown then t
        else t.bootAgain
      else if second then t.toSafe 3
      else
        let t := t.restartFor .lockstep
        match t.boot.update with
        | some u => if u.supervisor then t else t.updateReverse u .aborted
        | none => t)

/-! ### Thermal limits (R525) -/

/-- The place of the hottest of the sensors, the first of equals. -/
def hottest (l : List Int) : Nat := maxIndex l

/-- THERMAL_SAMPLE: the sixteen sensors in 0.1 °C. TEMP_SHUTDOWN is raised at the second sample in a row above the limit, 1 ms
after the first; one that stands when BOOT begins holds it (R525, R34). -/
def execThermalSample (temps : List Int) (s : State) : Host.Outcome State Fault Refusal :=
  .next (if !s.on 0 || decide (temps.length ≠ 16) then s
    else
      let i := hottest temps
      let h := temps.getD i 0
      let t := ((s.wrI 0x1012 1 h).wrN 0x1012 2 i).wrS 0x1012 8 (temps.flatMap fun v => beBytes 2 (unsignedOf 2 v))
      let t := t.wrI 0x1012 7 (max h (t.rdI 0x1012 7))
      let high := if decide (t.rdI 0x1012 3 < h) then true else if decide (h ≤ t.rdI 0x1012 3 - 50) then false else t.rdBit 0x1012 6 0
      let t := t.defect 0x1012 6 0 high
      let t := t.defect 0x1012 6 1 (temps.any fun v => decide (v < -50))
      let limit := t.rdI 0x1012 5
      let was := t.rdBit 0x1012 6 2
      let above := decide (limit < h)
      let now := if above && t.pow.shutdownHot then true else if decide (h ≤ limit - 100) then false else was
      let t := t.defect 0x1012 6 2 now
      let t : State := { t with pow := { t.pow with shutdownHot := above } }
      let t := (t.wrN 0x1011 4 (if high then t.rdN 0x1012 4 else 0)).stepUpdate
      if now && !was then
        (if t.inMode .reset then t
        else if t.inMode .boot then (if t.pow.hold = .lockstep then t else t.bootStops .shutdown) else t.toSafe 5)
      else if was && !now then
        let t : State := { t with pow := { t.pow with safeCauses := dropFrom 5 t.pow.safeCauses } }
        if t.inMode .boot && decide (t.pow.hold = .shutdown) then t.bootAgain else t
      else t)

/-- The rule of writes to 1012: the warning threshold stays below the shutdown limit (R540). -/
def State.thermalEffect (s : State) (sub : Nat) (v : DVal) : Effect :=
  { fails := match sub with
      | 3 => need (decide (v.int < s.rdI 0x1012 5)) .conflict
      | 5 => need (decide (s.rdI 0x1012 3 < v.int)) .conflict
      | _ => []
    state := s.wr 0x1012 sub v }

/-! ### Resets (R526 to R531) -/

/-- A flash erase or program, a commit or a record write that a reset cuts off leaves free bytes where it worked. -/
def State.flashCut (s : State) : State :=
  let t := match s.boot.job with
    | .erase a n => s.flashScrap a n
    | .program a b => s.flashScrap a b.length
    | _ => s
  let t := match t.boot.commit with
    | some (i, b) => t.flashScrap (slotBase i) (min 0x400000 b.length)
    | none => t
  if t.boot.write = .none then t
  else t.flashScrap (4096 * (match t.recordInForce with | some (i, _) => 1 - i | none => 0)) t.bootRecord.bytes.length

/-- The state at the start of a POR: nothing is kept but what no reset touches (flash, the fuses) and the levels that others
drive on the pins (R526, R531). -/
def State.porState (s : State) : State :=
  let f := s.flashCut
  { State.reset with
    pending := f.pending, uptime := f.uptime, free := f.free, out := f.out, flash := f.flash, fuse := f.fuse
    pow := { State.reset.pow with pinLow := f.pow.pinLow, warnLow := f.pow.warnLow }
    lan := { State.reset.lan with perst := f.lan.perst }
    bob := { State.reset.bob with alertSensed := f.bob.alertSensed }
    boot := { State.reset.boot with fuse := f.boot.fuse } }

/-- POR: the always-on supplies are lost, or come for the first time (R521, R526). -/
def execPor (s : State) : Host.Outcome State Fault Refusal := .next s.porState

/-- Whether a record keeps its V and W values through PIN and WARM: the timing island's, which run on (R372, R526). -/
def keptTiming (idx : Nat) : Bool := decide (0x8000 ≤ idx ∧ idx < 0x8800)

/-- What PIN, WARM and main supply loss have in common: the line is muted, staged transactions are withdrawn, and every domain
but PD0 is gated; M63 is erased (R88, R166, R330, R526, R529, R531, R538). `keepA` is true for WARM. -/
def State.resetCommon (s : State) (kind : Nat) (keepA : Bool) : State :=
  let t := (s.whenB (s.on 14) fun u => u.muteCause 5).withdrawAll.timingQuiet
  let t := t.pcieDown.flashCut.eraseTenantSlots
  let mgmt := if keepA then t.sls.mgmt.filter fun m => decide (m.1 < 63) else []
  let second := t.rdN 0xA000 5
  let t := t.transferRestart
  let t := t.forget (fun i => !keptTiming i) Cls.volatile
  let t := if keepA then t.wrN 0xA000 5 second else t.forget (fun _ => true) fun c => decide (c = .a)
  let r := State.reset
  let t : State := { t with
    events := if keepA then t.events else [], latched := if keepA then t.latched else []
    mem := [], tra := r.tra, cfg := r.cfg, cnv := r.cnv, tx := r.tx, rx := r.rx, fec := r.fec, frm := r.frm
    grm := { r.grm with phase := t.grm.phase }
    sls := r.sls, pic := r.pic
    lan := { r.lan with perst := t.lan.perst }
    bob := { r.bob with alertSensed := t.bob.alertSensed }
    eng := r.eng, mat := r.mat
    mms := { r.mms with log := if keepA then t.mms.log else [], lastAt := t.mms.lastAt }
    boot := { r.boot with fuse := t.boot.fuse }
    ctl := r.ctl
    pow := { t.pow with
      domains := 1, gatedIslands := [], configured := false, warmDue := false, restartDue := none, restarting := false
      lastMismatch := none, hold := .none, safeCauses := [], shutdownHot := false }
    srv := { r.srv with
      rxCounter := if keepA then t.srv.rxCounter else [], txCounter := if keepA then t.srv.txCounter else []
      addrValid := t.srv.addrValid, silent := t.srv.silent && keepA, identityOn := t.srv.identityOn
      settings := t.srv.settings, beaconAt := t.srv.beaconAt, busyAt := t.srv.busyAt }
    tel := { t.tel with
      nextDump := 1, due := none, writing := none, copied := []
      hkOn := t.tel.hkOn && keepA, regular := if keepA then t.tel.regular else none
      injected := if keepA then t.tel.injected else none, passDue := t.tel.passDue && keepA } }
  let t := (t.each mgmt fun u m => u.setMgmt m.1 m.2).eraseMgmt 63
  let t := t.wakeN false
  let t := t.setMode .reset
  ((t.wrN 0x1001 6 0).wrN 0x1000 1 kind).wr 0x1000 8 t.now

/-- PIN_RESET: RESET_N low for `lowNs`; below 1 µs it is ignored, and from 1 µs up to 10 µs its effect is not defined. Before
POR release it holds the release off (R519, R526, R572). -/
def execPinReset (lowNs : Nat) (s : State) : Host.Outcome State Fault Refusal :=
  if lowNs < 1000 then .next s
  else if lowNs < 10000 then .fault .undefinedResetPulse
  else
    let low : State := { s with pow := { s.pow with pinLow := true } }
    .next (if !s.pow.released || s.pow.pinLow then low
      else
        let t := (low.resetCommon 2 false).count (.reset 2)
        if s.srv.silent then t.emit (.neighbourSolicit s.linkLocal) else t)

/-- PIN_RESET_RELEASE: the straps are latched again, and BOOT begins where the supplies are good (R526, R531, R564). -/
def execPinResetRelease (straps : BitVec 16) (vddCoreMv : Nat) (romOk : Bool) (s : State) : Host.Outcome State Fault Refusal :=
  .next (if !s.pow.pinLow then s
    else
      let t : State := { s with pow := { s.pow with pinLow := false } }
      if !s.pow.released then t
      else
        let t : State := { t with pow := { t.pow with straps := straps.toNat }, srv := { t.srv with mdioOn := true } }
        t.enterBoot vddCoreMv romOk)

/-- The rails of R518 that are good when `n` groups are (R519, R540). -/
def railsGood (n : Nat) : Nat := match n with | 0 => 0 | 1 => 0x180 | 2 => 0x197 | _ => 0x1FF

/-- MAIN_SUPPLY_LOSS: a rail below 90 % for 10 µs. One of group 1 is a POR; another acts as a PIN reset, and R519 runs again
from step 2 (R521, R526, R576). -/
def execMainSupplyLoss (rail : Fin 9) (s : State) : Host.Outcome State Fault Refusal :=
  .next (if 7 ≤ rail.val then s.porState
    else if s.pow.groups ≤ 1 then s
    else
      let rails := s.rdN 0x1010 5
      let t := if s.pow.released then (s.resetCommon 6 false).count (.reset 6) else s
      let t : State := { t with pow := { t.pow with groups := 1, released := false } }
      t.wrN 0x1010 5 (clearBit rails rail.val))

/-- RAIL_GROUP_GOOD: the next group of rails is good; with group 1 PD0 starts in standby (R519, R372). -/
def execRailGroupGood (group : Fin 3) (s : State) : Host.Outcome State Fault Refusal :=
  .next (if group.val ≠ s.pow.groups then s
    else
      let t : State := { s with pow := { s.pow with groups := group.val + 1 } }
      let t : State :=
        if group.val = 0 then
          let u : State := { t with pow := { t.pow with domains := 1 }, devTime := 0 }
          (u.wrN 0x1000 1 1).count (.reset 1)
        else t
      t.wrN 0x1010 5 ((if group.val = 0 then 0 else t.rdN 0x1010 5) ||| railsGood (group.val + 1)))

/-- POR_RELEASE: with every rail good and RESET_N high the straps are latched and BOOT begins (R519, R532). Duplicate address
detection follows a POR; after a main supply loss the address stands (R526). -/
def execPorRelease (straps : BitVec 16) (vddCoreMv : Nat) (romOk : Bool) (s : State) : Host.Outcome State Fault Refusal :=
  .next (if s.pow.groups ≠ 3 ∨ s.pow.released ∨ s.pow.pinLow then s
    else
      let t : State := { s with pow := { s.pow with released := true, straps := straps.toNat } }
      let t : State :=
        if t.srv.addrValid then { t with srv := { t.srv with mdioOn := true } }
        else t.emit (.neighbourSolicit t.linkLocal)
      t.enterBoot vddCoreMv romOk)

/-- The rule of 1000:10 (R527, R536). -/
def State.warmEffect (s : State) : Effect := .ok { s with pow := { s.pow with warmDue := true } }

/-- WARM_REQUEST (R527). -/
def execWarmRequest (s : State) : Host.Outcome State Fault Refusal := .next (s.command 0x1000 0x10 (.num 0xA55A) s.warmEffect)

/-- WARM_RESET: 1 ms after the answer; BOOT begins 1 ms after the gating, with the straps of the last latch (R526, R527). -/
def execWarmReset (vddCoreMv : Nat) (romOk : Bool) (s : State) : Host.Outcome State Fault Refusal :=
  .next (if !s.pow.warmDue then s
    else
      let t := (s.resetCommon 3 true).inc32 0x1000 2
      let t := t.count (.reset 3)
      let t : State := { t with srv := { t.srv with mdioOn := true } }
      t.enterBoot vddCoreMv romOk)

/-- The rule of 1000:11 (R527). -/
def State.restartEffect (s : State) : Effect :=
  { fails := need (s.eng.move.isNone && s.boot.update.isNone && s.pow.restartDue.isNone) .busy
    state := s.restartFor .host }

/-- RESTART_REQUEST (R527). -/
def execRestartRequest (s : State) : Host.Outcome State Fault Refusal :=
  .next (s.command 0x1000 0x11 (.num 0xA55A) s.restartEffect)

/-- The number of a restart cause (1000:07). -/
def restartNumber : RestartCause → Nat
  | .host => 1 | .lockstep => 2 | .update => 3 | .memory => 4

/-- HITLESS_RESTART: the supervisor pair and the engines restart, and every loop of R27 holds; a cluster move goes first (R26
to R29, R35, R134, R458, R526). -/
def execHitlessRestart (s : State) : Host.Outcome State Fault Refusal :=
  .next (match s.pow.restartDue with
    | none => s
    | some cause =>
      if s.pow.restarting || s.eng.move.isSome || s.inMode .reset || s.inMode .boot then s
      else
        let t : State := { s with pow := { s.pow with restartDue := none, restarting := true } }
        let t := ((t.inc32 0x1000 3).wrN 0x1000 7 (restartNumber cause)).wrN 0x1000 1 4
        (t.count (.reset 4)).convJudge)

/-- HITLESS_RESTART_COMPLETE: the engines return, and the loops resume from the values in use; an update in service goes on to
its record write (R28, R135, R193, R388, R512, R526). -/
def execHitlessRestartComplete (s : State) : Host.Outcome State Fault Refusal :=
  .next (if !s.pow.restarting then s
    else
      let t : State := { s with
        pow := { s.pow with restarting := false }
        eng := { s.eng with misses := [] } }
      let t := t.acqAfresh.convJudge
      let t := t.timingReturn.picotKick
      match t.boot.update with
      | some u =>
        if u.supervisor && !u.restarted then
          let t : State := { t with
            boot := { t.boot with update := some { u with restarted := true }, manifest := u.manifest, half := 1 - t.boot.half } }
          t.recordWrite (.activate (1 - t.bank) true)
        else t
      | none => t)

/-! ### Targets that do not answer (R468) -/

/-- TARGET_TIMEOUT: a target is isolated: 0 ROM, 1 SRAM, 2 studio, 3 telemetry, 4 + n cluster memory, 16 dictionary store,
17 block registers, 19 foundry, 20 + i remote; the flash window, 18, knows no timeout (R510). Without its central memories
the device enters SAFE. -/
def execTargetTimeout (target : Nat) (s : State) : Host.Outcome State Fault Refusal :=
  .next (if !s.on 1 || decide (24 ≤ target) || target == 18 then s
    else
      let t : State := { s with mat := { s.mat with isolated := addTo target s.mat.isolated } }
      let t := (t.inc32 0x9480 6).raise 0x9480 7 1
      if target = 1 ∨ target = 2 ∨ target = 3 then t.toSafe 4 else t)

end Sys2Proof.Machine
end

