-- ==== Sys2Proof/Machine/Staging.lean ====
section
/-! DEFINITION. The checks on a transaction as a set, its staging and its commit at the target multiframe
(spec/02_dictionary.md R82 to R90, spec/03_line_modes.md R104 to R107, spec/09_tenants.md R300, R301,
spec/10_sealing.md R339, spec/08_line_frame.md R244, R250), and the far end's part of it. -/

namespace Sys2Proof.Machine

/-- The tenants that hold or may hold positions at a target: those in force, those staged, those of the items. -/
def State.tenantsAt (s : State) (items : List (Nat × DVal)) : List Nat :=
  let named := (s.tra.staged.flatMap fun x => x.items) ++ items
  uniq (s.placed ++ named.filterMap fun i => (placeItem i.1).map fun p => p.1)

/-- Positions of all tenants on thread k at the target. -/
def State.heldAt (s : State) (target : Nat) (items : List (Nat × DVal)) (k : Nat) : Nat :=
  ((s.tenantsAt items).map fun n => s.atN target items (0x4000 + n) (0x20 + k)).sum

/-- Positions of tenant n at the target. -/
def State.totalAt (s : State) (target : Nat) (items : List (Nat × DVal)) (n : Nat) : Nat :=
  ((List.range 32).map fun k => s.atN target items (0x4000 + n) (0x20 + k)).sum

/-! ### The checks of a set (R84, R85, R104, R250, R300, R339)

A check answers the status and the position of the item that fails, the first that names the thread or tenant at fault, or
position 0 where it fails for the set as a whole (log entry 58). -/

/-- A check of each item, in order: `f` gives the statuses of an item that fails. -/
def perItem (items : List (Nat × (Nat × DVal))) (f : Nat → DVal → List Status) : List (Status × Nat) :=
  items.flatMap fun x => (f x.2.1 x.2.2).map fun st => (st, x.1)

/-- A check of the set. -/
def ofSet (c : Bool) (st : Status) : List (Status × Nat) := if c then [] else [(st, 0)]

/-- The minimum lead in force (R82, R90); none where no round trip is known and the transaction is two-ended. -/
def State.leadFails (s : State) (two : Bool) (target : Nat) : List (Status × Nat) :=
  let lead := if two then s.twoEndedLead else s.rdN 0x1020 2
  ofSet (decide (s.mf + lead ≤ target) && !(two && s.twoEndedLead == 0xFFFFFFFF)) .tooLate
    ++ ofSet (decide (target ≤ s.mf + 1048576)) .outOfRange

/-- Room among the staged transactions (R85, R250). -/
def State.roomFails (s : State) (target : Nat) (l : List (Nat × (Nat × DVal))) : List (Status × Nat) :=
  let others := s.tra.staged.flatMap fun x => x.items
  let maps := others.filterMap fun i => (placeItem i.1).map fun p => p.2
  ofSet (s.tra.staged.all fun x => x.target != target) .conflict
    ++ perItem l (fun k _ => need (others.all fun i => i.1 != k) .conflict)
    ++ perItem l (fun k _ => match placeItem k with | some p => need (!maps.contains p.2) .conflict | none => [])
    ++ ofSet (decide (s.tra.staged.length < 8)) .exhausted

/-- The checks of R104, in order, with the settings already staged (R84). Check 6 asks for a thread that is active before the set and
stays so. That a set is also judged at the targets of those staged for later is the model's choice (log entry 180). -/
def State.threadFails (s : State) (target : Nat) (items : List (Nat × DVal)) (l : List (Nat × (Nat × DVal))) :
    List (Status × Nat) :=
  let c := s.carrierAt target items
  let later := s.judgedTargets target
  let ks := uniq (items.filterMap fun i => (threadItem i.1).map fun p => p.1)
  let was := fun (k : Nat) => s.atN target [] (0x3410 + k) 4
  let onState := fun (f : Nat → Nat → List Status) => perItem l fun i v =>
    match threadItem i with | some (k, 4) => f k v.int.toNat | _ => []
  perItem l (fun i _ => match threadItem i with
      | some p => need (decide (p.1 < s.cfg.threads) && decide (s.cfg.profile = 0)) .conflict | none => [])
    ++ perItem l (fun i v => match threadItem i with
      | some (_, 2) => need (codeOk s.cfg.bits v.int.toNat) .outOfRange | _ => [])
    ++ perItem l (fun i _ => match threadItem i with
      | some p => need (later.all fun m => decide (s.heldAt m items p.1 ≤ 16 * (s.carrierAt m items).stitches p.1)) .conflict
      | none => [])
    ++ ofSet (ks == [] || later.all (s.capacityOk items)) .outOfRange
    ++ onState (fun k v => need (v != 0 || was k == 0 || later.all fun m => decide (s.heldAt m items k = 0)) .conflict)
    ++ onState (fun k v => need (v != 0 || was k == 0 || s.threads.any fun j => was j == 1 && c.states.getD j 1 == 1) .conflict)
    ++ onState (fun k v => need (v != 1 || was k == 1
        || decide (s.mf + s.twoEndedLead + ceilDiv 2000000000000 s.inForce.multiframeFs ≤ target)) .tooLate)

/-- The checks of R300, in order, with that of R435 on a tenant whose home is elsewhere: whether its home shows it as
configured is a free value (log entry 47). -/
def State.placeFails (s : State) (target : Nat) (items : List (Nat × DVal)) (l : List (Nat × (Nat × DVal))) :
    List (Status × Nat) :=
  let later := s.judgedTargets target
  let onPlace := fun (f : Nat → Nat → Bool) => perItem l fun i v =>
    match placeItem i with
    | some p => need (decide (v.int = 0) || f p.1 p.2) .conflict
    | none => []
  onPlace (fun n _ => s.tenOn n && (!s.grouped || s.homeHere n || s.freeBool))
    ++ onPlace (fun _ k => decide (k < s.cfg.threads) && s.txStatus k == 1
        && later.all fun m => s.atN m items (0x3410 + k) 4 == 1)
    ++ perItem l (fun i _ => match placeItem i with
      | some p => need (later.all fun m => decide (s.heldAt m items p.2 ≤ 16 * (s.carrierAt m items).stitches p.2)) .conflict
      | none => [])
    ++ perItem l (fun i _ => match placeItem i with
      | some (n, _) => need (!s.tenCbr n || decide (s.totalAt target items n = 0)
          || s.inForce.cbrFits (s.rdN (0x4000 + n) 9) (cbrPayload (s.totalAt target items n) (s.sealedTenant n))) .conflict
      | none => [])
    ++ perItem l (fun i _ => match placeItem i with
      | some p => need (!s.grm.darkened.contains p.2) .conflict | none => [])

/-- The checks of R339, in order. -/
def State.sealFails (s : State) (l : List (Nat × (Nat × DVal))) : List (Status × Nat) :=
  let gives := fun (n : Nat) (v : DVal) => s.sealedTenant n && decide (v.int ≠ 0)
  let onEpoch := fun (f : Nat → Nat → List Status) => perItem l fun i v =>
    match epochItem i with | some n => f n v.int.toNat | none => []
  onEpoch (fun n _ => need (s.tenOn n && s.sealedTenant n) .conflict)
    ++ onEpoch (fun n e => if s.derivedMode n then [] else s.wrappedItemFails n e)
    ++ onEpoch (fun n e => if s.derivedMode n then need (decide (e = s.epoch n + 1)) .outOfRange else [])
    ++ perItem l (fun i v => match placeItem i with | some p => need (!gives p.1 v || s.sealAgreed) .conflict | none => [])
    ++ ofSet (decide (16384 + s.holdAsked ≤ s.sharedPart) || l.all fun x => match placeItem x.2.1 with
        | some p => !(gives p.1 x.2.2 && s.tenCbr p.1) | none => true) .exhausted

/-- While a member awaits a distribution, a set that places tenants with a home answers BUSY (R445). -/
def State.homeFails (s : State) (items : List (Nat × DVal)) : List (Status × Nat) :=
  ofSet (items.all (fun x => match placeItem x.1 with | some p => s.homeOf p.1 == 0xFF | none => true) || !s.distPending) .busy

/-- Every check of a set, in order; `l` holds the items with their positions. -/
def State.setFails (s : State) (two : Bool) (target : Nat) (l : List (Nat × (Nat × DVal))) : List (Status × Nat) :=
  let items := l.map fun x => x.2
  s.homeFails items ++ s.leadFails two target ++ s.roomFails target l ++ s.threadFails target items l ++ s.placeFails target items l
    ++ s.sealFails l

/-! ### Modes (R26, R88, R89, R111, R456) -/

/-- What refuses a transaction whatever it holds: the mode, and for one that writes tenant placement a suspended resize
item (R88, R89, R111, R456). -/
def State.transactionMode (s : State) (two place : Bool) : List Status :=
  need (!(place && (s.rdN 0x9426 3 == 2 || s.rdN 0x9427 3 == 2))) .busy
    ++ need (if two then s.inMode .service && decide (s.cfg.profile = 0)
        else s.inMode .discover || s.inMode .service || s.inMode .test) .wrongMode

/-! ### Staging and commit (R25, R105 to R107, R250, R323) -/

/-- The standby page of thread k for a staged transaction (R250, R301). -/
def State.stagePage (s : State) (target : Nat) (items : List (Nat × DVal)) (k : Nat) : State :=
  let ns := (List.range 4096).filter fun n => (s.tenantsAt items).contains n
  s.wrS (0x34C0 + k) 2 (s.buildPage ns fun n => s.atN target items (0x4000 + n) (0x20 + k))

/-- A transaction is staged (R85, R86, R250). -/
def State.stage (s : State) (x : Staged) : State :=
  let ks := uniq (x.items.filterMap fun i => (placeItem i.1).map fun p => p.2)
  let t := s.each ks fun t k => t.stagePage x.target x.items k
  let t : State := { t with tra := { t.tra with staged := t.tra.staged ++ [x] } }
  t.stagedReport.mapReport

/-- The state in force of thread k changes at the commit: 0 begins a retirement, 1 a re-admission (R106, R107). -/
def State.commitThread (s : State) (k was now : Nat) : State :=
  if was = now then s
  else if now = 0 then
    let t : State := { s with cfg := { s.cfg with
      retireAt := lput k s.mf s.cfg.retireAt, readmitAt := ldel k s.cfg.readmitAt } }
    t.wrN (0x3410 + k) 5 2
  else
    let t : State := { s with cfg := { s.cfg with
      retireAt := ldel k s.cfg.retireAt, readmitAt := lput k s.mf s.cfg.readmitAt
      rdiSeen := dropFrom k s.cfg.rdiSeen } }
    t.wrN (0x3410 + k) 5 3

/-- Whether an item is a coefficient set to commit (R159). -/
def setItem (p : Nat × DVal) : Bool := p.1 == key 0x2402 2 || p.1 == key 0x2403 2

/-- Whether an item is a linear correction of R155. -/
def linearItem (p : Nat × DVal) : Bool :=
  p.1 == key 0x2402 4 || p.1 == key 0x2403 4
    || (decide (0x2404 ≤ p.1 / 256 ∧ p.1 / 256 < 0x2408) && decide (1 ≤ p.1 % 256 ∧ p.1 % 256 ≤ 3))

/-- The sets and linear corrections of a transaction have taken force: a new set number starts, and a swap of the sets is
compared (R160, R162). -/
def State.setNumber (s : State) (items : List (Nat × DVal)) (old : List Byte × List Byte) : State :=
  let t := s.whenB (items.any setItem) fun u => u.swapped old false
  t.whenB (items.any fun p => setItem p || linearItem p) State.newSet

/-- One item takes force (R25). -/
def State.commitItem (s : State) (k : Nat) (v : DVal) : State :=
  let t := (s.setK k v).noteWrite (k / 256) (k % 256)
  match threadItem k with
  | some (j, 2) => { t with cfg := { t.cfg with codes := t.cfg.codes.set j v.int.toNat } }
  | some (j, 4) =>
    ({ t with cfg := { t.cfg with states := t.cfg.states.set j v.int.toNat } } : State).commitThread j (s.getK k).int.toNat v.int.toNat
  | _ =>
    if k = key 0x2402 2 then t.putSets v.str (t.rdS 0x2403 1)
    else if k = key 0x2403 2 then t.putSets (t.rdS 0x2402 1) v.str
    else t

/-- The map page of thread k flips: the standby page takes force, and the former page stands by (R250). -/
def State.pageFlip (s : State) (k : Nat) : State :=
  let old := s.rdS (0x34C0 + k) 1
  ((s.wrS (0x34C0 + k) 1 (s.rdS (0x34C0 + k) 2)).wrS (0x34C0 + k) 2 old).wrN (0x34C0 + k) 5 (1 - s.rdN (0x34C0 + k) 5)

/-- TRANSACTION_SWAP: each block swaps at the first data of the target multiframe, and DONE is sent (R25, R26, R89). -/
def State.commitStaged (s : State) (x : Staged) : State :=
  let ks := uniq (x.items.filterMap fun i => (placeItem i.1).map fun p => p.2)
  let t := (s.each x.items fun t i => t.commitItem i.1 i.2).setNumber x.items s.activeSets
  (t.each ks State.pageFlip).finish x .done

/-- What is due at this multiframe: a two-ended transaction not acknowledged by target − 4 is withdrawn, and the others
commit at their target (R25, R87). -/
def State.commitDue (s : State) : State :=
  let late := s.tra.staged.filter fun x => x.twoEnded && !x.acked && decide (x.target ≤ s.mf + 4)
  let t := s.each late fun t x => t.withdrawOne x .tooLate
  t.each (t.tra.staged.filter fun x => decide (x.target ≤ t.mf)) State.commitStaged

/-! ### The far end's part (R244) -/

/-- What a page of a PROPOSE names against the local records: a tenant whose container type or sealing differs (R244). -/
def State.pageClashes (s : State) (b : List Byte) : Bool :=
  (pageEntries b).any fun e => s.tenOn e.tenant && (s.tenCbr e.tenant != e.cbr || s.tenSealed e.tenant != e.sealed)

/-- Whether the hold buffers that the pages of a PROPOSE ask for leave 16 384 cells of the shared part (R315, R339). -/
def State.holdsPages (s : State) (p : Propose) (pages : List (Nat × List Byte)) : Bool :=
  let t := s.each (bitsOf 32 p.mapMask) fun u k => u.wrS (0x34C0 + k) 3 (lgetD k emptyPage pages)
  decide (16384 + t.holdAsked ≤ t.sharedPart)

/-- The checks of the far end on a PROPOSE. A thread to re-admit cannot be powered while the work item of its engine is suspended
(R107, R244, R339, R456, log entry 177). -/
def State.proposeFails (s : State) (p : Propose) (pages : List (Nat × List Byte)) : List Status :=
  let named := bitsOf 32 (p.entMask ||| p.stateMask ||| p.mapMask)
  need ((named.all fun k => decide (k < s.cfg.threads)) && (readmits p).all fun k => s.rdN (0x9420 + k / 8) 3 != 2) .exhausted
    ++ need ((bitsOf 32 p.entMask).all fun k => codeOk s.cfg.bits (p.codes.getD k 0)) .outOfRange
    ++ need ((bitsOf 32 p.mapMask).all fun k =>
        match lget k pages with | some b => !s.pageClashes b | none => true) .conflict
    ++ need (s.holdsPages p pages) .exhausted

/-- PROPOSE_RECEIVE: once the pages the map mask names are held with the digests of the PROPOSE, the part is checked,
and staged and acknowledged or refused. The pages come with the event as the map channel delivered them; where one is
missing or its digest differs, nothing is answered yet (R244). -/
def execProposeReceive (p : Propose) (pages : List (Nat × List Byte)) (s : State) : Host.Outcome State Fault Refusal :=
  .next (
    let held := (bitsOf 32 p.mapMask).all fun k =>
      match lget k pages with | some b => pageDigest b == p.digests.getD k 0 | none => false
    if !held || !s.on 16 || (s.tra.far.any fun x => x.prop.num == p.num) then s
    else
      let t := s.inc32 0x3440 0x0B
      match firstListed (s.proposeFails p pages) with
      | .done =>
        let t := t.each (bitsOf 32 p.mapMask) fun u k => u.wrS (0x34C0 + k) 4 (lgetD k emptyPage pages)
        let re := readmits p
        let t : State := { t with
          tra := { t.tra with far := t.tra.far ++ [{ prop := p, confirmed := false, pages := pages }] }
          rx := { t.rx with readmitFar := re.foldl (fun l k => addTo k l) t.rx.readmitFar } }
        (t.each re fun u k => u.ungateThread k).answer p.num p.target .done
      | st => t.answer p.num p.target st)


end Sys2Proof.Machine
end

