-- ==== Sys2Proof/Machine/Writes.lean ====
section
/-! DEFINITION. Reads and writes of single entries as the server serves them: the rule of every writable entry, the items of
READ and WRITE, and blocks with their pending copies (spec/02_dictionary.md R47 to R59, R577), with the DMA commands
(spec/15_engines_matrix_dma.md R471, R474, R475). -/

namespace Sys2Proof.Machine

/-! ### DMA commands (R471, R474, R475) -/

/-- A list before its first entry. -/
def Cursor.start (a : Nat) : Cursor := { next := a, addr := 0, left := 0, count := 0, last := false }

/-- A host write to a firmware channel fails (R471). -/
def dmaHost (c : Nat) : List Status := need (decide (c < 56)) .conflict

/-- Command 1 of 9500+c:09 (R475). -/
def State.dmaStartEffect (s : State) (c : Nat) : Effect :=
  let i := 0x9500 + c
  let x : Chan := { src := Cursor.start (s.rdN i 4), dst := Cursor.start (s.rdN i 6), gathered := [] }
  let t : State := { s with mat := { s.mat with chans := lput c x s.mat.chans } }
  let t := (((t.wrN i 0x0A 1).wrN i 0x0B 0).wrN i 0x0C 0).inc32 i 0x10
  { fails := dmaHost c ++ need (!s.inMode .shed) .busy ++ need (!s.dmaBusy c) .conflict
    state := (((t.wrN i 0x0D 0).wrN i 0x0E 0).wrN i 0x0F 0).dmaReport }

/-- Command 2 of 9500+c:09: a job in progress stops with error 7 (R474). -/
def State.dmaStopEffect (s : State) (c : Nat) : Effect :=
  { fails := dmaHost c, state := if s.dmaBusy c then s.dmaError c (s.dmaAt c) 7 else s }

/-- The rules of writes to 9500+c: the addresses are multiples of 64 (R471, R475, R478). -/
def State.dmaEffect (s : State) (c sub : Nat) (v : DVal) : Effect :=
  if sub = 9 then (if v.int = 1 then s.dmaStartEffect c else s.dmaStopEffect c)
  else
    { fails := dmaHost c ++ need (!(sub == 4 || sub == 6 || sub == 7) || v.int.toNat % 64 == 0) .outOfRange
      state := s.wr (0x9500 + c) sub v }

/-- DMA_START (R475). -/
def execDmaStart (c : Fin 64) (s : State) : Host.Outcome State Fault Refusal :=
  .next (s.command (0x9500 + c.val) 9 (.num 1) (s.dmaStartEffect c.val))
/-- DMA_STOP (R474). -/
def execDmaStop (c : Fin 64) (s : State) : Host.Outcome State Fault Refusal :=
  .next (s.command (0x9500 + c.val) 9 (.num 2) (s.dmaStopEffect c.val))

/-! ### The rule of every entry -/

/-- What a full trim search of a re-admitted slice finds, where the command names no result: free values (R132). -/
def State.freeMeasure (s : State) : SliceMeasure :=
  let f := fun (i : Nat) => Config.freeNat (s.free + 1 + i)
  let w := fun (i : Nat) => (f i % 65536 : Nat) - (32768 : Int)
  let r : Residual := { offset := w 14, gain := w 15, skew := w 16, bandwidth := w 17 }
  { found := r, left := r
    corr := { trim := f 0, offset := w 1, gain := w 2, skew := w 3, bandwidth := (List.range 10).map fun i => BitVec.ofNat 8 (f (4 + i)) } }

/-- The commands of 2021:09 in a WRITE (R132). -/
def State.sliceEffect (s : State) (v : Nat) : Effect :=
  if v = 1 then s.sliceRetireEffect
  else
    let e := s.sliceReadmitEffect s.freeMeasure
    { e with state := { e.state with free := e.state.free + 19 } }

/-- The rules of writes to an ADC or DAC record (R133, R137, R138): a trim record's reserved bits, and the swing a multiple
of 25 mV. -/
def State.converterEffect (s : State) (idx sub : Nat) (v : DVal) : Effect :=
  let t := s.wr idx sub v
  if sub = 2 then
    { fails := need (if idx < 0x2030 then trimRecordOk v.str
        else dacRecordOk v.str) .outOfRange
      state := t }
  else if sub = 1 ∧ 0x2030 ≤ idx then { fails := need (decide (v.int % 25 = 0)) .outOfRange, state := t }
  else .ok t

/-- The rules of writes to 9040+b beyond those of every lane (R405, R406). -/
def State.bobLaneEffect (s : State) (b sub : Nat) (v : DVal) : Effect :=
  if sub = 0x16 then
    if v.int = 1 then .ok ((s.retireBob b 4).lanesJudge (b / 8)) else s.readmitEffect b
  else s.laneEffect (16 + b) sub v

/-- The rules of 0000 to 2FFF. -/
def State.effectLow (s : State) (idx sub : Nat) (v : DVal) : Effect :=
  let n := v.int.toNat
  if idx = 0x1000 then (if sub = 0x10 then s.warmEffect else s.restartEffect)
  else if idx = 0x1001 then s.modeEffect n
  else if idx = 0x1010 then s.setPointEffect n
  else if idx = 0x1012 then s.thermalEffect sub v
  else if 0x1050 ≤ idx ∧ idx < 0x1090 then
    match sub with
    | 2 => s.deviceLoadEffect (idx - 0x1050) v.str
    | 3 => s.kekLoadEffect (idx - 0x1050) v.str
    | 6 => s.persistEffect (idx - 0x1050) v
    | _ => s.mgmtEraseEffect (idx - 0x1050)
  else if idx = 0x2000 ∧ sub = 0x0A then s.rotationIntervalEffect n
  else if (0x2010 ≤ idx ∧ idx < 0x2014) ∨ (0x2030 ≤ idx ∧ idx < 0x2034) then s.converterEffect idx sub v
  else if idx = 0x2021 then s.sliceEffect n
  else if idx = 0x2400 ∧ sub = 1 then s.hostMuteEffect (n == 1)
  else if idx = 0x2400 ∧ sub = 8 then .ok (s.wr idx sub v).picotFollow
  else if (idx = 0x2402 ∨ idx = 0x2403) ∧ sub = 2 then
    { fails := need (decide (s.dpdMode = 3)) .conflict, state := s.wr idx sub v }
  else if idx = 0x2840 then
    if sub = 7 then (if n = 1 then s.easelArmEffect else s.easelAbortEffect)
    else { fails := s.easelSettingFails, state := s.wr idx sub v }
  else .ok (s.wr idx sub v)

/-- The rules of 3000 to 7FFF. -/
def State.effectMid (s : State) (idx sub : Nat) (v : DVal) : Effect :=
  let n := v.int.toNat
  if idx = 0x3000 then
    match sub with
    | 1 => s.latencyEffect n
    | 2 => s.hostCapEffect n
    | 5 => s.budgetEffect n
    | 0x0A => s.loopbackEffect n
    | 0x0B => s.injectionEffect n
    | 0x0E => s.forcedEffect n
    | _ => .ok (s.wr idx sub v)
  else if idx = 0x3400 ∧ sub = 5 then s.referenceEffect n
  else if idx = 0x3440 ∧ (sub = 3 ∨ sub = 4) then .ok (s.traceEffect sub v)
  else if idx = 0x3800 ∧ (sub = 5 ∨ sub = 6) then s.rootEffect sub v
  else if 0x4000 ≤ idx ∧ idx < 0x5000 then s.tenantRule (idx - 0x4000) sub v
  else if 0x5000 ≤ idx ∧ idx < 0x6000 then
    match sub with
    | 1 => s.keyModeEffect (idx - 0x5000) v
    | 4 => s.wrappedKeyEffect (idx - 0x5000) v.str
    | 5 => s.slotEraseEffect (idx - 0x5000) n
    | _ => .ok (s.wr idx sub v)
  else if 0x7010 ≤ idx ∧ idx < 0x7020 then s.portEffect (idx - 0x7010) sub v
  else if idx = 0x7100 ∧ sub = 5 then s.exactEffect n
  else if idx = 0x7801 then s.queueEffect sub n
  else .ok (s.wr idx sub v)

/-- The rules of 8000 to 93FF. -/
def State.effectHigh (s : State) (idx sub : Nat) (v : DVal) : Effect :=
  let n := v.int.toNat
  if idx = 0x8000 then s.selectEffect sub v
  else if 0x8010 ≤ idx ∧ idx < 0x8019 then s.candEffect (idx - 0x8010) sub v
  else if idx = 0x8020 then s.dpllEffect sub v
  else if idx = 0x8030 then (if sub = 2 then s.setTimeEffect v.int else s.phaseAdjustEffect v.int)
  else if idx = 0x8040 ∧ sub = 1 then s.transferEffect v
  else if idx = 0x8C00 then s.groupEffect sub v
  else if idx = 0x9080 ∧ sub = 7 then .ok (s.wr idx sub v).wakeSignal
  else if (0x8C10 ≤ idx ∧ idx < 0x8C12) ∧ sub = 0x0D then s.linkEffect (idx - 0x8C10) n
  else if 0x8D00 ≤ idx ∧ idx < 0x8E00 then s.protEffect (idx - 0x8D00) sub v
  else if 0x9020 ≤ idx ∧ idx < 0x9030 then s.laneEffect (idx - 0x9020) sub v
  else if 0x9040 ≤ idx ∧ idx < 0x9050 then s.bobLaneEffect (idx - 0x9040) sub v
  else .ok (s.wr idx sub v)

/-- The rules of 9400 to AFFF. -/
def State.effectTop (s : State) (idx sub : Nat) (v : DVal) : Effect :=
  let n := v.int.toNat
  if 0x9410 ≤ idx ∧ idx < 0x941C then s.clusterEffect (idx - 0x9410) n
  else if 0x94A0 ≤ idx ∧ idx < 0x94B0 then s.windowEffect (idx - 0x94A0) sub v
  else if 0x9500 ≤ idx ∧ idx < 0x9540 then s.dmaEffect (idx - 0x9500) sub v
  else if idx = 0x9808 then .ok (s.setLog [])
  else if idx = 0x9830 ∧ sub = 4 then s.retireEffect n
  else if idx = 0x9831 ∧ sub = 1 then s.banksEffect v.str
  else if idx = 0x9C00 then s.trialEffect n
  else if idx = 0x9C10 then
    let e := s.bankEffect n s.freeBool
    { e with state := e.state.drawn }
  else if idx = 0x9C20 ∧ sub = 4 then s.flashEffect n
  else if idx = 0x9C30 then s.commitEffect n
  else if idx = 0xA010 then s.dumpSettingEffect sub v
  else if idx = 0xA020 ∧ sub = 8 then .ok s.hkInject
  else if 0xA400 ≤ idx then s.eventModeEffect (idx - 0xA400) v
  else .ok (s.wr idx sub v)

/-- The rule of a write of an entry. An entry whose rule asks nothing takes the value (R49, R530). -/
def State.entryEffect (s : State) (idx sub : Nat) (v : DVal) : Effect :=
  if idx < 0x3000 then s.effectLow idx sub v
  else if idx < 0x8000 then s.effectMid idx sub v
  else if idx < 0x9400 then s.effectHigh idx sub v
  else s.effectTop idx sub v

/-- Whether an entry is written by a staged transaction (R85). -/
def State.stagedEntry (s : State) (k : Nat) : Bool := s.tra.staged.any fun x => x.items.any fun i => i.1 == k

/-- The whole rule of a write: the entry's own, that of the group-wide entries, and that of entries a staged transaction
writes (R85, R426); a read-only entry has no rule of its own. The protection command is carried to its home and not
distributed (R443). -/
def State.writeEffect (s : State) (e : Entry) (idx sub : Nat) (v : DVal) : Effect :=
  let x := s.entryEffect idx sub v
  let wide := e.groupWide && decide (idx ≠ 0)
  { x with
    fails := (if e.acc = .ro then [] else x.fails) ++ need (!(wide && s.groupRole == 2)) .notMaster ++ need (!s.stagedEntry (key idx sub)) .conflict
    state := x.state.whenB (wide && decide (e.acc ≠ .wo)) State.distribute }

/-! ### Items (R57, R59, R63) -/

/-- BUSY, for what only the dictionary service serves (R52, R74). -/
def State.busyFor (s : State) (idx sub : Nat) : List Status := need (!s.serverBusy || isIdentity idx sub) .busy

/-- A KEY entry through the MDIO window while authentication is required (R70). -/
def State.windowKey (s : State) (src : Source) (idx sub : Nat) : Bool :=
  decide (src = .mdio) && s.srv.settings.getD 1 0 == 1 &&
    match entryOf idx sub with | some e => decide (e.acc = .key) | none => false

/-- One write of an entry, judged: its status, the retry-after its rule gives with BUSY, and the state (R59, R63, R64). -/
def State.writeItem (s : State) (src : Source) (x : WrItem) : Status × Option Nat × State :=
  if s.windowKey src x.idx x.sub then (.authFail, none, s)
  else
    let fails := s.busyFor x.idx x.sub ++ s.presence x.idx x.sub
    match entryOf x.idx x.sub with
    | none => (firstFailure fails, none, s)
    | some e =>
      let p := entryValue e x.ty x.val
      let w := s.writeEffect e x.idx x.sub p.2
      let r := s.judgeWrite x.idx x.sub (fails ++ s.accessW e false ++ p.1) w
      (r.1, if r.1 = .busy then w.retry else none, r.2)

/-- One write judged with the other items of its message: 2800:07 also requires 2800:13 in the same message, and answers
CONFLICT without it, the rule naming no status (R198, log entry 153). -/
def State.writeItemOf (s : State) (src : Source) (l : List WrItem) (x : WrItem) : Status × Option Nat × State :=
  let w := s.writeItem src x
  if w.1 = .done ∧ x.idx = 0x2800 ∧ x.sub = 7 ∧ !l.any fun y => y.idx == 0x2800 && y.sub == 0x13 then (.conflict, none, s) else w

/-- The failure of a read of the capture data while a capture is armed or running (R197). -/
def State.captureBusy (s : State) (idx sub : Nat) : List Status :=
  need (!(decide (idx = 0x2840 ∧ sub = 0x0A) && (s.rdN 0x2840 8 == 1 || s.rdN 0x2840 8 == 2))) .busy

/-- Whether an accepted write was a protection command that waits for its home (R443). -/
def State.waitsHome (s : State) (x : WrItem) : Bool :=
  decide (0x8D00 ≤ x.idx ∧ x.idx < 0x8E00) && x.sub == 8 && s.protRemote (x.idx - 0x8D00)

/-- The value a read finds: status, type code and bytes (R46, R49, R59). -/
def State.readItem (s : State) (src : Source) (idx sub : Nat) : Status × Nat × List Byte :=
  if s.windowKey src idx sub then (.authFail, 0, [])
  else
    let fails := s.busyFor idx sub ++ s.presence idx sub
    match entryOf idx sub with
    | none => (firstFailure fails, 0, [])
    | some e =>
      match firstFailure (fails ++ accessR e ++ s.captureBusy idx sub) with
      | .done => (.done, e.ty.code, e.ty.bytes (s.view idx sub))
      | st => (st, 0, [])

/-! ### Blocks (R58, R577) -/

/-- The checks of a block: those of every access, then the type, then the extent against the entry's size (R58). -/
def State.blockFails (s : State) (e : Entry) (idx sub off len : Nat) (access : List Status) : List Status :=
  s.busyFor idx sub ++ s.presence idx sub ++ access ++ need e.ty.isString .badType
    ++ need (decide (off + len ≤ e.ty.size)) .outOfRange

/-- A READ_BLOCK: exactly the length asked, with zeros beyond the present length of the value (R58). -/
def State.readBlockItem (s : State) (src : Source) (idx sub off len : Nat) : Status × List Byte :=
  if s.windowKey src idx sub then (.authFail, [])
  else match entryOf idx sub with
  | none => (firstFailure (s.busyFor idx sub ++ s.presence idx sub), [])
  | some e =>
    match firstFailure (s.blockFails e idx sub off len (accessR e ++ s.captureBusy idx sub)) with
    | .done => (.done, padTo len (slice (s.view idx sub).str off len))
    | st => (st, [])

/-- What a block makes of a byte string: from offset 0 it sets the length; a later block overwrites and extends, with
zeros between (R58). -/
def blockOn (old : List Byte) (off : Nat) (b : List Byte) : List Byte :=
  if off = 0 then b else padTo off (old.take off) ++ b ++ old.drop (off + b.length)

/-- The pending copy of an entry (R577). -/
def State.copyOf (s : State) (k : Nat) : Option Copy := s.srv.copies.find? fun c => c.entry == k

/-- The state without the pending copy of an entry. -/
def State.dropCopy (s : State) (k : Nat) : State :=
  { s with srv := { s.srv with copies := s.srv.copies.filter fun c => c.entry != k } }

/-- The state with a pending copy of an entry, in place of any earlier one. -/
def State.putCopy (s : State) (c : Copy) : State :=
  let t := s.dropCopy c.entry
  { t with srv := { t.srv with copies := t.srv.copies ++ [c] } }

/-- A block that builds a pending copy, or completes it: at a listed length the whole value is judged as a plain WRITE and
the copy ends (R577). `fails` are the checks of the block itself. -/
def State.copyBlock (s : State) (src : Source) (e : Entry) (idx sub off : Nat) (b : List Byte) (lengths : List Nat)
    (fails : List Status) : Status × State :=
  let k := key idx sub
  let old := s.copyOf k
  let mine := match old with | some c => decide (c.src = src) | none => false
  match firstFailure (fails ++ need (decide (off = 0) || mine) .conflict) with
  | .done =>
    let d := blockOn (match old with | some c => c.data | none => []) off b
    if lengths.contains d.length then
      let r := s.writeItem src { idx := idx, sub := sub, ty := e.ty.code, val := d }
      (r.1, r.2.2.dropCopy k)
    else (.done, s.putCopy { entry := k, src := src, data := d })
  | st => (st, s)

/-- A WRITE_BLOCK (R58, R577). -/
def State.writeBlockItem (s : State) (src : Source) (idx sub off : Nat) (b : List Byte) : Status × State :=
  if s.windowKey src idx sub then (.authFail, s)
  else match entryOf idx sub with
  | none => (firstFailure (s.busyFor idx sub ++ s.presence idx sub), s)
  | some e =>
    let fails := s.blockFails e idx sub off b.length (s.accessW e false)
    let whole := fun (d : List Byte) =>
      let r := s.writeItem src { idx := idx, sub := sub, ty := e.ty.code, val := d }
      (r.1, r.2.2)
    match e.listedLengths with
    | some lengths =>
      if e.acc = .key then
        match firstFailure (fails ++ need (decide (off = 0) && lengths.contains b.length) .outOfRange) with
        | .done => whole b
        | st => (st, s)
      else s.copyBlock src e idx sub off b lengths fails
    | none =>
      match firstFailure fails with
      | .done => whole (blockOn (s.rdS idx sub) off b)
      | st => (st, s)

/-- PENDING_COPY_EXPIRY: no block has arrived for 1 s (R577). -/
def execPendingCopyExpiry (entry : Nat) (s : State) : Host.Outcome State Fault Refusal := .next (s.dropCopy entry)

end Sys2Proof.Machine
end

