-- ==== Sys2Proof/Machine/Server.lean ====
section
/-! DEFINITION. The Drida server: how a request reaches it, when it is refused whole and how its items are served, over
10BASE-T1S, the MDIO window and the PCIe mailbox, with subscriptions (spec/02_dictionary.md R56 to R91, spec/18_power_reset.md
R532). -/

namespace Sys2Proof

/-! ### Requests (R57) -/

/-- The opcode (R56). -/
def Body.op : Body → Nat
  | .read _ => 1 | .write _ => 2 | .readBlock .. => 3 | .writeBlock .. => 4 | .transaction .. => 5 | .subscribe _ => 6

/-- The entry of each item. -/
def Body.entries : Body → List (Nat × Nat)
  | .read l => l.map fun x => (x.idx, x.sub)
  | .write l => l.map fun x => (x.idx, x.sub)
  | .readBlock i j _ _ => [(i, j)]
  | .writeBlock i j _ _ => [(i, j)]
  | .transaction _ l => l.map fun x => (x.idx, x.sub)
  | .subscribe l => l.map fun x => (x.1.idx, x.1.sub)

/-- A WRITE item (R57). -/
def Machine.writeBytes (x : WrItem) : List Byte :=
  Machine.padFour (beBytes 2 x.idx ++ beBytes 1 x.sub ++ beBytes 1 x.ty ++ beBytes 2 x.val.length ++ [0, 0] ++ x.val)

/-- The head of a block item (R57). -/
def Machine.blockBytes (idx sub off len : Nat) : List Byte :=
  beBytes 2 idx ++ beBytes 1 sub ++ [0] ++ beBytes 4 off ++ beBytes 2 len ++ [0, 0]

/-- The body of a request (R57). -/
def Body.bytes : Body → List Byte
  | .read l => l.flatMap fun x => beBytes 2 x.idx ++ beBytes 1 x.sub ++ [0]
  | .write l => l.flatMap Machine.writeBytes
  | .readBlock i j off len => Machine.blockBytes i j off len
  | .writeBlock i j off d => Machine.padFour (Machine.blockBytes i j off d.length ++ d)
  | .transaction target l => beBytes 8 target ++ l.flatMap Machine.writeBytes
  | .subscribe l => l.flatMap fun x => beBytes 2 x.1.idx ++ beBytes 1 x.1.sub ++ [0] ++ beBytes 2 x.2 ++ [0, 0]

end Sys2Proof

namespace Sys2Proof.Machine

/-- The header and body of a request, without its tag (R56). -/
def requestBytes (r : Req) (b : Body) : List Byte :=
  let body := b.bytes
  headerBytes b.op (if r.auth.isSome then 2 else 0) 0 r.seq body.length (match r.auth with | some a => a.slot | none => 0xFF)
    b.entries.length 0 0 (match r.auth with | some a => a.counter | none => 0) ++ body

/-- The length of a request with its tag. -/
def requestSize (r : Req) (b : Body) : Nat := 24 + b.bytes.length + (if r.auth.isSome then 16 else 0)

/-- The longest message of a path (R68, R72). -/
def pathLimit : Source → Nat
  | .udp _ _ => 1232
  | _ => 4096

/-- Room for the items of a response (R68, R72). -/
def roomFor (r : Req) : Nat := pathLimit r.src - 24 - (if r.auth.isSome then 16 else 0)

/-! ### Reaching the server (R65 to R68, R71) -/

/-- Whether PLCA governs the segment: a BEACON has been sent or seen, and the time after which a node of IEEE 802.3cg falls
back to CSMA/CD has not passed since (R67). -/
def State.plcaOn (s : State) : Bool :=
  match s.srv.beaconAt with
  | some t => decide (s.uptime ≤ t + Config.csmaAfter)
  | none => false

/-- Whether this node can send on the segment: its node ID lies below the node count, taken as that of 1030:04 in force, or
the nodes have fallen back to CSMA/CD (R67). -/
def State.hasTurn (s : State) : Bool := decide (field s.pow.straps 3 6 < s.srv.settings.getD 3 8) || !s.plcaOn

/-- Whether the 10BASE-T1S interface sends and receives: its address valid, and no duplicate of it reported (R65, R532). -/
def State.t1sUp (s : State) : Bool := s.srv.addrValid && !s.srv.silent

/-- Whether the mailbox can be used: the link is up and the function in D0 (R416, R421). -/
def State.mailboxUp (s : State) : Bool := s.lan.pcieUp && !s.lan.d3

/-- Whether a request is one the device hears: to its server port and its own address, or a READ of identity entries to ff02::1, or in the
mailbox while it holds none (R65, R66, R72). Nothing is answered in the first 30 ms (R74). -/
def State.hears (s : State) (r : Req) (b : Body) : Bool :=
  s.identityServed && match r.src with
  | .udp _ _ => s.t1sUp && r.port == s.srv.settings.getD 0 49312 && (match r.dst with
      | .own => true
      | .allNodes => b.op == 1 && b.entries.all fun p => isIdentity p.1 p.2
      | _ => false)
  | .mailbox => s.mailboxUp && !bit s.srv.mbxStatus 0
  | _ => false

/-- Whether a request is discarded and counted: its version, its size, or a node that has no turn to answer (R56, R67,
R68). -/
def State.discards (s : State) (r : Req) (b : Body) : Bool :=
  r.version != 1 || decide (pathLimit r.src < requestSize r b) ||
    match r.src with | .udp _ _ => !s.hasTurn | _ => false

/-! ### Authentication (R77 to R79) -/

/-- Whether an authentication is acceptable over the header and body `msg` (R78). Role 1 is the management role (R330). -/
def State.authOk (s : State) (a : Auth) (msg : List Byte) : Bool :=
  match lget a.slot s.sls.mgmt with
  | some m => m.role == 1 && decide (lgetD a.slot 0 s.srv.rxCounter < a.counter) && decide (a.tag = s.messageTag a.slot msg)
  | none => false

/-- Whether a request passes: its authentication where it carries one, on whichever path it came; where it carries none,
1030:02 on 10BASE-T1S (R78, R79). That a signed message in the mailbox is verified is the model's choice (log entry 122). -/
def State.admits (s : State) (r : Req) (b : Body) : Bool :=
  match r.auth, r.src with
  | some a, _ => s.authOk a (requestBytes r b)
  | none, .udp _ _ => s.srv.settings.getD 1 0 != 1 || b.entries.all fun p => isIdentity p.1 p.2
  | none, _ => true

/-- The slot under which a refused authentication is answered: the one named, where it is a loaded management slot (R77). -/
def State.answerSlot (s : State) (r : Req) : Option Nat :=
  match r.auth with
  | some a => match lget a.slot s.sls.mgmt with | some m => if m.role = 1 then some a.slot else none | none => none
  | none => none

/-- The slot that authenticates a request. -/
def slotOf (r : Req) : Option Nat := r.auth.map fun a => a.slot

/-- The counter of an accepted message is the last accepted under its slot (R78). -/
def State.acceptCounter (s : State) (r : Req) : State :=
  match r.auth with
  | some a => { s with srv := { s.srv with rxCounter := lput a.slot a.counter s.srv.rxCounter } }
  | none => s

/-! ### Whole refusals (R62, R73 to R75) -/

/-- A message refused whole: no items. The answer is kept for repeats but for BUSY, after which the host may send the request
again (R60, R62, R76, log entry 55). -/
def State.refuse (s : State) (r : Req) (op : Nat) (slot : Option Nat) (st : Status) (retry : Nat) : State :=
  let o := s.makeResponse r.src op r.seq slot st retry 0 []
  (o.2.whenB (decide (st ≠ .busy)) fun t => t.keepAnswer r.src r.seq o.1).sendAnswer o.1

/-- The uptime of the last BUSY answer to a source. -/
def State.lastBusy (s : State) (src : Source) : Option Nat := (s.srv.busyAt.find? fun p => decide (p.1 = src)).map fun p => p.2

/-- Whether a source has had a BUSY answer within the last 10 ms (R75). -/
def State.busyLately (s : State) (src : Source) : Bool :=
  match s.lastBusy src with
  | some t => decide (s.uptime < t + 10000)
  | none => false

/-- A BUSY answer to a source, remembered and counted (R75, R91). -/
def State.noteBusy (s : State) (src : Source) : State :=
  let t : State := { s with srv := { s.srv with
    busyAt := (src, s.uptime) :: s.srv.busyAt.filter fun p => decide (p.1 ≠ src) } }
  t.drawn.inc32 0x1030 7

/-- BUSY without serving, at most once in 10 ms for each source (R74, R75). -/
def State.busyWhole (s : State) (r : Req) (b : Body) : State :=
  if s.busyLately r.src then s.inc32 0x1030 9
  else (s.noteBusy r.src).refuse r b.op (slotOf r) .busy s.retryMs

/-! ### Serving items (R57 to R59, R80, R84) -/

/-- What serving a request gives: the state, the message status, the retry-after, the tag number, the items, and whether
the answer waits for something else (R62, R89, R443). -/
structure Reply where
  state : State
  status : Status := .done
  retry : Nat := 0
  tag : Nat := 0
  items : List RspItem := []
  waits : Bool := false

/-- The items of a READ in order; `room` is what the response may still hold. An item whose value would not fit answers
OUT_OF_RANGE without it, and has no effect (R59, R68, log entry 56). -/
def State.readItems (s : State) (src : Source) (room : Nat) : List RdItem → List RspItem × State
  | [] => ([], s)
  | x :: r =>
    let v := s.readItem src x.idx x.sub
    let item : RspItem := { idx := x.idx, sub := x.sub, status := v.1, ty := v.2.1, off := 0, val := v.2.2 }
    if item.readBytes.length + 8 * r.length ≤ room then
      let rest := (s.whenB (decide (v.1 = .done)) fun t => t.readEffect x.idx x.sub).readItems src
        (room - item.readBytes.length) r
      (item :: rest.1, rest.2)
    else
      let rest := s.readItems src (room - 8) r
      ({ item with status := .outOfRange, ty := 0, val := [] } :: rest.1, rest.2)

/-- A status as a response item. -/
def statusItem (idx sub : Nat) (st : Status) : RspItem := { idx := idx, sub := sub, status := st, ty := 0, off := 0, val := [] }

/-- The items of a WRITE in order, each alone (R59). -/
def State.writeItems (s : State) (src : Source) (l : List WrItem) : Reply :=
  l.foldl (fun a x =>
    let w := a.state.writeItemOf src l x
    { state := w.2.2, status := .done
      retry := max a.retry (if w.1 = .busy then w.2.1.getD s.retryMs else 0)
      items := a.items ++ [statusItem x.idx x.sub w.1]
      waits := a.waits || (decide (w.1 = .done) && a.state.waitsHome x) }) { state := s }

/-- One item of a SUBSCRIBE (R80). With which sequence its notifications begin the spec does not say, a free value. That a
second SUBSCRIBE of an entry by a source changes the period of its subscription, and that a period of 0 cancels the
subscription of that source to that entry, are the model's choices (log entry 124). -/
def State.subscribeItem (s : State) (src : Source) (idx sub period : Nat) : Status × Nat × State :=
  let fails := s.presence idx sub ++ match entryOf idx sub with | some e => accessR e | none => []
  let p := match src with | .udp _ _ => if 0 < period ∧ period < 10 then 10 else period | _ => period
  let mine := fun (x : Sub) => decide (x.src = src ∧ x.idx = idx ∧ x.sub = sub)
  match firstFailure fails, s.srv.subs.find? mine with
  | .done, some x =>
    let subs := if period = 0 then s.srv.subs.filter fun y => !mine y
      else s.srv.subs.map fun y => if mine y then { y with period := p } else y
    (.done, x.number, { s with srv := { s.srv with subs := subs } })
  | .done, none =>
    if period = 0 then (.done, 0, s)
    else if 256 ≤ s.srv.subs.length then (.exhausted, 0, s)
    else
      let n := s.srv.nextSub
      let x : Sub := { number := n, src := src, idx := idx, sub := sub, period := p, seq := s.freeNat % 65536 }
      (.done, n, { s.drawn with srv := { s.srv with subs := s.srv.subs ++ [x], nextSub := n % 0xFFFFFFFF + 1 } })
  | st, _ => (st, 0, s)

/-- The items of a SUBSCRIBE in order (R57, R80). The tag number of the response is the number of the last item's subscription:
the model's choice (log entry 123). -/
def State.subscribeItems (s : State) (src : Source) (l : List (RdItem × Nat)) : Reply :=
  l.foldl (fun a x =>
    let w := a.state.subscribeItem src x.1.idx x.1.sub x.2
    { state := w.2.2, tag := if w.2.1 = 0 then a.tag else w.2.1
      items := a.items ++ [statusItem x.1.idx x.1.sub w.1] }) { state := s }

/-- A READ_BLOCK as a response item (R57, R58). -/
def State.serveReadBlock (s : State) (src : Source) (room idx sub off len : Nat) : Reply :=
  let v := s.readBlockItem src idx sub off len
  let item : RspItem := { idx := idx, sub := sub, status := v.1, ty := 0, off := off, val := v.2 }
  { state := s
    retry := if v.1 = .busy then s.retryMs else 0
    items := [if (item.bytes 3).length ≤ room then item else { item with status := .outOfRange, val := [] }] }

/-- A WRITE_BLOCK as a response item (R57, R58, R577). -/
def State.serveWriteBlock (s : State) (src : Source) (idx sub off : Nat) (d : List Byte) : Reply :=
  let w := s.writeBlockItem src idx sub off d
  { state := w.2, retry := if w.1 = .busy then s.retryMs else 0, items := [statusItem idx sub w.1] }

/-! ### Transactions (R82 to R89) -/

/-- An item of a TRANSACTION checked as a plain write (R83, R84): its failures, with the value it carries. -/
def State.transactionItem (s : State) (x : WrItem) : Status × DVal :=
  let fails := s.presence x.idx x.sub
  match entryOf x.idx x.sub with
  | none => (firstFailure fails, .num 0)
  | some e =>
    let p := entryValue e x.ty x.val
    let w := s.writeEffect e x.idx x.sub p.2
    (match firstFailure (fails ++ s.accessW e true ++ p.1 ++ w.fails ++ need e.committable .conflict) with
      | .done => firstListed w.late
      | st => st, p.2)

/-- The checked items with their positions, 1 upwards. -/
def State.checkedItems (s : State) (l : List WrItem) : List (Nat × Status × (Nat × DVal)) :=
  l.zipIdx.map fun p =>
    let r := s.transactionItem p.1
    (p.2 + 1, r.1, (key p.1.idx p.1.sub, r.2))

/-- Items of which a later one names the same entry are left out (log entry 58). -/
def lastOfEach : List (Nat × (Nat × DVal)) → List (Nat × (Nat × DVal))
  | [] => []
  | x :: r => if r.any fun y => y.2.1 == x.2.1 then lastOfEach r else x :: lastOfEach r

/-- Whether an item of a set is line-visible, so that the transaction is two-ended (R83). -/
def twoEndedSet (l : List WrItem) : Bool :=
  l.any fun x => match entryOf x.idx x.sub with | some e => e.lineVisible | none => false

/-- The first failure of a transaction with the position it is answered for, or DONE: the mode, each item, then the set
(R84, R88, R89). That the mode goes first, with position 0, is the model's choice (log entry 179). -/
def State.transactionFailure (s : State) (target : Nat) (l : List WrItem) : Status × Nat :=
  let two := twoEndedSet l
  let place := l.any fun x => (placeItem (key x.idx x.sub)).isSome
  match firstListed (s.transactionMode two place) with
  | .done =>
    let c := s.checkedItems l
    match c.find? fun x => decide (x.2.1 ≠ .done) with
    | some x => (x.2.1, x.1)
    | none =>
      match s.setFails two target (lastOfEach (c.map fun x => (x.1, x.2.2))) with
      | [] => (.done, 0)
      | f :: _ => f
  | st => (st, 0)

/-- A TRANSACTION: staged, its answer to follow with the outcome, or rejected whole with the status and position of the
first failure (R84 to R86, R89). -/
def State.serveTransaction (s : State) (r : Req) (target : Nat) (l : List WrItem) : Reply :=
  let n := s.tra.nextNum
  let f := s.transactionFailure target l
  let t : State := { s.drawn with tra := { s.tra with nextNum := n % 0xFFFFFFFF + 1 } }
  match f.1 with
  | .done =>
    let items := (s.checkedItems l).foldl (fun d x => lput x.2.2.1 x.2.2.2 d) []
    { state := t.stage { num := n, target := target, twoEnded := twoEndedSet l, acked := false, src := r.src, seq := r.seq
                         slot := (slotOf r), items := items, built := false }
      tag := n, waits := true }
  | st =>
    { state := ((t.wrN 0x1020 6 st.code).wrN 0x1020 7 n).wrN 0x1020 8 f.2, status := st, tag := n
      retry := if st = .busy then s.retryMs else 0 }

/-- A body served. -/
def State.serve (s : State) (r : Req) : Body → Reply
  | .read l =>
    let v := s.readItems r.src (roomFor r) l
    { state := v.2, retry := if v.1.any fun x => decide (x.status = .busy) then s.retryMs else 0, items := v.1 }
  | .write l => s.writeItems r.src l
  | .readBlock i j off len => s.serveReadBlock r.src (roomFor r) i j off len
  | .writeBlock i j off d => s.serveWriteBlock r.src i j off d
  | .transaction target l => s.serveTransaction r target l
  | .subscribe l => s.subscribeItems r.src l

/-! ### Dispatch (R60, R73 to R75) -/

/-- The answer of a request is pending: a repeat is dropped, and the mailbox holds its request (R60, R72). -/
def State.hold (s : State) (r : Req) : State :=
  let t : State := { s with srv := { s.srv with held := s.srv.held ++ [(r.src, r.seq)] } }
  if r.src = .mailbox then { t with srv := { t.srv with mbxStatus := setBit t.srv.mbxStatus 0 } } else t

/-- A request waits in the queue: it is pending, and a doorbell stands until the server takes it (R60, R71, R73). -/
def State.holdQueued (s : State) (r : Req) : State :=
  let t := s.hold r
  if r.src = .mailbox then { t with srv := { t.srv with mbxCtrl := setBit t.srv.mbxCtrl 0 } } else t

/-- A request is no longer pending as it is taken up: the doorbell clears (R60, R71, R72). -/
def State.takeUp (s : State) (r : Req) : State :=
  let t : State := { s with srv := { s.srv with held := s.srv.held.filter fun p => decide (p ≠ (r.src, r.seq)) } }
  if r.src = .mailbox then { t with srv := { t.srv with mbxCtrl := clearBit t.srv.mbxCtrl 0 } } else t

/-- A request taken from the queue and served: its answer is sent and kept, or held until its outcome is known (R60, R89,
R443). An answer with BUSY is not kept (log entry 55), and a transaction answered BUSY counts as such (R91). -/
def State.serveMessage (s : State) (r : Req) (b : Body) : State :=
  let a := s.serve r b
  let a := { a with state := a.state.whenB (decide (0 < a.retry)) State.drawn }
  let finish := fun (t : State) => t.makeResponse r.src b.op r.seq (slotOf r) a.status a.retry a.tag a.items
  if a.waits then
    match b with
    | .transaction .. => a.state.hold r
    | _ =>
      let o := finish (a.state.hold r)
      o.2.deferAnswer o.1
  else
    let o := finish a.state
    if a.status = .busy then (o.2.sendAnswer o.1).inc32 0x1030 7
    else if s.serverBusy && a.items.any fun x => decide (x.status = .busy) then (o.2.sendAnswer o.1).inc32 0x1030 6
    else o.2.respond r.src r.seq o.1

/-- Whether a message as a whole is refused with BUSY: the server serves identity entries alone, and the message names none
(R52, R62, R74). -/
def State.refusesBusy (s : State) (b : Body) : Bool :=
  s.serverBusy && !(decide (b.op ≤ 4) && b.entries.any fun p => isIdentity p.1 p.2)

/-- Requests in the queue, the one in service included (R73, log entry 121). -/
def State.queueDepth (s : State) : Nat := s.srv.queue.length + (if s.srv.engaged.isSome then 1 else 0)

/-- Requests of one source in the queue, the one in service included (R73). -/
def State.queueShare (s : State) (src : Source) : Nat :=
  (s.srv.queue.filter fun w => decide (w.src = src)).length + (if s.srv.engaged = some src then 1 else 0)

/-- Whether a request finds the queue full, or its source's share of it (R73). -/
def State.queueFull (s : State) (src : Source) : Bool := decide (32 ≤ s.queueDepth) || decide (4 ≤ s.queueShare src)

/-- The queue's high-water mark as a request joins it (R73, R91). -/
def State.enqueue (s : State) : State := s.atLeast 0x1030 0x0A (s.queueDepth + 1)

/-- A request waits behind the one in service; its source takes its place in the ring where it has none (R73). -/
def State.join (s : State) (w : Waiting) : State :=
  { s with srv := { s.srv with
      queue := s.srv.queue ++ [w], ring := if s.srv.ring.contains w.src then s.srv.ring else s.srv.ring ++ [w.src] } }

/-- After a request is served at its arrival the server may still be at work as the next one comes, for a time the spec does
not give: a free choice, until the next microsecond (R73, log entry 121). -/
def State.engage (s : State) (src : Source) : State :=
  { s.drawn with srv := { s.srv with engaged := if s.freeBool then some src else none } }

/-- A message taken from the queue: refused with BUSY where only the identity entries are served, else served (R73, R74). -/
def State.serveTaken (s : State) (r : Req) (b : Body) : State :=
  if s.refusesBusy b then s.busyWhole r b else s.serveMessage r b

/-- A request that is no repeat (R62, R73, R78, R79). The BUSY answer for a full queue is not bounded by the 10 ms of R75, and
a message of no item or of more than 64 is refused whole after its counter is accepted: the model's choices (log entries 125
and 126). -/
def State.dispatch (s : State) (r : Req) (b : Body) : State :=
  if !s.admits r b then (s.inc32 0x1030 8).refuse r b.op (s.answerSlot r) .authFail 0
  else
    let s := s.acceptCounter r
    if s.refusesBusy b then s.busyWhole r b
    else if s.queueFull r.src then (s.inc32 0x1030 7).refuse r b.op (slotOf r) .busy 10
    else if b.entries.length = 0 ∨ 64 < b.entries.length then s.refuse r b.op (slotOf r) .badType 0
    else if s.srv.engaged.isSome then (s.enqueue.join (.message r b)).holdQueued r
    else (s.enqueue.serveMessage r b).engage r.src

/-- A request that the server has answered or has pending, or else `f`: a repeat of an answered one gets the stored answer, a
repeat of a pending one is dropped (R60). -/
def State.unlessRepeat (s : State) (src : Source) (seq : Nat) (f : State → State) : State :=
  if s.srv.held.any fun p => decide (p = (src, seq)) then s
  else match s.srv.served.find? fun x => decide (x.src = src) && x.seq == seq with
    | some x => s.sendAnswer x.answer
    | none => f s

/-- A request arrives (R60). -/
def State.request (s : State) (r : Req) (b : Body) : State :=
  if !s.hears r b then s
  else if s.discards r b then s.inc32 0x1030 9
  else s.unlessRepeat r.src r.seq fun t => t.dispatch r b

/-- READ (R59). -/
def execRead (r : Req) (items : List RdItem) (s : State) : Host.Outcome State Fault Refusal := .next (s.request r (.read items))
/-- WRITE (R59). -/
def execWrite (r : Req) (items : List WrItem) (s : State) : Host.Outcome State Fault Refusal :=
  .next (s.request r (.write items))
/-- READ_BLOCK (R58). -/
def execReadBlock (r : Req) (idx sub off len : Nat) (s : State) : Host.Outcome State Fault Refusal :=
  .next (s.request r (.readBlock idx sub off len))
/-- WRITE_BLOCK (R577). -/
def execWriteBlock (r : Req) (idx sub off : Nat) (data : List Byte) (s : State) : Host.Outcome State Fault Refusal :=
  .next (s.request r (.writeBlock idx sub off data))
/-- TRANSACTION (R84). -/
def execTransaction (r : Req) (target : Nat) (items : List WrItem) (s : State) : Host.Outcome State Fault Refusal :=
  .next (s.request r (.transaction target items))
/-- SUBSCRIBE (R80). -/
def execSubscribe (r : Req) (items : List (RdItem × Nat)) (s : State) : Host.Outcome State Fault Refusal :=
  .next (s.request r (.subscribe items))

/-! ### Notifications (R72, R80, R81) -/

/-- A notification goes out by its path. The mailbox holds one: another is dropped, and notification lost set (R72). -/
def State.sendNotification (s : State) (o : Out) (src : Source) : State :=
  match src with
  | .mailbox =>
    if !s.mailboxUp then s
    else if bit s.srv.mbxStatus 2 then { s with srv := { s.srv with mbxStatus := setBit s.srv.mbxStatus 3 } }
    else
      let b := o.message
      let t : State := { s with srv := { s.srv with
        mbxNtf := b, mbxNtfLen := b.length, mbxStatus := setBit s.srv.mbxStatus 2 } }
      (t.emit o).whenB (bit t.srv.mbxCtrl 2) fun u => u.vector 1
  | _ => s.whenB (s.t1sUp && s.hasTurn) fun t => t.emit o

/-- NOTIFY: a period expires, or a coalesced change falls due (R80, R81). -/
def execNotify (number : Nat) (s : State) : Host.Outcome State Fault Refusal :=
  .next (match s.srv.subs.find? fun x => x.number == number with
    | some x =>
      if s.serverBusy then s
      else
        let v := s.readItems x.src (pathLimit x.src - 24) [{ idx := x.idx, sub := x.sub }]
        let t : State := { v.2 with srv := { v.2.srv with
          subs := v.2.srv.subs.map fun y => if y.number = number then { y with seq := (y.seq + 1) % 65536 } else y } }
        match v.1 with
        | item :: _ => t.sendNotification (.notify number x.seq x.src item) x.src
        | [] => t
    | none => s)

/-! ### The 10BASE-T1S interface (R65, R67, R532) -/

/-- NEIGHBOUR_SOLICITATION (R65). -/
def execNeighbourSolicitation (target : Nat) (s : State) : Host.Outcome State Fault Refusal :=
  .next (s.whenB (s.t1sUp && s.hasTurn && target == s.linkLocal) fun t => t.emit (.neighbourAdvert t.linkLocal))
/-- ICMP_ECHO: a request to the device's own address is answered (R65). -/
def execIcmpEcho (dst ident seqNo : Nat) (data : List Byte) (s : State) : Host.Outcome State Fault Refusal :=
  .next (s.whenB (s.t1sUp && s.hasTurn && dst == s.linkLocal) fun t => t.emit (.echoReply dst ident seqNo data))

/-- DAD_COMPLETE: 30 ms after POR release the address is valid, or the interface is silent; MDIO and the identity entries
are served either way (R532). -/
def execDadComplete (duplicate : Bool) (s : State) : Host.Outcome State Fault Refusal :=
  .next (
    if !s.pow.released || s.srv.addrValid || s.srv.silent then s
    else
      let t : State := { s with srv := { s.srv with
        addrValid := !duplicate, silent := duplicate, mdioOn := true, identityOn := true } }
      t.whenB duplicate fun u => u.raise 0x1000 0x0A 0)

/-- PLCA_BEACON: node 0 is the coordinator and sends the BEACON with the node count; another node sees it (R67). -/
def execPlcaBeacon (s : State) : Host.Outcome State Fault Refusal :=
  .next (s.whenB (s.pow.released && !s.srv.silent) fun t =>
    let u : State := { t with srv := { t.srv with beaconAt := some t.uptime } }
    u.whenB (field t.pow.straps 3 6 == 0) fun v => v.emit (.beacon (v.srv.settings.getD 3 8)))

/-! ### The MDIO window (R69, R70) -/

/-- Whether a Clause 45 frame is for this device: its port address and device address 30 (R69). -/
def State.mdioMine (s : State) (prtad dev : Nat) : Bool := s.srv.mdioOn && prtad == field s.pow.straps 9 5 && dev == 30

/-- Whether a write of WIN_CTRL with go starts an operation: the window is not busy (R69, R70). -/
def State.windowHears (s : State) (op : MdioOp) : Bool := s.mdioMine op.prtad op.dev && !bit s.srv.winStatus 15

/-- Go: the window's registers as the operation finds them, busy, WIN_PTR 0 (R69). -/
def State.windowGo (s : State) (op : MdioOp) (opcode : Nat) : State :=
  { s with srv := { s.srv with
      winCtrl := 0x8000 + opcode % 8 * 0x1000, winStatus := 0x8000, winIndex := op.index % 65536
      winSub := op.ty % 256 * 256 + op.sub % 256, winLen := op.len % 512, winOff := op.off % 2 ^ 32
      winRetry := 0, winPtr := 0 } }

/-- The window's operation is done (R69). -/
def State.windowDone (s : State) (st : Status) (retry : Nat) (val : List Byte) : State :=
  let t : State := { s with srv := { s.srv with winRetry := retry } }
  t.sendAnswer (.mdio st.code (t.srv.winSub / 256) val)

/-- A value read into the window's buffer (R69). -/
def State.windowValue (s : State) (ty : Option Nat) (val : List Byte) : State :=
  { s with srv := { s.srv with
      winData := val ++ s.srv.winData.drop val.length, winLen := val.length
      winSub := match ty with | some t => t * 256 + s.srv.winSub % 256 | none => s.srv.winSub } }

/-- The bytes of the value buffer that an operation sends. -/
def State.windowBytes (s : State) : List Byte := padTo s.srv.winLen (s.srv.winData.take s.srv.winLen)

/-- What serving one operation of the window gives (R70): its status, the type and value it reads, the retry-after, whether
its answer waits (R443), and the state. -/
structure WindowReply where
  status : Status
  ty : Option Nat := none
  val : List Byte := []
  retry : Nat := 0
  waits : Bool := false
  state : State

/-- The item of a window operation served (R70). -/
def State.windowItem (s : State) (opcode : Nat) : WindowReply :=
  let i := s.srv.winIndex
  let j := s.srv.winSub % 256
  match opcode with
  | 1 =>
    let v := s.readItem .mdio i j
    let fits := decide (v.1 = .done) && decide (v.2.2.length ≤ 256)
    { status := v.1, ty := some v.2.1, val := v.2.2, state := s.whenB fits fun u => u.readEffect i j }
  | 2 =>
    let x : WrItem := { idx := i, sub := j, ty := s.srv.winSub / 256, val := s.windowBytes }
    let w := s.writeItemOf .mdio [x] x
    { status := w.1, retry := if w.1 = .busy then w.2.1.getD s.retryMs else 0
      waits := decide (w.1 = .done) && s.waitsHome x, state := w.2.2 }
  | 3 =>
    let v := s.readBlockItem .mdio i j s.srv.winOff s.srv.winLen
    { status := v.1, val := v.2, retry := if v.1 = .busy then s.retryMs else 0, state := s }
  | _ =>
    let w := s.writeBlockItem .mdio i j s.srv.winOff s.windowBytes
    { status := w.1, retry := if w.1 = .busy then s.retryMs else 0, state := w.2 }

/-- One operation of the window taken from the queue and served (R70, R73). -/
def State.windowServe (s : State) (opcode : Nat) : State :=
  let r := s.windowItem opcode
  let u := r.state
  if 256 < r.val.length then (s.inc32 0x1030 6).windowDone .outOfRange 0 []
  else if r.waits then (u.inc32 0x1030 6).deferAnswer (.mdio 0 (u.srv.winSub / 256) [])
  else
    let u := (u.inc32 0x1030 6).whenB (decide (r.status = .done) && decide (opcode = 1 ∨ opcode = 3)) fun w =>
      w.windowValue r.ty r.val
    (u.whenB (decide (r.status = .busy)) State.drawn).windowDone r.status r.retry r.val

/-- BUSY for a window operation, at most once in 10 ms; a further one is discarded and counted, and the window is idle again
with no answer in it (R70, R74, R75, log entry 127). -/
def State.windowBusy (s : State) : State :=
  if s.busyLately .mdio then
    ({ s with srv := { s.srv with winStatus := 0 } } : State).inc32 0x1030 9
  else (s.noteBusy .mdio).windowDone .busy s.retryMs []

/-- One operation of the window with its registers set: AUTH_FAIL is checked first (R63, R70), then whether the server serves
it (R73 to R75). WIN_LEN has room for 257 to 511, which the table leaves out: an operation that uses it is OUT_OF_RANGE then (log
entry 178). -/
def State.windowStart (s : State) (opcode : Nat) : State :=
  if s.windowKey .mdio s.srv.winIndex (s.srv.winSub % 256) then (s.inc32 0x1030 8).windowDone .authFail 0 []
  else if s.serverBusy && !isIdentity s.srv.winIndex (s.srv.winSub % 256) then s.windowBusy
  else if s.queueFull .mdio then (s.inc32 0x1030 7).windowDone .busy 10 []
  else if opcode ≠ 1 ∧ 256 < s.srv.winLen then s.windowDone .outOfRange 0 []
  else if s.srv.engaged.isSome then s.enqueue.join (.window opcode)
  else (s.enqueue.windowServe opcode).engage .mdio

/-- An operation of the window (R69, R70). -/
def State.window (s : State) (op : MdioOp) (opcode : Nat) : State :=
  if !s.windowHears op then s else (s.windowGo op opcode).windowStart opcode

/-- MDIO_READ (R70). -/
def execMdioRead (op : MdioOp) (s : State) : Host.Outcome State Fault Refusal := .next (s.window op 1)
/-- MDIO_WRITE (R70). -/
def execMdioWrite (op : MdioOp) (s : State) : Host.Outcome State Fault Refusal := .next (s.window op 2)
/-- MDIO_READ_BLOCK (R70). -/
def execMdioReadBlock (op : MdioOp) (s : State) : Host.Outcome State Fault Refusal := .next (s.window op 3)
/-- MDIO_WRITE_BLOCK (R70). -/
def execMdioWriteBlock (op : MdioOp) (s : State) : Host.Outcome State Fault Refusal := .next (s.window op 4)
/-- MDIO_BAD_OPCODE (R70). -/
def execMdioBadOpcode (op : MdioOp) (opcode : Nat) (s : State) : Host.Outcome State Fault Refusal :=
  .next (if s.windowHears op && (opcode == 0 || opcode == 5 || opcode == 6 || opcode == 7) then
      (s.windowGo op opcode).windowDone .badType 0 []
    else s)

/-- The queued requests served, sources in round robin and each source's in arrival order, `n` of them at most (R73). -/
def State.serveQueue (s : State) : Nat → State
  | 0 => s
  | n + 1 =>
    match s.srv.ring with
    | [] => s
    | src :: rest =>
      match s.srv.queue.find? fun w => decide (w.src = src) with
      | none => ({ s with srv := { s.srv with ring := rest } } : State).serveQueue n
      | some w =>
        let left := s.srv.queue.erase w
        let t : State := { s with srv := { s.srv with
          queue := left, ring := if left.any fun x => decide (x.src = src) then rest ++ [src] else rest } }
        (match w with
        | .message r b => (t.takeUp r).serveTaken r b
        | .window opcode =>
          if t.serverBusy && !isIdentity t.srv.winIndex (t.srv.winSub % 256) then t.windowBusy
          else t.windowServe opcode).serveQueue n

/-- The server ends the request in service and serves what waits: a microsecond has passed (R73, log entry 121). -/
def State.serverTick (s : State) : State :=
  if s.srv.engaged.isNone then s
  else ({ s with srv := { s.srv with engaged := none } } : State).serveQueue s.srv.queue.length

/-! ### The registers of the MDIO device (R69) -/

/-- Two bytes of the value buffer at WIN_PTR, which advances (R69). Beyond word 127 there is no buffer: what is read there, and
whether a write wraps onto the buffer or is lost, are free (log entry 57). -/
def State.windowData (s : State) (write : Option (BitVec 16)) : State :=
  let p := s.srv.winPtr
  let inside := decide (p < 128)
  let at_ := 2 * (p % 128)
  let next : State := { s with srv := { s.srv with winPtr := (p + 1) % 256 } }
  match write with
  | none =>
    if inside then next.emit (.windowData (beNat (padTo 2 (slice s.srv.winData at_ 2))))
    else next.drawn.emit (.windowData (s.freeNat % 65536))
  | some v =>
    let put := fun (u : State) => ({ u with srv := { u.srv with
      winData := padTo at_ (u.srv.winData.take at_) ++ beBytes 2 v.toNat ++ u.srv.winData.drop (at_ + 2) } } : State)
    if inside then put next else next.drawn.whenB s.freeBool put

/-- What a read of a register other than WIN_DATA returns: the window's registers, and those that Clause 45 gives a
vendor-specific device, with its identifiers (R69, log entry 128); every other register reads 0. -/
def State.mdioRegister (s : State) (reg : Nat) : Nat :=
  match reg with
  | 2 => Config.mdioIdentifier 2 % 65536
  | 3 => Config.mdioIdentifier 3 % 65536
  | 5 => 0
  | 6 => 0x4000
  | 8 => 0x8000
  | 14 => Config.mdioIdentifier 14 % 65536
  | 15 => Config.mdioIdentifier 15 % 65536
  | 0x8000 => s.srv.winCtrl
  | 0x8001 => s.srv.winStatus
  | 0x8002 => s.srv.winIndex
  | 0x8003 => s.srv.winSub
  | 0x8004 => s.srv.winLen
  | 0x8005 => s.srv.winOff / 65536
  | 0x8006 => s.srv.winOff % 65536
  | 0x8007 => s.srv.winRetry
  | 0x8009 => s.srv.winPtr
  | _ => 0

/-- A write of a register other than WIN_DATA; registers that are read only or absent ignore it (R69, R70). Go with opcodes 0
and 5 to 7 is BAD_TYPE. -/
def State.mdioWriteRegister (s : State) (reg v : Nat) : State :=
  match reg with
  | 0x8000 =>
    if bit s.srv.winStatus 15 then s
    else
      let opcode := v / 4096 % 8
      let t : State := { s with srv := { s.srv with winCtrl := v / 4096 * 4096 } }
      if v < 32768 then t
      else
        let t : State := { t with srv := { t.srv with winStatus := 0x8000, winRetry := 0, winPtr := 0 } }
        if 1 ≤ opcode ∧ opcode ≤ 4 then t.windowStart opcode else t.windowDone .badType 0 []
  | 0x8002 => { s with srv := { s.srv with winIndex := v } }
  | 0x8003 => { s with srv := { s.srv with winSub := v } }
  | 0x8004 => { s with srv := { s.srv with winLen := v % 512 } }
  | 0x8005 => { s with srv := { s.srv with winOff := v * 65536 + s.srv.winOff % 65536 } }
  | 0x8006 => { s with srv := { s.srv with winOff := s.srv.winOff / 65536 * 65536 + v } }
  | 0x8009 => { s with srv := { s.srv with winPtr := v % 256 } }
  | _ => s

/-- WIN_DATA_ACCESS: a Clause 45 access to one register, WIN_DATA or another (R69). -/
def execWinDataAccess (a : RegAccess) (s : State) : Host.Outcome State Fault Refusal :=
  .next (if !s.mdioMine a.prtad a.dev then s
    else if a.reg = 0x8008 then s.windowData a.write
    else match a.write with
    | none => s.emit (.windowData (s.mdioRegister a.reg))
    | some v => s.mdioWriteRegister a.reg v.toNat)

/-! ### The PCIe mailbox (R71, R72) -/

/-- The items of a READ or SUBSCRIBE request: `n` items of `size` bytes. -/
def parseFixed (size : Nat) : Nat → List Byte → List (List Byte)
  | 0, _ => []
  | n + 1, b => b.take size :: parseFixed size n (b.drop size)

/-- The items of a WRITE request. -/
def parseWrites : Nat → List Byte → List WrItem
  | 0, _ => []
  | n + 1, b =>
    let len := beField b 4 2
    { idx := beField b 0 2, sub := beField b 2 1, ty := beField b 3 1, val := slice b 8 len }
      :: parseWrites n (b.drop (ceilDiv (8 + len) 4 * 4))

/-- The body that an opcode, an item count and the bytes of a body spell (R57). -/
def parseBody (op n : Nat) (b : List Byte) : Option Body :=
  let rdItem := fun (x : List Byte) => ({ idx := beField x 0 2, sub := beField x 2 1 } : RdItem)
  match op with
  | 1 => some (.read ((parseFixed 4 n b).map rdItem))
  | 2 => some (.write (parseWrites n b))
  | 3 => some (.readBlock (beField b 0 2) (beField b 2 1) (beField b 4 4) (beField b 8 2))
  | 4 => some (.writeBlock (beField b 0 2) (beField b 2 1) (beField b 4 4) (slice b 12 (beField b 8 2)))
  | 5 => some (.transaction (beField b 0 8) (parseWrites n (b.drop 8)))
  | 6 => some (.subscribe ((parseFixed 8 n b).map fun x => (rdItem x, beField x 4 2)))
  | _ => none

/-- The request that the bytes of a message spell, with the body where it is well formed: it spells the same bytes (R56,
R57). -/
def parseMessage (b : List Byte) : Req × Option Body :=
  let signed := bit (beField b 2 1) 1
  let size := b.length - 24 - (if signed then 16 else 0)
  let auth : Option Auth := if signed then
      some { slot := beField b 8 1, counter := beField b 16 8, tag := b.drop (24 + size) } else none
  let r : Req := { src := .mailbox, dst := .own, port := 0, version := beField b 0 1, seq := beField b 4 2, auth := auth }
  (r, match parseBody (beField b 1 1) (beField b 9 1) (slice b 24 size) with
    | some x => if requestBytes r x = b.take (24 + size) then some x else none
    | none => none)

/-- A malformed message is refused whole with BAD_TYPE, its authentication judged first (R61 to R63, R77); one of another
version is discarded (R56). `msg` is its header and body. -/
def State.refuseMalformed (s : State) (r : Req) (op : Nat) (msg : List Byte) : State :=
  if !s.mailboxUp || !s.identityServed then s
  else if r.version ≠ 1 then s.inc32 0x1030 9
  else s.unlessRepeat r.src r.seq fun t =>
    if r.auth.all fun a => t.authOk a msg then (t.acceptCounter r).refuse r op (slotOf r) .badType 0
    else (t.inc32 0x1030 8).refuse r op (t.answerSlot r) .authFail 0

/-- MAILBOX_DOORBELL: a write of MBX_CTRL after the host has written MBX_REQ_LEN and MBX_REQ. Without the doorbell bit, or
while a request is pending, nothing is submitted (R71, R72). A length below 24 holds no header, and one above 4 096 is
discarded as oversize. -/
def execMailboxDoorbell (ctrl : BitVec 32) (len : Nat) (msg : List Byte) (s : State) : Host.Outcome State Fault Refusal :=
  .next (
    if !s.mailboxUp then s
    else
      let t : State := { s with srv := { s.srv with
        mbxCtrl := ctrl.toNat % 8 / 2 * 2 + s.srv.mbxCtrl % 2, mbxReqLen := len % 8192, mbxReq := msg.take 4096 } }
      if !bit ctrl.toNat 0 || bit s.srv.mbxStatus 0 then t
      else if len < 24 then t
      else if 4096 < len then t.inc32 0x1030 9
      else
        let b := padTo len (msg.take len)
        match parseMessage b with
        | (r, some x) => t.request r x
        | (r, none) => t.refuseMalformed r (beField b 1 1) (b.take (len - (if r.auth.isSome then 16 else 0))))

/-! ### What the PCIe host reads of BAR0 (R71, R417) -/

/-- A little-endian register of four bytes, one byte of it: PCI Express orders the bytes of a register so. -/
def regByte (v i : Nat) : Byte := BitVec.ofNat 8 (v / 256 ^ (i % 4))

/-- The byte at an offset of the mailbox as the host reads it: its registers, and the three message buffers (R71). -/
def State.mailboxByte (s : State) (off : Nat) : Byte :=
  if off < 0x1000 then
    match off / 4 with
    | 0 => regByte 0x4D420001 off
    | 1 => regByte s.srv.mbxCtrl off
    | 2 => regByte s.srv.mbxStatus off
    | 3 => regByte s.srv.mbxReqLen off
    | 4 => regByte s.srv.mbxRspLen off
    | 5 => regByte s.srv.mbxNtfLen off
    | _ => 0
  else if off < 0x2000 then s.srv.mbxReq.getD (off - 0x1000) 0
  else if off < 0x3000 then s.srv.mbxRsp.getD (off - 0x2000) 0
  else s.srv.mbxNtf.getD (off - 0x3000) 0

/-- The byte at an offset of BAR0 as the host reads it (R417). -/
def State.bar0Byte (s : State) (off : Nat) : Byte := if off < 0x4000 then s.mailboxByte off else s.barByte off

/-- MAILBOX_STATUS_CLEAR: write 1 to clear bits [3:1] (R71). -/
def execMailboxStatusClear (mask : BitVec 32) (s : State) : Host.Outcome State Fault Refusal :=
  .next (if !s.mailboxUp then s
    else { s with srv := { s.srv with mbxStatus := (bitsOf 4 (mask.toNat % 16 / 2 * 2)).foldl clearBit s.srv.mbxStatus } })

/-! ### Group-wide entries (R426) -/

/-- DRIDA_WRITE_GROUP_WIDE: a write by a host, accepted at the master and distributed, or answered NOT_MASTER at another
member; or the master's distribution of it to this member (R426). -/
def execDridaWriteGroupWide (item : WrItem) (fromMaster : Bool) (s : State) : Host.Outcome State Fault Refusal :=
  .next (match entryOf item.idx item.sub with
    | some e =>
      if !e.groupWide then s
      else if fromMaster then
        if s.groupRole ≠ 2 then s
        else match entryValue e item.ty item.val with
          | ([], v) => s.takeDistribution [(key item.idx item.sub, v)]
          | _ => s
      else if !s.identityServed then s
      else
        let w := s.writeItemOf .mailbox [item] item
        let t := w.2.2.whenB (decide (w.1 ≠ .busy)) fun u => u.inc32 0x1030 6
        let t := t.whenB (decide (w.1 = .busy)) fun u => (u.inc32 0x1030 7).drawn
        let k := key item.idx item.sub
        if w.1 = .done && s.waitsHome item then t.deferAnswer (.answer k .done 0)
        else t.emit (.answer k w.1 (if w.1 = .busy then w.2.1.getD s.retryMs else 0))
    | none => s)

end Sys2Proof.Machine
end

