-- ==== Sys2Proof/Machine/Dma.lean ====
section
/-! DEFINITION. The DMA engine: the lists of a channel, its bursts, and how a job completes and settles
(spec/15_engines_matrix_dma.md R471 to R478). -/

namespace Sys2Proof.Machine

/-! ### Accesses of the engine (R461, R467 to R469, R474) -/

/-- A burst in progress: the state, and what the host or a remote member still returns in it. -/
structure Burst where
  s : State
  host : List Byte

/-- What the answers of a burst's accesses report: PCIe, the matrix, and the data read from memory. -/
structure Answers where
  pcieOk : Bool
  matrixOk : Bool
  memoryOk : Bool

/-- A part of a burst: it goes on with a value, or the channel has ended with an error. -/
inductive Part (α : Type) where
  | ok (b : Burst) (v : α)
  | stop (s : State)

/-- What follows a part. -/
def Part.andThen {α β : Type} (p : Part α) (f : Burst → α → Part β) : Part β :=
  match p with
  | .ok b v => f b v
  | .stop s => .stop s

/-- The channel stops with error `err` at entry `n` (R474). -/
def Burst.fail {α : Type} (b : Burst) (c n err : Nat) : Part α := .stop (b.s.dmaError c n err)

/-- Bytes that the host returns: error 5 where the read failed (R474). -/
def Burst.takeHost (b : Burst) (c n : Nat) (ok : Bool) (len err : Nat) : Part (List Byte) :=
  if ok && decide (len ≤ b.host.length) then .ok { b with host := b.host.drop len } (b.host.take len)
  else b.fail c n err

/-- One piece of a matrix read by the engine (R461, R466 to R469); a flash that erases or programs answers with an error, which
is counted (R510). -/
def Burst.readPiece (b : Burst) (x : Answers) (c n a len : Nat) : Part (List Byte) :=
  let a' := b.s.redirect a
  match b.s.target a' with
  | none => .stop (b.s.dmaDecode c n a)
  | some (t, off) =>
    if !b.s.reaches 5 t false then .stop (b.s.dmaDecode c n a)
    else if b.s.mat.isolated.contains t.number || !x.matrixOk then b.fail c n 4
    else
      let b : Burst := { b with s := b.s.windowHit a }
      match t with
      | .remote i =>
        if (b.s.route i).isNone then b.fail c n 4
        else ({ b with s := b.s.remoteRequests c i false 8 off [] len } : Burst).takeHost c n true len 4
      | .flash =>
        if b.s.flashWorks then ({ b with s := b.s.inc32 0x9C20 0x0B } : Burst).fail c n 4
        else .ok b (b.s.flashRead off len)
      | _ => match b.s.matrixRead a' len with
        | some v => if x.memoryOk then .ok b v else b.fail c n 6
        | none => ({ b with s := b.s.poisonRead a' len 5 } : Burst).fail c n 6

/-- A matrix read by the engine, split at each 256-byte boundary (R464). -/
def Burst.matrixRead (b : Burst) (x : Answers) (c n a len : Nat) : Part (List Byte) :=
  let first := min len (256 - a % 256)
  (b.readPiece x c n a first).andThen fun b v =>
    if first = len then .ok b v
    else (b.readPiece x c n (a + first) (len - first)).andThen fun b w => .ok b (v ++ w)

/-- One piece of a matrix write by the engine. -/
def Burst.writePiece (b : Burst) (x : Answers) (c n a : Nat) (v : List Byte) : Part Unit :=
  let a' := b.s.redirect a
  match b.s.target a' with
  | none => .stop (b.s.dmaDecode c n a)
  | some (t, off) =>
    if !b.s.reaches 5 t true then .stop (b.s.dmaDecode c n a)
    else if (b.s.dmaBarred a).isSome || !x.matrixOk then b.fail c n 4
    else
      let b : Burst := { b with s := b.s.windowHit a }
      match t with
      | .remote i => .ok { b with s := b.s.remoteRequests c i true 8 off v v.length } ()
      | _ => match b.s.matrixWrite a' v with
        | some t => .ok { b with s := t } ()
        | none => ({ b with s := b.s.poisonRead a' v.length 5 } : Burst).fail c n 6

/-- A matrix write by the engine, split at each 256-byte boundary (R464). -/
def Burst.matrixWrite (b : Burst) (x : Answers) (c n a : Nat) (v : List Byte) : Part Unit :=
  let first := min v.length (256 - a % 256)
  (b.writePiece x c n a (v.take first)).andThen fun b _ =>
    if first = v.length then .ok b () else b.writePiece x c n (a + first) (v.drop first)

/-- Whether a remote window at an address has too few tags left for a burst: the burst waits (R469). -/
def State.remoteWaits (s : State) (a : Nat) : Bool :=
  match s.target (s.redirect a) with
  | some (.remote i, _) => match s.route i with | some q => decide (54 < (s.link q).outstanding.length) | none => false
  | _ => false

/-! ### Lists (R472 to R474) -/

/-- Index, subindex and offset of an address in space 2 (R473). -/
def dictAddress (a : Nat) : Nat × Nat × Nat := (field a 48 16, field a 40 8, a % 2 ^ 32)

/-- The check of a list entry in space 2, as READ_BLOCK or WRITE_BLOCK would be checked (R58, R63, R473). -/
def State.dmaCheck (s : State) (write : Bool) (idx sub off len : Nat) : Status :=
  match entryOf idx sub with
  | none => firstFailure (s.busyFor idx sub ++ s.presence idx sub)
  | some e => firstFailure (s.blockFails e idx sub off len (if write then s.accessW e false else accessR e ++ s.captureBusy idx sub))

/-- Whether the address and length of a list entry are aligned; in space 2 the last may end at the entry's size (R473,
R474). -/
def dmaAligned (space a len : Nat) (last : Bool) : Bool :=
  if space = 2 then
    let p := dictAddress a
    p.2.2 % 64 == 0 && (len % 64 == 0 || (last && match entryOf p.1 p.2.1 with
      | some e => p.2.2 + len == e.ty.size | none => true))
  else a % 64 == 0 && len % 64 == 0

/-- One list entry reached: 16 bytes from the list space, checked. A link or an entry of length 0 moves no data (R472 to
R474). -/
def Burst.fetch (b : Burst) (x : Answers) (c : Nat) (write : Bool) (u : Cursor) : Part Cursor :=
  let i := 0x9500 + c
  let n := u.count
  if u.left ≠ 0 ∨ u.last then .ok b u
  else
    let raw := if b.s.rdN i 2 = 1 then b.takeHost c n x.pcieOk 16 5 else b.matrixRead x c n u.next 16
    raw.andThen fun b e =>
      let a := beField e 0 8
      let len := beField e 8 4
      let flags := beField e 12 4
      let space := b.s.rdN i (if write then 5 else 3)
      let last := bit flags 0
      if 4 ≤ flags then b.fail c n 9
      else if bit flags 1 then
        if len ≠ 0 then b.fail c n 9
        else if a % 64 ≠ 0 then b.fail c n 1
        else .ok b { u with next := a, left := 0, last := last }
      else if !dmaAligned space a len last then b.fail c n 1
      else if len = 0 then .ok b { u with next := u.next + 16, count := if last then n else n + 1, last := last }
      else if space = 2 then
        let p := dictAddress a
        if field a 32 8 ≠ 0 then b.fail c n 9
        else match b.s.dmaCheck write p.1 p.2.1 p.2.2 len with
          | .done => .ok b { u with next := u.next + 16, addr := a, left := len, last := last }
          | st => ({ b with s := b.s.wrN i 0x0F st.code } : Burst).fail c n 8
      else .ok b { u with next := u.next + 16, addr := a, left := len, last := last }

/-- A list after `n` bytes of its entry (R474). -/
def Cursor.advance (u : Cursor) (n : Nat) : Cursor :=
  { u with addr := u.addr + n, left := u.left - n, count := if u.left = n ∧ !u.last then u.count + 1 else u.count }

/-- Bytes for space 2 gathered: those that continue the last run join it (R473). -/
def gather (l : List (Nat × List Byte)) (a : Nat) (v : List Byte) : List (Nat × List Byte) :=
  match l.getLast? with
  | some p => if p.1 + p.2.length = a then l.dropLast ++ [(p.1, p.2 ++ v)] else l ++ [(a, v)]
  | none => [(a, v)]

/-! ### Bursts (R474, R475) -/

/-- Whether a list has nothing more. -/
def Cursor.ended (u : Cursor) : Bool := u.last && u.left == 0

/-- The lists of a channel where they stand. -/
def State.putChan (s : State) (c : Nat) (x : Chan) : State :=
  { s with mat := { s.mat with chans := lput c x s.mat.chans } }

/-- The data of one burst: `n` bytes from source to destination (R473, R474). -/
def Burst.move (b : Burst) (x : Answers) (c : Nat) (ch : Chan) (n : Nat) : Part Unit :=
  let i := 0x9500 + c
  let data : Part (List Byte) := match b.s.rdN i 3 with
    | 0 => b.matrixRead x c ch.src.count ch.src.addr n
    | 1 => b.takeHost c ch.src.count x.pcieOk n 5
    | _ =>
      let p := dictAddress ch.src.addr
      .ok b (padTo n (slice (b.s.view p.1 p.2.1).str p.2.2 n))
  data.andThen fun b v =>
    let wrote : Part Chan := match b.s.rdN i 5 with
      | 0 => (b.matrixWrite x c ch.dst.count ch.dst.addr v).andThen fun b _ => .ok b ch
      | 1 => .ok { b with s := b.s.emit (.hostWrite ch.dst.addr v) } ch
      | _ => .ok b { ch with gathered := gather ch.gathered ch.dst.addr v }
    wrote.andThen fun b ch =>
      let t := (b.s.bump i 0x0C 64 n).bump 0x9540 2 64 n
      .ok { b with s := t.putChan c { ch with src := ch.src.advance n, dst := ch.dst.advance n } } ()

/-- DMA_BURST: a running channel moves up to 256 bytes that lie within one source entry and one destination entry, after it
has fetched the entries it reaches; one that reaches a link or an empty entry goes on with its next burst (R474).
`host` is what PCIe and remote reads return in it, in the order in which the burst asks. -/
def execDmaBurst (c : Fin 64) (host : List Byte) (pcieOk matrixOk memoryOk : Bool) (s : State) :
    Host.Outcome State Fault Refusal :=
  .next (match lget c.val s.mat.chans with
    | none => s
    | some ch =>
      if s.rdN (0x9500 + c.val) 0x0A ≠ 1 then s
      else if [ch.src.next, ch.src.addr, ch.dst.next, ch.dst.addr].any s.remoteWaits then s
      else
        let x : Answers := { pcieOk := pcieOk, matrixOk := matrixOk, memoryOk := memoryOk }
        let b : Burst := { s := s, host := host }
        let r := (b.fetch x c.val false ch.src).andThen fun b src =>
          (b.fetch x c.val true ch.dst).andThen fun b dst =>
            let ch := { ch with src := src, dst := dst }
            let b : Burst := { b with s := b.s.putChan c.val ch }
            if src.ended && decide (0 < dst.left) then b.fail c.val dst.count 2
            else if dst.ended && decide (0 < src.left) then b.fail c.val src.count 2
            else if src.left = 0 ∨ dst.left = 0 then .ok b ()
            else b.move x c.val ch (min 256 (min src.left dst.left))
        match r with
        | .ok b _ => b.s
        | .stop t => t)

/-! ### Completion (R473, R476, R477) -/

/-- The gathered bytes of space 2, each run one WRITE_BLOCK: the status of the first refused, or DONE. -/
def State.applyGathered (s : State) (c : Nat) : List (Nat × List Byte) → Status × State
  | [] => (.done, s)
  | g :: r =>
    let p := dictAddress g.1
    let w := s.writeBlockItem (.dma c) p.1 p.2.1 p.2.2 g.2
    match w.1 with
    | .done => w.2.applyGathered c r
    | st => (st, s)

/-- DMA_COMPLETE: both lists have ended and the last write has left the engine. Toward host memory with its writeback there
too nothing is left to answer (R476, R477). -/
def execDmaComplete (c : Fin 64) (s : State) : Host.Outcome State Fault Refusal :=
  .next (match lget c.val s.mat.chans with
    | none => s
    | some ch =>
      let i := 0x9500 + c.val
      if s.rdN i 0x0A ≠ 1 ∨ !ch.src.ended ∨ !ch.dst.ended then s
      else
        let r := s.applyGathered c.val ch.gathered
        match r.1 with
        | .done =>
          let posted := decide (s.rdN i 5 = 1) && (s.rdN i 2 == 1 || s.rdN i 7 == 0)
          (r.2.wrB i 0x0B posted).dmaEnd c.val 3 0
        | st => (r.2.wrN i 0x0F st.code).dmaError c.val ch.dst.count 8)

/-- DMA_SETTLED: every write answer of an ended job has returned (R477). -/
def execDmaSettled (c : Fin 64) (s : State) : Host.Outcome State Fault Refusal :=
  .next (
    let i := 0x9500 + c.val
    let owed := [0, 1].any fun q => (s.link q).outstanding.any fun x => x.2.1 == c.val && x.2.2
    s.whenB ((s.rdN i 0x0A == 3 || s.rdN i 0x0A == 4) && !owed) fun t => t.wrB i 0x0B true)

/-- DMA_LATE_ERROR: a write answer with an error after completion (R477). -/
def execDmaLateError (c : Fin 64) (s : State) : Host.Outcome State Fault Refusal :=
  .next (s.dmaLate c.val)

end Sys2Proof.Machine
end

