-- ==== Sys2Proof/Machine/Boundary.lean ====
section
/-! DEFINITION. What time brings: received thread LFs (spec/08_line_frame.md R234 to R236), the transmit multiframe boundary
(spec/01_architecture.md R24 to R26, R41), and the microsecond that passes while no command waits (log entry 2). -/

namespace Sys2Proof.Machine

/-- LF_RECEIVE: a thread LF at the expected position, the queued frames that it spoils, the seals that lose their stitches with it, and the
protected circuits it may switch (R234, R340, R438). -/
def execLfReceive (k : Fin 32) (lf : LfIn) (s : State) : Host.Outcome State Fault Refusal :=
  .next (
    let t := s.lfIn k.val lf
    let accepted := decide (t.rdN (0x3450 + k.val) 4 ≠ s.rdN (0x3450 + k.val) 4)
    (if accepted then t else t.dropBad lf.frames).sealGone.protAll)

/-! ### The transmit multiframe boundary (R24) -/

/-- The CBR tenants that hold transmit positions, each with the client bits that arrived for it: CSF while its ingress port
has lost its signal, or tenant traffic is stopped (R41, R256, R261). -/
def State.mapAll (s : State) (arrived : List (Nat × List Bool)) : State :=
  s.each (s.placed.filter fun n => s.tenOn n && s.tenCbr n && decide (s.txLit n ≠ 0)) fun t n =>
    t.mapCbr n (lgetD n [] arrived) (t.rdBit (0x7010 + t.rdN (0x4000 + n) 4) 0x14 0 || !t.ctl.traffic)

/-- MULTIFRAME_BOUNDARY, while the transmitter sends frames: the counter advances, staged copies swap at their target, and
every block begins the new multiframe (R24 to R26, R41, R243, R379). -/
def execMultiframeBoundary (arrived : List (Nat × List Bool)) (s : State) : Host.Outcome State Fault Refusal :=
  .next (
    let sends := decide (s.base = .discover ∨ s.base = .service ∨ s.base = .test)
    if !sends || !s.on 16 then s
    else
      let t := (s.inc64 0x1020 1).departure
      let t : State := { t with ctl := { t.ctl with traffic := decide (t.base = .service ∨ t.base = .test) } }
      let t := (t.commitDue.epochsDue.channelMessages.txBoundary).mapAll arrived
      t.sealDefects.faultCheck.protAll)

/-! ### The microsecond (log entry 2) -/

/-- Device time moves on by a microsecond; at the next whole second a time that was set becomes the device time (R372,
R386). -/
def State.timeTick (s : State) : State :=
  if !s.on 0 then s
  else
    let now := s.devTime + 65536000
    let second := 65536000000000
    match s.tim.setPending with
    | some v =>
      if now / second = s.devTime / second then { s with devTime := now }
      else { s with devTime := v + now % second, tim := { s.tim with setPending := none } }
    | none => { s with devTime := now }

/-- ISLAND resets of isolated targets that carry nothing: the cluster memories and the key foundry (R468, R526, log entry
59). -/
def State.isolationTick (s : State) : State :=
  let free := s.mat.isolated.filter fun t =>
    (decide (4 ≤ t ∧ t < 16) && s.clItem (t - 4) == 255) || t == 19
  if free = [] then s
  else
    let t := s.each free fun u k => u.islandReset (if k = 19 then 111 else 88 + k) 3
    let t : State := { t with mat := { t.mat with isolated := t.mat.isolated.filter fun k => !free.contains k } }
    t.whenB (t.mat.isolated == []) fun u => u.clear 0x9480 7 1

/-- One microsecond passes (log entry 2): device time and level-mode events (R372, R542), a dump whose time has come (R547),
frames over the bobbin links (R435), requests waiting (R73), a wake in L2 (R421), isolated targets (R468), and each millisecond the
timing candidates, which E65 judges within 10 ms of a change (R367, R369), and the count of the time in SHED (R540). -/
def State.tick (s : State) : State :=
  let t : State := { s with uptime := s.uptime + 1 }
  let t := t.timeTick
  let t := t.whenB (t.on 0) State.countLevels
  let t := t.serverTick.dumpTick.bobDispatch.isolationTick.wakeTick
  let t := t.whenB (t.uptime % 1000 == 0 && t.pow.configured && t.itemRuns 8) State.timingReturn
  t.whenB (t.inMode .shed && t.uptime % 1000 == 0) fun u => u.inc32 0x1011 0x0C

end Sys2Proof.Machine
end

