-- ==== Sys2Proof/Machine/Dispatch.lean ====
section
/-! DEFINITION. One arm per command: its meaning. -/

namespace Sys2Proof.Machine

def exec (i : Instr) (s : State) : Host.Outcome State Fault Refusal :=
  match i with
  | .por => Sys2Proof.Machine.execPor s
  | .railGroupGood group => Sys2Proof.Machine.execRailGroupGood group s
  | .porRelease straps vddCoreMv romOk => Sys2Proof.Machine.execPorRelease straps vddCoreMv romOk s
  | .pinReset lowNs => Sys2Proof.Machine.execPinReset lowNs s
  | .mainSupplyLoss rail => Sys2Proof.Machine.execMainSupplyLoss rail s
  | .warmRequest => Sys2Proof.Machine.execWarmRequest s
  | .warmReset vddCoreMv romOk => Sys2Proof.Machine.execWarmReset vddCoreMv romOk s
  | .restartRequest => Sys2Proof.Machine.execRestartRequest s
  | .hitlessRestart => Sys2Proof.Machine.execHitlessRestart s
  | .hitlessRestartComplete => Sys2Proof.Machine.execHitlessRestartComplete s
  | .lockstepMismatch => Sys2Proof.Machine.execLockstepMismatch s
  | .requestQuiet => Sys2Proof.Machine.execRequestQuiet s
  | .requestDiscover => Sys2Proof.Machine.execRequestDiscover s
  | .requestService => Sys2Proof.Machine.execRequestService s
  | .requestTest => Sys2Proof.Machine.execRequestTest s
  | .requestSafe => Sys2Proof.Machine.execRequestSafe s
  | .modeTransitionComplete => Sys2Proof.Machine.execModeTransitionComplete s
  | .discoverAdvance => Sys2Proof.Machine.execDiscoverAdvance s
  | .discoverTimeout => Sys2Proof.Machine.execDiscoverTimeout s
  | .bootComplete => Sys2Proof.Machine.execBootComplete s
  | .canvasPhaseComplete failed => Sys2Proof.Machine.execCanvasPhaseComplete failed s
  | .manifestChecked bank answers => Sys2Proof.Machine.execManifestChecked bank answers s
  | .multiframeBoundary arrived => Sys2Proof.Machine.execMultiframeBoundary arrived s
  | .read r items => Sys2Proof.Machine.execRead r items s
  | .write r items => Sys2Proof.Machine.execWrite r items s
  | .readBlock r idx sub off len => Sys2Proof.Machine.execReadBlock r idx sub off len s
  | .writeBlock r idx sub off data => Sys2Proof.Machine.execWriteBlock r idx sub off data s
  | .pendingCopyExpiry entry => Sys2Proof.Machine.execPendingCopyExpiry entry s
  | .transaction r target items => Sys2Proof.Machine.execTransaction r target items s
  | .subscribe r items => Sys2Proof.Machine.execSubscribe r items s
  | .notify number => Sys2Proof.Machine.execNotify number s
  | .neighbourSolicitation target => Sys2Proof.Machine.execNeighbourSolicitation target s
  | .icmpEcho dst ident seqNo data => Sys2Proof.Machine.execIcmpEcho dst ident seqNo data s
  | .dadComplete duplicate => Sys2Proof.Machine.execDadComplete duplicate s
  | .plcaBeacon => Sys2Proof.Machine.execPlcaBeacon s
  | .mdioRead op => Sys2Proof.Machine.execMdioRead op s
  | .mdioWrite op => Sys2Proof.Machine.execMdioWrite op s
  | .mdioReadBlock op => Sys2Proof.Machine.execMdioReadBlock op s
  | .mdioWriteBlock op => Sys2Proof.Machine.execMdioWriteBlock op s
  | .mdioBadOpcode op opcode => Sys2Proof.Machine.execMdioBadOpcode op opcode s
  | .winDataAccess a => Sys2Proof.Machine.execWinDataAccess a s
  | .mailboxDoorbell ctrl len msg => Sys2Proof.Machine.execMailboxDoorbell ctrl len msg s
  | .mailboxStatusClear mask => Sys2Proof.Machine.execMailboxStatusClear mask s
  | .proposeReceive p pages => Sys2Proof.Machine.execProposeReceive p pages s
  | .ackReceive num target => Sys2Proof.Machine.execAckReceive num target s
  | .refuseReceive num target reason => Sys2Proof.Machine.execRefuseReceive num target reason s
  | .confirmReceive num target => Sys2Proof.Machine.execConfirmReceive num target s
  | .withdrawReceive num => Sys2Proof.Machine.execWithdrawReceive num s
  | .ackDeadline num => Sys2Proof.Machine.execAckDeadline num s
  | .confirmDeadline num => Sys2Proof.Machine.execConfirmDeadline num s
  | .referenceModeWrite m => Sys2Proof.Machine.execReferenceModeWrite m s
  | .threadRetireDark k => Sys2Proof.Machine.execThreadRetireDark k s
  | .threadIslandGate k => Sys2Proof.Machine.execThreadIslandGate k s
  | .readmissionTimeout k => Sys2Proof.Machine.execReadmissionTimeout k s
  | .foregroundCalibrationDone r => Sys2Proof.Machine.execForegroundCalibrationDone r s
  | .synthLockLoss => Sys2Proof.Machine.execSynthLockLoss s
  | .synthLockReturn => Sys2Proof.Machine.execSynthLockReturn s
  | .calrefCheck measuredUv => Sys2Proof.Machine.execCalrefCheck measuredUv s
  | .rotationStart a => Sys2Proof.Machine.execRotationStart a s
  | .spareMeasurementDone a m => Sys2Proof.Machine.execSpareMeasurementDone a m s
  | .shadowWindowEnd a r taps => Sys2Proof.Machine.execShadowWindowEnd a r taps s
  | .releasedSliceMeasured a m => Sys2Proof.Machine.execReleasedSliceMeasured a m s
  | .sliceFault a slice watch => Sys2Proof.Machine.execSliceFault a slice watch s
  | .sliceRetire => Sys2Proof.Machine.execSliceRetire s
  | .sliceReadmit m => Sys2Proof.Machine.execSliceReadmit m s
  | .dacTrimStep d timing gain offset => Sys2Proof.Machine.execDacTrimStep d timing gain offset s
  | .dacImageTimer d level => Sys2Proof.Machine.execDacImageTimer d level s
  | .gainLoopUpdate j measured readback => Sys2Proof.Machine.execGainLoopUpdate j measured readback s
  | .fespiRetry j readback => Sys2Proof.Machine.execFespiRetry j readback s
  | .hostMute => Sys2Proof.Machine.execHostMute s
  | .hostUnmute => Sys2Proof.Machine.execHostUnmute s
  | .muteRampEnd => Sys2Proof.Machine.execMuteRampEnd s
  | .enableSettleExpiry => Sys2Proof.Machine.execEnableSettleExpiry s
  | .dpdLocalProposal p set residual => Sys2Proof.Machine.execDpdLocalProposal p set residual s
  | .dpdFeedbackReceive rx m => Sys2Proof.Machine.execDpdFeedbackReceive rx m s
  | .dpdFbTimeout => Sys2Proof.Machine.execDpdFbTimeout s
  | .lowPowerExit => Sys2Proof.Machine.execLowPowerExit s
  | .lowPowerRiseStep => Sys2Proof.Machine.execLowPowerRiseStep s
  | .acqSignalConfirmed => Sys2Proof.Machine.execAcqSignalConfirmed s
  | .acqFrequencyFound mhz => Sys2Proof.Machine.execAcqFrequencyFound mhz s
  | .warmVerifyDone pass metrics => Sys2Proof.Machine.execWarmVerifyDone pass metrics s
  | .cdCandidateDone metric => Sys2Proof.Machine.execCdCandidateDone metric s
  | .cdSweepDone => Sys2Proof.Machine.execCdSweepDone s
  | .clockToneLock => Sys2Proof.Machine.execClockToneLock s
  | .blindEqConverged k => Sys2Proof.Machine.execBlindEqConverged k s
  | .pilotSearchDone k => Sys2Proof.Machine.execPilotSearchDone k s
  | .carrierLock k timeUs => Sys2Proof.Machine.execCarrierLock k timeUs s
  | .acqStepTimeout step k => Sys2Proof.Machine.execAcqStepTimeout step k s
  | .rxLosSet => Sys2Proof.Machine.execRxLosSet s
  | .rxLosClear => Sys2Proof.Machine.execRxLosClear s
  | .rxClkLolSet => Sys2Proof.Machine.execRxClkLolSet s
  | .rxClkLolClear => Sys2Proof.Machine.execRxClkLolClear s
  | .foHighTimer above => Sys2Proof.Machine.execFoHighTimer above s
  | .thrLolSet k => Sys2Proof.Machine.execThrLolSet k s
  | .thrSnrLowTimer k below => Sys2Proof.Machine.execThrSnrLowTimer k below s
  | .frontEndUpdate c skew gain quad => Sys2Proof.Machine.execFrontEndUpdate c skew gain quad s
  | .cdTrackUpdate residual => Sys2Proof.Machine.execCdTrackUpdate residual s
  | .nlScaleAdapt k scale => Sys2Proof.Machine.execNlScaleAdapt k scale s
  | .cycleSlip k => Sys2Proof.Machine.execCycleSlip k s
  | .easelArm => Sys2Proof.Machine.execEaselArm s
  | .easelAbort => Sys2Proof.Machine.execEaselAbort s
  | .easelTrigger => Sys2Proof.Machine.execEaselTrigger s
  | .easelCaptureDone data => Sys2Proof.Machine.execEaselCaptureDone data s
  | .codewordRelease k llrs => Sys2Proof.Machine.execCodewordRelease k llrs s
  | .budgetCapUpdate power => Sys2Proof.Machine.execBudgetCapUpdate power s
  | .fecWindowEnd k => Sys2Proof.Machine.execFecWindowEnd k s
  | .forcedFailure c => Sys2Proof.Machine.execForcedFailure c s
  | .lfReceive k lf => Sys2Proof.Machine.execLfReceive k lf s
  | .lfLofTimer k oof => Sys2Proof.Machine.execLfLofTimer k oof s
  | .lfOhlTimer => Sys2Proof.Machine.execLfOhlTimer s
  | .pageAdopt k page => Sys2Proof.Machine.execPageAdopt k page s
  | .tenOvfClear n => Sys2Proof.Machine.execTenOvfClear n s
  | .pmVerdictCommit => Sys2Proof.Machine.execPmVerdictCommit s
  | .ingressFrame p number bytes => Sys2Proof.Machine.execIngressFrame p number bytes s
  | .cellRequest cycle rs => Sys2Proof.Machine.execCellRequest cycle rs s
  | .egressFrameStart p fcsOk => Sys2Proof.Machine.execEgressFrameStart p fcsOk s
  | .shaperPosition n first => Sys2Proof.Machine.execShaperPosition n first s
  | .pauseRepeat p => Sys2Proof.Machine.execPauseRepeat p s
  | .pauseReceive p quanta => Sys2Proof.Machine.execPauseReceive p quanta s
  | .pfcReceive p cls => Sys2Proof.Machine.execPfcReceive p cls s
  | .pauseExpiry p cls => Sys2Proof.Machine.execPauseExpiry p cls s
  | .localFaultTimer p clear => Sys2Proof.Machine.execLocalFaultTimer p clear s
  | .tenantAllocate n => Sys2Proof.Machine.execTenantAllocate n s
  | .tenantFree n => Sys2Proof.Machine.execTenantFree n s
  | .exactAdd => Sys2Proof.Machine.execExactAdd s
  | .exactDelete => Sys2Proof.Machine.execExactDelete s
  | .exactLookUp => Sys2Proof.Machine.execExactLookUp s
  | .resizeCalendarBuild num => Sys2Proof.Machine.execResizeCalendarBuild num s
  | .s3DarkenFirstSet => Sys2Proof.Machine.execS3DarkenFirstSet s
  | .s3DarkenSecondSet => Sys2Proof.Machine.execS3DarkenSecondSet s
  | .s3Relight => Sys2Proof.Machine.execS3Relight s
  | .shedMaskTimeout k => Sys2Proof.Machine.execShedMaskTimeout k s
  | .wrappedKeyLoad n data => Sys2Proof.Machine.execWrappedKeyLoad n data s
  | .eraseEvenSlot n => Sys2Proof.Machine.execEraseEvenSlot n s
  | .eraseOddSlot n => Sys2Proof.Machine.execEraseOddSlot n s
  | .sealHeaderReceive n h m => Sys2Proof.Machine.execSealHeaderReceive n h m s
  | .tagReceive n tag lfsAccepted frames => Sys2Proof.Machine.execTagReceive n tag lfsAccepted frames s
  | .derivedKeyWrite n => Sys2Proof.Machine.execDerivedKeyWrite n s
  | .receiveKeyDerive n => Sys2Proof.Machine.execReceiveKeyDerive n s
  | .keyPairGenerated => Sys2Proof.Machine.execKeyPairGenerated s
  | .keyshareShareReceive rx payload => Sys2Proof.Machine.execKeyshareShareReceive rx payload s
  | .ecdhDone => Sys2Proof.Machine.execEcdhDone s
  | .keyshareConfirmReceive rx payload => Sys2Proof.Machine.execKeyshareConfirmReceive rx payload s
  | .loadByDeviceKey slot data => Sys2Proof.Machine.execLoadByDeviceKey slot data s
  | .loadByKek slot data => Sys2Proof.Machine.execLoadByKek slot data s
  | .managementSlotErase slot => Sys2Proof.Machine.execManagementSlotErase slot s
  | .entropyTestFail bits => Sys2Proof.Machine.execEntropyTestFail bits s
  | .entropyRetest bits => Sys2Proof.Machine.execEntropyRetest bits s
  | .drbgReseed => Sys2Proof.Machine.execDrbgReseed s
  | .helloReceive rx payload => Sys2Proof.Machine.execHelloReceive rx payload s
  | .offerReceive rx payload => Sys2Proof.Machine.execOfferReceive rx payload s
  | .acceptReceive rx payload => Sys2Proof.Machine.execAcceptReceive rx payload s
  | .faultReceive rx payload => Sys2Proof.Machine.execFaultReceive rx payload s
  | .timeReceive rx payload arrival => Sys2Proof.Machine.execTimeReceive rx payload arrival s
  | .picotBadPacket rx body => Sys2Proof.Machine.execPicotBadPacket rx body s
  | .picotPacketSent => Sys2Proof.Machine.execPicotPacketSent s
  | .helloTimer => Sys2Proof.Machine.execHelloTimer s
  | .offerRepeat => Sys2Proof.Machine.execOfferRepeat s
  | .shareRepeat => Sys2Proof.Machine.execShareRepeat s
  | .faultPeriodic => Sys2Proof.Machine.execFaultPeriodic s
  | .timePeriod => Sys2Proof.Machine.execTimePeriod s
  | .dpdWindowComplete x y => Sys2Proof.Machine.execDpdWindowComplete x y s
  | .picotLosTimer => Sys2Proof.Machine.execPicotLosTimer s
  | .candidateFail r cause => Sys2Proof.Machine.execCandidateFail r cause s
  | .waitToRestoreExpiry r offset => Sys2Proof.Machine.execWaitToRestoreExpiry r offset s
  | .dpllLock => Sys2Proof.Machine.execDpllLock s
  | .holdoverUpdate u => Sys2Proof.Machine.execHoldoverUpdate u s
  | .xoFailDetect => Sys2Proof.Machine.execXoFailDetect s
  | .xoRecovery => Sys2Proof.Machine.execXoRecovery s
  | .timeExchange => Sys2Proof.Machine.execTimeExchange s
  | .transferSecond => Sys2Proof.Machine.execTransferSecond s
  | .crossingCalibration ps => Sys2Proof.Machine.execCrossingCalibration ps s
  | .timeStep => Sys2Proof.Machine.execTimeStep s
  | .setTime t => Sys2Proof.Machine.execSetTime t s
  | .phaseAdjust ns => Sys2Proof.Machine.execPhaseAdjust ns s
  | .ppsOutEdge => Sys2Proof.Machine.execPpsOutEdge s
  | .timeOfDayUpdate => Sys2Proof.Machine.execTimeOfDayUpdate s
  | .laneSignalDetect l => Sys2Proof.Machine.execLaneSignalDetect l s
  | .laneAdaptationDone l ok state => Sys2Proof.Machine.execLaneAdaptationDone l ok state s
  | .laneRetryTimer l => Sys2Proof.Machine.execLaneRetryTimer l s
  | .pcsAligned p => Sys2Proof.Machine.execPcsAligned p s
  | .markerReceive b m => Sys2Proof.Machine.execMarkerReceive b m s
  | .markerTransmit q => Sys2Proof.Machine.execMarkerTransmit q s
  | .laneRetireCommand b => Sys2Proof.Machine.execLaneRetireCommand b s
  | .laneReadmitCommand b => Sys2Proof.Machine.execLaneReadmitCommand b s
  | .laneReadmitTimer b => Sys2Proof.Machine.execLaneReadmitTimer b s
  | .portIdleEnter q => Sys2Proof.Machine.execPortIdleEnter q s
  | .portIdleExit q => Sys2Proof.Machine.execPortIdleExit q s
  | .injectSingle l => Sys2Proof.Machine.execInjectSingle l s
  | .injectContinuous l => Sys2Proof.Machine.execInjectContinuous l s
  | .perstAssert => Sys2Proof.Machine.execPerstAssert s
  | .perstDeassert => Sys2Proof.Machine.execPerstDeassert s
  | .wakeCause c => Sys2Proof.Machine.execWakeCause c s
  | .pmeStatusClear => Sys2Proof.Machine.execPmeStatusClear s
  | .pmeTurnOff => Sys2Proof.Machine.execPmeTurnOff s
  | .initReceive q f distributed => Sys2Proof.Machine.execInitReceive q f distributed s
  | .tenantFlitReceive q f => Sys2Proof.Machine.execTenantFlitReceive q f s
  | .requestFlitReceive q f => Sys2Proof.Machine.execRequestFlitReceive q f s
  | .responseFlitReceive q f => Sys2Proof.Machine.execResponseFlitReceive q f s
  | .nakReceive q f => Sys2Proof.Machine.execNakReceive q f s
  | .flitCrcFail q => Sys2Proof.Machine.execFlitCrcFail q s
  | .nullFlitDue q => Sys2Proof.Machine.execNullFlitDue q s
  | .timeFlitReceive q f => Sys2Proof.Machine.execTimeFlitReceive q f s
  | .protFlitReceive q f => Sys2Proof.Machine.execProtFlitReceive q f s
  | .creditTimeout q vc => Sys2Proof.Machine.execCreditTimeout q vc s
  | .errorCounterLeak q => Sys2Proof.Machine.execErrorCounterLeak q s
  | .linkRestartTimer q => Sys2Proof.Machine.execLinkRestartTimer q s
  | .linkTakeDown q => Sys2Proof.Machine.execLinkTakeDown q s
  | .linkRestart q => Sys2Proof.Machine.execLinkRestart q s
  | .dridaWriteGroupWide item fromMaster => Sys2Proof.Machine.execDridaWriteGroupWide item fromMaster s
  | .resequenceTimeout n => Sys2Proof.Machine.execResequenceTimeout n s
  | .holdOffExpiry j protect => Sys2Proof.Machine.execHoldOffExpiry j protect s
  | .protectionWtrExpiry j => Sys2Proof.Machine.execProtectionWtrExpiry j s
  | .protectionClear j => Sys2Proof.Machine.execProtectionClear j s
  | .protectionLockout j => Sys2Proof.Machine.execProtectionLockout j s
  | .protectionForced j => Sys2Proof.Machine.execProtectionForced j s
  | .protectionManual j => Sys2Proof.Machine.execProtectionManual j s
  | .alertReport causes low => Sys2Proof.Machine.execAlertReport causes low s
  | .clearAlerts mask => Sys2Proof.Machine.execClearAlerts mask s
  | .heartbeatMiss n engine => Sys2Proof.Machine.execHeartbeatMiss n engine s
  | .engineTrap n => Sys2Proof.Machine.execEngineTrap n s
  | .moveSourceStopped => Sys2Proof.Machine.execMoveSourceStopped s
  | .moveDestinationRunning => Sys2Proof.Machine.execMoveDestinationRunning s
  | .clusterCheckDone n pass => Sys2Proof.Machine.execClusterCheckDone n pass s
  | .historyWrite w => Sys2Proof.Machine.execHistoryWrite w s
  | .clusterMoveOff n => Sys2Proof.Machine.execClusterMoveOff n s
  | .clusterRetire n => Sys2Proof.Machine.execClusterRetire n s
  | .clusterReadmit n => Sys2Proof.Machine.execClusterReadmit n s
  | .matrixDecodeFault master channel addr => Sys2Proof.Machine.execMatrixDecodeFault master channel addr s
  | .targetTimeout target => Sys2Proof.Machine.execTargetTimeout target s
  | .dmaStart c => Sys2Proof.Machine.execDmaStart c s
  | .dmaStop c => Sys2Proof.Machine.execDmaStop c s
  | .dmaBurst c host pcieOk matrixOk memoryOk => Sys2Proof.Machine.execDmaBurst c host pcieOk matrixOk memoryOk s
  | .dmaComplete c => Sys2Proof.Machine.execDmaComplete c s
  | .dmaSettled c => Sys2Proof.Machine.execDmaSettled c s
  | .dmaLateError c => Sys2Proof.Machine.execDmaLateError c s
  | .correctedError mem addr syndrome inst => Sys2Proof.Machine.execCorrectedError mem addr syndrome inst s
  | .uncorrectableRead mem addr syndrome inst master both => Sys2Proof.Machine.execUncorrectableRead mem addr syndrome inst master both s
  | .scrubRead mem word stored inst => Sys2Proof.Machine.execScrubRead mem word stored inst s
  | .marchTestLine mem line inst mismatch => Sys2Proof.Machine.execMarchTestLine mem line inst mismatch s
  | .retirePage => Sys2Proof.Machine.execRetirePage s
  | .retireBank => Sys2Proof.Machine.execRetireBank s
  | .clearLog => Sys2Proof.Machine.execClearLog s
  | .commitSettings => Sys2Proof.Machine.execCommitSettings s
  | .commitComplete ok => Sys2Proof.Machine.execCommitComplete ok s
  | .erasePersistence => Sys2Proof.Machine.execErasePersistence s
  | .flashEraseSector => Sys2Proof.Machine.execFlashEraseSector s
  | .flashEraseBlock => Sys2Proof.Machine.execFlashEraseBlock s
  | .flashProgram => Sys2Proof.Machine.execFlashProgram s
  | .flashRead => Sys2Proof.Machine.execFlashRead s
  | .flashBlankCheck => Sys2Proof.Machine.execFlashBlankCheck s
  | .flashCommandDone ok => Sys2Proof.Machine.execFlashCommandDone ok s
  | .flashWindowTimeout => Sys2Proof.Machine.execFlashWindowTimeout s
  | .bankCheck answers => Sys2Proof.Machine.execBankCheck answers s
  | .bankActivateHitless answers => Sys2Proof.Machine.execBankActivateHitless answers s
  | .bankActivateAtReset answers => Sys2Proof.Machine.execBankActivateAtReset answers s
  | .updateStepDone ok flashAnswers => Sys2Proof.Machine.execUpdateStepDone ok flashAnswers s
  | .bootRecordWriteDone => Sys2Proof.Machine.execBootRecordWriteDone s
  | .acceptTrial => Sys2Proof.Machine.execAcceptTrial s
  | .raiseSecurityFuse => Sys2Proof.Machine.execRaiseSecurityFuse s
  | .rewriteBootRecord => Sys2Proof.Machine.execRewriteBootRecord s
  | .avsTargetUpdate pathMv => Sys2Proof.Machine.execAvsTargetUpdate pathMv s
  | .setPointWrite mv => Sys2Proof.Machine.execSetPointWrite mv s
  | .voltageStepRise step mv => Sys2Proof.Machine.execVoltageStepRise step mv s
  | .voltageStepReturn mv => Sys2Proof.Machine.execVoltageStepReturn mv s
  | .pwrWarnAssert widthNs => Sys2Proof.Machine.execPwrWarnAssert widthNs s
  | .pwrWarnReturn => Sys2Proof.Machine.execPwrWarnReturn s
  | .thermalSample temps => Sys2Proof.Machine.execThermalSample temps s
  | .shedEntry => Sys2Proof.Machine.execShedEntry s
  | .shedExit => Sys2Proof.Machine.execShedExit s
  | .pmBoundary => Sys2Proof.Machine.execPmBoundary s
  | .pmSyncEdge sinceNs => Sys2Proof.Machine.execPmSyncEdge sinceNs s
  | .pmSyncMissing => Sys2Proof.Machine.execPmSyncMissing s
  | .dumpNow => Sys2Proof.Machine.execDumpNow s
  | .dumpComplete => Sys2Proof.Machine.execDumpComplete s
  | .dumpStreamCopy => Sys2Proof.Machine.execDumpStreamCopy s
  | .hkRegularPass => Sys2Proof.Machine.execHkRegularPass s
  | .hkSlotDone slot conversions => Sys2Proof.Machine.execHkSlotDone slot conversions s
  | .hkInjectTrigger source => Sys2Proof.Machine.execHkInjectTrigger source s
  | .hkInjectNow => Sys2Proof.Machine.execHkInjectNow s
  | .pinResetRelease straps vddCoreMv romOk => Sys2Proof.Machine.execPinResetRelease straps vddCoreMv romOk s
  | .laneSignalLoss l => Sys2Proof.Machine.execLaneSignalLoss l s
  | .requestAcceptTimeout q f => Sys2Proof.Machine.execRequestAcceptTimeout q f s
  | .bobbinTimeExchange q => Sys2Proof.Machine.execBobbinTimeExchange q s
  | .deviceStateWrite d3 msix table => Sys2Proof.Machine.execDeviceStateWrite d3 msix table s
  | .pcieLinkTrained width speed => Sys2Proof.Machine.execPcieLinkTrained width speed s

end Sys2Proof.Machine
end

