-- ==== Sys2Proof/WellFormed.lean ====
section
/-! DEFINITION. What a well-formed command is: every operand within the field that the rule of its row carries it in. The
meanings are total and give the spec's answer to a well-formed command; `exec` itself does not ask for it. -/

namespace Sys2Proof

/-- A number that a field of `w` bits can carry. -/
def fits (w v : Nat) : Bool := decide (v < 2 ^ w)

/-- A number that a two's complement field of `w` bits can carry (R46). -/
def fitsInt (w : Nat) (v : Int) : Bool := decide (-(2 ^ (w - 1) : Int) ≤ v ∧ v < 2 ^ (w - 1))

/-- A value that a WRITE item can carry, its length being a U16 (R57). -/
def valueWf (v : List Byte) : Bool := fits 16 v.length

/-- A source: an IPv6 address with its port, MDIO, the mailbox or one of the 64 DMA channels (R73, R473). -/
def Source.wf : Source → Bool
  | .udp addr port => fits 128 addr && fits 16 port
  | .mdio => true
  | .mailbox => true
  | .dma channel => decide (channel < 64)

/-- The authentication part: slot U8, counter U64 and a tag of 16 bytes (R77). -/
def Auth.wf (a : Auth) : Bool := fits 8 a.slot && fits 64 a.counter && decide (a.tag.length = 16)

/-- The header of a request (R56). -/
def Req.wf (r : Req) : Bool := r.src.wf && fits 16 r.port && fits 8 r.version && fits 16 r.seq && r.auth.all Auth.wf

/-- A READ item: index U16, subindex U8 (R57). -/
def RdItem.wf (i : RdItem) : Bool := fits 16 i.idx && fits 8 i.sub

/-- A WRITE item: index U16, subindex U8, type U8 and a value with a U16 length (R57). -/
def WrItem.wf (i : WrItem) : Bool := fits 16 i.idx && fits 8 i.sub && fits 8 i.ty && valueWf i.val

/-- The items of a READ; the header counts them in a U8 (R56). -/
def readItemsWf (l : List RdItem) : Bool := fits 8 l.length && l.all RdItem.wf

/-- The items of a WRITE or TRANSACTION; the header counts them in a U8 (R56). -/
def writeItemsWf (l : List WrItem) : Bool := fits 8 l.length && l.all WrItem.wf

/-- The address of a block: index U16, subindex U8, offset U32 (R57). -/
def blockWf (idx sub off : Nat) : Bool := fits 16 idx && fits 8 sub && fits 32 off

/-- A Clause 45 access and the window registers it finds (R69). -/
def MdioOp.wf (o : MdioOp) : Bool :=
  fits 5 o.prtad && fits 5 o.dev && fits 16 o.index && fits 8 o.sub && fits 8 o.ty && fits 16 o.len && fits 32 o.off

/-- A Clause 45 access to a register (R69). -/
def RegAccess.wf (a : RegAccess) : Bool := fits 5 a.prtad && fits 5 a.dev && fits 16 a.reg

/-- The items of a SUBSCRIBE, each with its period (R57). -/
def subscribeWf (l : List (RdItem × Nat)) : Bool := fits 8 l.length && l.all fun x => x.1.wf && fits 16 x.2

/-- What precedes a packet: a normalised correlation is at most one, and the estimate is an I32 (R351, R365). -/
def PicotRx.wf (r : PicotRx) : Bool := decide (r.correlation ≤ 1000) && fitsInt 32 r.afc

/-- A measured frequency offset is an I32 (R390). -/
def RefFail.wf : RefFail → Bool
  | .frequency offset => fitsInt 32 offset
  | _ => true

/-- The message of the transaction channel (R241). -/
def Propose.wf (p : Propose) : Bool :=
  fits 32 p.num && fits 64 p.target && fits 32 p.entMask && fits 32 p.stateMask && fits 32 p.newStates && fits 32 p.mapMask &&
    decide (p.codes.length = 32) && p.codes.all (fits 8) && decide (p.digests.length = 32) && p.digests.all (fits 32)

/-- An Ethernet frame: VLAN ID of 12 bits and PCP of 3, MPLS label of 20 bits and TC of 3 (R281). -/
def Frame.wf (f : Frame) : Bool :=
  (f.vlan.all fun v => fits 12 v.1 && fits 3 v.2) && (f.mpls.all fun m => fits 20 m.1 && fits 3 m.2) && fits 16 f.len

/-- A cell request: its frame's length in 16 bits, its protection tag in 32 (R289, R437). -/
def CellReq.wf (r : CellReq) : Bool := fits 16 r.len && r.seqNo.all (fits 32) && decide (r.bytes.length ≤ 16000)

/-- A thread LF: 2 048 overhead bytes, an arrival stamp, and tenants below 4 096 (R231, R237). -/
def LfIn.wf (l : LfIn) : Bool :=
  decide (l.overhead.length = 2048) && fits 96 l.stamp && fits 32 l.index && (l.payload.all fun p => p.1 < 4096) && l.frames.all fun p => p.1 < 4096

/-- A slice's corrections: 16-bit words and a 10-byte bandwidth correction (R120, R140). -/
def SliceCorr.wf (c : SliceCorr) : Bool :=
  fits 64 c.trim && fitsInt 16 c.offset && fitsInt 16 c.gain && fitsInt 16 c.skew && decide (c.bandwidth.length = 10)

/-- A residual: 16-bit words and a bandwidth in parts per million (R123). -/
def Residual.wf (r : Residual) : Bool :=
  fitsInt 16 r.offset && fitsInt 16 r.gain && fitsInt 16 r.skew && fitsInt 32 r.bandwidth

/-- What the measurement of a slice gives. -/
def SliceMeasure.wf (m : SliceMeasure) : Bool := m.found.wf && m.left.wf && m.corr.wf

/-- What foreground calibration left of residuals: slices of the 4 ADCs of 152 (R117, R124). -/
def ForeResult.wf (r : ForeResult) : Bool :=
  (r.left.all fun f => decide (f.1.1 < 4) && decide (f.1.2 < 152) && f.2.wf) && fits 32 r.durationUs && fits 32 r.calrefUv

/-- A set of 48 complex coefficients (R158). -/
def dpdSetWf (b : List Byte) : Bool := decide (b.length = 192)

/-- A DPD_FEEDBACK message (R161). -/
def DpdMsg.wf (m : DpdMsg) : Bool :=
  fits 64 m.first && fits 64 m.last && dpdSetWf m.corr && fitsInt 16 m.residual && fitsInt 16 m.cd

/-- The 20 480 LLRs of a codeword, or 15 360 in G1 (R202, R204). -/
def llrsWf (l : List Int) : Bool := decide (l.length = 20480) || decide (l.length = 15360)

/-- A mapping page: a count and that many entries of 4 bytes, 16 388 bytes at most (R246). -/
def pageWf (b : List Byte) : Bool := decide (4 ≤ b.length) && decide (b.length ≤ 16388)

/-- The payload of a picot packet, whose length is a U8 (R354). -/
def picotPayloadWf (b : List Byte) : Bool := fits 8 b.length

/-- A bobbin alignment marker (R402). -/
def Marker.wf (m : Marker) : Bool :=
  fits 3 m.lane && fits 1 m.port && fits 2 m.position && fits 8 m.maskNow && fits 8 m.maskNext && fits 8 m.retire &&
    fits 64 m.switchAt && fits 64 m.counter

/-- The type field and payload of a flit (R428). -/
def FlitBody.wf : FlitBody → Bool
  | .null => true
  | .init position size code digest => fits 2 position && fits 8 size && fits 8 code && decide (digest.length = 4)
  | .tenant n _ _ valid piece _ cls tag data =>
    fits 12 n && decide (1 ≤ valid) && decide (valid ≤ 112) && fits 2 piece && fits 3 cls && tag.all (fits 32) && decide (data.length ≤ 112)
  | .request _ tag len addr data => fits 8 tag && decide (1 ≤ len) && decide (len ≤ 64) && fits 64 addr && decide (data.length ≤ 64)
  | .response tag status data => fits 8 tag && fits 4 status && decide (data.length ≤ 112)
  | .nak expected => fits 12 expected
  | .time t1 t2 t3 t4 ql _ => fitsInt 64 t1 && fitsInt 64 t2 && fitsInt 64 t3 && fitsInt 64 t4 && fits 8 ql
  | .prot group cmd number _ _ _ => fits 8 group && fits 8 cmd && fits 16 number

/-- A flit with its header fields (R428). -/
def Flit.wf (f : Flit) : Bool :=
  fits 2 f.source && fits 2 f.dest && fits 12 f.seqNo && fits 12 f.acked && fits 8 f.vc0 && fits 8 f.vc1 && f.body.wf

/-- The kinds of flit that the receive rows are about (R428). -/
def FlitBody.isInit : FlitBody → Bool | .init .. => true | _ => false
def FlitBody.isTenant : FlitBody → Bool | .tenant .. => true | _ => false
def FlitBody.isRequest : FlitBody → Bool | .request .. => true | _ => false
def FlitBody.isResponse : FlitBody → Bool | .response .. => true | _ => false
def FlitBody.isNak : FlitBody → Bool | .nak .. => true | _ => false
def FlitBody.isTime : FlitBody → Bool | .time .. => true | _ => false
def FlitBody.isProt : FlitBody → Bool | .prot .. => true | _ => false

/-- What a memory reports of a word: its byte address, an 8-bit syndrome and its instance (R481, R482, R486). -/
def eccWf (addr syndrome inst : Nat) : Bool := fits 40 addr && fits 8 syndrome && fits 16 inst

/-- A well-formed command. -/
def Instr.wf (i : Instr) : Bool :=
  match i with
  | .por => true
  | .railGroupGood _group => true
  | .porRelease _straps vddCoreMv _romOk => fits 16 vddCoreMv
  | .pinReset lowNs => fits 64 lowNs
  | .mainSupplyLoss _rail => true
  | .warmRequest => true
  | .warmReset vddCoreMv _romOk => fits 16 vddCoreMv
  | .restartRequest => true
  | .hitlessRestart => true
  | .hitlessRestartComplete => true
  | .lockstepMismatch => true
  | .requestQuiet => true
  | .requestDiscover => true
  | .requestService => true
  | .requestTest => true
  | .requestSafe => true
  | .modeTransitionComplete => true
  | .discoverAdvance => true
  | .discoverTimeout => true
  | .bootComplete => true
  | .canvasPhaseComplete _failed => true
  | .manifestChecked _bank _answers => true
  | .multiframeBoundary arrived => arrived.all fun a => decide (a.1 < 4096)
  | .read r items => r.wf && readItemsWf items
  | .write r items => r.wf && writeItemsWf items
  | .readBlock r idx sub off len => r.wf && blockWf idx sub off && fits 16 len
  | .writeBlock r idx sub off data => r.wf && blockWf idx sub off && fits 16 data.length
  | .pendingCopyExpiry entry => fits 24 entry
  | .transaction r target items => r.wf && fits 64 target && writeItemsWf items
  | .subscribe r items => r.wf && subscribeWf items
  | .notify number => fits 32 number
  | .neighbourSolicitation target => fits 128 target
  | .icmpEcho dst ident seqNo data => fits 128 dst && fits 16 ident && fits 16 seqNo && fits 16 data.length
  | .dadComplete _duplicate => true
  | .plcaBeacon => true
  | .mdioRead op => op.wf
  | .mdioWrite op => op.wf
  | .mdioReadBlock op => op.wf
  | .mdioWriteBlock op => op.wf
  | .mdioBadOpcode op opcode => op.wf && decide (opcode = 0 ∨ 4 < opcode) && fits 3 opcode
  | .winDataAccess a => a.wf
  | .mailboxDoorbell _ctrl len msg => fits 32 len && decide (msg.length ≤ 4096)
  | .mailboxStatusClear _mask => true
  | .proposeReceive p pages => p.wf && pages.all fun g => g.1 < 32
  | .ackReceive num target => fits 32 num && fits 64 target
  | .refuseReceive num target reason => fits 32 num && fits 64 target && fits 4 reason
  | .confirmReceive num target => fits 32 num && fits 64 target
  | .withdrawReceive num => fits 32 num
  | .ackDeadline num => fits 32 num
  | .confirmDeadline num => fits 32 num
  | .referenceModeWrite m => fits 8 m
  | .threadRetireDark _k => true
  | .threadIslandGate _k => true
  | .readmissionTimeout _k => true
  | .foregroundCalibrationDone r => r.wf
  | .synthLockLoss => true
  | .synthLockReturn => true
  | .calrefCheck measuredUv => fits 32 measuredUv
  | .rotationStart _a => true
  | .spareMeasurementDone _a m => m.wf
  | .shadowWindowEnd _a r taps => r.wf && decide (taps.length ≤ 5) && taps.all (fitsInt 16)
  | .releasedSliceMeasured _a m => m.wf
  | .sliceFault _a _slice _watch => true
  | .sliceRetire => true
  | .sliceReadmit m => m.wf
  | .dacTrimStep _d timing gain offset => fitsInt 16 timing && fitsInt 16 gain && fitsInt 16 offset
  | .dacImageTimer _d level => fitsInt 16 level
  | .gainLoopUpdate _j measured readback => fits 16 measured && fits 16 readback
  | .fespiRetry _j readback => fits 16 readback
  | .hostMute => true
  | .hostUnmute => true
  | .muteRampEnd => true
  | .enableSettleExpiry => true
  | .dpdLocalProposal _p set residual => dpdSetWf set && fitsInt 16 residual
  | .dpdFeedbackReceive rx m => rx.wf && m.wf
  | .dpdFbTimeout => true
  | .lowPowerExit => true
  | .lowPowerRiseStep => true
  | .acqSignalConfirmed => true
  | .acqFrequencyFound mhz => fitsInt 32 mhz
  | .warmVerifyDone _pass metrics => metrics.length == 9 && metrics.all (fits 32)
  | .cdCandidateDone metric => fits 32 metric
  | .cdSweepDone => true
  | .clockToneLock => true
  | .blindEqConverged _k => true
  | .pilotSearchDone _k => true
  | .carrierLock _k timeUs => fits 64 timeUs
  | .acqStepTimeout step _k => fits 8 step
  | .rxLosSet => true
  | .rxLosClear => true
  | .rxClkLolSet => true
  | .rxClkLolClear => true
  | .foHighTimer _above => true
  | .thrLolSet _k => true
  | .thrSnrLowTimer _k _below => true
  | .frontEndUpdate _c skew gain quad => fitsInt 16 skew && fitsInt 16 gain && fitsInt 16 quad
  | .cdTrackUpdate residual => fitsInt 32 residual
  | .nlScaleAdapt _k scale => fitsInt 16 scale
  | .cycleSlip _k => true
  | .easelArm => true
  | .easelAbort => true
  | .easelTrigger => true
  | .easelCaptureDone data => decide (data.length ≤ 524288) && data.all fun v => decide (v.length ≤ 65536)
  | .codewordRelease _k llrs => llrsWf llrs
  | .budgetCapUpdate power => fits 32 power
  | .fecWindowEnd _k => true
  | .forcedFailure c => fits 8 c
  | .lfReceive _k lf => lf.wf
  | .lfLofTimer _k _oof => true
  | .lfOhlTimer => true
  | .pageAdopt _k page => pageWf page
  | .tenOvfClear _n => true
  | .pmVerdictCommit => true
  | .ingressFrame _p _id b => fits 16 b.length
  | .cellRequest cycle rs => fits 64 cycle && rs.all CellReq.wf
  | .egressFrameStart _p _fcsOk => true
  | .shaperPosition _n _first => true
  | .pauseRepeat _p => true
  | .pauseReceive _p quanta => fits 16 quanta
  | .pfcReceive _p cls => cls.all fun c => fits 16 c.2
  | .pauseExpiry _p _cls => true
  | .localFaultTimer _p _clear => true
  | .tenantAllocate _n => true
  | .tenantFree _n => true
  | .exactAdd => true
  | .exactDelete => true
  | .exactLookUp => true
  | .resizeCalendarBuild num => fits 32 num
  | .s3DarkenFirstSet => true
  | .s3DarkenSecondSet => true
  | .s3Relight => true
  | .shedMaskTimeout _k => true
  | .wrappedKeyLoad _n data => valueWf data
  | .eraseEvenSlot _n => true
  | .eraseOddSlot _n => true
  | .sealHeaderReceive _n _h m => fits 32 m
  | .tagReceive _n tag _lfsAccepted _frames => decide (tag.length = 16)
  | .derivedKeyWrite _n => true
  | .receiveKeyDerive _n => true
  | .keyPairGenerated => true
  | .keyshareShareReceive rx payload => rx.wf && picotPayloadWf payload
  | .ecdhDone => true
  | .keyshareConfirmReceive rx payload => rx.wf && picotPayloadWf payload
  | .loadByDeviceKey _s data => valueWf data
  | .loadByKek _s data => valueWf data
  | .managementSlotErase _s => true
  | .entropyTestFail bits => decide (bits.length ≤ 4096)
  | .entropyRetest bits => decide (bits.length ≤ 4096)
  | .drbgReseed => true
  | .helloReceive rx payload => rx.wf && picotPayloadWf payload
  | .offerReceive rx payload => rx.wf && picotPayloadWf payload
  | .acceptReceive rx payload => rx.wf && picotPayloadWf payload
  | .faultReceive rx payload => rx.wf && picotPayloadWf payload
  | .timeReceive rx payload arrival => rx.wf && picotPayloadWf payload && fits 96 arrival
  | .picotBadPacket rx body => rx.wf && decide (body.length ≤ 2088)
  | .picotPacketSent => true
  | .helloTimer => true
  | .offerRepeat => true
  | .shareRepeat => true
  | .faultPeriodic => true
  | .timePeriod => true
  | .dpdWindowComplete x y => dpdSetWf x.1 && fitsInt 16 x.2 && dpdSetWf y.1 && fitsInt 16 y.2
  | .picotLosTimer => true
  | .candidateFail _r cause => cause.wf
  | .waitToRestoreExpiry _r offset => fitsInt 32 offset
  | .dpllLock => true
  | .holdoverUpdate u => fits 64 u
  | .xoFailDetect => true
  | .xoRecovery => true
  | .timeExchange => true
  | .transferSecond => true
  | .crossingCalibration ps => fitsInt 32 ps
  | .timeStep => true
  | .setTime t => fits 96 t
  | .phaseAdjust ns => fitsInt 64 ns
  | .ppsOutEdge => true
  | .timeOfDayUpdate => true
  | .laneSignalDetect _l => true
  | .laneAdaptationDone _l _ok state => decide (state.length ≤ 32)
  | .laneRetryTimer _l => true
  | .pcsAligned _p => true
  | .markerReceive _b m => m.wf
  | .markerTransmit _q => true
  | .laneRetireCommand _b => true
  | .laneReadmitCommand _b => true
  | .laneReadmitTimer _b => true
  | .portIdleEnter _q => true
  | .portIdleExit _q => true
  | .injectSingle _l => true
  | .injectContinuous _l => true
  | .perstAssert => true
  | .perstDeassert => true
  | .wakeCause _c => true
  | .pmeStatusClear => true
  | .pmeTurnOff => true
  | .initReceive _q f distributed => f.wf && f.body.isInit && distributed.all fun d => fits 24 d.1
  | .tenantFlitReceive _q f => f.wf && f.body.isTenant
  | .requestFlitReceive _q f => f.wf && f.body.isRequest
  | .responseFlitReceive _q f => f.wf && f.body.isResponse
  | .nakReceive _q f => f.wf && f.body.isNak
  | .flitCrcFail _q => true
  | .nullFlitDue _q => true
  | .timeFlitReceive _q f => f.wf && f.body.isTime
  | .protFlitReceive _q f => f.wf && f.body.isProt
  | .creditTimeout _q _vc => true
  | .errorCounterLeak _q => true
  | .linkRestartTimer _q => true
  | .linkTakeDown _q => true
  | .linkRestart _q => true
  | .dridaWriteGroupWide item _fromMaster => item.wf
  | .resequenceTimeout _n => true
  | .holdOffExpiry _j _protect => true
  | .protectionWtrExpiry _j => true
  | .protectionClear _j => true
  | .protectionLockout _j => true
  | .protectionForced _j => true
  | .protectionManual _j => true
  | .alertReport causes _low => causes.all fun c => c < 32
  | .clearAlerts _mask => true
  | .heartbeatMiss _n _engine => true
  | .engineTrap _n => true
  | .moveSourceStopped => true
  | .moveDestinationRunning => true
  | .clusterCheckDone _n _pass => true
  | .historyWrite _w => true
  | .clusterMoveOff _n => true
  | .clusterRetire _n => true
  | .clusterReadmit _n => true
  | .matrixDecodeFault _master _channel addr => fits 40 addr
  | .targetTimeout target => decide (target < 32)
  | .dmaStart _c => true
  | .dmaStop _c => true
  | .dmaBurst _c host _pcieOk _matrixOk _memoryOk => decide (host.length ≤ 256)
  | .dmaComplete _c => true
  | .dmaSettled _c => true
  | .dmaLateError _c => true
  | .correctedError _mem addr syndrome inst => eccWf addr syndrome inst
  | .uncorrectableRead _mem addr syndrome inst _master _both => eccWf addr syndrome inst
  | .scrubRead _mem word stored inst => fits 40 word && fits 72 stored && fits 16 inst
  | .marchTestLine _mem line inst _mismatch => fits 40 line && fits 16 inst
  | .retirePage => true
  | .retireBank => true
  | .clearLog => true
  | .commitSettings => true
  | .commitComplete _ok => true
  | .erasePersistence => true
  | .flashEraseSector => true
  | .flashEraseBlock => true
  | .flashProgram => true
  | .flashRead => true
  | .flashBlankCheck => true
  | .flashCommandDone _ok => true
  | .flashWindowTimeout => true
  | .bankCheck _answers => true
  | .bankActivateHitless _answers => true
  | .bankActivateAtReset _answers => true
  | .updateStepDone _ok _flashAnswers => true
  | .bootRecordWriteDone => true
  | .acceptTrial => true
  | .raiseSecurityFuse => true
  | .rewriteBootRecord => true
  | .avsTargetUpdate pathMv => fits 16 pathMv
  | .setPointWrite mv => fits 16 mv
  | .voltageStepRise _step mv => fits 16 mv
  | .voltageStepReturn mv => fits 16 mv
  | .pwrWarnAssert widthNs => fits 64 widthNs
  | .pwrWarnReturn => true
  | .thermalSample temps => temps.all (fitsInt 16)
  | .shedEntry => true
  | .shedExit => true
  | .pmBoundary => true
  | .pmSyncEdge sinceNs => fits 64 sinceNs
  | .pmSyncMissing => true
  | .dumpNow => true
  | .dumpComplete => true
  | .dumpStreamCopy => true
  | .hkRegularPass => true
  | .hkSlotDone _slot conversions => conversions.all fun c => fits 64 c.2
  | .hkInjectTrigger _source => true
  | .hkInjectNow => true
  | .pinResetRelease _straps vddCoreMv _romOk => fits 16 vddCoreMv
  | .laneSignalLoss _l => true
  | .requestAcceptTimeout _q f => f.wf && f.body.isRequest
  | .bobbinTimeExchange _q => true
  | .deviceStateWrite _d3 _msix table => table.all fun x => decide (x.1 < 1024)
  | .pcieLinkTrained width speed => fits 8 width && fits 8 speed

end Sys2Proof
end

