-- ==== Sys2Proof/Safety.lean ====
section
/-! DEFINITION. What counts as a safe run: no step stops, and the dictionary store and the memories keep their form. -/

namespace Sys2Proof.Machine

/-- The dictionary store and both memories are in canonical form: equal contents are equal data (log entry 6). -/
abbrev State.canonical (s : State) : Prop := dictWf s.dict = true ∧ Memory.wf 0x00 s.mem = true ∧ Memory.wf 0xFF s.flash = true

/-- A host's request is served: identity entries are answered, and the server is not busy (R52, R74). -/
abbrev State.serves (s : State) : Prop := s.identityServed = true ∧ s.serverBusy = false

/-- What was sent last is the answer `st` to a host's write of entry `i`:`j`, with no retry-after (R61). -/
abbrev State.told (t : State) (i j : Nat) (st : Status) : Prop := t.out.head? = some (.answer (key i j) st 0)

/-- What was sent last is the answer BUSY to a host's write of entry `i`:`j`, with some retry-after (R61, R74). -/
abbrev State.toldBusy (t : State) (i j : Nat) : Prop := ∃ ms, t.out.head? = some (.answer (key i j) .busy ms)

/-- A request is taken from the queue and served: the device hears it, does not discard it, has neither it nor its answer,
admits it, is not busy, has no other request in its queue, and it carries 1 to 64 items (R56, R57, R60, R66, R73, R74, R78). -/
abbrev State.takes (s : State) (r : Req) (b : Body) : Prop :=
  s.hears r b = true ∧ s.discards r b = false ∧ (∀ p ∈ s.srv.held, p ≠ (r.src, r.seq)) ∧
    (∀ x ∈ s.srv.served, ¬(x.src = r.src ∧ x.seq = r.seq)) ∧ s.admits r b = true ∧ s.serverBusy = false ∧
    s.srv.engaged = none ∧ s.srv.queue = [] ∧ 1 ≤ b.entries.length ∧ b.entries.length ≤ 64

/-- The state in which a request's items are served: its counter is accepted, and the queue holds it (R73, R78). -/
abbrev State.serving (s : State) (r : Req) : State := (s.acceptCounter r).enqueue

/-- The newest answer kept for repeats is that of request `r`: its status, tag and items, with no retry-after (R56, R57, R60). -/
abbrev State.replied (t : State) (r : Req) (op : Nat) (st : Status) (tag : Nat) (items : List RspItem) : Prop :=
  ∃ a, t.srv.served.head? = some { src := r.src, seq := r.seq, answer := .response r.src op r.seq st 0 tag a items }

/-- Every entry of the dictionary store but those of the listed keys holds what it held. -/
abbrev State.wroteOnly (t s : State) (ks : List Nat) : Prop := ∀ k, k ∉ ks → t.getK k = s.getK k

/-- The flit sent last, where what was sent last is a flit of link `q` (R428). -/
def State.flitSent (t : State) (q : Nat) : Option Flit :=
  match t.out with | .flit p g :: _ => if p = q then some g else none | _ => none

/-- A safe run of `n` steps: every state of it is canonical and every step answers a next state. -/
def safeRun : Nat → State → Prop
  | 0, s => s.canonical
  | n + 1, s => s.canonical ∧ ∃ t, step s = .next t ∧ safeRun n t

end Sys2Proof.Machine
end

