-- ==== Sys2Proof/Certificates/Slice0/Obligations.lean ====
section
/-! DEFINITION. The statements about the block, for the provers. Each says what the spec's rules make of commands in every state
that meets its premises; a docstring names the log entry where a clause rests on a choice of the model. -/

open Sys2Proof Sys2Proof.Machine

/-- A step is the front command's effect on the state with the rest of the queue. -/
def Obligations.StepTakesTheFrontCommand : Prop :=
  ∀ (c : Instr) (r : List Instr) (s : State), s.pending = c :: r → step s = exec c { s with pending := r }

/-- On an empty queue a microsecond passes (the model's choice, log entries 1 and 2): the clock counts it, the queue stays
empty, and device time moves on by a microsecond while PD0 is powered and no new time waits to take force (R372). -/
def Obligations.EmptyQueueLetsAMicrosecondPass : Prop :=
  ∀ s : State, s.pending = [] →
    ∃ t, step s = .next t ∧ t.pending = [] ∧ t.uptime = s.uptime + 1 ∧
      (s.on 0 = true → s.tim.setPending = none → t.devTime = s.devTime + 65536000)

/-- After reset the mode is RESET, no rail group is good, no domain is powered, every entry reads its default, the DACs are
muted, and nothing waits, is held or was sent. -/
def Obligations.ResetLeavesDefaults : Prop :=
  State.reset.ctl.mode = .reset ∧ State.reset.pow.groups = 0 ∧ (∀ d, State.reset.on d = false) ∧
    (∀ i j, State.reset.rd i j = defaultOf (key i j)) ∧ State.reset.tx.muted = true ∧ State.reset.pending = [] ∧
    State.reset.out = [] ∧ State.reset.srv.held = [] ∧ State.reset.tra.staged = [] ∧ State.reset.canonical

/-- Every step keeps the dictionary store and the memories in canonical form. -/
def Obligations.EveryStepKeepsCanonicalForm : Prop :=
  ∀ s t : State, s.canonical → step s = .next t → t.canonical

/-- No command touches the queue, the fuses or the model's clock. -/
def Obligations.CommandsLeaveQueueFusesAndClock : Prop :=
  ∀ (c : Instr) (s t : State), exec c s = .next t → t.pending = s.pending ∧ t.fuse = s.fuse ∧ t.uptime = s.uptime

/-- The one stop: a RESET_N pulse of 1 µs up to 10 µs, whose effect is not defined. Every other command answers a next state
in every state. -/
def Obligations.OnlyAnUndefinedResetPulseStops : Prop :=
  (∀ (n : Nat) (s : State), 1000 ≤ n → n < 10000 → exec (.pinReset n) s = .fault .undefinedResetPulse) ∧
    ∀ (c : Instr) (s : State), (∀ n, c = .pinReset n → n < 1000 ∨ 10000 ≤ n) → ∃ t, exec c s = .next t

/-- The supplies: group n + 1 comes after group n, with group 1 PD0 starts in standby with device time 0, and POR release
latches the straps and begins BOOT. POR resets everything but the flash and the fuses; a PIN reset and a main supply loss
gate PD1 to PD23 and lose the on-chip memories; a pulse under 1 µs is ignored, and RESET_N high latches the straps and
begins BOOT. A WARM reset asked for on 1000:10 is answered DONE and falls due; when it comes, BOOT begins with the on-chip
memories lost, and the supplies and the straps as they were. A HITLESS RESTART falls due on 1000:11 unless a move, an update
or a restart is under way, which answers BUSY; it starts and completes with the mode, the domains and the memories as they
were. Under the premises given for each, these answer a next state: por, railGroupGood, porRelease, pinReset,
mainSupplyLoss, warmRequest, warmReset, restartRequest, hitlessRestart, hitlessRestartComplete, pinResetRelease. -/
def Obligations.SuppliesRiseAndResetsActByKind : Prop :=
  ((∀ (g : Fin 3) (s : State), s.pow.groups = g.val → ∃ t, exec (.railGroupGood g) s = .next t ∧ t.pow.groups = g.val + 1 ∧
       (g = 0 → t.pow.domains = 1 ∧ t.devTime = 0)) ∧
     (∀ (g : Fin 3) (s : State), s.pow.groups ≠ g.val → exec (.railGroupGood g) s = .next s) ∧
     ∀ (straps : BitVec 16) (mv : Nat) (rom : Bool) (s : State), s.pow.groups = 3 → s.pow.released = false → s.pow.pinLow = false →
       ∃ t, exec (.porRelease straps mv rom) s = .next t ∧ t.pow.released = true ∧ t.pow.straps = straps.toNat ∧ t.ctl.mode = .boot) ∧
  ((∀ s : State, s.boot.job = .none → s.boot.commit = none → s.boot.write = .none →
       ∃ t, exec .por s = .next t ∧ t.ctl.mode = .reset ∧ t.dict = [] ∧ t.mem = [] ∧ t.pow.domains = 0 ∧ t.flash = s.flash ∧
         t.fuse = s.fuse) ∧
     (∀ (n : Nat) (s : State), n < 1000 → exec (.pinReset n) s = .next s) ∧
     (∀ (n : Nat) (s : State), 10000 ≤ n → s.pow.released = true → s.pow.pinLow = false →
       ∃ t, exec (.pinReset n) s = .next t ∧ t.ctl.mode = .reset ∧ t.mem = [] ∧ t.pow.pinLow = true ∧
         t.rdN 0x1000 1 = 2) ∧
     (∀ (straps : BitVec 16) (mv : Nat) (rom : Bool) (s : State), s.pow.pinLow = true → s.pow.released = true →
       ∃ t, exec (.pinResetRelease straps mv rom) s = .next t ∧ t.pow.pinLow = false ∧ t.pow.straps = straps.toNat ∧
         t.ctl.mode = .boot) ∧
     (∀ (r : Fin 9) (s : State), r.val < 7 → 2 ≤ s.pow.groups → s.pow.released = true →
       ∃ t, exec (.mainSupplyLoss r) s = .next t ∧ t.ctl.mode = .reset ∧ t.mem = [] ∧ t.pow.groups = 1 ∧ t.pow.released = false) ∧
     ∀ (r : Fin 9) (s : State), 7 ≤ r.val → ∃ t, exec (.mainSupplyLoss r) s = .next t ∧ exec .por s = .next t) ∧
  ((∀ s : State, s.serves → ∃ t, exec .warmRequest s = .next t ∧ t.told 0x1000 0x10 .done ∧ t.pow.warmDue = true ∧ t.ctl = s.ctl) ∧
     (∀ (mv : Nat) (rom : Bool) (s : State), s.pow.warmDue = true →
       ∃ t, exec (.warmReset mv rom) s = .next t ∧ t.ctl.mode = .boot ∧ t.mem = [] ∧ t.pow.straps = s.pow.straps ∧
         t.pow.groups = s.pow.groups) ∧
     ∀ (mv : Nat) (rom : Bool) (s : State), s.pow.warmDue = false → exec (.warmReset mv rom) s = .next s) ∧
  ((∀ s : State, s.serves → s.eng.move = none → s.boot.update = none → s.pow.restartDue = none →
       ∃ t, exec .restartRequest s = .next t ∧ t.told 0x1000 0x11 .done ∧ t.pow.restartDue = some .host) ∧
     (∀ s : State, s.serves → s.eng.move.isSome ∨ s.boot.update.isSome ∨ s.pow.restartDue.isSome →
       ∃ t, exec .restartRequest s = .next t ∧ t.toldBusy 0x1000 0x11 ∧ t.pow = s.pow) ∧
     (∀ s : State, s.pow.restartDue.isSome → s.pow.restarting = false → s.eng.move = none →
       s.ctl.mode ≠ .reset → s.ctl.mode ≠ .boot → ∃ t, exec .hitlessRestart s = .next t ∧ t.pow.restarting = true ∧
         t.pow.restartDue = none ∧ t.ctl = s.ctl ∧ t.pow.domains = s.pow.domains ∧ t.mem = s.mem) ∧
     ∀ s : State, s.pow.restarting = true → s.boot.update = none →
       ∃ t, exec .hitlessRestartComplete s = .next t ∧ t.pow.restarting = false ∧ t.ctl = s.ctl ∧
         t.pow.domains = s.pow.domains ∧ t.mem = s.mem)

/-- R23: outside RESET and BOOT (where R34 rules) a first lockstep mismatch leads to a HITLESS RESTART, and a second within
1 s of it to SAFE. Under the premises given for each, these answer a next state: hitlessRestart, lockstepMismatch. -/
def Obligations.SecondLockstepMismatchLeadsToSafe : Prop :=
  ∀ s : State, s.on 1 = true → s.ctl.mode ≠ .reset → s.ctl.mode ≠ .boot →
    ((∀ u, s.pow.lastMismatch = some u → u + 1000000 < s.uptime) →
      ∃ t, exec .lockstepMismatch s = .next t ∧ t.pow.restartDue.isSome ∧ t.pow.lastMismatch = some s.uptime ∧ t.ctl = s.ctl ∧
        (s.eng.move = none → s.pow.restarting = false →
          ∃ u, exec .hitlessRestart t = .next u ∧ u.pow.restarting = true)) ∧
    ∀ u, s.pow.lastMismatch = some u → s.uptime ≤ u + 1000000 →
      ∃ t, exec .lockstepMismatch s = .next t ∧ t.ctl.mode = .safe

/-- A request on 1001:02 that R32 allows, that no transition or check holds off and that is not the one in force is answered
DONE and shown: QUIET, DISCOVER and TEST become the target of a transition while the mode stays, SERVICE is asked for while
the mode stays, QUIET in QUIET drops the target, and SAFE is the mode at once with cause 2. Leaving QUIET or TEST needs
every check of R102, R302, R346 and R395. A request for the mode in force is DONE and leaves the mode, its transition and
the power state as they are (R40). MODE_TRANSITION_COMPLETE puts the target in force; DISCOVER and TEST wait for foreground
calibration, and from another mode than SERVICE for a configuration that 3400:0D passes (the model's choice, log entry 131).
A transition to SAFE only ends: the mode is SAFE from its cause on. Under the premises given for each, these answer a next
state: requestQuiet, requestDiscover, requestService, requestTest, requestSafe, modeTransitionComplete. -/
def Obligations.ModeRequestsRunToTheirTarget : Prop :=
  ((∀ s : State, s.serves → (s.ctl.mode = .discover ∨ s.ctl.mode = .service ∨ s.ctl.mode = .test ∧ s.leaveChecks = []) →
       s.rdN 0x1001 2 ≠ 2 →
       ∃ t, exec .requestQuiet s = .next t ∧ t.told 0x1001 2 .done ∧ t.rdN 0x1001 2 = 2 ∧ t.ctl.target = some .quiet ∧
         t.ctl.mode = s.ctl.mode) ∧
     (∀ s : State, s.serves → s.ctl.mode = .safe → s.pow.safeCauses = [] → s.ctl.target ≠ some .quiet →
       ∃ t, exec .requestQuiet s = .next t ∧ t.told 0x1001 2 .done ∧ t.rdN 0x1001 2 = 2 ∧ t.ctl.target = some .quiet ∧
         t.ctl.mode = .safe) ∧
     (∀ s : State, s.serves → s.ctl.mode = .quiet → s.rdN 0x1001 2 ≠ 2 →
       ∃ t, exec .requestQuiet s = .next t ∧ t.told 0x1001 2 .done ∧ t.rdN 0x1001 2 = 2 ∧ t.ctl.target = none ∧
         t.ctl.mode = .quiet) ∧
     (∀ s : State, s.serves → s.ctl.mode = .quiet → s.rdN 0x1001 2 ≠ 3 → s.inTransition = false → s.leaveChecks = [] →
       ∃ t, exec .requestDiscover s = .next t ∧ t.told 0x1001 2 .done ∧ t.rdN 0x1001 2 = 3 ∧ t.ctl.target = some .discover ∧
         t.ctl.mode = .quiet) ∧
     (∀ s : State, s.serves → (s.ctl.mode = .service ∨ s.ctl.mode = .test ∧ s.leaveChecks = []) → s.rdN 0x1001 2 ≠ 3 →
       s.inTransition = false →
       ∃ t, exec .requestDiscover s = .next t ∧ t.told 0x1001 2 .done ∧ t.rdN 0x1001 2 = 3 ∧ t.ctl.target = some .discover ∧
         t.ctl.mode = s.ctl.mode) ∧
     (∀ s : State, s.serves → s.ctl.mode = .quiet → s.rdN 0x1001 2 ≠ 6 → s.inTransition = false → s.leaveChecks = [] →
       ∃ t, exec .requestTest s = .next t ∧ t.told 0x1001 2 .done ∧ t.rdN 0x1001 2 = 6 ∧ t.ctl.target = some .test ∧
         t.ctl.mode = .quiet) ∧
     (∀ s : State, s.serves → s.ctl.mode = .discover → s.rdN 0x1001 2 ≠ 4 → s.inTransition = false →
       ∃ t, exec .requestService s = .next t ∧ t.told 0x1001 2 .done ∧ t.rdN 0x1001 2 = 4 ∧ t.ctl = s.ctl) ∧
     (∀ s : State, s.serves → (s.ctl.mode = .quiet ∨ s.ctl.mode = .test) → s.rdN 0x1001 2 ≠ 4 → s.inTransition = false →
       s.leaveChecks = [] →
       ∃ t, exec .requestService s = .next t ∧ t.told 0x1001 2 .done ∧ t.rdN 0x1001 2 = 4 ∧ t.ctl.target = some .discover ∧
         t.ctl.mode = s.ctl.mode) ∧
     ∀ s : State, s.serves → s.ctl.mode ≠ .safe → (s.ctl.mode = .shed ∨ s.rdN 0x1001 2 ≠ 7) →
       (s.ctl.mode = .quiet ∨ s.ctl.mode = .test → s.leaveChecks = []) →
       ∃ t, exec .requestSafe s = .next t ∧ t.told 0x1001 2 .done ∧ t.ctl.mode = .safe ∧ t.rdN 0x1001 4 = 2) ∧
  (∀ s : State, s.serves →
     (s.requestInForce 2 = true → ∃ t, exec .requestQuiet s = .next t ∧ t.told 0x1001 2 .done ∧ t.ctl = s.ctl ∧ t.pow = s.pow) ∧
     (s.requestInForce 3 = true → ∃ t, exec .requestDiscover s = .next t ∧ t.told 0x1001 2 .done ∧ t.ctl = s.ctl ∧ t.pow = s.pow) ∧
     (s.requestInForce 4 = true → ∃ t, exec .requestService s = .next t ∧ t.told 0x1001 2 .done ∧ t.ctl = s.ctl ∧ t.pow = s.pow) ∧
     (s.requestInForce 6 = true → ∃ t, exec .requestTest s = .next t ∧ t.told 0x1001 2 .done ∧ t.ctl = s.ctl ∧ t.pow = s.pow) ∧
     (s.requestInForce 7 = true → ∃ t, exec .requestSafe s = .next t ∧ t.told 0x1001 2 .done ∧ t.ctl = s.ctl ∧ t.pow = s.pow)) ∧
  (∀ s : State, s.pow.restarting = false →
     (s.ctl.target = some .quiet → ∃ t, exec .modeTransitionComplete s = .next t ∧ t.ctl.mode = .quiet ∧ t.ctl.target = none ∧
       t.ctl.traffic = false) ∧
     (s.ctl.target = some .safe → ∃ t, exec .modeTransitionComplete s = .next t ∧ t.ctl.mode = s.ctl.mode ∧
       t.ctl.target = none ∧ t.ctl.traffic = false) ∧
     (∀ m, m = .discover ∨ m = .test → s.ctl.target = some m → s.ctl.mode ≠ .service →
       (s.rdN 0x2000 9 ≠ 1 → s.configCheck = 0 →
         ∃ t, exec .modeTransitionComplete s = .next t ∧ t.ctl.mode = m ∧ t.ctl.target = none) ∧
       (s.rdN 0x2000 9 = 1 ∨ s.configCheck ≠ 0 → exec .modeTransitionComplete s = .next s)) ∧
     (s.ctl.target = some .discover → s.ctl.mode = .service → s.rdN 0x2000 9 ≠ 1 →
       ∃ t, exec .modeTransitionComplete s = .next t ∧ t.ctl.mode = .discover ∧ t.ctl.target = none) ∧
     (s.ctl.target = none → exec .modeTransitionComplete s = .next s))

/-- The power domains follow the mode: a request for DISCOVER or TEST in QUIET powers those of the line, and a transition to
QUIET ends with PD0, PD1 and PD23 alone. Under the premises given for each, these answer a next state: requestDiscover,
requestTest, modeTransitionComplete. -/
def Obligations.PowerDomainsFollowTheMode : Prop :=
  (∀ s : State, s.serves → s.ctl.mode = .quiet → s.inTransition = false → s.leaveChecks = [] →
      (s.rdN 0x1001 2 ≠ 3 → ∃ t, exec .requestDiscover s = .next t ∧ ∀ d < 24, d < 18 ∨ 22 ≤ d → t.on d = true) ∧
      (s.rdN 0x1001 2 ≠ 6 → ∃ t, exec .requestTest s = .next t ∧ ∀ d < 24, d < 18 ∨ 22 ≤ d → t.on d = true)) ∧
    ∀ s : State, s.pow.restarting = false → s.ctl.target = some .quiet →
      ∃ t, exec .modeTransitionComplete s = .next t ∧ ∀ d < 24, t.on d = decide (d = 0 ∨ d = 1 ∨ d = 23)

/-- Under a request for 4 the mode goes from DISCOVER to SERVICE with the five conditions that 1001:07 shows, and not
without them; an entry that has not found them in time is counted and begins acquisition anew. BOOT ends in QUIET, and a
target that does not answer is isolated; without a central memory the device enters SAFE. Under the premises given for each,
these answer a next state: discoverAdvance, discoverTimeout, canvasPhaseComplete, targetTimeout. -/
def Obligations.ServiceConditionsAndBootOutcomes : Prop :=
  ((∀ s : State, s.ctl.mode = .discover → s.rdN 0x1001 2 = 4 → s.conditions = true → s.ctl.target = none →
       s.shedDue = false → s.pow.restarting = false →
       ∃ t, exec .discoverAdvance s = .next t ∧ t.ctl.mode = .service ∧ t.rdN 0x1001 6 = (s.rdN 0x1001 6 + 1) % 2 ^ 32) ∧
     (∀ s : State, s.conditions = false ∨ s.rdN 0x1001 2 ≠ 4 ∨ s.ctl.mode ≠ .discover → exec .discoverAdvance s = .next s) ∧
     ∀ s : State, s.ctl.mode = .discover → s.conditions = false → s.ctl.target = none → s.pow.restarting = false →
       ∃ t, exec .discoverTimeout s = .next t ∧ t.ctl = s.ctl ∧ t.rdN 0x1001 7 / 256 = min 255 (s.rdN 0x1001 7 / 256 + 1)) ∧
  ((∀ (failed : BitVec 12) (s : State), s.ctl.mode = .boot → s.pow.configured = true → s.pow.hold = .none →
       s.rdN 0x1011 2 < 4 → s.rdN 0x1011 3 < 4 → s.rdN 0x1011 4 < 4 →
       ∃ t, exec (.canvasPhaseComplete failed) s = .next t ∧ t.ctl.mode = .quiet) ∧
     (∀ (n : Nat) (s : State), s.on 1 = true → n < 24 → n ≠ 18 →
       ∃ t, exec (.targetTimeout n) s = .next t ∧ n ∈ t.mat.isolated ∧
         (n = 1 ∨ n = 2 ∨ n = 3 → s.ctl.mode ≠ .reset → s.ctl.mode ≠ .boot → t.ctl.mode = .safe) ∧
         (¬(n = 1 ∨ n = 2 ∨ n = 3) → t.ctl = s.ctl)) ∧
     ∀ (n : Nat) (s : State), 24 ≤ n ∨ n = 18 → exec (.targetTimeout n) s = .next s)

/-- The shed ladder: the voltage step rises to the comparator's step and returns to 0, PWR_WARN_N acts by its enable, and
the step in force is the highest of the three. SHED is entered and left when the step in force calls for it, and returns to
the mode it was entered from; S3 darkens its first set, then its second not before 1 ms later, and below S3 all threads are
lit again. Adaptive voltage: the target is rounded up to 5 mV within 600 to 750 mV, and a set point that is a multiple of 5
mV, within 10 mV of the last and not below the target is taken; AVS_LOW is raised while the set point lies below the target.
A thermal sample shows the hottest sensor and all sixteen, and drives the thermal step by TEMP_HIGH. Under the premises
given for each, these answer a next state: s3DarkenFirstSet, s3DarkenSecondSet, s3Relight, avsTargetUpdate, setPointWrite,
voltageStepRise, voltageStepReturn, pwrWarnAssert, pwrWarnReturn, thermalSample, shedEntry, shedExit. -/
def Obligations.ShedStepsSetPointAndThermalSamples : Prop :=
  ((∀ (n : Fin 4) (mv : Nat) (s : State), s.ladderOn = true → 100 * mv < (97 - 2 * n.val) * s.rdN 0x1010 2 →
       ∃ t, exec (.voltageStepRise n mv) s = .next t ∧ t.rdN 0x1011 2 = max (s.rdN 0x1011 2) (n.val + 1) ∧
         (s.ctl.mode ≠ .boot → t.rdN 0x1011 1 = max (t.rdN 0x1011 2) (max (s.rdN 0x1011 3) (s.rdN 0x1011 4)))) ∧
     (∀ (mv : Nat) (s : State), s.ladderOn = true → 98 * s.rdN 0x1010 2 < 100 * mv →
       ∃ t, exec (.voltageStepReturn mv) s = .next t ∧ t.rdN 0x1011 2 = 0 ∧
         (s.ctl.mode ≠ .boot → t.rdN 0x1011 1 = max (s.rdN 0x1011 3) (s.rdN 0x1011 4))) ∧
     (∀ (w : Nat) (s : State), s.ladderOn = true → 100 ≤ w →
       ∃ t, exec (.pwrWarnAssert w) s = .next t ∧ t.pow.warnLow = true ∧ t.viewN 0x1011 0x0D = 1 ∧
         (s.rdB 0x1011 6 = true → t.rdN 0x1011 3 = s.rdN 0x1011 5) ∧ (s.rdB 0x1011 6 = false → t.rdN 0x1011 3 = s.rdN 0x1011 3)) ∧
     (∀ (w : Nat) (s : State), w < 20 → exec (.pwrWarnAssert w) s = .next s) ∧
     ∀ s : State, s.pow.warnLow = true →
       ∃ t, exec .pwrWarnReturn s = .next t ∧ t.pow.warnLow = false ∧ t.viewN 0x1011 0x0D = 0 ∧ t.rdN 0x1011 3 = 0) ∧
  ((∀ s : State, s.shedDue = true → s.ctl.mode ≠ .shed → s.pow.restarting = false →
       ∃ t, exec .shedEntry s = .next t ∧ t.ctl.mode = .shed ∧ t.rdN 0x1001 5 = s.ctl.mode.num ∧ t.base = s.ctl.mode) ∧
     (∀ s : State, s.shedDue = true → s.ctl.mode = .shed → s.pow.restarting = false →
       ∃ t, exec .shedExit s = .next t ∧ t.ctl.mode = s.base ∧ t.rdN 0x1001 5 = 0) ∧
     (∀ s : State, s.s3Acts = true → s.rdN 0x1011 7 = 0 →
       ∃ t, exec .s3DarkenFirstSet s = .next t ∧ t.rdN 0x1011 7 = 1 ∧ ∀ k ∈ s.shedSet 3, k ∈ t.grm.darkened) ∧
     (∀ s : State, s.s3Acts = true → s.rdN 0x1011 7 = 1 → s.grm.darkAt + 1000 ≤ s.uptime →
       ∃ t, exec .s3DarkenSecondSet s = .next t ∧ t.rdN 0x1011 7 = 2 ∧ ∀ k ∈ s.shedSet 2, k ∈ t.grm.darkened) ∧
     ∀ s : State, s.rdN 0x1011 7 ≠ 0 → s.rdN 0x1011 1 < 3 →
       ∃ t, exec .s3Relight s = .next t ∧ t.rdN 0x1011 7 = 0 ∧ t.grm.darkened = []) ∧
  ((∀ (mv : Nat) (s : State), s.on 1 = true →
       ∃ t, exec (.avsTargetUpdate mv) s = .next t ∧ t.rdN 0x1010 1 = max 600 (min 750 (5 * ceilDiv mv 5)) ∧
         t.rdBit 0x1010 6 0 = decide (t.rdN 0x1010 2 < t.rdN 0x1010 1)) ∧
     (∀ (mv : Nat) (s : State), s.serves → s.ctl.mode ≠ .shed → s.ctl.mode ≠ .safe → 600 ≤ mv → mv ≤ 750 → mv % 5 = 0 →
       mv ≤ s.rdN 0x1010 2 + 10 → s.rdN 0x1010 2 ≤ mv + 10 → s.rdN 0x1010 1 ≤ mv →
       ∃ t, exec (.setPointWrite mv) s = .next t ∧ t.told 0x1010 2 .done ∧ t.rdN 0x1010 2 = mv ∧ t.rdBit 0x1010 6 0 = false) ∧
     ∀ (mv : Nat) (s : State), s.serves → s.ctl.mode ≠ .shed → s.ctl.mode ≠ .safe → 600 ≤ mv → mv ≤ 750 →
       mv % 5 ≠ 0 ∨ s.rdN 0x1010 2 + 10 < mv ∨ mv + 10 < s.rdN 0x1010 2 →
       ∃ t, exec (.setPointWrite mv) s = .next t ∧ t.told 0x1010 2 .outOfRange ∧ t.rdN 0x1010 2 = s.rdN 0x1010 2) ∧
  (∀ (temps : List Int) (s : State), s.ladderOn = true → temps.length = 16 → (∀ v ∈ temps, -1000 ≤ v ∧ v ≤ 2000) →
     ∃ t, exec (.thermalSample temps) s = .next t ∧ t.rdI 0x1012 1 ∈ temps ∧ (∀ v ∈ temps, v ≤ t.rdI 0x1012 1) ∧
       temps.getD (t.rdN 0x1012 2) 0 = t.rdI 0x1012 1 ∧
       t.rdS 0x1012 8 = temps.flatMap (fun v => beBytes 2 (unsignedOf 2 v)) ∧
       (s.rdI 0x1012 3 < t.rdI 0x1012 1 → t.rdBit 0x1012 6 0 = true ∧ t.rdN 0x1011 4 = s.rdN 0x1012 4) ∧
       (t.rdI 0x1012 1 ≤ s.rdI 0x1012 3 - 50 → t.rdBit 0x1012 6 0 = false ∧ t.rdN 0x1011 4 = 0))

/-- A multiframe boundary while the transmitter sends frames moves the transmit counter on by one, and lets tenant traffic
run where the mode is SERVICE or TEST. Writing a reference mode makes the written configuration that mode, its threads'
states 1. Under the premises given for each, these answer a next state: multiframeBoundary, referenceModeWrite. -/
def Obligations.MultiframesCountAndReferenceModesConfigure : Prop :=
  ((∀ (arrived : List (Nat × List Bool)) (s : State), (s.base = .discover ∨ s.base = .service ∨ s.base = .test) → s.on 16 = true →
       ∃ t, exec (.multiframeBoundary arrived) s = .next t ∧ t.rdN 0x1020 1 = (s.rdN 0x1020 1 + 1) % 2 ^ 64 ∧
         t.ctl.traffic = decide (t.base = .service ∨ t.base = .test) ∧ t.ctl.mode = s.ctl.mode) ∧
     ∀ (arrived : List (Nat × List Bool)) (s : State), ¬(s.base = .discover ∨ s.base = .service ∨ s.base = .test) ∨ s.on 16 = false →
       exec (.multiframeBoundary arrived) s = .next s) ∧
  ((∀ (m : Nat) (s : State), s.serves → (s.ctl.mode = .quiet ∨ s.ctl.mode = .test) → 1 ≤ m → m ≤ 6 →
       ∃ t, exec (.referenceModeWrite m) s = .next t ∧ t.told 0x3400 5 .done ∧ t.rdN 0x3400 1 = 0 ∧
         (t.rdN 0x3400 2, t.rdN 0x3400 3, t.rdN 0x3400 4) = ((refMode m).1, (refMode m).2.1, (refMode m).2.2.1) ∧
         ∀ k < 32, t.rdN (0x3410 + k) 1 = (refMode m).2.2.2 ∧ t.rdN (0x3410 + k) 3 = 1) ∧
     ∀ (m : Nat) (s : State), s.serves → s.ctl.mode ≠ .quiet → s.ctl.mode ≠ .test → m ≤ 6 →
       ∃ t, exec (.referenceModeWrite m) s = .next t ∧ t.told 0x3400 5 .wrongMode ∧ t.rdN 0x3400 2 = s.rdN 0x3400 2)

/-- Each bank's manifest is checked in BOOT: one that passes is kept, its signature's verification counted, and lets its
sections load; a bank that fails leaves its cause, and the other bank is tried once where BOOT_SRC allows it, or BOOT is
held. With every section's hash right remap is set and the canvas is entered, its versions shown. Record writes: 9C00:0D
starts them while the flash is free, and their end leaves the new record, of the next sequence number, in the copy that is
not in force, and the other copy as it was. Under the premises given for each, these answer a next state: bootComplete,
manifestChecked, bootRecordWriteDone, acceptTrial, raiseSecurityFuse, rewriteBootRecord. -/
def Obligations.BanksAreCheckedAndBootRecordsWritten : Prop :=
  ((∀ (b : Fin 2) (s : State), s.booting = true → s.boot.checked = false → s.bank = b.val →
       ∃ t, exec (.manifestChecked b true) s = .next t ∧
         (s.checkManifest (s.manifest b.val) = 1 →
           t = { s.inc32 0x1040 8 with boot := { s.boot with checked := true, manifest := s.manifestBytes b.val } }) ∧
         (s.checkManifest (s.manifest b.val) ≠ 1 → t.boot.checked = false ∧
           t.rdN 0x9C00 (3 + b.val) = s.checkManifest (s.manifest b.val))) ∧
     (∀ (b : Fin 2) (ok : Bool) (s : State), s.booting = true → s.bank = b.val →
       ok = false ∨ s.boot.checked = false ∧ s.checkManifest (s.manifest b.val) ≠ 1 →
       ∃ t, exec (.manifestChecked b ok) s = .next t ∧ t.boot.checked = false ∧ t.ctl = s.ctl ∧
         t.rdN 0x9C00 (3 + b.val) = (if ok then s.checkManifest (s.manifest b.val) else 8) ∧
         (s.bootSrc = 0 → s.boot.triedOther = false → t.rdN 0x9C00 2 = 1 - b.val ∧ t.rdBit 0x9C00 0x0B 0 = true ∧ t.pow = s.pow) ∧
         (s.bootSrc ≠ 0 ∨ s.boot.triedOther = true → t.pow.hold = .noCanvas ∧ t.rdN 0x9C00 2 = b.val)) ∧
     (∀ (b : Fin 2) (ok : Bool) (s : State), s.booting = false ∨ s.bank ≠ b.val → exec (.manifestChecked b ok) s = .next s) ∧
     (∀ s : State, s.booting = true → s.boot.checked = true → s.bank < 2 →
       s.running.sections.all (s.sectionOk s.bank) = true →
       ∃ t, exec .bootComplete s = .next t ∧ t.pow.configured = true ∧ t.ctl.mode = .boot ∧ t.rdN 0x9480 1 = 1 ∧
         t.rdN 0x9C00 (3 + s.bank) = 1 ∧ t.rdN 0x9C00 5 = s.running.version ∧ t.rdN 0x9C00 6 = s.running.security ∧
         t.tel.hkOn = true) ∧
     (∀ s : State, s.booting = true → s.boot.checked = true → s.bank < 2 →
       s.running.sections.all (s.sectionOk s.bank) = false →
       ∃ t, exec .bootComplete s = .next t ∧ t.pow.configured = false ∧ t.rdN 0x9C00 (3 + s.bank) = 7 ∧
         (s.bootSrc = 0 → s.boot.triedOther = false → t.rdN 0x9C00 2 = 1 - s.bank ∧ t.pow = s.pow) ∧
         (s.bootSrc ≠ 0 ∨ s.boot.triedOther = true → t.pow.hold = .noCanvas)) ∧
     ∀ s : State, s.booting = false ∨ s.boot.checked = false → exec .bootComplete s = .next s) ∧
  ((∀ s : State, s.serves → s.flashBusy = false →
       (∃ t, exec .rewriteBootRecord s = .next t ∧ t.told 0x9C00 0x0D .done ∧ t.boot.write = .rewrite) ∧
       (s.rdN 0x9C00 9 = 1 → ∃ t, exec .acceptTrial s = .next t ∧ t.told 0x9C00 0x0D .done ∧ t.boot.write = .clearTrial) ∧
       (s.rdN 0x9C00 9 ≠ 1 → ∃ t, exec .acceptTrial s = .next t ∧ t.told 0x9C00 0x0D .conflict ∧ t.boot = s.boot) ∧
       (s.rdN 0x9C00 9 ≠ 1 → s.rdN 0x9C00 6 ≤ (s.manifest (1 - s.bank)).security →
         ∃ t, exec .raiseSecurityFuse s = .next t ∧
           if s.secFuse < 64 then t.told 0x9C00 0x0D .done ∧ t.boot.fuse = max s.secFuse (s.rdN 0x9C00 6)
           else t.told 0x9C00 0x0D .exhausted ∧ t.boot = s.boot) ∧
       (s.rdN 0x9C00 9 = 1 ∨ (s.manifest (1 - s.bank)).security < s.rdN 0x9C00 6 →
         ∃ t, exec .raiseSecurityFuse s = .next t ∧ t.told 0x9C00 0x0D .conflict ∧ t.boot = s.boot)) ∧
     (∀ s : State, s.serves → s.flashBusy = true →
       (∃ t, exec .rewriteBootRecord s = .next t ∧ t.toldBusy 0x9C00 0x0D ∧ t.boot = s.boot) ∧
       (∃ t, exec .acceptTrial s = .next t ∧ t.toldBusy 0x9C00 0x0D ∧ t.boot = s.boot) ∧
       ∃ t, exec .raiseSecurityFuse s = .next t ∧ t.toldBusy 0x9C00 0x0D ∧ t.boot = s.boot) ∧
     ∀ (i : Nat) (r : BootRecord) (s : State), s.recordInForce = some (i, r) → i < 2 →
       (s.boot.write = .rewrite → ∃ t, exec .bootRecordWriteDone s = .next t ∧ t.boot.write = .none ∧
         t.flashRead (4096 * (1 - i)) 64 = ({ r with
           seq := (r.seq + 1) % 2 ^ 32, profile := s.rdN 0x9C20 0x0C, dummy := s.rdN 0x9C20 0x0D
           size := s.rdN 0x9C20 8 } : BootRecord).bytes ∧ t.flashRead (4096 * i) 4096 = s.flashRead (4096 * i) 4096) ∧
       (s.boot.write = .clearTrial → ∃ t, exec .bootRecordWriteDone s = .next t ∧ t.boot.write = .none ∧
         t.rdN 0x9C00 9 = 0 ∧ t.rdN 0x9C00 0x0A = 0 ∧
         t.flashRead (4096 * (1 - i)) 64 = ({ r with
           seq := (r.seq + 1) % 2 ^ 32, profile := s.rdN 0x9C20 0x0C, dummy := s.rdN 0x9C20 0x0D
           size := s.rdN 0x9C20 8, trial := false, trialField := 2 ^ 64 - 1 } : BootRecord).bytes ∧
         t.flashRead (4096 * i) 4096 = s.flashRead (4096 * i) 4096) ∧
       ∀ (b : Nat) (hitless : Bool), s.boot.write = .activate b hitless →
         ∃ t, exec .bootRecordWriteDone s = .next t ∧ t.boot.write = .none ∧
           t.flashRead (4096 * (1 - i)) 64 = ({ r with
             seq := (r.seq + 1) % 2 ^ 32, profile := s.rdN 0x9C20 0x0C, dummy := s.rdN 0x9C20 0x0D
             size := s.rdN 0x9C20 8, bank := b, trial := true, trialField := 2 ^ 64 - 1 } : BootRecord).bytes ∧
           t.flashRead (4096 * i) 4096 = s.flashRead (4096 * i) 4096 ∧
           (hitless = true → t.boot.update = none ∧ t.rdN 0x9C00 2 = b ∧ t.rdN 0x9C10 2 = 4) ∧
           (hitless = false → t.boot.update = s.boot.update ∧ t.rdN 0x9C00 2 = s.rdN 0x9C00 2))

/-- A commit is accepted in any served mode but SHED unless a commit, a flash command or an update is in progress, which
answers BUSY; it ends with its image in its slot, which 9C30:07 names, or ABORTED with the flash as it was. Writing 2 leaves
no slot in force. Under the premises given for each, these answer a next state: commitSettings, commitComplete,
erasePersistence. -/
def Obligations.SettingsAreCommittedToTheOtherSlot : Prop :=
  (∀ s : State, s.serves → s.ctl.mode ≠ .shed → s.boot.commit = none → s.boot.job = .none → s.boot.update = none →
      (∃ t, exec .commitSettings s = .next t ∧ t.told 0x9C30 1 .done ∧ t.rdN 0x9C30 2 = 2 ∧ t.rdN 0x9C30 8 = 0 ∧
        t.boot.commit.map (fun p => p.1) = some (match s.slotInForce with | some q => 1 - q | none => 0)) ∧
      ∃ t, exec .erasePersistence s = .next t ∧ t.told 0x9C30 1 .done ∧ t.rdN 0x9C30 3 = 0 ∧ t.rdN 0x9C30 4 = 0 ∧
        t.rdN 0x9C30 7 = 255) ∧
    (∀ s : State, s.serves → s.ctl.mode = .shed →
      (∃ t, exec .commitSettings s = .next t ∧ t.told 0x9C30 1 .wrongMode ∧ t.flash = s.flash) ∧
        ∃ t, exec .erasePersistence s = .next t ∧ t.told 0x9C30 1 .wrongMode ∧ t.flash = s.flash) ∧
    (∀ s : State, s.serves → s.ctl.mode ≠ .shed → s.boot.commit.isSome ∨ s.boot.job ≠ .none ∨ s.boot.update.isSome →
      (∃ t, exec .commitSettings s = .next t ∧ t.toldBusy 0x9C30 1 ∧ t.flash = s.flash ∧ t.boot = s.boot) ∧
        ∃ t, exec .erasePersistence s = .next t ∧ t.toldBusy 0x9C30 1 ∧ t.flash = s.flash ∧ t.boot = s.boot) ∧
    (∀ (slot : Nat) (b : List Byte) (s : State), s.boot.commit = some (slot, b) → b.length ≤ 0x400000 →
      ∃ t, exec (.commitComplete true) s = .next t ∧ t.rdN 0x9C30 2 = 4 ∧ t.rdN 0x9C30 7 = slot ∧ t.boot.commit = none ∧
        t.flashRead (slotBase slot) b.length = b) ∧
    ∀ (slot : Nat) (b : List Byte) (s : State), s.boot.commit = some (slot, b) →
      ∃ t, exec (.commitComplete false) s = .next t ∧ t.rdN 0x9C30 2 = 5 ∧ t.rdN 0x9C30 6 = Status.aborted.code ∧
        t.boot.commit = none ∧ t.flash = s.flash

/-- The flash manager takes a command that keeps its alignment, its size and the protected regions while the flash is free.
The flash manager's commands end: an erase leaves 0xFF, a program its bytes where all were erased, a read fills the buffer,
a blank check says where the first byte that is not 0xFF is; a program over bytes not erased is refused whole, and an erase
or a program that the flash does not carry out is ABORTED. Under the premises given for each, these answer a next state:
flashEraseSector, flashEraseBlock, flashProgram, flashRead, flashBlankCheck, flashCommandDone, flashWindowTimeout. -/
def Obligations.FlashCommandsStartAndEnd : Prop :=
  (∀ s : State, s.serves → s.ctl.mode ≠ .shed → s.flashBusy = false →
     (s.rdN 0x9C20 1 % 4096 = 0 → s.rdN 0x9C20 1 + 4096 ≤ s.flashSize → s.protectedRange (s.rdN 0x9C20 1) 4096 = false →
       ∃ t, exec .flashEraseSector s = .next t ∧ t.told 0x9C20 4 .done ∧ t.rdN 0x9C20 5 = 1 ∧
         t.boot.job = .erase (s.rdN 0x9C20 1) 4096) ∧
     (s.rdN 0x9C20 1 % 65536 = 0 → s.rdN 0x9C20 1 + 65536 ≤ s.flashSize → s.protectedRange (s.rdN 0x9C20 1) 65536 = false →
       ∃ t, exec .flashEraseBlock s = .next t ∧ t.told 0x9C20 4 .done ∧ t.rdN 0x9C20 5 = 1 ∧
         t.boot.job = .erase (s.rdN 0x9C20 1) 65536) ∧
     (s.rdN 0x9C20 2 ≤ (s.rdS 0x9C20 3).length → s.rdN 0x9C20 1 + s.rdN 0x9C20 2 ≤ s.flashSize →
       s.protectedRange (s.rdN 0x9C20 1) (s.rdN 0x9C20 2) = false →
       ∃ t, exec .flashProgram s = .next t ∧ t.told 0x9C20 4 .done ∧ t.rdN 0x9C20 5 = 1 ∧
         t.boot.job = .program (s.rdN 0x9C20 1) ((s.rdS 0x9C20 3).take (s.rdN 0x9C20 2))) ∧
     (s.rdN 0x9C20 1 + s.rdN 0x9C20 2 ≤ s.flashSize →
       (∃ t, exec .flashRead s = .next t ∧ t.told 0x9C20 4 .done ∧ t.boot.job = .read (s.rdN 0x9C20 1) (s.rdN 0x9C20 2)) ∧
         ∃ t, exec .flashBlankCheck s = .next t ∧ t.told 0x9C20 4 .done ∧ t.boot.job = .blank (s.rdN 0x9C20 1) (s.rdN 0x9C20 2)) ∧
     (s.flashSize < s.rdN 0x9C20 1 + s.rdN 0x9C20 2 →
       (∃ t, exec .flashRead s = .next t ∧ t.told 0x9C20 4 .outOfRange ∧ t.boot = s.boot) ∧
         ∃ t, exec .flashBlankCheck s = .next t ∧ t.told 0x9C20 4 .outOfRange ∧ t.boot = s.boot) ∧
     (s.protectedRange (s.rdN 0x9C20 1) 4096 = true →
       ∃ t, exec .flashEraseSector s = .next t ∧ t.told 0x9C20 4 .outOfRange ∧ t.boot = s.boot ∧ t.flash = s.flash)) ∧
  ((∀ (a n : Nat) (s : State), s.boot.job = .erase a n →
       (∃ t, exec (.flashCommandDone true) s = .next t ∧ t.rdN 0x9C20 5 = 2 ∧ t.boot.job = .none ∧
         t.flashRead a n = List.replicate n 0xFF) ∧
       ∃ t, exec (.flashCommandDone false) s = .next t ∧ t.rdN 0x9C20 5 = 4 ∧ t.rdN 0x9C20 6 = Status.aborted.code ∧
         t.boot.job = .none ∧ t.rdN 0x9C20 0x0B = (s.rdN 0x9C20 0x0B + 1) % 2 ^ 32) ∧
     (∀ (a : Nat) (b : List Byte) (s : State), s.boot.job = .program a b → s.firstUnerased a b.length = 0xFFFFFFFF →
       (∃ t, exec (.flashCommandDone true) s = .next t ∧ t.rdN 0x9C20 5 = 2 ∧ t.boot.job = .none ∧ t.flashRead a b.length = b) ∧
       ∃ t, exec (.flashCommandDone false) s = .next t ∧ t.rdN 0x9C20 5 = 4 ∧ t.rdN 0x9C20 6 = Status.aborted.code ∧
         t.boot.job = .none ∧ t.rdN 0x9C20 0x0B = (s.rdN 0x9C20 0x0B + 1) % 2 ^ 32) ∧
     (∀ (a : Nat) (b : List Byte) (ok : Bool) (s : State), s.boot.job = .program a b → s.firstUnerased a b.length ≠ 0xFFFFFFFF →
       ∃ t, exec (.flashCommandDone ok) s = .next t ∧ t.rdN 0x9C20 5 = 3 ∧ t.rdN 0x9C20 6 = Status.conflict.code ∧
         t.flash = s.flash) ∧
     (∀ (a n : Nat) (ok : Bool) (s : State), s.boot.job = .read a n →
       ∃ t, exec (.flashCommandDone ok) s = .next t ∧ t.rdS 0x9C20 3 = s.flashRead a n ∧ t.rdN 0x9C20 5 = 2 ∧ t.flash = s.flash) ∧
     (∀ (a n : Nat) (ok : Bool) (s : State), s.boot.job = .blank a n →
       ∃ t, exec (.flashCommandDone ok) s = .next t ∧ t.rdN 0x9C20 7 = s.firstUnerased a n ∧ t.rdN 0x9C20 5 = 2 ∧
         t.flash = s.flash) ∧
     ∀ s : State, s.on 1 = true →
       ∃ t, exec .flashWindowTimeout s = .next t ∧ t.rdN 0x9C20 0x0B = (s.rdN 0x9C20 0x0B + 1) % 2 ^ 32 ∧ t.flash = s.flash)

/-- An erase, a program, a commit and a record write change no flash byte outside their range. Where a command stores
nothing there, the bytes of memory, the bytes of the flash and the line configuration in force stand: the commands named are
those that may change them. -/
def Obligations.BytesStandOutsideWhatIsStored : Prop :=
  ((∀ (a n x : Nat) (ok : Bool) (s t : State), s.boot.job = .erase a n → x < a ∨ a + n ≤ x →
       exec (.flashCommandDone ok) s = .next t → cellGet 0xFF t.flash x = cellGet 0xFF s.flash x) ∧
     (∀ (a x : Nat) (b : List Byte) (ok : Bool) (s t : State), s.boot.job = .program a b → x < a ∨ a + b.length ≤ x →
       exec (.flashCommandDone ok) s = .next t → cellGet 0xFF t.flash x = cellGet 0xFF s.flash x) ∧
     (∀ (slot x : Nat) (b : List Byte) (ok : Bool) (s t : State), s.boot.commit = some (slot, b) →
       x < slotBase slot ∨ slotBase slot + b.length ≤ x →
       exec (.commitComplete ok) s = .next t → cellGet 0xFF t.flash x = cellGet 0xFF s.flash x) ∧
     (∀ (x : Nat) (s t : State), s.boot.write ≠ .none → 0x2000 ≤ x → exec .bootRecordWriteDone s = .next t →
       cellGet 0xFF t.flash x = cellGet 0xFF s.flash x) ∧
     ∀ (x : Nat) (s t : State), s.serves → s.ctl.mode ≠ .shed → s.flashBusy = false → exec .erasePersistence s = .next t →
       cellGet 0xFF t.flash x = if 0x100000 ≤ x ∧ x < 0x900000 then 0xFF else cellGet 0xFF s.flash x) ∧
  (∀ (c : Instr) (s t : State), exec c s = .next t →
     (match c with
     | .por | .porRelease .. | .pinReset .. | .mainSupplyLoss .. | .warmReset .. | .lockstepMismatch | .requestQuiet
     | .requestDiscover | .requestService | .requestTest | .requestSafe | .modeTransitionComplete | .bootComplete
     | .canvasPhaseComplete .. | .read .. | .write .. | .readBlock .. | .writeBlock .. | .transaction .. | .subscribe ..
     | .mdioRead .. | .mdioWrite .. | .mdioReadBlock .. | .mdioWriteBlock .. | .winDataAccess .. | .mailboxDoorbell ..
     | .markerReceive .. | .markerTransmit .. | .laneRetireCommand .. | .initReceive .. | .tenantFlitReceive ..
     | .requestFlitReceive .. | .responseFlitReceive .. | .nakReceive .. | .flitCrcFail .. | .timeFlitReceive ..
     | .protFlitReceive .. | .creditTimeout .. | .linkRestartTimer .. | .linkTakeDown .. | .linkRestart ..
     | .dridaWriteGroupWide .. | .matrixDecodeFault .. | .dmaStop .. | .dmaBurst .. | .dmaComplete .. | .retirePage
     | .retireBank | .updateStepDone .. | .voltageStepRise .. | .voltageStepReturn .. | .pwrWarnAssert .. | .pwrWarnReturn
     | .thermalSample .. | .pmBoundary | .pmSyncEdge .. | .pmSyncMissing | .dumpComplete | .pinResetRelease ..
     | .requestAcceptTimeout .. => True
     | _ => t.mem = s.mem) ∧
     (match c with
     | .por | .porRelease .. | .pinReset .. | .mainSupplyLoss .. | .warmReset .. | .hitlessRestartComplete
     | .lockstepMismatch | .requestQuiet | .requestDiscover | .requestService | .requestTest | .requestSafe
     | .modeTransitionComplete | .canvasPhaseComplete .. | .read .. | .write .. | .readBlock .. | .writeBlock ..
     | .transaction .. | .subscribe .. | .mdioRead .. | .mdioWrite .. | .mdioReadBlock .. | .mdioWriteBlock ..
     | .winDataAccess .. | .mailboxDoorbell .. | .dridaWriteGroupWide .. | .dmaComplete .. | .commitSettings
     | .commitComplete .. | .erasePersistence | .flashCommandDone .. | .bankCheck .. | .bankActivateHitless ..
     | .bankActivateAtReset .. | .bootRecordWriteDone | .acceptTrial | .raiseSecurityFuse | .rewriteBootRecord
     | .thermalSample .. | .pinResetRelease .. => True
     | _ => t.flash = s.flash) ∧
     (match c with
     | .por | .porRelease .. | .pinReset .. | .mainSupplyLoss .. | .warmReset .. | .lockstepMismatch | .requestQuiet
     | .requestDiscover | .requestService | .requestTest | .requestSafe | .modeTransitionComplete | .canvasPhaseComplete ..
     | .multiframeBoundary .. | .read .. | .write .. | .readBlock .. | .writeBlock .. | .transaction .. | .subscribe ..
     | .mdioRead .. | .mdioWrite .. | .mdioReadBlock .. | .mdioWriteBlock .. | .winDataAccess .. | .mailboxDoorbell ..
     | .threadRetireDark .. | .readmissionTimeout .. | .lfReceive .. | .dridaWriteGroupWide .. | .dmaComplete ..
     | .thermalSample .. | .pinResetRelease .. => True
     | _ => t.cfg = s.cfg))

/-- The bank commands: a check reports what the other bank holds; an activation starts where that bank passes and the
versions suit, and else answers the bank's failure. An update in service moves its next work item to a spare that may carry
it; with every item moved and the supervisor's section right a HITLESS RESTART falls due; a failed hash reverses it, and
reversed it ends with no bank changed. The entropy source starts again when its tests pass on 4 096 samples. Under the
premises given for each, these answer a next state: entropyRetest, bankCheck, bankActivateHitless, bankActivateAtReset,
updateStepDone. -/
def Obligations.BankCommandsUpdatesAndEntropyRetests : Prop :=
  ((∀ (ok : Bool) (s : State), s.serves → s.flashBusy = false →
       ∃ t, exec (.bankCheck ok) s = .next t ∧ t.told 0x9C10 1 .done ∧ t.rdN 0x9C10 3 = s.checkBank (1 - s.bank) ok ∧
         t.rdN 0x9C10 4 = (if ok then (s.manifest (1 - s.bank)).version else s.rdN 0x9C10 4) ∧ t.rdN 0x9C10 6 = 0 ∧ t.flash = s.flash) ∧
     (∀ s : State, s.serves → s.flashBusy = false → (s.ctl.mode = .quiet ∨ s.ctl.mode = .discover ∨ s.ctl.mode = .service ∨
         s.ctl.mode = .test) → s.bootSrc = 0 →
       (∃ t, exec (.bankActivateHitless true) s = .next t ∧ t.rdN 0x9C10 3 = s.checkManifest (s.manifest (1 - s.bank)) ∧
         (s.checkManifest (s.manifest (1 - s.bank)) = 1 →
           (s.manifest (1 - s.bank)).format = s.running.format →
           (s.manifest (1 - s.bank)).hitlessFrom ≤ s.rdN 0x9C00 5 → s.clustersIn 3 ≠ [] →
           t.told 0x9C10 1 .done ∧ t.boot.update.isSome ∧ t.rdN 0x9C10 2 = 2) ∧
         (s.checkManifest (s.manifest (1 - s.bank)) ≠ 1 →
           t.told 0x9C10 1 (firstListed (bankFailure (s.checkManifest (s.manifest (1 - s.bank))))) ∧ t.boot = s.boot)) ∧
       ∃ t, exec (.bankActivateHitless false) s = .next t ∧ t.told 0x9C10 1 .aborted ∧ t.rdN 0x9C10 3 = 8 ∧ t.boot = s.boot) ∧
     ∀ s : State, s.serves → s.flashBusy = false → (s.ctl.mode = .quiet ∨ s.ctl.mode = .discover ∨ s.ctl.mode = .service ∨
         s.ctl.mode = .test ∨ s.ctl.mode = .safe) → s.bootSrc = 0 →
       (∃ t, exec (.bankActivateAtReset true) s = .next t ∧ t.rdN 0x9C10 3 = s.checkManifest (s.manifest (1 - s.bank)) ∧
         (s.checkManifest (s.manifest (1 - s.bank)) = 1 → t.told 0x9C10 1 .done ∧
           t.boot.write = .activate (1 - s.bank) false) ∧
         (s.checkManifest (s.manifest (1 - s.bank)) ≠ 1 →
           t.told 0x9C10 1 (firstListed (bankFailure (s.checkManifest (s.manifest (1 - s.bank))))) ∧ t.boot = s.boot)) ∧
       ∃ t, exec (.bankActivateAtReset false) s = .next t ∧ t.told 0x9C10 1 .aborted ∧ t.rdN 0x9C10 3 = 8 ∧ t.boot = s.boot) ∧
  ((∀ (u : Update) (w d : Nat) (s : State), s.boot.update = some u → s.eng.move = none → u.supervisor = false →
       s.rdN 0x1011 1 = 0 → s.pow.restarting = false → s.updateNext u = some w → s.spareFor w = some d →
       s.updateImageOk u (if u.reversing then s.bank else 1 - s.bank) (some w) = true →
       ∃ t, exec (.updateStepDone true true) s = .next t ∧ t.itemAt w = d ∧ t.boot.update.isSome) ∧
     (∀ (u : Update) (s : State), s.boot.update = some u → s.eng.move = none → u.supervisor = false → u.reversing = false →
       s.rdN 0x1011 1 = 0 → s.pow.restarting = false → s.updateLeft u = [] → s.updateImageOk u (1 - s.bank) none = true →
       ∃ t, exec (.updateStepDone true true) s = .next t ∧ t.pow.restartDue.isSome ∧ t.rdN 0x9C10 2 = 3) ∧
     (∀ (u : Update) (s : State), s.boot.update = some u → s.eng.move = none → u.supervisor = false → u.reversing = false →
       s.rdN 0x1011 1 = 0 → s.pow.restarting = false → s.updateLeft u = [] →
       ∃ t, exec (.updateStepDone false true) s = .next t ∧ t.rdN 0x9C10 2 = 6 ∧ t.rdN 0x9C10 6 = Status.authFail.code ∧
         t.boot.update = some { u with reversing := true, supervisor := false }) ∧
     (∀ (u : Update) (ok answers : Bool) (s : State), s.boot.update = some u → s.eng.move = none → u.supervisor = false →
       u.reversing = true → s.rdN 0x1011 1 = 0 → s.pow.restarting = false → s.updateLeft u = [] →
       ∃ t, exec (.updateStepDone ok answers) s = .next t ∧ t.boot.update = none ∧ t.rdN 0x9C10 2 = 5 ∧
         t.rdN 0x9C00 2 = s.rdN 0x9C00 2) ∧
     ∀ (bits : List Bool) (s : State), s.rdN 0x1040 2 ≠ 0 → s.on 0 = true → 4096 ≤ bits.length →
       (repetitionFails bits = false → proportionFails bits = false →
         ∃ t, exec (.entropyRetest bits) s = .next t ∧ t.rdN 0x1040 2 = 0 ∧ t.sls.drbgUp = true) ∧
       (repetitionFails bits = true ∨ proportionFails bits = true →
         ∃ t, exec (.entropyRetest bits) s = .next t ∧ t.rdN 0x1040 2 = 2 ∧
           t.rdN 0x1040 3 = (s.rdN 0x1040 3 + 1) % 2 ^ 32))

/-- A READ is answered item by item in order; a readable entry answers with its type and value, that of the moment it is
served, the request itself counted in the queue. A READ_BLOCK is answered with exactly the length asked. An access to an
entry that is not there, is locked, or does not allow it is answered in the order of R63 and changes no entry but the counts
of 1030. A WRITE is judged item by item by their entries' rules and answered with the statuses of those judgements; an entry
written alone then holds what its rule gives it. A WRITE_BLOCK likewise. Under the premises given for each, these answer a
next state: read, write, readBlock, writeBlock, pendingCopyExpiry. -/
def Obligations.ReadsAndWritesAreJudgedAndAnswered : Prop :=
  ((∀ (r : Req) (l : List RdItem) (s : State), s.takes r (.read l) →
       (∀ x ∈ ((s.serving r).readItems r.src (roomFor r) l).1, x.status ≠ .busy) →
       ∃ t, exec (.read r l) s = .next t ∧ t.replied r 1 .done 0 ((s.serving r).readItems r.src (roomFor r) l).1) ∧
     (∀ (r : Req) (x : RdItem) (e : Entry) (s : State), s.takes r (.read [x]) → r.src ≠ .mdio → x.idx < 0xF000 →
       s.hasIdx x.idx = true → entryOf x.idx x.sub = some e → e.acc ≠ .wo → e.acc ≠ .key →
       (s.serving r).captureBusy x.idx x.sub = [] →
       8 + 4 * ceilDiv (e.ty.bytes ((s.serving r).view x.idx x.sub)).length 4 ≤ roomFor r →
       ∃ t, exec (.read r [x]) s = .next t ∧
         t.replied r 1 .done 0 [⟨x.idx, x.sub, .done, e.ty.code, 0, e.ty.bytes ((s.serving r).view x.idx x.sub)⟩]) ∧
     ∀ (r : Req) (i j off len : Nat) (e : Entry) (s : State), s.takes r (.readBlock i j off len) → r.src ≠ .mdio → i < 0xF000 →
       s.hasIdx i = true → entryOf i j = some e → e.acc ≠ .wo → e.acc ≠ .key → e.ty.isString = true → off + len ≤ e.ty.size →
       (s.serving r).captureBusy i j = [] → 12 + 4 * ceilDiv len 4 ≤ roomFor r →
       ∃ t, exec (.readBlock r i j off len) s = .next t ∧
         t.replied r 3 .done 0 [⟨i, j, .done, 0, off, padTo len (slice ((s.serving r).view i j).str off len)⟩]) ∧
  ((∀ (r : Req) (x : RdItem) (s : State), s.takes r (.read [x]) → r.src ≠ .mdio → s.hasIdx x.idx = false → x.idx < 0xF000 →
       ∃ t, exec (.read r [x]) s = .next t ∧ t.replied r 1 .done 0 [⟨x.idx, x.sub, .noEntry, 0, 0, []⟩]) ∧
     (∀ (r : Req) (x : RdItem) (s : State), s.takes r (.read [x]) → r.src ≠ .mdio → 0xF000 ≤ x.idx →
       ∃ t, exec (.read r [x]) s = .next t ∧ t.replied r 1 .done 0 [⟨x.idx, x.sub, .sealed, 0, 0, []⟩]) ∧
     (∀ (r : Req) (x : RdItem) (s : State), s.takes r (.read [x]) → r.src ≠ .mdio → x.idx < 0xF000 → s.hasIdx x.idx = true →
       entryOf x.idx x.sub = none →
       ∃ t, exec (.read r [x]) s = .next t ∧ t.replied r 1 .done 0 [⟨x.idx, x.sub, .noSubentry, 0, 0, []⟩]) ∧
     ∀ (r : Req) (x : WrItem) (e : Entry) (s : State), s.takes r (.write [x]) → r.src ≠ .mdio → x.idx < 0xF000 →
       s.hasIdx x.idx = true → entryOf x.idx x.sub = some e → e.acc = .ro →
       ∃ t, exec (.write r [x]) s = .next t ∧ t.replied r 2 .done 0 [statusItem x.idx x.sub .readOnly] ∧
         (∀ p ∈ t.dict, p.1 / 256 ≠ 0x1030 → p ∈ s.dict) ∧ ∀ p ∈ s.dict, p.1 / 256 ≠ 0x1030 → p ∈ t.dict) ∧
  ((∀ (r : Req) (l : List WrItem) (s : State), s.takes r (.write l) → ((s.serving r).writeItems r.src l).waits = false →
       ((s.serving r).writeItems r.src l).retry = 0 →
       ∃ t, exec (.write r l) s = .next t ∧ t.replied r 2 .done 0 ((s.serving r).writeItems r.src l).items) ∧
     (∀ (r : Req) (x : WrItem) (s : State), s.takes r (.write [x]) → ((s.serving r).writeItemOf r.src [x] x).1 = .done →
       s.waitsHome x = false → key x.idx x.sub ≠ key 0x1030 6 →
       ∃ t, exec (.write r [x]) s = .next t ∧ t.replied r 2 .done 0 [statusItem x.idx x.sub .done] ∧
         t.rd x.idx x.sub = ((s.serving r).writeItemOf r.src [x] x).2.2.rd x.idx x.sub) ∧
     (∀ (r : Req) (i j off : Nat) (d : List Byte) (s : State), s.takes r (.writeBlock i j off d) →
       ((s.serving r).writeBlockItem r.src i j off d).1 ≠ .busy → key i j ≠ key 0x1030 6 →
       ∃ t, exec (.writeBlock r i j off d) s = .next t ∧
         t.replied r 4 .done 0 [statusItem i j ((s.serving r).writeBlockItem r.src i j off d).1] ∧
         t.rd i j = ((s.serving r).writeBlockItem r.src i j off d).2.rd i j) ∧
     ∀ (k : Nat) (s : State), ∃ t, exec (.pendingCopyExpiry k) s = .next t ∧ (∀ c ∈ t.srv.copies, c.entry ≠ k) ∧
       (∀ c ∈ s.srv.copies, c.entry ≠ k → c ∈ t.srv.copies) ∧ t.dict = s.dict)

/-- A TRANSACTION that passes its checks is staged under the next number, its answer held; one that fails is answered with
its first failure, whose position 1020:08 takes. A SUBSCRIBE is answered item by item; a new one with a period is numbered
and answered with its number. Under the premises given for each, these answer a next state: transaction, subscribe. -/
def Obligations.TransactionsAreStagedOrRejectedWhole : Prop :=
  (∀ (r : Req) (target : Nat) (l : List WrItem) (s : State), s.takes r (.transaction target l) →
      ((s.serving r).transactionFailure target l).1 = .done →
      ∃ t, exec (.transaction r target l) s = .next t ∧ (r.src, r.seq) ∈ t.srv.held ∧
        t.tra.staged.length = s.tra.staged.length + 1 ∧ (∃ x ∈ t.tra.staged, x.num = s.tra.nextNum ∧ x.target = target ∧
          x.src = r.src ∧ x.seq = r.seq ∧ x.twoEnded = twoEndedSet l)) ∧
    (∀ (r : Req) (target : Nat) (l : List WrItem) (s : State), s.takes r (.transaction target l) →
      ((s.serving r).transactionFailure target l).1 ≠ .done →
      ∃ t, exec (.transaction r target l) s = .next t ∧
        t.replied r 5 ((s.serving r).transactionFailure target l).1 s.tra.nextNum [] ∧ t.tra.staged = s.tra.staged ∧
        t.rdN 0x1020 6 = ((s.serving r).transactionFailure target l).1.code ∧ t.rdN 0x1020 7 = s.tra.nextNum ∧
        t.rdN 0x1020 8 = ((s.serving r).transactionFailure target l).2) ∧
    (∀ (r : Req) (l : List (RdItem × Nat)) (s : State), s.takes r (.subscribe l) →
      ∃ t, exec (.subscribe r l) s = .next t ∧ t.replied r 6 .done ((s.serving r).subscribeItems r.src l).tag
        ((s.serving r).subscribeItems r.src l).items ∧ t.srv.subs = ((s.serving r).subscribeItems r.src l).state.srv.subs) ∧
    ∀ (r : Req) (i j p : Nat) (e : Entry) (s : State), s.takes r (.subscribe [({ idx := i, sub := j }, p)]) → 10 ≤ p →
      i < 0xF000 → s.hasIdx i = true → entryOf i j = some e → e.acc ≠ .wo → e.acc ≠ .key → s.srv.subs.length < 256 →
      (∀ x ∈ s.srv.subs, ¬(x.src = r.src ∧ x.idx = i ∧ x.sub = j)) → 0 < s.srv.nextSub →
      ∃ t, exec (.subscribe r [({ idx := i, sub := j }, p)]) s = .next t ∧
        t.replied r 6 .done s.srv.nextSub [statusItem i j .done] ∧
        (t.srv.subs.getLast?.map fun x => (x.number, x.src, x.idx, x.sub, x.period)) = some (s.srv.nextSub, r.src, i, j, p)

/-- A repeat of a request in progress is dropped, and one already answered is answered again as before, with nothing served.
A request that comes while another is in service waits behind those that wait; one that finds the queue or its source's
share full is answered BUSY. Notifications go out by their source's path with the next sequence; neighbour solicitations and
echoes to the device's own address are answered; the address is valid, or the interface silent, from 30 ms on; node 0 sends
beacons, which every node sees. Under the premises given for each, these answer a next state: read, write, notify,
neighbourSolicitation, icmpEcho, dadComplete, plcaBeacon. -/
def Obligations.RequestsAreServedOnceAndSegmentsAnswered : Prop :=
  ((∀ (r : Req) (l : List WrItem) (s : State), s.hears r (.write l) = true → s.discards r (.write l) = false →
       (r.src, r.seq) ∈ s.srv.held → exec (.write r l) s = .next s) ∧
     (∀ (r : Req) (l : List WrItem) (x : Served) (s : State), s.hears r (.write l) = true → s.discards r (.write l) = false →
       (∀ p ∈ s.srv.held, p ≠ (r.src, r.seq)) → s.srv.served.find? (fun y => decide (y.src = r.src) && y.seq == r.seq) = some x →
       ∃ t, exec (.write r l) s = .next t ∧ x.answer ∈ t.out ∧ t.dict = s.dict ∧ t.srv.served = s.srv.served) ∧
     (∀ (r : Req) (l : List WrItem) (s : State), s.hears r (.write l) = true → s.discards r (.write l) = true →
       ∃ t, exec (.write r l) s = .next t ∧ t.rdN 0x1030 9 = (s.rdN 0x1030 9 + 1) % 2 ^ 32 ∧ t.out = s.out) ∧
     (∀ (r : Req) (l : List WrItem) (s : State), s.hears r (.write l) = false → exec (.write r l) s = .next s) ∧
     ∀ (r : Req) (l : List RdItem) (src : Source) (s : State), s.hears r (.read l) = true → s.discards r (.read l) = false →
       (∀ p ∈ s.srv.held, p ≠ (r.src, r.seq)) → (∀ x ∈ s.srv.served, ¬(x.src = r.src ∧ x.seq = r.seq)) →
       s.admits r (.read l) = true → s.serverBusy = false → s.srv.engaged = some src → 1 ≤ l.length → l.length ≤ 64 →
       (s.queueFull r.src = false → ∃ t, exec (.read r l) s = .next t ∧
         t.srv.queue = s.srv.queue ++ [.message r (.read l)] ∧ (r.src, r.seq) ∈ t.srv.held ∧ t.out = s.out ∧ r.src ∈ t.srv.ring) ∧
       (s.queueFull r.src = true → ∃ t, exec (.read r l) s = .next t ∧ t.srv.queue = s.srv.queue ∧
         t.srv.served = s.srv.served ∧ t.rdN 0x1030 7 = (s.rdN 0x1030 7 + 1) % 2 ^ 32)) ∧
  ((∀ (n : Nat) (x : Sub) (a p : Nat) (s : State), s.srv.subs.find? (fun y => y.number == n) = some x → x.src = .udp a p →
       s.serverBusy = false → s.t1sUp = true → s.hasTurn = true →
       ∃ t, exec (.notify n) s = .next t ∧ (∃ item, t.out.head? = some (.notify n x.seq x.src item)) ∧
         ∀ y ∈ t.srv.subs, y.number = n → ∃ z ∈ s.srv.subs, y = { z with seq := (z.seq + 1) % 65536 }) ∧
     (∀ s : State, s.t1sUp = true → s.hasTurn = true →
       (∃ t, exec (.neighbourSolicitation s.linkLocal) s = .next t ∧ t.out = .neighbourAdvert s.linkLocal :: s.out) ∧
       ∀ (i q : Nat) (d : List Byte), ∃ t, exec (.icmpEcho s.linkLocal i q d) s = .next t ∧
         t.out = .echoReply s.linkLocal i q d :: s.out) ∧
     (∀ (a i q : Nat) (d : List Byte) (s : State), a ≠ s.linkLocal →
       exec (.neighbourSolicitation a) s = .next s ∧ exec (.icmpEcho a i q d) s = .next s) ∧
     (∀ (dup : Bool) (s : State), s.pow.released = true → s.srv.addrValid = false → s.srv.silent = false →
       ∃ t, exec (.dadComplete dup) s = .next t ∧ t.srv.addrValid = !dup ∧ t.srv.silent = dup ∧ t.srv.mdioOn = true ∧
         t.identityServed = true ∧ (dup = true → t.rdBit 0x1000 0x0A 0 = true)) ∧
     ∀ s : State, s.pow.released = true → s.srv.silent = false →
       ∃ t, exec .plcaBeacon s = .next t ∧ t.srv.beaconAt = some s.uptime ∧
         t.out = (if field s.pow.straps 3 6 = 0 then [.beacon (s.srv.settings.getD 3 8)] else []) ++ s.out)

/-- The MDIO window: an operation leaves its status, with the done bit, in WIN_STATUS; a read leaves the value in the
buffer; a KEY entry is AUTH_FAIL where authentication is required, and an opcode out of 1 to 4 is BAD_TYPE; each access of
WIN_DATA moves WIN_PTR on by one word, and the other registers of the device read as they stand. Under the premises given
for each, these answer a next state: mdioRead, mdioWrite, mdioReadBlock, mdioWriteBlock, mdioBadOpcode, winDataAccess. -/
def Obligations.WindowOperationsLeaveTheirStatus : Prop :=
  (∀ (op : MdioOp) (s : State), s.windowHears op = true → s.serverBusy = false → s.srv.engaged = none → s.srv.queue = [] →
      s.windowKey .mdio (op.index % 65536) (op.sub % 256) = false →
      ((((s.windowGo op 1).enqueue).readItem .mdio (op.index % 65536) (op.sub % 256)).2.2.length ≤ 256 →
        ∃ t, exec (.mdioRead op) s = .next t ∧ t.srv.winStatus = 0x4000 +
            (((s.windowGo op 1).enqueue).readItem .mdio (op.index % 65536) (op.sub % 256)).1.code ∧
          ((((s.windowGo op 1).enqueue).readItem .mdio (op.index % 65536) (op.sub % 256)).1 = .done →
            t.srv.winData.take t.srv.winLen = (((s.windowGo op 1).enqueue).readItem .mdio (op.index % 65536) (op.sub % 256)).2.2)) ∧
      (op.len ≤ 256 → ¬(0x8D00 ≤ op.index % 65536 ∧ op.index % 65536 < 0x8E00) →
        ∃ t, exec (.mdioWrite op) s = .next t ∧ t.srv.winStatus = 0x4000 +
          (((s.windowGo op 2).enqueue).writeItemOf .mdio [⟨op.index % 65536, op.sub % 256, op.ty % 256, padTo op.len (s.srv.winData.take op.len)⟩]
            ⟨op.index % 65536, op.sub % 256, op.ty % 256, padTo op.len (s.srv.winData.take op.len)⟩).1.code ∧
          ((((s.windowGo op 2).enqueue).writeItemOf .mdio [⟨op.index % 65536, op.sub % 256, op.ty % 256, padTo op.len (s.srv.winData.take op.len)⟩]
              ⟨op.index % 65536, op.sub % 256, op.ty % 256, padTo op.len (s.srv.winData.take op.len)⟩).1 = .done →
            op.index % 65536 ≠ 0x1030 → t.rd (op.index % 65536) (op.sub % 256) =
              (((s.windowGo op 2).enqueue).writeItemOf .mdio [⟨op.index % 65536, op.sub % 256, op.ty % 256, padTo op.len (s.srv.winData.take op.len)⟩]
                ⟨op.index % 65536, op.sub % 256, op.ty % 256, padTo op.len (s.srv.winData.take op.len)⟩).2.2.rd
                (op.index % 65536) (op.sub % 256))) ∧
      (op.len ≤ 256 → ∃ t, exec (.mdioReadBlock op) s = .next t ∧ t.srv.winStatus = 0x4000 +
          (((s.windowGo op 3).enqueue).readBlockItem .mdio (op.index % 65536) (op.sub % 256) (op.off % 2 ^ 32) op.len).1.code ∧
        ((((s.windowGo op 3).enqueue).readBlockItem .mdio (op.index % 65536) (op.sub % 256) (op.off % 2 ^ 32) op.len).1 = .done →
          t.srv.winData.take op.len =
            (((s.windowGo op 3).enqueue).readBlockItem .mdio (op.index % 65536) (op.sub % 256) (op.off % 2 ^ 32) op.len).2)) ∧
      (op.len ≤ 256 → ∃ t, exec (.mdioWriteBlock op) s = .next t ∧ t.srv.winStatus = 0x4000 +
          (((s.windowGo op 4).enqueue).writeBlockItem .mdio (op.index % 65536) (op.sub % 256) (op.off % 2 ^ 32)
            (padTo op.len (s.srv.winData.take op.len))).1.code ∧
        ((((s.windowGo op 4).enqueue).writeBlockItem .mdio (op.index % 65536) (op.sub % 256) (op.off % 2 ^ 32)
            (padTo op.len (s.srv.winData.take op.len))).1 = .done → op.index % 65536 ≠ 0x1030 →
          t.rd (op.index % 65536) (op.sub % 256) = (((s.windowGo op 4).enqueue).writeBlockItem .mdio (op.index % 65536) (op.sub % 256)
            (op.off % 2 ^ 32) (padTo op.len (s.srv.winData.take op.len))).2.rd (op.index % 65536) (op.sub % 256)))) ∧
    (∀ (op : MdioOp) (s : State), s.windowHears op = true → s.windowKey .mdio (op.index % 65536) (op.sub % 256) = true →
      (∃ t, exec (.mdioRead op) s = .next t ∧ t.srv.winStatus = 0x4000 + Status.authFail.code ∧
        t.rdN 0x1030 8 = (s.rdN 0x1030 8 + 1) % 2 ^ 32 ∧ t.wroteOnly s [key 0x1030 8]) ∧
      ∃ t, exec (.mdioWrite op) s = .next t ∧ t.srv.winStatus = 0x4000 + Status.authFail.code ∧
        t.rdN 0x1030 8 = (s.rdN 0x1030 8 + 1) % 2 ^ 32 ∧ t.wroteOnly s [key 0x1030 8]) ∧
    (∀ (op : MdioOp) (c : Nat) (s : State), s.windowHears op = true → c = 0 ∨ c = 5 ∨ c = 6 ∨ c = 7 →
      ∃ t, exec (.mdioBadOpcode op c) s = .next t ∧ t.srv.winStatus = 0x4000 + Status.badType.code ∧ t.dict = s.dict) ∧
    (∀ s : State, s.srv.mdioOn = true → s.srv.winPtr < 128 →
      ∃ t, exec (.winDataAccess ⟨field s.pow.straps 9 5, 30, 0x8008, none⟩) s = .next t ∧ t.srv.winPtr = s.srv.winPtr + 1 ∧
        t.out = .windowData (beNat (padTo 2 (slice s.srv.winData (2 * s.srv.winPtr) 2))) :: s.out) ∧
    (∀ (v : BitVec 16) (s : State), s.srv.mdioOn = true → s.srv.winPtr < 128 → s.srv.winData.length = 256 →
      ∃ t, exec (.winDataAccess ⟨field s.pow.straps 9 5, 30, 0x8008, some v⟩) s = .next t ∧ t.srv.winPtr = s.srv.winPtr + 1 ∧
        beNat (slice t.srv.winData (2 * s.srv.winPtr) 2) = v.toNat ∧ t.srv.winData.length = 256) ∧
    (∀ (reg : Nat) (s : State), s.srv.mdioOn = true → reg ≠ 0x8008 →
      exec (.winDataAccess ⟨field s.pow.straps 9 5, 30, reg, none⟩) s = .next (s.emit (.windowData (s.mdioRegister reg)))) ∧
    ∀ (a : RegAccess) (s : State), s.srv.mdioOn = false ∨ a.prtad ≠ field s.pow.straps 9 5 ∨ a.dev ≠ 30 →
      exec (.winDataAccess a) s = .next s

/-- A doorbell hands the mailbox's bytes to the server as the request they spell; while a request is pending nothing is
submitted; the interrupt bits of MBX_STATUS are cleared by writing 1. A write of a group-wide entry is a write at the
master, whose other members answer NOT_MASTER and take what the master distributes. Under the premises given for each, these
answer a next state: read, write, mailboxDoorbell, mailboxStatusClear, dridaWriteGroupWide. -/
def Obligations.MailboxAndMasterCarryRequests : Prop :=
  ((∀ (ctrl : BitVec 32) (len : Nat) (msg : List Byte) (r : Req) (l : List RdItem) (s : State), s.mailboxUp = true →
       bit ctrl.toNat 0 = true → bit s.srv.mbxStatus 0 = false → 24 ≤ len → len ≤ 4096 →
       parseMessage (padTo len (msg.take len)) = (r, some (.read l)) →
       ∃ t, exec (.mailboxDoorbell ctrl len msg) s = .next t ∧ exec (.read r l) { s with srv := { s.srv with
         mbxCtrl := ctrl.toNat % 8 / 2 * 2 + s.srv.mbxCtrl % 2, mbxReqLen := len, mbxReq := msg.take 4096 } } = .next t) ∧
     (∀ (ctrl : BitVec 32) (len : Nat) (msg : List Byte) (r : Req) (l : List WrItem) (s : State), s.mailboxUp = true →
       bit ctrl.toNat 0 = true → bit s.srv.mbxStatus 0 = false → 24 ≤ len → len ≤ 4096 →
       parseMessage (padTo len (msg.take len)) = (r, some (.write l)) →
       ∃ t, exec (.mailboxDoorbell ctrl len msg) s = .next t ∧ exec (.write r l) { s with srv := { s.srv with
         mbxCtrl := ctrl.toNat % 8 / 2 * 2 + s.srv.mbxCtrl % 2, mbxReqLen := len, mbxReq := msg.take 4096 } } = .next t) ∧
     (∀ (ctrl : BitVec 32) (len : Nat) (msg : List Byte) (s : State), s.mailboxUp = true → bit s.srv.mbxStatus 0 = true →
       ∃ t, exec (.mailboxDoorbell ctrl len msg) s = .next t ∧ t.srv.held = s.srv.held ∧ t.srv.queue = s.srv.queue ∧
         t.out = s.out ∧ t.dict = s.dict) ∧
     (∀ (mask : BitVec 32) (s : State), s.mailboxUp = true →
       ∃ t, exec (.mailboxStatusClear mask) s = .next t ∧ ∀ i < 8, bit t.srv.mbxStatus i =
         (bit s.srv.mbxStatus i && !(decide (1 ≤ i ∧ i < 4) && bit mask.toNat i))) ∧
     ∀ (ctrl : BitVec 32) (len : Nat) (msg : List Byte) (mask : BitVec 32) (s : State), s.mailboxUp = false →
       exec (.mailboxDoorbell ctrl len msg) s = .next s ∧ exec (.mailboxStatusClear mask) s = .next s) ∧
  ((∀ (x : WrItem) (e : Entry) (s : State), s.identityServed = true → entryOf x.idx x.sub = some e → e.groupWide = true →
       (s.writeItemOf .mailbox [x] x).1 = .done → s.waitsHome x = false →
       ∃ t, exec (.dridaWriteGroupWide x false) s = .next t ∧ t.told x.idx x.sub .done) ∧
     (∀ (x : WrItem) (e : Entry) (v : DVal) (s : State), s.serves → s.hasIdx x.idx = true → x.idx < 0xF000 → x.idx ≠ 0 →
       entryOf x.idx x.sub = some e → e.groupWide = true → e.acc = .rw → entryValue e x.ty x.val = ([], v) → s.groupRole = 2 →
       firstFailure (s.entryEffect x.idx x.sub v).fails = .done →
       ∃ t, exec (.dridaWriteGroupWide x false) s = .next t ∧ t.told x.idx x.sub .notMaster) ∧
     ∀ (x : WrItem) (e : Entry) (v : DVal) (s : State), entryOf x.idx x.sub = some e → e.groupWide = true → e.acc ≠ .wo →
       x.idx = 0x8C00 → s.groupRole = 2 → entryValue e x.ty x.val = ([], v) →
       ∃ t, exec (.dridaWriteGroupWide x true) s = .next t ∧ t.rd x.idx x.sub = v)

/-- A well-formed request of the mailbox, of any opcode, reads back from its bytes: header, items and authentication. -/
def Obligations.MailboxRequestsReadBackFromTheirBytes : Prop :=
  ∀ (r : Req) (tag : List Byte), r.src = .mailbox → r.dst = .own → r.port = 0 → r.version = 1 →
    tag = (match r.auth with | some a => a.tag | none => []) →
    (∀ l, (Instr.read r l).wf = true → parseMessage (requestBytes r (.read l) ++ tag) = (r, some (.read l))) ∧
    (∀ l, (Instr.write r l).wf = true → parseMessage (requestBytes r (.write l) ++ tag) = (r, some (.write l))) ∧
    (∀ i j off len, (Instr.readBlock r i j off len).wf = true →
      parseMessage (requestBytes r (.readBlock i j off len) ++ tag) = (r, some (.readBlock i j off len))) ∧
    (∀ i j off d, (Instr.writeBlock r i j off d).wf = true →
      parseMessage (requestBytes r (.writeBlock i j off d) ++ tag) = (r, some (.writeBlock i j off d))) ∧
    (∀ target l, (Instr.transaction r target l).wf = true →
      parseMessage (requestBytes r (.transaction target l) ++ tag) = (r, some (.transaction target l))) ∧
    ∀ l, (Instr.subscribe r l).wf = true → parseMessage (requestBytes r (.subscribe l) ++ tag) = (r, some (.subscribe l))

/-- A retired thread goes dark 16 multiframes after its commit and its island is gated once it is received no more; a thread
still re-admitting at the limit of its own direction, 100 ms or 64 multiframes after its target, returns to RETIRED, or its
receive status to 0, its defects masked and its island gated, and before that limit nothing happens. The near end's
transaction channel: an ACK counts for the staged transaction of its number and target; a refusal withdraws it with ABORTED
and keeps the reason; without an acknowledgement by the deadline it is withdrawn with TOO_LATE. On a 1608 a withdrawal may
take others with it, which 1020:06 then names (the model's choice, log entry 176). The far end's part: a PROPOSE that passes
its checks is held and acknowledged, one that fails is refused with its status, and the answer goes out on the
acknowledgement channel; a CONFIRM in one of the four multiframes before the target lets it swap; WITHDRAW, or no CONFIRM in
time, discards it. Under the premises given for each, these answer a next state: proposeReceive, ackReceive, refuseReceive,
confirmReceive, withdrawReceive, ackDeadline, confirmDeadline, threadRetireDark, threadIslandGate, readmissionTimeout. -/
def Obligations.ThreadsAndTransactionsFollowTheChannel : Prop :=
  ((∀ (k : Fin 32) (m : Nat) (s : State), lget k.val s.cfg.retireAt = some m → m + 16 ≤ s.mf →
       ∃ t, exec (.threadRetireDark k) s = .next t ∧ t.txStatus k.val = 0 ∧ lget k.val t.cfg.retireAt = none) ∧
     (∀ (k : Fin 32) (m : Nat) (s : State), lget k.val s.cfg.retireAt = some m → s.mf < m + 16 →
       exec (.threadRetireDark k) s = .next s) ∧
     (∀ (k : Fin 32) (s : State), s.rxStatus k.val = 0 → ∃ t, exec (.threadIslandGate k) s = .next t ∧
       (if k.val % 8 = 0 then 128 + k.val else 8 + k.val) ∈ t.pow.gatedIslands ∧ t.dict = s.dict) ∧
     (∀ (k : Fin 32) (s : State), s.rxStatus k.val ≠ 0 → exec (.threadIslandGate k) s = .next s) ∧
     (∀ (k : Fin 32) (m : Nat) (s : State), s.txStatus k.val = 3 → lget k.val s.cfg.readmitAt = some m → m + s.readmitLimit ≤ s.mf →
       ∃ t, exec (.readmissionTimeout k) s = .next t ∧ t.txStatus k.val = 0 ∧ t.rdN (0x3410 + k.val) 4 = 0 ∧ t.rdN (0x3410 + k.val) 0x0C = (s.rdN (0x3410 + k.val) 0x0C + 1) % 2 ^ 32) ∧
     (∀ (k : Fin 32) (m : Nat) (s : State), s.rxStatus k.val = 3 → lget k.val s.cfg.rxReadmitAt = some m →
       m + s.readmitLimit ≤ s.rdN 0x3440 0x0D → ∃ t, exec (.readmissionTimeout k) s = .next t ∧ t.rxStatus k.val = 0 ∧ t.rdN (0x2810 + k.val) 1 = 5 ∧
         (if k.val % 8 = 0 then 128 + k.val else 8 + k.val) ∈ t.pow.gatedIslands) ∧
     ∀ (k : Fin 32) (s : State), (∀ m, lget k.val s.cfg.readmitAt = some m → s.txStatus k.val ≠ 3 ∨ s.mf < m + s.readmitLimit) →
       (∀ m, lget k.val s.cfg.rxReadmitAt = some m → s.rdN 0x3440 0x0D < m + s.readmitLimit) →
       exec (.readmissionTimeout k) s = .next s) ∧
  ((∀ (num target : Nat) (x : Staged) (s : State), x ∈ s.tra.staged → x.twoEnded = true → x.num = num → x.target = target →
       ∃ t, exec (.ackReceive num target) s = .next t ∧ { x with acked := true } ∈ t.tra.staged ∧
         t.rdN 0x3440 9 = (s.rdN 0x3440 9 + 1) % 2 ^ 32) ∧
     (∀ (num target : Nat) (s : State), (∀ x ∈ s.tra.staged, ¬(x.twoEnded = true ∧ x.num = num ∧ x.target = target)) →
       exec (.ackReceive num target) s = .next s ∧ ∀ reason, exec (.refuseReceive num target reason) s = .next s) ∧
     (∀ (num target reason : Nat) (x : Staged) (s : State),
       s.tra.staged.find? (fun x => x.twoEnded && x.num == num && x.target == target) = some x →
       ∃ t, exec (.refuseReceive num target reason) s = .next t ∧ (∀ y ∈ t.tra.staged, y.num ≠ num) ∧
         t.rdN 0x1020 6 = Status.aborted.code ∧ (s.is1608 = false → t.rdN 0x1020 7 = num) ∧ t.rdN 0x1020 9 = reason % 256 ∧
         ∃ w ∈ t.tra.withdrawn, w.1.num = num ∧ w.2 = 4) ∧
     ∀ (num : Nat) (x : Staged) (s : State), s.tra.staged.find? (fun x => x.twoEnded && x.num == num && !x.acked) = some x →
       ∃ t, exec (.ackDeadline num) s = .next t ∧ (∀ y ∈ t.tra.staged, y.num ≠ num) ∧
         (s.is1608 = false → t.rdN 0x1020 6 = Status.tooLate.code ∧ t.rdN 0x1020 7 = num) ∧ ∃ w ∈ t.tra.withdrawn, w.1.num = num ∧ w.2 = 4) ∧
  ((∀ (p : Propose) (pages : List (Nat × List Byte)) (s : State), s.on 16 = true → (∀ x ∈ s.tra.far, x.prop.num ≠ p.num) →
       (∀ k ∈ bitsOf 32 p.mapMask, (lget k pages).map pageDigest = some (p.digests.getD k 0)) →
       (firstListed (s.proposeFails p pages) = .done →
         ∃ t, exec (.proposeReceive p pages) s = .next t ∧ t.out.head? = some (.ackLine p.num p.target) ∧
           (∃ a ∈ t.tra.answers, a.type = 1 ∧ a.num = p.num ∧ a.target = p.target) ∧
           ∃ x ∈ t.tra.far, x.prop = p ∧ x.confirmed = false) ∧
       (firstListed (s.proposeFails p pages) ≠ .done →
         ∃ t, exec (.proposeReceive p pages) s = .next t ∧ t.tra.far = s.tra.far ∧
           t.out.head? = some (.refuseLine p.num p.target (firstListed (s.proposeFails p pages)).code) ∧
           ∃ a ∈ t.tra.answers, a.type = 2 ∧ a.num = p.num ∧ a.reason = (firstListed (s.proposeFails p pages)).code)) ∧
     (∀ (num target : Nat) (x : FarPart) (s : State), x ∈ s.tra.far → x.prop.num = num → x.prop.target = target →
       s.rdN 0x3440 0x0D < target → target ≤ s.rdN 0x3440 0x0D + 4 →
       ∃ t, exec (.confirmReceive num target) s = .next t ∧ { x with confirmed := true } ∈ t.tra.far) ∧
     (∀ (num target : Nat) (s : State), target ≤ s.rdN 0x3440 0x0D ∨ s.rdN 0x3440 0x0D + 4 < target →
       exec (.confirmReceive num target) s = .next s) ∧
     (∀ (num : Nat) (x : FarPart) (s : State), s.tra.far.find? (fun x => x.prop.num == num) = some x →
       ∃ t, exec (.withdrawReceive num) s = .next t ∧ ∀ y ∈ t.tra.far, y.prop.num ≠ num) ∧
     ∀ (num : Nat) (x : FarPart) (s : State), s.tra.far.find? (fun x => x.prop.num == num && !x.confirmed) = some x →
       ∃ t, exec (.confirmDeadline num) s = .next t ∧ ∀ y ∈ t.tra.far, y.prop.num ≠ num)

/-- Foreground calibration ends with its duration shown, rotation running, frozen or off, and mute cause 4 gone; CNV_LOL
mutes the DACs and clears without calibrating anew; CALREF_V off by more than 2 % raises CAL_REF until three good checks in
a row. A live slice whose samples meet a fault criterion hands its position to the hot spare at once, and one whose samples
meet none stays; the host retires a spare and re-admits a slice that was faulty or retired, with what the trim search finds;
while the engines do not run, both commands wait for them (log entry 182). Under the premises given for each, these answer a
next state: foregroundCalibrationDone, synthLockLoss, synthLockReturn, calrefCheck, sliceFault, sliceRetire, sliceReadmit.
-/
def Obligations.CalibrationsEndAndSlicesAreReplaced : Prop :=
  ((∀ (r : ForeResult) (s : State), s.rdN 0x2000 9 = 1 →
       ∃ t, exec (.foregroundCalibrationDone r) s = .next t ∧ t.rdN 0x2000 0x0B = r.durationUs ∧ t.rdBit 0x2400 6 4 = false ∧
         t.rdN 0x2000 9 = (if s.convHeld then 3 else if s.rdN 0x2000 0x0A = 0 then 4 else 2)) ∧
     (∀ s : State, s.on 2 = true → ∃ t, exec .synthLockLoss s = .next t ∧ t.rdBit 0x2000 0x0C 0 = true ∧ t.tx.muted = true ∧
       t.rdBit 0x2400 6 2 = true) ∧
     (∀ s : State, s.rdBit 0x2000 0x0C 0 = true → ∃ t, exec .synthLockReturn s = .next t ∧ t.rdBit 0x2000 0x0C 0 = false ∧
       t.rdBit 0x2400 6 2 = false ∧ t.cnv = s.cnv) ∧
     (∀ (uv : Nat) (s : State), s.on 2 = true → s.rdN 0x2000 7 < 50 * (max uv (s.rdN 0x2000 7) - min uv (s.rdN 0x2000 7)) →
       ∃ t, exec (.calrefCheck uv) s = .next t ∧ t.rdN 0x2000 8 = uv ∧ t.rdBit 0x2000 0x0C 1 = true ∧ t.cnv.calGood = 0) ∧
     ∀ (uv : Nat) (s : State), s.on 2 = true → 50 * (max uv (s.rdN 0x2000 7) - min uv (s.rdN 0x2000 7)) ≤ s.rdN 0x2000 7 →
       ∃ t, exec (.calrefCheck uv) s = .next t ∧ t.rdN 0x2000 8 = uv ∧ t.cnv.calGood = s.cnv.calGood + 1 ∧
         (2 ≤ s.cnv.calGood → t.rdBit 0x2000 0x0C 1 = false) ∧
         (s.cnv.calGood < 2 → t.rdBit 0x2000 0x0C 1 = s.rdBit 0x2000 0x0C 1)) ∧
  ((∀ (a : Fin 4) (n : Fin 152) (w : SliceWatch) (c h : Nat) (s : State), (s.adcSlice a.val n.val).role = 0 →
       sliceCause w = some c → (a.val, n.val) ∉ s.cnv.retires →
       lget a.val s.cnv.rotations = none → (s.faulty a.val n.val c).hotSpare a.val = some h → h ≠ n.val →
       ∃ t, exec (.sliceFault a n w) s = .next t ∧ (t.adcSlice a.val n.val).role = 5 ∧
         (t.adcSlice a.val n.val).cause = c ∧ (t.adcSlice a.val h).role = 0 ∧
         (t.adcSlice a.val h).position = (s.adcSlice a.val n.val).position ∧
         t.rdN (0x2010 + a.val) 0x0C = (s.rdN (0x2010 + a.val) 0x0C + 1) % 2 ^ 32) ∧
     (∀ (a : Fin 4) (n : Fin 152) (w : SliceWatch) (s : State), w.run < 4096 ∨ w.input ≤ 1024 → w.meanOff.natAbs ≤ 2048 →
       exec (.sliceFault a n w) s = .next s) ∧
     (∀ (a n : Nat) (s : State), s.serves → s.lineMode = true → s.cursorSlice = (a, n) → a < 4 → n < 152 →
       (s.adcSlice a n).role = 1 → 2 ≤ (s.inRole a 1).length → lget a s.cnv.rotations = none →
       (∀ x ∈ s.cnv.retires, x.1 ≠ a) →
       ∃ t, exec .sliceRetire s = .next t ∧ t.told 0x2021 9 .done ∧ (t.adcSlice a n).role = 6) ∧
     (∀ (a n : Nat) (m : SliceMeasure) (s : State), s.serves → s.lineMode = true → s.cursorSlice = (a, n) → a < 4 → n < 152 →
       (s.adcSlice a n).role = 5 ∨ (s.adcSlice a n).role = 6 → s.rotates = true → (∀ x ∈ s.cnv.retires, x.1 ≠ a) →
       s.cnv.startDue.contains a = false →
       (withinLimits m.left = true → ∃ t, exec (.sliceReadmit m) s = .next t ∧ t.told 0x2021 9 .done ∧
         ((t.adcSlice a n).role = 0 ∨ (t.adcSlice a n).role = 1) ∧
         (t.adcSlice a n).corr = measuredCorr (s.adcSlice a n).corr m true) ∧
       (withinLimits m.left = false → ∃ t, exec (.sliceReadmit m) s = .next t ∧ t.told 0x2021 9 .done ∧
         (t.adcSlice a n).role = 5)) ∧
     ∀ (a n : Nat) (m : SliceMeasure) (s : State), s.serves → s.lineMode = true → s.cursorSlice = (a, n) → a < 4 → n < 152 →
       s.rotates = false →
       ((s.adcSlice a n).role = 5 ∨ (s.adcSlice a n).role = 6 → ∃ t, exec (.sliceReadmit m) s = .next t ∧ t.told 0x2021 9 .done ∧
         ((a, n), m) ∈ t.cnv.readmits ∧ t.cnv.slices = s.cnv.slices) ∧
       ((s.adcSlice a n).role = 0 → 2 ≤ (s.inRole a 1).length → lget a s.cnv.rotations = none → (∀ x ∈ s.cnv.retires, x.1 ≠ a) →
         ∃ t, exec .sliceRetire s = .next t ∧ t.told 0x2021 9 .done ∧ (a, n) ∈ t.cnv.retires ∧ t.cnv.slices = s.cnv.slices))

/-- A rotation starts at the next position with the oldest ready spare, shadows it with the corrections measured, folds in
the residual of each window, swaps once a window lies within limits or is abandoned after four, and ends when the released
slice is measured; one that falls due in a running rotation waits for its end. Under the premises given for each, these
answer a next state: rotationStart, spareMeasurementDone, shadowWindowEnd, releasedSliceMeasured. -/
def Obligations.RotationsRunStepByStep : Prop :=
  (∀ (a : Fin 4) (n l : Nat) (s : State), s.rdN 0x2000 9 = 2 → s.rotates = true →
      lget a.val s.cnv.rotations = none → 2 ≤ (s.inRole a.val 1).length → s.oldestSpare a.val = some n →
      s.liveAt a.val (s.rdN (0x2010 + a.val) 0x0D) = some l →
      ∃ t, exec (.rotationStart a) s = .next t ∧ t.rdN (0x2010 + a.val) 0x0D = (s.rdN (0x2010 + a.val) 0x0D + 1) % 144 ∧
        (lget a.val t.cnv.rotations).map (fun r => (r.spare, r.position, r.live)) =
          some (n, s.rdN (0x2010 + a.val) 0x0D, l) ∧ (t.adcSlice a.val n).role = 2) ∧
    (∀ (a : Fin 4) (r : Rotation) (s : State), s.rdN 0x2000 9 = 2 → s.rotates = true → lget a.val s.cnv.rotations = some r →
      ∃ t, exec (.rotationStart a) s = .next t ∧ t.cnv.startDue.contains a.val = true ∧ t.cnv.rotations = s.cnv.rotations ∧
        t.dict = s.dict) ∧
    (∀ (a : Fin 4) (m : SliceMeasure) (r : Rotation) (s : State), lget a.val s.cnv.rotations = some r → r.shadowing = false →
      r.swapped = false → s.rotates = true →
      (withinLimits m.left = true → ∃ t, exec (.spareMeasurementDone a m) s = .next t ∧
        lget a.val t.cnv.rotations = some { r with shadowing := true } ∧ (t.adcSlice a.val r.spare).role = 3 ∧
        (t.adcSlice a.val r.spare).corr = measuredCorr (s.adcSlice a.val r.spare).corr m false) ∧
      (withinLimits m.left = false → (∀ x ∈ s.cnv.retires, x.1 ≠ a.val) → s.cnv.startDue.contains a.val = false →
        ∃ t, exec (.spareMeasurementDone a m) s = .next t ∧
          lget a.val t.cnv.rotations = none ∧ (t.adcSlice a.val r.spare).role = 5)) ∧
    (∀ (a : Fin 4) (d : Residual) (taps : List Int) (r : Rotation) (s : State), lget a.val s.cnv.rotations = some r →
      r.shadowing = true → r.swapped = false → s.rotates = true →
      (withinLimits d = true → r.retire = false → r.spare ≠ r.live → ∃ t, exec (.shadowWindowEnd a d taps) s = .next t ∧
        (lget a.val t.cnv.rotations).map (fun x => x.swapped) = some true ∧ (t.adcSlice a.val r.spare).role = 0 ∧
        (t.adcSlice a.val r.spare).position = r.position ∧ (t.adcSlice a.val r.live).role = 2) ∧
      (withinLimits d = false → r.windows < 3 → ∃ t, exec (.shadowWindowEnd a d taps) s = .next t ∧
        lget a.val t.cnv.rotations = some { r with windows := r.windows + 1 } ∧
        (t.adcSlice a.val r.spare).corr.offset = clamp14 ((s.adcSlice a.val r.spare).corr.offset + d.offset) ∧
        (t.adcSlice a.val r.spare).corr.gain = clamp14 ((s.adcSlice a.val r.spare).corr.gain + d.gain) ∧
        (t.adcSlice a.val r.spare).corr.skew = clamp14 ((s.adcSlice a.val r.spare).corr.skew + d.skew)) ∧
      (withinLimits d = false → 3 ≤ r.windows → ∃ t, exec (.shadowWindowEnd a d taps) s = .next t ∧
        t.rdN (0x2010 + a.val) 0x0B = (s.rdN (0x2010 + a.val) 0x0B + 1) % 2 ^ 32)) ∧
    ∀ (a : Fin 4) (m : SliceMeasure) (r : Rotation) (s : State), lget a.val s.cnv.rotations = some r →
      r.swapped = true → s.rotates = true → (∀ x ∈ s.cnv.retires, x.1 ≠ a.val) → s.cnv.startDue.contains a.val = false →
      ∃ t, exec (.releasedSliceMeasured a m) s = .next t ∧ lget a.val t.cnv.rotations = none ∧
        t.rdN (0x2010 + a.val) 0x0A = (s.rdN (0x2010 + a.val) 0x0A + 1) % 2 ^ 32 ∧
        (withinLimits m.left = false → (t.adcSlice a.val r.live).role = 5)

/-- A DAC's background step moves each trim by at most one step in SERVICE; its image defect follows the timer. Each
millisecond brings the input RMS of an ADC; a gain loop that is off its target moves its code one step within its limits; a
readback that differs holds the loop until one matches. Under the premises given for each, these answer a next state:
dacTrimStep, dacImageTimer, gainLoopUpdate, fespiRetry. -/
def Obligations.TrimsAndGainsMoveOneStep : Prop :=
  (∀ (d : Fin 4) (tm g o : Int) (s : State), s.dacBackground = 0 → s.on (6 + d.val) = true →
      ∃ t, exec (.dacTrimStep d tm g o) s = .next t ∧
        t.rdN (0x2030 + d.val) 8 = (s.rdN (0x2030 + d.val) 8 + 1) % 2 ^ 32 ∧
        (s.rdI (0x2030 + d.val) 6 - 5 ≤ t.rdI (0x2030 + d.val) 6 ∧ t.rdI (0x2030 + d.val) 6 ≤ s.rdI (0x2030 + d.val) 6 + 5) ∧
        (-128 < signedOf 1 (field (beField (padTo 16 (lgetD d.val [] s.cnv.dacWords)) 8 8) 8 8) →
          signedOf 1 (field (beField (padTo 16 (lgetD d.val [] s.cnv.dacWords)) 8 8) 8 8) < 127 →
          t.rdI (0x2030 + d.val) 6 = s.rdI (0x2030 + d.val) 6 - 5 * max (-1) (min 1 tm)) ∧
        t.rdI (0x2030 + d.val) 4 = clamp14 (s.rdI (0x2030 + d.val) 4 + max (-1) (min 1 g)) ∧
        t.rdI (0x2030 + d.val) 5 = clamp14 (s.rdI (0x2030 + d.val) 5 + max (-12) (min 12 o))) ∧
    (∀ (d : Fin 4) (level : Int) (s : State), s.on (6 + d.val) = true → level ≠ s.rdI (0x2030 + d.val) 9 →
      ∃ t, exec (.dacImageTimer d level) s = .next t ∧
        t.rdBit 0x2000 0x0C (6 + d.val) = decide (s.rdI (0x2030 + d.val) 9 < level)) ∧
    (∀ (j : Fin 8) (m rb : Nat) (s : State), j.val < 4 → 2 ≤ s.rdN 0x2000 9 →
      ∃ t, exec (.gainLoopUpdate j m rb) s = .next t ∧ t.rdN (0x2010 + j.val) 9 = m % 65536) ∧
    (∀ (j : Fin 8) (m rb : Nat) (s : State), s.rdB (0x2050 + j.val) 1 = true → s.gainHeld j.val = false →
      s.rdB (0x2041 + s.rdN (0x2050 + j.val) 2) 1 = true → 2 ≤ s.rdN 0x2000 9 → s.itemRuns 9 = true →
      s.rdN (0x2050 + j.val) 6 = 0 → gainWish (decide (j.val < 4)) (s.rdN (0x2050 + j.val) 8) m = 1 →
      s.rdN (0x2050 + j.val) 9 < s.rdN (0x2050 + j.val) 5 → s.rdN (0x2050 + j.val) 4 ≤ s.rdN (0x2050 + j.val) 9 →
      ∃ t, exec (.gainLoopUpdate j m rb) s = .next t ∧ t.rdN (0x2050 + j.val) 9 = s.rdN (0x2050 + j.val) 9 + 1 ∧
        t.gainHeld j.val = decide (rb ≠ s.rdN (0x2050 + j.val) 9 + 1)) ∧
    (∀ (j : Fin 8) (m rb : Nat) (s : State), s.rdB (0x2050 + j.val) 1 = true → s.gainHeld j.val = false →
      s.rdB (0x2041 + s.rdN (0x2050 + j.val) 2) 1 = true → 2 ≤ s.rdN 0x2000 9 → s.itemRuns 9 = true →
      gainWish (decide (j.val < 4)) (s.rdN (0x2050 + j.val) 8) m = 0 →
      ∃ t, exec (.gainLoopUpdate j m rb) s = .next t ∧ t.rdN (0x2050 + j.val) 9 = s.rdN (0x2050 + j.val) 9 ∧
        t.rdN (0x2050 + j.val) 0x0A = 0) ∧
    (∀ (j : Fin 8) (rb : Nat) (s : State), s.gainHeld j.val = true → s.itemRuns 9 = true →
      ∃ t, exec (.fespiRetry j rb) s = .next t ∧ t.gainHeld j.val = decide (rb ≠ s.rdN (0x2050 + j.val) 9) ∧
        t.rdN (0x2050 + j.val) 9 = s.rdN (0x2050 + j.val) 9) ∧
    ∀ (j : Fin 8) (rb : Nat) (s : State), s.gainHeld j.val = false ∨ s.itemRuns 9 = false → exec (.fespiRetry j rb) s = .next s

/-- The host mutes and unmutes: a mute holds its cause and the output, which ramps down where a ramp is set; with no cause
left TX_ENABLE goes active, the settle wait runs, and the ramp ends with the outputs unmuted. Low-power transmit ends in
steps of 0.5 dB, and bit 4 of 1001:07 is set at full level. Under the premises given for each, these answer a next state:
hostMute, hostUnmute, muteRampEnd, enableSettleExpiry, lowPowerExit, lowPowerRiseStep. -/
def Obligations.MutingAndLowPowerFollowTheirCauses : Prop :=
  ((∀ s : State, s.serves → s.on 14 = true → s.rdBit 0x2400 6 0 = false →
       ∃ t, exec .hostMute s = .next t ∧ t.told 0x2400 1 .done ∧ t.rdBit 0x2400 6 0 = true ∧ t.tx.muted = true ∧
         t.tx.settling = false ∧ (s.causes = 0 → s.tx.muted = false → s.rdN 0x2400 2 ≠ 0 → t.tx.ramping = some false)) ∧
     (∀ s : State, s.serves → s.on 14 = true → s.lineMode = true → s.rdN 0x2400 6 = 1 → s.tx.muted = true →
       s.tx.settling = false → s.tx.ramping ≠ some true →
       ∃ t, exec .hostUnmute s = .next t ∧ t.told 0x2400 1 .done ∧ t.rdN 0x2400 6 = 0 ∧ t.rdN 0x2400 7 = 1 ∧
         t.tx.settling = true ∧ t.tx.muted = true) ∧
     (∀ s : State, s.tx.settling = true → s.txEnableOk = true →
       ∃ t, exec .enableSettleExpiry s = .next t ∧ t.tx.settling = false ∧
         (s.rdN 0x2400 2 = 0 → t.tx.muted = false) ∧ (s.rdN 0x2400 2 ≠ 0 → t.tx.ramping = some true ∧ t.tx.muted = true)) ∧
     (∀ s : State, s.tx.ramping = some true →
       ∃ t, exec .muteRampEnd s = .next t ∧ t.tx.muted = false ∧ t.tx.ramping = none) ∧
     ∀ s : State, s.tx.ramping = some false →
       ∃ t, exec .muteRampEnd s = .next t ∧ t.rdN 0x2400 7 = 0 ∧ t.tx.ramping = none ∧ t.tx.muted = s.tx.muted) ∧
  ((∀ s : State, s.on 14 = true → s.rdBit 0x1001 7 4 = false → s.mayRise = true →
       ∃ t, exec .lowPowerExit s = .next t ∧ t.tx.rising = decide (s.tx.attenuation ≠ 0) ∧
         t.rdBit 0x1001 7 4 = decide (s.tx.attenuation = 0)) ∧
     ∀ s : State, s.tx.rising = true →
       ∃ t, exec .lowPowerRiseStep s = .next t ∧ t.tx.attenuation = s.tx.attenuation - 5 ∧
         t.tx.rising = decide (s.tx.attenuation - 5 ≠ 0) ∧ t.rdBit 0x1001 7 4 = decide (s.tx.attenuation - 5 = 0))

/-- Pre-distortion: a local proposal is staged whole for the next boundary; feedback is taken in SERVICE and SHED where its
window lies in the set's interval and nothing is staged, in pairs of one window, and staged for four multiframes on; other
feedback is counted. The dispersion that a message reports is kept in every DPD mode. Under the premises given for each,
these answer a next state: dpdLocalProposal, dpdFeedbackReceive, dpdFbTimeout. -/
def Obligations.CoefficientSetsAreStagedForABoundary : Prop :=
  (∀ (p : Fin 2) (set : List Byte) (res : Int) (s : State), s.on 14 = true → s.dpdMode = 1 → s.itemRuns 9 = true →
      s.tx.dpdCheck = [] → s.tx.dpdReversion = false → set.length = 192 →
      ∃ t, exec (.dpdLocalProposal p set res) s = .next t ∧ t.tx.dpdShadow.map (fun x => x.1) = some (s.mf + 1) ∧
        (p = 0 → t.tx.dpdShadow.map (fun x => x.2.1) = some set) ∧ (p = 1 → t.tx.dpdShadow.map (fun x => x.2.2) = some set) ∧
        t.rdI 0x2401 0x0A = res) ∧
    (∀ (rx : PicotRx) (m : DpdMsg) (s : State), s.ctl.mode = .service ∨ s.ctl.mode = .shed → s.dpdMode = 2 →
      s.picotFound rx = true → s.itemRuns 8 = true → s.rdN 0x2401 5 ≤ m.first →
      m.first ≤ m.last → m.last ≤ s.mf → s.tx.dpdShadow = none → s.tx.dpdHeld = none →
      ∃ t, exec (.dpdFeedbackReceive rx m) s = .next t ∧ t.tx.dpdHeld = some m ∧ t.tx.dpdShadow = none ∧
        t.rdN 0x8801 4 = (s.rdN 0x8801 4 + 1) % 2 ^ 32) ∧
    (∀ (rx : PicotRx) (m h : DpdMsg) (s : State), s.ctl.mode = .service ∨ s.ctl.mode = .shed → s.dpdMode = 2 →
      s.picotFound rx = true → s.itemRuns 8 = true → s.rdN 0x2401 5 ≤ m.first →
      m.first ≤ m.last → m.last ≤ s.mf → s.tx.dpdShadow = none → s.tx.dpdHeld = some h → h.first = m.first → h.last = m.last →
      h.pol ≠ m.pol → s.tx.dpdCheck = [] →
      ∃ t, exec (.dpdFeedbackReceive rx m) s = .next t ∧ t.rdN 0x2401 6 = (s.rdN 0x2401 6 + 2) % 2 ^ 32 ∧ t.tx.dpdHeld = none ∧
        t.tx.dpdShadow.map (fun x => x.1) = some (s.mf + 4)) ∧
    (∀ (rx : PicotRx) (m : DpdMsg) (s : State), s.ctl.mode = .service ∨ s.ctl.mode = .shed → s.dpdMode = 2 →
      s.picotFound rx = true → s.itemRuns 8 = true → m.first < s.rdN 0x2401 5 ∨ m.last < m.first ∨ s.mf < m.last →
      ∃ t, exec (.dpdFeedbackReceive rx m) s = .next t ∧ t.rdN 0x2401 7 = (s.rdN 0x2401 7 + 1) % 2 ^ 32 ∧
        t.tx = { s.tx with farCd := m.cd }) ∧
    (∀ (rx : PicotRx) (m : DpdMsg) (s : State), (s.ctl.mode ≠ .service ∧ s.ctl.mode ≠ .shed) ∨ s.dpdMode ≠ 2 →
      s.picotFound rx = true → s.itemRuns 8 = true →
      ∃ t, exec (.dpdFeedbackReceive rx m) s = .next t ∧ t.tx = { s.tx with farCd := m.cd } ∧
        t.rdN 0x8801 4 = (s.rdN 0x8801 4 + 1) % 2 ^ 32) ∧
    (∀ (rx : PicotRx) (m : DpdMsg) (s : State), s.picotFound rx = false ∨ s.itemRuns 8 = false →
      exec (.dpdFeedbackReceive rx m) s = .next s) ∧
    ∀ s : State, s.on 14 = true → s.dpdMode = 2 → ∃ t, exec .dpdFbTimeout s = .next t ∧ t.rdBit 0x2401 9 0 = true ∧ t.tx = s.tx

/-- The acquisition goes from step to step: signal, frequency, then a fixed dispersion, a warm verify or a cold search by
the mode in 2800:04; a warm verify takes the best of nine candidates around the stored dispersion, and a cold search tries
its coarse candidates and then the fine ones around the best, the clock, and the threads, whose locks count until the
carrier is acquired; a step that exceeds its limit falls back. Under the premises given for each, these answer a next state:
acqSignalConfirmed, acqFrequencyFound, warmVerifyDone, cdCandidateDone, cdSweepDone, clockToneLock, blindEqConverged,
pilotSearchDone, carrierLock, acqStepTimeout. -/
def Obligations.AcquisitionRunsStepByStep : Prop :=
  (∀ s : State, s.acqRuns = true → s.rx.step = .signal → s.rdBit 0x2800 0x0D 0 = false → s.rdBit 0x2800 0x0D 4 = false →
      ∃ t, exec .acqSignalConfirmed s = .next t ∧ t.rx = { s.rx with step := .frequency } ∧ t.rdN 0x2800 1 = 2 ∧
        t.wroteOnly s [key 0x2800 1]) ∧
    (∀ (f : Int) (s : State), s.acqRuns = true → s.rx.step = .frequency →
      ∃ t, exec (.acqFrequencyFound f) s = .next t ∧ t.rdI 0x2800 9 = max (-5000) (min 5000 f) ∧
        t.rx.step = (if s.rdN 0x2800 4 = 2 then .clock else if s.rdN 0x2800 4 ≠ 1 ∧ s.storedCdOk = true ∧ s.rx.cold = false then .warm
          else .cold) ∧ t.rdN 0x2800 1 = (if s.rdN 0x2800 4 = 2 then 4 else 3)) ∧
    (∀ (p : Bool) (l : List Nat) (s : State), s.acqRuns = true → s.rx.step = .warm → l.length = 9 →
      ∃ t, exec (.warmVerifyDone p l) s = .next t ∧ t.rx.step = (if p then .clock else .cold) ∧
        t.rdN 0x2800 1 = (if p then 4 else 3) ∧
        (p = true → ∃ i < 9, (∀ j < 9, l.getD j 0 ≤ l.getD i 0) ∧ t.rdI 0x2800 0x17 =
          max (-(cdMax s.cfg.rate : Int)) (min (cdMax s.cfg.rate) (s.rdI 0x2800 7 + cdAt s.cfg.rate ((i : Int) - 4))))) ∧
    (∀ (m : Nat) (p : Int) (s : State), s.acqRuns = true → s.rx.step = .cold → s.sweepPlace = some p →
      (s.rx.fine = none → p ≠ 16 * s.coarse.2 → ∃ t, exec (.cdCandidateDone m) s = .next t ∧
        t.rx.candidate = s.rx.candidate + 1 ∧ t.rx.best = some (betterOf s.rx.best p m) ∧ t.rx.fine = none ∧ t.dict = s.dict) ∧
      (s.rx.fine = none → p = 16 * s.coarse.2 → ∃ t, exec (.cdCandidateDone m) s = .next t ∧ t.rx.candidate = 0 ∧
        t.rx.fine = some (betterOf s.rx.best p m).1 ∧ t.dict = s.dict) ∧
      (s.rx.fine ≠ none → ∃ t, exec (.cdCandidateDone m) s = .next t ∧ t.rx.candidate = s.rx.candidate + 1 ∧
        t.rx.best = some (betterOf s.rx.best p m) ∧ t.rx.fine = s.rx.fine ∧ t.dict = s.dict)) ∧
    (∀ (b : Int × Nat) (s : State), s.acqRuns = true → s.rx.step = .cold → s.sweepWhole = true → peakOk s.rx.metrics = true →
      s.rx.best = some b →
      ∃ t, exec .cdSweepDone s = .next t ∧ t.rx.step = .clock ∧ t.rdBit 0x2800 0x0D 2 = false ∧ t.rdN 0x2800 1 = 4 ∧
        t.rdI 0x2800 0x17 = max (-(cdMax s.cfg.rate : Int)) (min (cdMax s.cfg.rate) (cdAt s.cfg.rate b.1))) ∧
    (∀ s : State, s.acqRuns = true → s.rx.step = .cold → s.sweepWhole = true → peakOk s.rx.metrics = false →
      ∃ t, exec .cdSweepDone s = .next t ∧
        (s.rx.sweeps = 0 →
          t.rx = { s.rx with sweeps := 1, candidate := 0, best := none, fine := none, metrics := [] } ∧ t.dict = s.dict) ∧
        (s.rx.sweeps ≠ 0 → t.rdBit 0x2800 0x0D 2 = true ∧ t.rx.step = .signal ∧ t.rx.cold = true ∧ t.rdN 0x2800 1 = 1)) ∧
    (∀ s : State, s.acqRuns = true → s.rx.step = .clock → s.cfg.threads ≤ 32 →
      ∃ t, exec .clockToneLock s = .next t ∧ t.rx = { s.rx with step := .threads, cdDone := true, keepCd := false } ∧
        t.rdN 0x2800 1 = 5 ∧ (s.rx.keepCd = false → t.rdI 0x2800 7 = s.rdI 0x2800 0x17 ∧ t.rdN 0x2800 0x13 = s.cfg.rate) ∧
        (s.rx.keepCd = true → t.rdI 0x2800 7 = s.rdI 0x2800 7 ∧ t.rdN 0x2800 0x13 = s.rdN 0x2800 0x13) ∧
        ∀ k : Fin 32, s.rxAcquires k.val = true → t.rdN (0x2810 + k.val) 1 = (if s.rdN (0x2810 + k.val) 1 = 4 then 4 else 1)) ∧
    (∀ (k : Fin 32) (s : State), s.threadRuns k.val = true → s.rx.cdDone = true → s.rxAcquires k.val = true →
      (s.rdN (0x2810 + k.val) 1 = 1 → ∃ t, exec (.blindEqConverged k) s = .next t ∧ t.rdN (0x2810 + k.val) 1 = 2 ∧ t.rx = s.rx) ∧
      (s.rdN (0x2810 + k.val) 1 = 2 → ∃ t, exec (.pilotSearchDone k) s = .next t ∧ t.rdN (0x2810 + k.val) 1 = 3 ∧ t.rx = s.rx)) ∧
    (∀ (k : Fin 32) (us : Nat) (s : State), s.threadRuns k.val = true → s.rx.cdDone = true → s.rxAcquires k.val = true →
      s.rdN (0x2810 + k.val) 1 = 3 → s.cfg.threads ≤ 32 →
      ∃ t, exec (.carrierLock k us) s = .next t ∧ t.rdN (0x2810 + k.val) 1 = 4 ∧ t.rdBit (0x2810 + k.val) 0x0A 0 = false ∧
        (s.rdN 0x2800 1 = 5 → (∀ j ∈ s.rxThreads, j ≠ k.val → s.rdN (0x2810 + j) 1 = 4) →
          t.rdN 0x2800 1 = 6 ∧ t.rdN 0x2800 0x0B = us % 2 ^ 32 ∧ t.rdN 0x2800 0x0C = (s.rdN 0x2800 0x0C + 1) % 2 ^ 32)) ∧
    (∀ (k : Fin 32) (s : State), s.acqRuns = true →
      (s.rx.step = .warm → ∃ t, exec (.acqStepTimeout 3 k) s = .next t ∧ t.rx.step = .cold) ∧
      (s.rx.step = .clock → ∃ t, exec (.acqStepTimeout 5 k) s = .next t ∧
        t.rx.step = (if s.rdN 0x2800 4 = 2 then .clock else if s.rdN 0x2800 4 ≠ 1 ∧ s.storedCdOk = true ∧ s.rx.cold = false then .warm
          else .cold))) ∧
    ∀ (k : Fin 32) (n : Fin 3) (s : State), s.threadRuns k.val = true → s.rx.cdDone = true → s.rxAcquires k.val = true →
      s.rdN (0x2810 + k.val) 1 = n.val + 1 →
      ∃ t, exec (.acqStepTimeout (n.val + 6) k) s = .next t ∧ t.rdN (0x2810 + k.val) 1 = 1 ∧
        t.rdN (0x2810 + k.val) 6 = (s.rdN (0x2810 + k.val) 6 + 1) % 2 ^ 32 ∧ t.rx = s.rx

/-- RX_LOS and RX_CLK_LOL take every lock with them and restart the acquisition, a lost thread counts its loss, the other
defects follow their timers, and the slow corrections move within their limits. The easel: arming waits for the selected
trigger, or fires at once on trigger 0, and is answered BUSY in SHED; a capture ends with its elements, their count and the
captures counted; an abort leaves state 4. Under the premises given for each, these answer a next state: rxLosSet,
rxLosClear, rxClkLolSet, rxClkLolClear, foHighTimer, thrLolSet, thrSnrLowTimer, frontEndUpdate, cdTrackUpdate, nlScaleAdapt,
cycleSlip, easelArm, easelAbort, easelTrigger, easelCaptureDone. -/
def Obligations.ReceiveDefectsAndEaselCaptures : Prop :=
  ((∀ s : State, s.on 10 = true → s.losBelow = true → s.cfg.threads ≤ 32 →
       ∃ t, exec .rxLosSet s = .next t ∧ t.rdBit 0x2800 0x0D 0 = true ∧ t.rx.step = .signal ∧ t.rx.cdDone = false ∧
         t.rdN 0x2800 1 = 1 ∧ ∀ k : Fin 32, s.rxAcquires k.val = true → t.rdN (0x2810 + k.val) 1 = 0 ∧
           (s.masked k.val = false → t.rdBit (0x2810 + k.val) 0x0A 0 = true)) ∧
     (∀ s : State, s.on 10 = false ∨ s.losBelow = false → exec .rxLosSet s = .next s) ∧
     (∀ s : State, s.rdBit 0x2800 0x0D 0 = true → s.losAbove = true →
       ∃ t, exec .rxLosClear s = .next t ∧ t.rdBit 0x2800 0x0D 0 = false ∧ t.rx.step = .signal ∧ t.rx.cold = false) ∧
     (∀ s : State, s.on 10 = true → s.rx.cdDone = true → s.cfg.threads ≤ 32 →
       ∃ t, exec .rxClkLolSet s = .next t ∧ t.rdBit 0x2800 0x0D 1 = true ∧ t.rx.step = .clock ∧ t.rdN 0x2800 1 = 4 ∧
         t.rx.cdDone = false ∧ t.rx.keepCd = true ∧
         t.rdI 0x2800 7 = s.rdI 0x2800 7 ∧ t.rdI 0x2800 0x17 = s.rdI 0x2800 0x17) ∧
     (∀ s : State, s.rdBit 0x2800 0x0D 1 = true →
       ∃ t, exec .rxClkLolClear s = .next t ∧ t.rdBit 0x2800 0x0D 1 = false ∧ t.rx = s.rx) ∧
     (∀ s : State, s.on 10 = true →
       (s.rdN 0x2800 0x0A < s.offsetMhz.natAbs → ∃ t, exec (.foHighTimer true) s = .next t ∧ t.rdBit 0x2800 0x0D 3 = true ∧
         t.wroteOnly s [key 0x2800 0x0D] ∧ t.rx = s.rx) ∧
       (s.offsetMhz.natAbs + 100 < s.rdN 0x2800 0x0A → ∃ t, exec (.foHighTimer false) s = .next t ∧
         t.rdBit 0x2800 0x0D 3 = false ∧ t.wroteOnly s [key 0x2800 0x0D] ∧ t.rx = s.rx)) ∧
     (∀ (k : Fin 32) (s : State), s.rxActive k.val = true → s.rdBit (0x2810 + k.val) 0x0A 0 = false →
       ∃ t, exec (.thrLolSet k) s = .next t ∧ t.rdBit (0x2810 + k.val) 0x0A 0 = true ∧
         t.rdN (0x2810 + k.val) 6 = (s.rdN (0x2810 + k.val) 6 + 1) % 2 ^ 32 ∧
         t.rdN (0x2810 + k.val) 1 = (if s.rx.cdDone then 1 else 0) ∧ t.rx = s.rx) ∧
     (∀ (k : Fin 32) (b : Bool) (s : State), s.rxActive k.val = true → 
       (if b then s.rdI (0x2810 + k.val) 0x0B ≠ 0 ∧ s.threadSnr k.val < s.rdI (0x2810 + k.val) 0x0B
         else s.rdI (0x2810 + k.val) 0x0B + 50 < s.threadSnr k.val) →
       ∃ t, exec (.thrSnrLowTimer k b) s = .next t ∧ t.rdBit (0x2810 + k.val) 0x0A 1 = b ∧
         t.wroteOnly s [key (0x2810 + k.val) 0x0A]) ∧
     (∀ (c : Fin 4) (sk g q : Int) (s : State), s.on 10 = true → s.itemRuns 0 = true →
       ∃ t, exec (.frontEndUpdate c sk g q) s = .next t ∧ t.rdI (0x2801 + c.val) 3 = max (-50) (min 50 sk) ∧
         t.rdI (0x2801 + c.val) 5 = (if c.val % 2 = 0 then s.rdI (0x2801 + c.val) 5 else clamp14 g) ∧
         t.rdI (0x2801 + c.val) 6 = (if c.val % 2 = 0 then s.rdI (0x2801 + c.val) 6 else clamp14 q) ∧
         t.wroteOnly s ([3, 5, 6].map (key (0x2801 + c.val)))) ∧
     (∀ (r : Int) (s : State), s.rdN 0x2800 1 = 6 → s.itemRuns 0 = true →
       ∃ t, exec (.cdTrackUpdate r) s = .next t ∧ t.wroteOnly s [key 0x2800 0x17] ∧
         t.rdI 0x2800 0x17 = max (-(cdMax s.cfg.rate : Int)) (min (cdMax s.cfg.rate) (s.rdI 0x2800 0x17 + max (-20) (min 20 r)))) ∧
     (∀ (k : Fin 32) (x : Int) (s : State), s.rdB 0x2800 0x12 = true → s.rdN (0x2810 + k.val) 1 = 4 →
       s.itemRuns (k.val / 8) = true → ∃ t, exec (.nlScaleAdapt k x) s = .next t ∧ t.rdI (0x2810 + k.val) 9 = clamp14 x ∧
         t.wroteOnly s [key (0x2810 + k.val) 9]) ∧
     ∀ (k : Fin 32) (s : State), s.rdN (0x2810 + k.val) 1 = 4 → ∃ t, exec (.cycleSlip k) s = .next t ∧
       t.rdN (0x2810 + k.val) 5 = (s.rdN (0x2810 + k.val) 5 + 1) % 2 ^ 32 ∧ t.wroteOnly s [key (0x2810 + k.val) 5, key 0x2840 8, key 0x2840 0x0B]) ∧
  ((∀ s : State, s.serves → s.ctl.mode ≠ .shed → ∃ t, exec .easelArm s = .next t ∧ t.told 0x2840 7 .done ∧
       t.rdN 0x2840 8 = (if s.rdN 0x2840 5 = 0 then 2 else 1) ∧ t.rx = s.rx) ∧
     (∀ s : State, s.serves → s.ctl.mode = .shed → ∃ t, exec .easelArm s = .next t ∧ t.toldBusy 0x2840 7 ∧
       t.rdN 0x2840 8 = s.rdN 0x2840 8) ∧
     (∀ s : State, s.serves → s.rdN 0x2840 8 = 1 ∨ s.rdN 0x2840 8 = 2 →
       ∃ t, exec .easelAbort s = .next t ∧ t.told 0x2840 7 .done ∧ t.rdN 0x2840 8 = 4) ∧
     (∀ s : State, s.rdN 0x2840 8 = 1 → s.rdN 0x2840 5 ≠ 0 → ∃ t, exec .easelTrigger s = .next t ∧ t.rdN 0x2840 8 = 2 ∧
       t.rd 0x2840 0x0B = time96 (s.devTime - s.easelLength * s.rdN 0x2840 6 / 100 * s.easelStep) ∧
       t.wroteOnly s [key 0x2840 8, key 0x2840 0x0B]) ∧
     (∀ s : State, s.rdN 0x2840 8 ≠ 1 ∨ s.rdN 0x2840 5 = 0 → exec .easelTrigger s = .next s) ∧
     (∀ (d : List (List Int)) (s : State), s.rdN 0x2840 8 = 2 → s.rdN 0x2840 1 ≠ 4 → s.easelLength ≤ d.length →
       ∃ t, exec (.easelCaptureDone d) s = .next t ∧ t.rdN 0x2840 8 = 3 ∧ t.rdN 0x2840 0x0C = s.easelLength ∧
         t.rd 0x2840 0x0A = .bytes ((d.take s.easelLength).flatMap (easelElement (s.rdN 0x2840 1))) ∧
         t.rdN 0x2840 0x0D = (s.rdN 0x2840 0x0D + 1) % 2 ^ 32) ∧
     ∀ (d : List (List Int)) (s : State), s.rdN 0x2840 8 = 2 → s.rdN 0x2840 1 = 4 →
       ∃ t, exec (.easelCaptureDone d) s = .next t ∧ t.rdN 0x2840 8 = 3 ∧ t.rdN 0x2840 0x0C = s.easelLength ∧
         t.rdN 0x2840 0x0D = (s.rdN 0x2840 0x0D + 1) % 2 ^ 32)

/-- A codeword of a locked thread is decoded under the cap with which its decoding started, failed where it is marked, and
counted; the 93rd completes an LF with its mark and decisions; loopback 2 sends the decisions again. One of an unlocked
thread is discarded. 10 ms windows judge the FEC defects, the budget cap follows the decoder's power, and FORCED_FAILURE
marks only in mode 3. Under the premises given for each, these answer a next state: codewordRelease, budgetCapUpdate,
fecWindowEnd, forcedFailure. -/
def Obligations.CodewordsWindowsAndTheBudgetCap : Prop :=
  (∀ (k : Fin 32) (l : List Int) (s : State), s.rdN (0x2810 + k.val) 1 ≠ 4 →
      ∃ t, exec (.codewordRelease k l) s = .next t ∧ t.dict = s.dict ∧ t.out = s.out ∧
        t.fecOf k.val = (s.fecOf k.val).discard) ∧
    (∀ (k : Fin 32) (l : List Int) (s : State), s.rdN (0x2810 + k.val) 1 = 4 →
      let f := s.inDecoding k.val
      let r := decodeCodeword s.cfg.profile f.cap (s.decoderInput k.val l)
      let last := 92 ≤ f.pos
      let one := fun (p : Bool) => if p then 1 else 0
      let ok := r.2.1 && !f.forced
      ∃ t, exec (.codewordRelease k l) s = .next t ∧
        t.rdN (0x3010 + k.val) 1 = (s.rdN (0x3010 + k.val) 1 + 1) % 2 ^ 64 ∧
        t.rdN (0x3010 + k.val) 2 = (s.rdN (0x3010 + k.val) 2 + one !ok) % 2 ^ 64 ∧
        t.rdN (0x3010 + k.val) 3 = (s.rdN (0x3010 + k.val) 3 +
          (if ok then correctedBits s.cfg.profile r.2.2.1 r.2.2.2 else 0)) % 2 ^ 64 ∧
        t.rdN (0x3010 + k.val) 7 = (s.rdN (0x3010 + k.val) 7 + one (r.1 == f.cap || !ok)) % 2 ^ 64 ∧
        t.rdN (0x3010 + k.val) 8 = (s.rdN (0x3010 + k.val) 8 + one (last && (f.lfMark || !ok))) % 2 ^ 64 ∧
        (t.fecOf k.val).cap = s.fecCap ∧ (t.fecOf k.val).forced = decide (0 < f.force) ∧
        (t.fecOf k.val).force = f.force - 1 ∧ (t.fecOf k.val).winAll = f.winAll + 1 ∧
        (t.fecOf k.val).pos = (if last then 0 else f.pos + 1) ∧ (t.fecOf k.val).lfMark = (!last && (f.lfMark || !ok)) ∧
        (t.fecOf k.val).lfs = (if last then f.lfs ++ [(f.lfMark || !ok,
          (bitsBytes (hardDecisions s.cfg.profile r.2.2.2) :: f.sys).reverse)] else f.lfs) ∧
        (s.rdN 0x3000 0x0A ≠ 2 → t.out = s.out) ∧
        (s.rdN 0x3000 0x0A = 2 → t.out = .coded k.val (bitsBytes (({ s with free := s.free + codeLength s.cfg.profile } : State).injectCoded
          k.val (encode s.cfg.profile (hardDecisions s.cfg.profile r.2.2.2)))) :: s.out) ∧
        t.wroteOnly s ([1, 2, 3, 7, 8].map (key (0x3010 + k.val)))) ∧
    (∀ (k : Fin 32) (s : State), (s.fecOf k.val).winAll ≠ 0 → s.rdN (0x2810 + k.val) 1 = 4 →
      ∃ t, exec (.fecWindowEnd k) s = .next t ∧ (t.fecOf k.val).winAll = 0 ∧ (t.fecOf k.val).winUnc = 0 ∧
        ((s.fecOf k.val).winUnc ≠ 0 → t.rdBit (0x3010 + k.val) 0x0B 1 = true) ∧
        ((s.fecOf k.val).winUnc = 0 → 99 ≤ (s.fecOf k.val).uncClear → t.rdBit (0x3010 + k.val) 0x0B 1 = false) ∧
        (s.rdN 0x3000 0x11 < (s.fecOf k.val).winLf → t.rdBit (0x3010 + k.val) 0x0B 2 = true) ∧
        (2 ≤ (s.fecOf k.val).sdRun → (s.fecOf k.val).winOk = 0 ∨ s.rdN 0x3000 0x10 * (codeLength s.cfg.profile * (s.fecOf k.val).winOk) <
          10000000000 * (s.fecOf k.val).winBits → t.rdBit (0x3010 + k.val) 0x0B 0 = true)) ∧
    (∀ (p : Nat) (s : State), s.on 15 = true → s.itemRuns 4 = true → s.itemRuns 5 = true → s.rdN 0x3000 5 ≠ 0 →
      ∃ t, exec (.budgetCapUpdate p) s = .next t ∧ t.rdN 0x3000 6 = p % 65536 ∧
        (s.rdN 0x3000 5 < p → 4 < s.rdN 0x3000 7 → (∀ x ∈ s.fec.threads, x.2.perUnc = 0 ∧ 10000 * x.2.perCap ≤ x.2.perAll) →
          t.rdN 0x3000 7 = s.rdN 0x3000 7 - 1 ∧ t.rdBit 0x3000 0x0F 0 = false) ∧
        (s.rdN 0x3000 5 < p → 4 < s.rdN 0x3000 7 → ¬(∀ x ∈ s.fec.threads, x.2.perUnc = 0 ∧ 10000 * x.2.perCap ≤ x.2.perAll) →
          t.rdN 0x3000 7 = s.rdN 0x3000 7 ∧ t.rdBit 0x3000 0x0F 0 = true) ∧
        (p + 10 < s.rdN 0x3000 5 → t.rdN 0x3000 7 = (if 9 ≤ s.fec.lowPeriods ∧ s.rdN 0x3000 7 < s.fec.hostCap then
          s.rdN 0x3000 7 + 1 else s.rdN 0x3000 7)) ∧ t.wroteOnly s [key 0x3000 6, key 0x3000 7, key 0x3000 0x0F]) ∧
    (∀ (c : Fin 65536) (s : State), c.val ≠ 0 → s.serves → s.rdN 0x3000 0x0B = 3 →
      ∃ t, exec (.forcedFailure c.val) s = .next t ∧ t.told 0x3000 0x0E .done ∧
        ∀ k : Fin 32, (t.fecOf k.val).force = (if s.rdBit 0x3000 0x0D k.val then max c.val (s.fecOf k.val).force else (s.fecOf k.val).force)) ∧
    ∀ (c : Fin 65536) (s : State), c.val ≠ 0 → s.serves → s.rdN 0x3000 0x0B ≠ 3 →
      ∃ t, exec (.forcedFailure c.val) s = .next t ∧ t.told 0x3000 0x0E .conflict ∧ t.fec = s.fec

/-- The header hunt of a thread: the first valid header leads to PRESYNC, two more consistent ones to SYNC, five that are
not to OOF, where the loss is counted; the LFs that a framer processes are counted, and no other. LF_LOF, LF_OHL, TEN_OVF
and the shed mask follow their timers, a page collected whole waits for the next multiframe, and a verdict joins its
record's counters ten seconds on. Under the premises given for each, these answer a next state: lfReceive, lfLofTimer,
lfOhlTimer, pageAdopt, tenOvfClear, pmVerdictCommit, shedMaskTimeout. -/
def Obligations.HeadersAreHuntedAndLinesTimed : Prop :=
  ((∀ (k : Fin 32) (lf : LfIn) (s : State), s.framed k.val = true →
       ∃ t, exec (.lfReceive k lf) s = .next t ∧ t.rdN (0x3450 + k.val) 3 = (s.rdN (0x3450 + k.val) 3 + 1) % 2 ^ 64) ∧
     (∀ (k : Fin 32) (lf : LfIn) (s : State), s.framed k.val = false →
       ∃ t, exec (.lfReceive k lf) s = .next t ∧ t.rdN (0x3450 + k.val) 3 = s.rdN (0x3450 + k.val) 3) ∧
     (∀ (k : Fin 32) (lf : LfIn) (s : State), s.huntState k.val = 1 → headerValid s.inForce k.val lf.header.toNat = true →
       ∃ t, exec (.lfReceive k lf) s = .next t ∧ t.huntState k.val = 2 ∧ (t.hunt k.val).run = 0 ∧
         ((t.hunt k.val).expIdx, (t.hunt k.val).expLow) = nextExpected (parseHeader s.cfg.profile lf.header.toNat).index
           (parseHeader s.cfg.profile lf.header.toNat).low ∧
         t.rdN (0x3450 + k.val) 9 = (parseHeader s.cfg.profile lf.header.toNat).code) ∧
     (∀ (k : Fin 32) (lf : LfIn) (s : State), s.huntState k.val = 1 → headerValid s.inForce k.val lf.header.toNat = false →
       ∃ t, exec (.lfReceive k lf) s = .next t ∧ t.huntState k.val = 1 ∧
         t.hunt k.val = { s.hunt k.val with secLf := (t.hunt k.val).secLf, secBad := (t.hunt k.val).secBad }) ∧
     (∀ (k : Fin 32) (lf : LfIn) (s : State), s.huntState k.val = 2 → (s.hunt k.val).expIdx ≠ 0 →
       ∃ t, exec (.lfReceive k lf) s = .next t ∧
         (s.consistent k.val lf.header.toNat = false → t.huntState k.val = 1) ∧
         (s.consistent k.val lf.header.toNat = true → t.huntState k.val = (if 1 ≤ (s.hunt k.val).run then 3 else 2))) ∧
     (∀ (k : Fin 32) (lf : LfIn) (s : State), s.huntState k.val = 3 → (s.hunt k.val).expIdx ≠ 0 →
       ∃ t, exec (.lfReceive k lf) s = .next t ∧
         (s.consistent k.val lf.header.toNat = true → t.huntState k.val = 3 ∧ (t.hunt k.val).miss = 0) ∧
         (s.consistent k.val lf.header.toNat = false → (s.hunt k.val).miss < 4 →
           t.huntState k.val = 3 ∧ (t.hunt k.val).miss = (s.hunt k.val).miss + 1) ∧
         (s.consistent k.val lf.header.toNat = false → 4 ≤ (s.hunt k.val).miss → t.huntState k.val = 4 ∧
           t.rdN (0x3450 + k.val) 6 = (s.rdN (0x3450 + k.val) 6 + 1) % 2 ^ 32)) ∧
     ∀ (k : Fin 32) (lf : LfIn) (s : State), s.huntState k.val = 4 → (s.hunt k.val).expIdx ≠ 0 →
       ∃ t, exec (.lfReceive k lf) s = .next t ∧
         (s.consistent k.val lf.header.toNat = true → 1 ≤ (s.hunt k.val).run → t.huntState k.val = 3) ∧
         (s.consistent k.val lf.header.toNat = false → t.huntState k.val = (if 15 ≤ (s.hunt k.val).miss then 1 else 4))) ∧
  ((∀ (k : Fin 32) (s : State), s.rxActive k.val = true → s.huntState k.val = 4 →
       ∃ t, exec (.lfLofTimer k true) s = .next t ∧ t.rdBit (0x3450 + k.val) 2 0 = true) ∧
     (∀ (k : Fin 32) (s : State), s.huntState k.val = 3 →
       ∃ t, exec (.lfLofTimer k false) s = .next t ∧ t.rdBit (0x3450 + k.val) 2 0 = false) ∧
     (∀ s : State, s.on 16 = true → s.lineMode = true → ∃ t, exec .lfOhlTimer s = .next t ∧ t.rdBit 0x3440 7 1 = true ∧
       t.wroteOnly s [key 0x3440 7]) ∧
     (∀ (n : Fin 4096) (s : State), s.rdBit (0x6000 + n.val) 0x0D 4 = true →
       ∃ t, exec (.tenOvfClear n) s = .next t ∧ t.rdBit (0x6000 + n.val) 0x0D 4 = false ∧ t.wroteOnly s [key (0x6000 + n.val) 0x0D]) ∧
     (∀ (k : Fin 32) (s : State), k.val ∈ s.rx.maskHeld →
       ∃ t, exec (.shedMaskTimeout k) s = .next t ∧ k.val ∉ t.rx.maskHeld) ∧
     (∀ (k : Fin 32) (s : State), k.val ∉ s.rx.maskHeld → ∃ t, exec (.shedMaskTimeout k) s = .next t ∧ t.dict = s.dict) ∧
     (∀ (k : Fin 32) (b : List Byte) (s : State), s.rdBit (0x3450 + k.val) 2 2 = true → pageDigest b = (s.hunt k.val).digest →
       ∃ t, exec (.pageAdopt k b) s = .next t ∧ (t.hunt k.val).collected = some (b.take (4 + 4 * beField b 0 2)) ∧ t.dict = s.dict) ∧
     (∀ (k : Fin 32) (b : List Byte) (s : State), pageDigest b ≠ (s.hunt k.val).digest → exec (.pageAdopt k b) s = .next s) ∧
     (∀ (x : Verdict) (q : List (List Verdict)) (s : State), 9 ≤ q.length → s.frm.verdicts = q ++ [[x]] → x.excluded = false →
       x.unavailable = false → ∃ t, exec .pmVerdictCommit s = .next t ∧ t.frm.verdicts = q ∧
         t.rdB (x.level / 256) 5 = true ∧ t.rdN (x.level / 256) 6 = (s.rdN (x.level / 256) 6 + 1) % 2 ^ 32 ∧
         t.rdN (x.level / 256) 1 = (s.rdN (x.level / 256) 1 + (if x.es then 1 else 0)) % 2 ^ 32 ∧
         (x.ses = true → t.rdN (x.level / 256) 2 = (s.rdN (x.level / 256) 2 + 1) % 2 ^ 32 ∧
           t.rdN (x.level / 256) 4 = s.rdN (x.level / 256) 4) ∧
         (x.ses = false → t.rdN (x.level / 256) 4 = (s.rdN (x.level / 256) 4 + x.bbe) % 2 ^ 64)) ∧
     ∀ s : State, s.frm.verdicts.length < 10 → exec .pmVerdictCommit s = .next s)

/-- A tenant is configured with the lowest block that holds its queues and freed only with no positions; the exact-match
table is added to, deleted from and looked up by its key; a staged resize is marked built. Under the premises given for
each, these answer a next state: tenantAllocate, tenantFree, exactAdd, exactDelete, exactLookUp, resizeCalendarBuild. -/
def Obligations.TenantsTakeBlocksAndKeys : Prop :=
  (∀ (n : Fin 4096) (j : Fin 7) (b : Nat) (s : State), s.serves → s.tenOn n.val = false → s.homeHere n.val = true →
      s.blockSize n.val = j.val → j ≠ 0 → s.tenCbr n.val = false → s.portMode (s.portOf n.val) = 1 →
      classMapOk j.val (s.rdS (0x4000 + n.val) 7) = true → s.findBlock j.val = some b → s.lineMode = false ∨ (s.allocate n.val).laneCheck.1 = 0 →
      ∃ t, exec (.tenantAllocate n) s = .next t ∧ t.told (0x4000 + n.val) 1 .done ∧ t.tenOn n.val = true ∧
        t.queueBase n.val = b ∧ lget b t.grm.blocks = some j.val ∧ ∀ q, q < 2 ^ j.val → (t.queue (b + q)).owner = n.val) ∧
    (∀ (n : Fin 4096) (j : Fin 7) (s : State), s.serves → s.tenOn n.val = false → s.homeHere n.val = true →
      s.blockSize n.val = j.val → j ≠ 0 → s.tenCbr n.val = false → s.portMode (s.portOf n.val) = 1 →
      classMapOk j.val (s.rdS (0x4000 + n.val) 7) = true → s.findBlock j.val = none → s.lineMode = false ∨ (s.allocate n.val).laneCheck.1 = 0 →
      ∃ t, exec (.tenantAllocate n) s = .next t ∧ t.told (0x4000 + n.val) 1 .exhausted ∧ t.grm = s.grm ∧ t.tenOn n.val = false) ∧
    (∀ (n : Fin 4096) (s : State), s.serves → s.tenOn n.val = false → s.homeHere n.val = true → s.blockSize n.val = 0 →
      s.tenCbr n.val = true → s.portMode (s.portOf n.val) = 2 → classMapOk 0 (s.rdS (0x4000 + n.val) 7) = true →
      s.lineMode = false ∨ (s.allocate n.val).laneCheck.1 = 0 →
      ∃ t, exec (.tenantAllocate n) s = .next t ∧ t.told (0x4000 + n.val) 1 .done ∧ t.tenOn n.val = true ∧ t.grm = s.grm) ∧
    (∀ (n : Fin 4096) (s : State), s.serves → s.tenOn n.val = true → s.holdsPositions n.val = false →
      s.lineMode = false ∨ (s.release n.val).laneCheck.1 = 0 →
      ∃ t, exec (.tenantFree n) s = .next t ∧ t.told (0x4000 + n.val) 1 .done ∧ t.tenOn n.val = false ∧
        t.queueBase n.val = 0xFFFFFFFF ∧
        (s.tenantQueues n.val false ++ s.tenantQueues n.val true ≠ [] → lget (s.queueBase n.val) t.grm.blocks = none)) ∧
    (∀ (n : Fin 4096) (s : State), s.serves → s.tenOn n.val = true → s.holdsPositions n.val = true →
      ∃ t, exec (.tenantFree n) s = .next t ∧ t.told (0x4000 + n.val) 1 .conflict ∧ t.grm = s.grm ∧ t.tenOn n.val = true) ∧
    (∀ s : State, s.serves → s.rdN 0x7100 2 ≠ 1 ∨ (1 ≤ s.rdN 0x7100 3 ∧ s.rdN 0x7100 3 ≤ 4095) → s.grm.exact.length < 65536 →
      (∃ t, exec .exactAdd s = .next t ∧ t.told 0x7100 5 .done ∧
        lget (exactKey (s.rdN 0x7100 1) (s.rdN 0x7100 2) (s.rdN 0x7100 3)) t.grm.exact = some (s.rdN 0x7100 4)) ∧
      (∃ t, exec .exactLookUp s = .next t ∧ t.told 0x7100 5 .done ∧ t.grm = s.grm ∧
        t.rdN 0x7100 6 = lgetD (exactKey (s.rdN 0x7100 1) (s.rdN 0x7100 2) (s.rdN 0x7100 3)) 4096 s.grm.exact) ∧
      ∃ t, exec .exactDelete s = .next t ∧
        lget (exactKey (s.rdN 0x7100 1) (s.rdN 0x7100 2) (s.rdN 0x7100 3)) t.grm.exact = none ∧
        t.told 0x7100 5 (if (lget (exactKey (s.rdN 0x7100 1) (s.rdN 0x7100 2) (s.rdN 0x7100 3)) s.grm.exact).isSome then .done
          else .noEntry)) ∧
    (∀ s : State, s.serves → s.rdN 0x7100 2 = 1 → s.rdN 0x7100 3 = 0 ∨ 4095 < s.rdN 0x7100 3 →
      ∃ t, exec .exactAdd s = .next t ∧ t.told 0x7100 5 .outOfRange ∧ t.grm = s.grm) ∧
    ∀ (m : Nat) (s : State), ∃ t, exec (.resizeCalendarBuild m) s = .next t ∧ t.dict = s.dict ∧ t.grm = s.grm ∧
      t.tra.staged.length = s.tra.staged.length ∧ ∀ x ∈ t.tra.staged, x.num = m → x.built = true

/-- An Ethernet frame is counted, and discarded, or classified and kept for its cells; a granted request joins its queue and
one over the threshold is dropped and counted, and none comes from the line while its container is out of step or a receive
condition holds; the port starts the frame its schedulers choose, which leaves its queue when it has ended, or at once where
its FCS fails. Under the premises given for each, these answer a next state: ingressFrame, cellRequest, egressFrameStart. -/
def Obligations.FramesAreClassifiedQueuedAndSent : Prop :=
  (∀ (p : Fin 16) (id : Nat) (b : List Byte) (s : State), s.on 17 = true → s.portMode p.val = 1 →
      (Frame.ofBytes id b).fcsOk = false ∨ b.length < 64 ∨ s.rdN (0x7010 + p.val) 6 < b.length →
      ∃ t, exec (.ingressFrame p id b) s = .next t ∧ t.rdN (0x7010 + p.val) 0x0D = (s.rdN (0x7010 + p.val) 0x0D + 1) % 2 ^ 64 ∧
        t.rdN (0x7010 + p.val) 0x0F = (s.rdN (0x7010 + p.val) 0x0F + 1) % 2 ^ 64 ∧ t.grm = s.grm) ∧
    (∀ (p : Fin 16) (id n : Nat) (b : List Byte) (s : State), s.on 17 = true → s.portMode p.val = 1 →
      (Frame.ofBytes id b).control = false → (Frame.ofBytes id b).fcsOk = true →
      64 ≤ b.length → b.length ≤ s.rdN (0x7010 + p.val) 6 → (s.classify p.val (Frame.ofBytes id b)).1 = n →
      (n < 4096 → s.packetTenant n = true → s.portMode (s.portOf n) = 1 → s.protOf n = none → s.groupHome n = false →
        ∃ t, exec (.ingressFrame p id b) s = .next t ∧
          t.rdN (0x7010 + p.val) 0x0D = (s.rdN (0x7010 + p.val) 0x0D + 1) % 2 ^ 64 ∧ t.grm.inbox = s.grm.inbox ++
          [{ port := p.val, frame := Frame.ofBytes id b, tenant := n
             cls := s.classOf p.val (Frame.ofBytes id b) (s.classify p.val (Frame.ofBytes id b)).2, seqNo := none }]) ∧
      (∀ j q, n < 4096 → s.packetTenant n = true → s.portMode (s.portOf n) = 1 → s.protOf n = some (j, q) →
        ∃ t, exec (.ingressFrame p id b) s = .next t ∧ (t.prot j).txSeqNo = ((s.prot j).txSeqNo + 1) % 2 ^ 32 ∧
          t.grm.inbox.map (fun x => (x.tenant, x.frame.len, x.seqNo)) =
            s.grm.inbox.map (fun x => (x.tenant, x.frame.len, x.seqNo)) ++
              [2, 3].map fun m => (s.rdN (0x8D00 + j) m, b.length + 6, some (s.prot j).txSeqNo)) ∧
      (n = 4096 ∨ s.packetTenant n = false ∨ s.portMode (s.portOf n) ≠ 1 → ∃ t, exec (.ingressFrame p id b) s = .next t ∧
        t.rdN (0x7010 + p.val) 0x0D = (s.rdN (0x7010 + p.val) 0x0D + 1) % 2 ^ 64 ∧
        t.rdN (0x7010 + p.val) 0x10 = (s.rdN (0x7010 + p.val) 0x10 + 1) % 2 ^ 64 ∧ t.grm = s.grm)) ∧
    (∀ (cy : Nat) (r : CellReq) (x : Inboxed) (s : State), s.on 17 = true → r.egress = false → r.writer.val < 16 →
      s.grm.inbox.find? (fun y => y.port == r.writer.val) = some x → s.packetTenant x.tenant = true →
      x.tenant < 4096 → grantOf (s.queue (s.queueFor x.tenant x.cls false)).drawn (cellsOf x.frame.len)
        (s.queue (s.queueFor x.tenant x.cls false)).reserve (s.queue (s.queueFor x.tenant x.cls false)).limit
        (s.queue (s.queueFor x.tenant x.cls false)).threshold s.sharedFree (decide (s.sharedFree ≠ 0)) = .grant →
      ∃ t, exec (.cellRequest cy [r]) s = .next t ∧ t.grm.inbox = s.grm.inbox.erase x ∧
        (t.queue (s.queueFor x.tenant x.cls false)).frames = (s.queue (s.queueFor x.tenant x.cls false)).frames ++
          [{ id := x.frame.id, len := x.frame.len, bytes := x.frame.bytes, cells := cellsOf x.frame.len, port := x.port, cls := x.cls, headroom := false,
             seqNo := x.seqNo, ready := true }] ∧
        t.rdN (0x4000 + x.tenant) 0x0F = (s.rdN (0x4000 + x.tenant) 0x0F + 1) % 2 ^ 64) ∧
    (∀ (cy : Nat) (r : CellReq) (s : State), s.on 17 = true → r.egress = true → s.packetTenant r.tenant.val = true →
      s.groupHome r.tenant.val = false → s.standbyStale r.tenant.val r.seqNo = false →
      (18 ≤ r.writer.val → s.tenantRdiSent r.tenant.val = false ∧ (s.ten r.tenant.val).delin.st = 2) →
      let c := if r.writer.val < 18 then r.cls.val else s.egressClass r.tenant.val r.bytes
      let q := s.queueFor r.tenant.val c true
      (grantOf (s.queue q).drawn (cellsOf r.len) (s.queue q).reserve (s.queue q).limit (s.queue q).threshold s.sharedFree
          (decide (s.sharedFree ≠ 0)) = .grant →
        ∃ t, exec (.cellRequest cy [r]) s = .next t ∧ (t.queue q).frames = (s.queue q).frames ++
          [{ id := r.id, len := r.len, bytes := r.bytes, cells := cellsOf r.len, port := r.port.val, cls := c, headroom := false, seqNo := r.seqNo
             ready := !s.sealedTenant r.tenant.val }] ∧
          t.rdN (0x4000 + r.tenant.val) 0x11 = (s.rdN (0x4000 + r.tenant.val) 0x11 + 1) % 2 ^ 64) ∧
      (grantOf (s.queue q).drawn (cellsOf r.len) (s.queue q).reserve (s.queue q).limit (s.queue q).threshold s.sharedFree
          (decide (s.sharedFree ≠ 0)) = .threshold →
        ∃ t, exec (.cellRequest cy [r]) s = .next t ∧ (t.queue q).frames = (s.queue q).frames ∧
          t.rdN (0x4000 + r.tenant.val) 0x12 = (s.rdN (0x4000 + r.tenant.val) 0x12 + 1) % 2 ^ 64)) ∧
    (∀ (cy : Nat) (r : CellReq) (s : State), s.on 17 = true → r.egress = true → 18 ≤ r.writer.val →
      s.tenantRdiSent r.tenant.val = true ∨ (s.ten r.tenant.val).delin.st ≠ 2 →
      ∃ t, exec (.cellRequest cy [r]) s = .next t ∧ t.grm.queues = s.grm.queues) ∧
    (∀ (p : Fin 16) (n q : Nat) (f : QFrame) (l : List QFrame) (s : State), s.on 17 = true → s.portMode p.val = 1 →
      s.portStopped p.val = false → s.portTenants p.val = [n] → s.tenantQueues n true = [q] → s.eligible n q true = true →
      (s.queue q).frames = f :: l → s.protOf n = none → s.groupHome n = false → f.len ≤ 16000 → 1 ≤ (s.queue q).weight →
      s.rdBit (0x7010 + p.val) 0x14 3 = false → (s.flow p.val).sending = none →
      (∃ t, exec (.egressFrameStart p true) s = .next t ∧ t.out = .frameOut p.val f.id :: s.out ∧
        (t.queue q).frames = f :: l ∧ (t.flow p.val).sending = some (q, f.id) ∧
        t.rdN (0x7010 + p.val) 0x0E = (s.rdN (0x7010 + p.val) 0x0E + 1) % 2 ^ 64) ∧
      ∃ t, exec (.egressFrameStart p false) s = .next t ∧ t.out = s.out ∧ (t.queue q).frames = l ∧
        (t.flow p.val).sending = none ∧ t.rdN (0x7010 + p.val) 0x11 = (s.rdN (0x7010 + p.val) 0x11 + 1) % 2 ^ 64) ∧
    ∀ (p : Fin 16) (ok : Bool) (q : Nat) (f : QFrame) (l : List QFrame) (s : State), s.portStopped p.val = true →
      (s.flow p.val).sending = some (q, f.id) → (s.queue q).frames = f :: l →
      ∃ t, exec (.egressFrameStart p ok) s = .next t ∧ (t.queue q).frames = l ∧ (t.flow p.val).sending = none ∧ t.out = s.out

/-- A shaper position sends its stitch; received PAUSE and PFC stop a port or its classes until their time runs out, XOFF is
repeated while it holds, and Local Fault starts with the port's queues emptied. Under the premises given for each, these
answer a next state: shaperPosition, pauseRepeat, pauseReceive, pfcReceive, pauseExpiry, localFaultTimer. -/
def Obligations.PositionsPausesAndLocalFault : Prop :=
  (∀ (n : Fin 4096) (first : Bool) (s : State), s.on 17 = true → s.tenOn n.val = true → s.txLit n.val ≠ 0 →
      s.sealedTenant n.val = false →
      ∃ t b, exec (.shaperPosition n first) s = .next t ∧ t.out.head? = some (.stitch n.val b) ∧
        (s.tenCbr n.val = false → b.length = 128) ∧
        (s.tenCbr n.val = true → b = bitsBytes (((s.cbrSent n.val).drop
          (1024 * if first then 0 else (s.shaper n.val).pos)).take 1024)) ∧
        (t.shaper n.val).pos = (if first then 0 else (s.shaper n.val).pos) + 1) ∧
    (∀ (n : Fin 4096) (s : State), s.on 17 = true → s.tenOn n.val = true → s.txLit n.val ≠ 0 → s.sealedTenant n.val = true →
      (s.sealTen n.val).txEpoch = 0 →
      ∃ t, exec (.shaperPosition n false) s = .next t ∧ t.out.head? = some (.stitch n.val (List.replicate 128 0)) ∧
        t.grm = s.grm) ∧
    (∀ (p : Fin 16) (q : Nat) (s : State), s.on 17 = true → s.portMode p.val = 1 → s.rdN (0x7010 + p.val) 7 ≠ 0 →
      ∃ t, exec (.pauseReceive p q) s = .next t ∧ t.portStopped p.val = decide (q ≠ 0) ∧
        t.rdN (0x7010 + p.val) 0x13 = (s.rdN (0x7010 + p.val) 0x13 + 1) % 2 ^ 64 ∧
        (q ≠ 0 → t.rdBit (0x7010 + p.val) 0x14 4 = true)) ∧
    (∀ (p : Fin 16) (c : Fin 8) (q : Nat) (s : State), s.on 17 = true → s.portMode p.val = 1 → s.rdN (0x7010 + p.val) 7 ≠ 0 →
      ∃ t, exec (.pfcReceive p [(c, q)]) s = .next t ∧ ((t.flow p.val).stopped.contains c.val = decide (q ≠ 0)) ∧
        t.rdN (0x7010 + p.val) 0x13 = (s.rdN (0x7010 + p.val) 0x13 + 1) % 2 ^ 64) ∧
    (∀ (p : Fin 16) (c : Fin 8) (s : State),
      ((s.flow p.val).stopped.contains 8 = true → ∃ t, exec (.pauseExpiry p none) s = .next t ∧ t.portStopped p.val = false ∧
        t.rdBit (0x7010 + p.val) 0x14 4 = decide (dropFrom 8 (s.flow p.val).stopped ≠ [])) ∧
      ((s.flow p.val).stopped.contains c.val = true → ∃ t, exec (.pauseExpiry p (some c)) s = .next t ∧
        (t.flow p.val).stopped.contains c.val = false)) ∧
    (∀ (p : Fin 16) (s : State), (s.flow p.val).xoff.contains 8 = true → (s.watched p.val).contains 8 = true → s.rdN (0x7010 + p.val) 0x0A < s.portCells p.val 8 →
      ∃ t, exec (.pauseRepeat p) s = .next t ∧ t.out.head? = some (.pause p.val 0xFFFF) ∧ t.grm = s.grm ∧
        t.rdN (0x7010 + p.val) 0x12 = (s.rdN (0x7010 + p.val) 0x12 + 1) % 2 ^ 64) ∧
    (∀ (p : Fin 16) (s : State), s.on 17 = true → s.portMode p.val = 1 → s.rdB (0x7010 + p.val) 0x0C = true →
      s.portFaulty p.val = true → s.rdBit (0x7010 + p.val) 0x14 3 = false →
      ∃ t, exec (.localFaultTimer p false) s = .next t ∧ t.rdBit (0x7010 + p.val) 0x14 3 = true ∧
        t.out.head? = some (.localFault p.val true) ∧
        ∀ n ∈ s.portTenants p.val, ∀ q ∈ s.tenantQueues n true, (t.queue q).frames = []) ∧
    ∀ (p : Fin 16) (s : State), s.on 17 = true → s.portMode p.val = 1 → s.rdBit (0x7010 + p.val) 0x14 3 = true →
      s.portFaulty p.val = false →
      ∃ t, exec (.localFaultTimer p true) s = .next t ∧ t.rdBit (0x7010 + p.val) 0x14 3 = false ∧
        t.out.head? = some (.localFault p.val false) ∧ t.grm = s.grm

/-- A wrapped key goes into the slot its epoch names, or is refused by the first check it fails; a slot not in use is
erased; seal headers and tags of a sealed tenant are judged and counted; derived keys are written for the epochs that wait,
that of a coming epoch at the latch of the following multiframe. The first epoch of a wrapped key waits for the next
multiframe. Under the premises given for each, these answer a next state: wrappedKeyLoad, eraseEvenSlot, eraseOddSlot,
sealHeaderReceive, tagReceive, derivedKeyWrite, receiveKeyDerive. -/
def Obligations.SealedTenantsAreKeyedAndChecked : Prop :=
  (∀ (n : Fin 4096) (d : List Byte) (s : State), s.serves → s.noSeal = false → d.length = 56 → s.foundryBusy = false →
      s.lineMode = true → s.derivedMode n.val = false → (s.mgmtSlot (s.rdN 0x3800 4)).role = 2 →
      ∃ t, exec (.wrappedKeyLoad n d) s = .next t ∧
        (kwUnwrap (s.mgmtSlot (s.rdN 0x3800 4)).key d = none → t.told (0x5000 + n.val) 4 .authFail ∧ t.sls = s.sls) ∧
        ∀ p, kwUnwrap (s.mgmtSlot (s.rdN 0x3800 4)).key d = some p → beField p 32 2 = n.val → beField p 34 2 = 0 →
          beField p 40 8 = 0 → wrappedEpoch p ≠ 0 → s.slotInUse n.val (wrappedEpoch p % 2) = false →
          t.told (0x5000 + n.val) 4 .done ∧ t.keySlot (2 * n.val + wrappedEpoch p % 2) = some
            { only := decide (wrappedEpoch p ≤ s.rdN (0x5000 + n.val) 3), epoch := wrappedEpoch p, key := p.take 32 } ∧
          (s.epoch n.val = 0 → s.rdN (0x5000 + n.val) 3 < wrappedEpoch p → lget n.val t.sls.epochs = some (wrappedEpoch p))) ∧
    (∀ (n : Fin 4096) (s : State), s.serves → s.noSeal = false → s.derivedMode n.val = false →
      (s.slotInUse n.val 0 = false → ∃ t, exec (.eraseEvenSlot n) s = .next t ∧ t.told (0x5000 + n.val) 5 .done ∧
        t.keySlot (2 * n.val) = none ∧ t.keySlot (2 * n.val + 1) = s.keySlot (2 * n.val + 1)) ∧
      (s.slotInUse n.val 1 = false → ∃ t, exec (.eraseOddSlot n) s = .next t ∧ t.told (0x5000 + n.val) 5 .done ∧
        t.keySlot (2 * n.val + 1) = none ∧ t.keySlot (2 * n.val) = s.keySlot (2 * n.val)) ∧
      (s.slotInUse n.val 0 = true → ∃ t, exec (.eraseEvenSlot n) s = .next t ∧ t.told (0x5000 + n.val) 5 .sealed ∧
        t.sls = s.sls)) ∧
    (∀ (n : Fin 4096) (s : State), s.serves → s.noSeal = false → s.derivedMode n.val = true →
      (∃ t, exec (.eraseEvenSlot n) s = .next t ∧ t.told (0x5000 + n.val) 5 .conflict ∧ t.sls = s.sls) ∧
      ∃ t, exec (.eraseOddSlot n) s = .next t ∧ t.told (0x5000 + n.val) 5 .conflict ∧ t.sls = s.sls) ∧
    (∀ (n : Fin 4096) (h : BitVec 64) (m : Nat) (s : State), s.on 16 = true → s.sealedTenant n.val = true → s.rxTotal n.val ≠ 0 →
      headerCrcOk h.toNat = true →
      ∃ t, exec (.sealHeaderReceive n h m) s = .next t ∧ (t.sealTen n.val).prev = (s.sealTen n.val).rx ∧
        (t.sealTen n.val).rx = some ⟨h.toNat, m, containerBits (s.rxLit n.val) true, s.rxKeyOf n.val (sealFields h.toNat).epoch,
          decide ((sealFields h.toNat).direction = s.rdN 0x3800 0x0A)⟩ ∧
        ((s.sealTen n.val).derived = none → t.dict = s.dict ∧ t.sls.slots = s.sls.slots) ∧
        ∀ k, (s.sealTen n.val).derived = some k → t.keySlot (2 * n.val + 1) = some ⟨false, k.1, k.2⟩) ∧
    (∀ (n : Fin 4096) (g : List Byte) (a : Bool) (l : List Nat) (m : SealMf) (s : State), s.on 16 = true →
      s.sealedTenant n.val = true → (s.sealTen n.val).prev = some m →
      ∃ t, exec (.tagReceive n g a l) s = .next t ∧ (t.sealTen n.val).prev = none ∧
        (tagVerdict n.val (s.sealTen n.val).check m (s.ten n.val).cipher g = .pass →
          t.rdN (0x5000 + n.val) 0x0F = (s.rdN (0x5000 + n.val) 0x0F + 1) % 2 ^ 64 ∧
          t.rdN (0x5000 + n.val) 0x0C = (sealFields m.word).epoch) ∧
        (tagVerdict n.val (s.sealTen n.val).check m (s.ten n.val).cipher g = .fail → a = true →
          t.rdN (0x5000 + n.val) 0x10 = (s.rdN (0x5000 + n.val) 0x10 + 1) % 2 ^ 64 ∧
          (2 ≤ (s.sealTen n.val).fails → t.rdBit (0x5000 + n.val) 0x14 0 = true)) ∧
        (tagVerdict n.val (s.sealTen n.val).check m (s.ten n.val).cipher g = .fail → a = false →
          t.rdN (0x5000 + n.val) 0x11 = (s.rdN (0x5000 + n.val) 0x11 + 1) % 2 ^ 64) ∧
        (tagVerdict n.val (s.sealTen n.val).check m (s.ten n.val).cipher g = .miss →
          t.rdN (0x5000 + n.val) 0x12 = (s.rdN (0x5000 + n.val) 0x12 + 1) % 2 ^ 64) ∧
        (tagVerdict n.val (s.sealTen n.val).check m (s.ten n.val).cipher g = .unverified →
          t.rdN (0x5000 + n.val) 0x13 = (s.rdN (0x5000 + n.val) 0x13 + 1) % 2 ^ 64)) ∧
    (∀ (n : Fin 4096) (root : List Byte) (s : State), s.rootKey = some root → s.on 16 = true → s.derivedMode n.val = true →
      s.hasRole = true → s.sls.derive.head? = some n.val →
      ∃ t, exec (.derivedKeyWrite n) s = .next t ∧ t.sls.derive = s.sls.derive.drop 1 ∧
        t.rdN 0x1040 5 = (s.rdN 0x1040 5 + 1) % 2 ^ 32 ∧ t.keySlot (2 * n.val) = some ⟨false, s.epoch n.val,
          s.deriveKey root n.val s.ownPosition (s.rdN 0x3800 0x0A) (s.epoch n.val)⟩) ∧
    ∀ (n : Fin 4096) (e : Nat) (root : List Byte) (r : SealMf) (s : State), (s.sealTen n.val).due = some e →
      s.rootKey = some root → (s.sealTen n.val).rx = some r → s.on 16 = true → s.derivedMode n.val = true → s.hasRole = true →
      ∃ t, exec (.receiveKeyDerive n) s = .next t ∧ (t.sealTen n.val).due = none ∧
        ((s.sealTen n.val).later = false → t.keySlot (2 * n.val + 1) = some
          ⟨false, e, s.deriveKey root n.val (sealFields r.word).position (1 - s.rdN 0x3800 0x0A) e⟩) ∧
        ((s.sealTen n.val).later = true → t.sls.slots = s.sls.slots ∧ (t.sealTen n.val).derived = some
          (e, s.deriveKey root n.val (sealFields r.word).position (1 - s.rdN 0x3800 0x0A) e))

/-- The link key exchange: a key pair from a scalar the DRBG draws (a free value, log entry 3), the far end's SHARE checked,
ECDH over its key once that is validated, and CONFIRM, which sets the link root or fails the exchange with its cause; raw
bits that fail a health test fail it with cause 5. Under the premises given for each, these answer a next state:
keyPairGenerated, keyshareShareReceive, ecdhDone, keyshareConfirmReceive, entropyTestFail, drbgReseed. -/
def Obligations.LinkKeyExchangeRunsByMessages : Prop :=
  (∀ s : State, s.sls.link.step = 1 → s.itemRuns 8 = true →
      ∃ t, exec .keyPairGenerated s = .next t ∧ t.sls.link.step = (if s.sls.link.far = [] then 2 else 3) ∧
        t.sls.link.scalar = 1 + s.freeNat % (n384 - 1) ∧ t.pic.shareOn = true ∧ t.free = s.free + 1) ∧
    (∀ (rx : PicotRx) (b : List Byte) (s : State), s.picotFound rx = true → s.itemRuns 8 = true → b.length = 109 →
      ∃ t, exec (.keyshareShareReceive rx b) s = .next t ∧ t.rdN 0x8801 4 = (s.rdN 0x8801 4 + 1) % 2 ^ 32 ∧
        (b.headD 0 ≠ 1 ∨ s.sealAgreed = false ∨ s.sls.link.step = 5 → t.sls = s.sls) ∧
        (b.headD 0 = 1 → s.sealAgreed = true → s.sls.link.step = 1 ∨ s.sls.link.step = 2 →
          (s.shareCause b = 0 → t.sls.link.far = b.drop 12 ∧ t.sls.link.farMac = slice b 2 6 ∧
            t.sls.link.step = (if s.sls.link.step = 1 then 1 else 3)) ∧
          (s.shareCause b ≠ 0 → t.sls.link.step = 5 ∧ t.rdN 0x3800 8 = 3 ∧ t.rdN 0x3800 0x0B = s.shareCause b ∧
            t.rdN 0x3800 0x0D = (s.rdN 0x3800 0x0D + 1) % 2 ^ 32))) ∧
    (∀ s : State, s.sls.link.step = 3 → s.itemRuns 8 = true →
      ∃ t, exec .ecdhDone s = .next t ∧ t.rdN 0x1040 7 = (s.rdN 0x1040 7 + 1) % 2 ^ 32 ∧
        (keyCause s.sls.link.far ≠ 0 → t.rdN 0x1040 0x0A = keyCause s.sls.link.far) ∧
        (keyCause s.sls.link.far ≠ 0 ∨ ecdh s.sls.link.scalar s.sls.link.far = none →
          t.sls.link.step = 5 ∧ t.rdN 0x3800 8 = 3 ∧ t.rdN 0x3800 0x0B = 3 ∧ t.rdN 0x1040 9 = (s.rdN 0x1040 9 + 1) % 2 ^ 32) ∧
        (keyCause s.sls.link.far = 0 → (ecdh s.sls.link.scalar s.sls.link.far).isSome = true → s.sls.link.held = [] →
          t.sls.link.step = 4 ∧ t.sls.link.far = s.sls.link.far ∧
          ((2, t.sls.link.confirm) ∈ t.pic.due ∨ t.pic.sending = some (2, t.sls.link.confirm, 1)))) ∧
    (∀ (rx : PicotRx) (b : List Byte) (s : State), s.picotFound rx = true → s.itemRuns 8 = true → b.length = 18 → b.headD 0 = 2 →
      s.sls.link.step = 4 →
      ∃ t, exec (.keyshareConfirmReceive rx b) s = .next t ∧
        (b.drop 2 = s.farTag → t.sls.link.step = 0 ∧ t.mgmtSlot 63 = { role := 5, id := 0, key := s.sls.link.root } ∧ t.rdN 0x3800 8 = 2 ∧
          t.rdN 0x3800 9 = (s.rdN 0x3800 9 + 1) % 2 ^ 8 ∧ t.rdBit 0x1001 7 2 = true) ∧
        (b.drop 2 ≠ s.farTag → t.sls.link.step = 5 ∧ t.rdN 0x3800 8 = 3 ∧ t.rdN 0x3800 0x0B = 4 ∧ t.sls.mgmt = s.sls.mgmt)) ∧
    (∀ (rx : PicotRx) (b : List Byte) (s : State), s.picotFound rx = true → s.itemRuns 8 = true → b.length = 18 → b.headD 0 = 2 →
      s.sls.link.step = 3 → ∃ t, exec (.keyshareConfirmReceive rx b) s = .next t ∧ t.sls.link = { s.sls.link with held := b }) ∧
    (∀ (l : List Bool) (s : State), s.on 0 = true → repetitionFails l = true ∨ proportionFails l = true →
      ∃ t, exec (.entropyTestFail l) s = .next t ∧ t.sls.drbgUp = false ∧ t.rdN 0x1040 2 = 2 ∧
        t.rdN 0x1040 3 = (s.rdN 0x1040 3 + 1) % 2 ^ 32 ∧
        (1 ≤ s.sls.link.step → s.sls.link.step ≤ 4 → t.sls.link.step = 5 ∧ t.rdN 0x3800 8 = 3 ∧ t.rdN 0x3800 0x0B = 5)) ∧
    ∀ s : State, s.sls.drbgUp = true → ∃ t, exec .drbgReseed s = .next t ∧ t.sls.drbgCount = 0 ∧
      t.rdN 0x1040 4 = (s.rdN 0x1040 4 + 1) % 2 ^ 32 ∧ t.wroteOnly s [key 0x1040 4]

/-- A management slot is loaded from a key wrapped by the device key or by a slot of role 2, and erased; M63, a slot of a
staged derivation, and a wrapping that does not check are refused. Under the premises given for each, these answer a next
state: loadByDeviceKey, loadByKek, managementSlotErase. -/
def Obligations.ManagementSlotsLoadAndErase : Prop :=
  (∀ (m : Fin 63) (d : List Byte) (s : State), s.serves → s.foundryBusy = false → d.length = 145 →
      ∃ t, exec (.loadByDeviceKey ⟨m.val, by omega⟩ d) s = .next t ∧
        (keyCause (d.take 97) ≠ 0 → t.told (0x1050 + m.val) 2 .conflict ∧ t.rdN 0x1040 0x0A = keyCause (d.take 97) ∧
          t.rdN 0x1040 9 = (s.rdN 0x1040 9 + 1) % 2 ^ 32 ∧ t.sls = s.sls) ∧
        ∀ z, ecdh Config.deviceKey (d.take 97) = some z → keyCause (d.take 97) = 0 →
          (kwUnwrap (s.provisionKey z (d.take 97)) (d.drop 97) = none → t.told (0x1050 + m.val) 2 .authFail ∧ t.sls = s.sls) ∧
          ∀ p, kwUnwrap (s.provisionKey z (d.take 97)) (d.drop 97) = some p → plainFails m.val p = [] → s.rootStaged m.val = false →
            t.told (0x1050 + m.val) 2 .done ∧
            t.mgmtSlot m.val = { role := beField p 32 1, id := beField p 34 4, key := p.take 32 }) ∧
    (∀ (m : Fin 63) (d : List Byte) (s : State), s.serves → s.foundryBusy = false → d.length = 49 →
      (s.mgmtSlot (beField d 0 1)).role = 2 →
      ∃ t, exec (.loadByKek ⟨m.val, by omega⟩ d) s = .next t ∧
        (kwUnwrap (s.mgmtSlot (beField d 0 1)).key (d.drop 1) = none → t.told (0x1050 + m.val) 3 .authFail ∧ t.sls = s.sls) ∧
        ∀ p, kwUnwrap (s.mgmtSlot (beField d 0 1)).key (d.drop 1) = some p → plainFails m.val p = [] → beField d 0 1 ≠ m.val →
          s.rootStaged m.val = false → t.told (0x1050 + m.val) 3 .done ∧
          t.mgmtSlot m.val = { role := beField p 32 1, id := beField p 34 4, key := p.take 32 }) ∧
    (∀ (d : List Byte) (s : State), s.serves → s.foundryBusy = false →
      (d.length = 145 → ∃ t, exec (.loadByDeviceKey 63 d) s = .next t ∧ t.told (0x1050 + 63) 2 .sealed ∧ t.sls = s.sls) ∧
      (d.length = 49 → ∃ t, exec (.loadByKek 63 d) s = .next t ∧ t.told (0x1050 + 63) 3 .sealed ∧ t.sls = s.sls)) ∧
    (∀ (m : Fin 63) (s : State), s.serves → s.rootStaged m.val = false →
      ∃ t, exec (.managementSlotErase ⟨m.val, by omega⟩) s = .next t ∧ t.told (0x1050 + m.val) 7 .done ∧
        (t.mgmtSlot m.val).role = 0 ∧ t.rdN (0x1050 + m.val) 1 = 0) ∧
    ∀ s : State, s.serves → ∃ t, exec (.managementSlotErase 63) s = .next t ∧ t.told (0x1050 + 63) 7 .sealed ∧ t.sls = s.sls

/-- A picot message that passes its checks is counted and taken: HELLO shows the far end, OFFER is answered, ACCEPT ends the
offering or shows its cause, FAULT is shown, TIME is kept; a packet that fails is counted by its cause. The receiver must
find the packet; one it does not find changes nothing. Under the premises given for each, these answer a next state:
helloReceive, offerReceive, acceptReceive, faultReceive, timeReceive, picotBadPacket. -/
def Obligations.PicotMessagesAreCountedAndTaken : Prop :=
  (∀ (rx : PicotRx) (b : List Byte) (l : List Int) (at_ : Nat) (s : State), s.picotFound rx = false →
      ∀ c ∈ [Instr.helloReceive rx b, .offerReceive rx b, .acceptReceive rx b, .faultReceive rx b, .timeReceive rx b at_,
        .picotBadPacket rx l, .keyshareShareReceive rx b, .keyshareConfirmReceive rx b],
        ∃ t, exec c s = .next t ∧ t = s) ∧
    (∀ (rx : PicotRx) (b : List Byte) (s : State), s.picotFound rx = true → s.itemRuns 8 = true → b.length = 16 → b.headD 0 = 1 →
      ∃ t, exec (.helloReceive rx b) s = .next t ∧ t.rdN 0x8801 4 = (s.rdN 0x8801 4 + 1) % 2 ^ 32 ∧ t.rdBit 0x8801 2 0 = false ∧
        t.rd 0x8801 0x0A = .bytes (slice b 6 6) ∧ t.rdN 0x8801 0x0D = (b.getD 12 0).toNat ∧ t.pic.heard = true ∧
        (bit (b.getD 13 0).toNat 0 = true → t.pic.cond1 = true ∧ (s.pic.cond1 = false → t.rdBit 0x1001 7 0 = true))) ∧
    (∀ (rx : PicotRx) (b : List Byte) (s : State), s.picotFound rx = true → s.itemRuns 8 = true → b.length = 82 → b.headD 0 = 1 →
      ∃ t, exec (.offerReceive rx b) s = .next t ∧ t.rdN 0x8801 4 = (s.rdN 0x8801 4 + 1) % 2 ^ 32 ∧ t.pic.farOffer = b ∧
        ((1, acceptBytes (offerResult s.pic.offer b) b (offersSealing s.pic.offer && offersSealing b)) ∈ t.pic.due ∨
          t.pic.sending = some (1, acceptBytes (offerResult s.pic.offer b) b (offersSealing s.pic.offer && offersSealing b), 1))) ∧
    (∀ (rx : PicotRx) (b : List Byte) (s : State), s.picotFound rx = true → s.itemRuns 8 = true → b.length = 8 → b.headD 0 = 1 →
      ∃ t, exec (.acceptReceive rx b) s = .next t ∧ t.rdN 0x8801 4 = (s.rdN 0x8801 4 + 1) % 2 ^ 32 ∧
        ((b.getD 1 0).toNat ≠ 0 → t.rdN 0x8801 8 = (b.getD 1 0).toNat ∧ t.rdBit 0x8801 2 1 = true) ∧
        ((b.getD 1 0).toNat = 0 → beField b 2 4 = crc32 s.pic.offer → t.pic.acceptGot = true ∧ t.pic.offerOn = false ∧
          t.rdBit 0x8801 2 1 = false ∧ (s.pic.acceptSent = true → t.rdBit 0x1001 7 1 = true))) ∧
    (∀ (rx : PicotRx) (b : List Byte) (s : State), s.picotFound rx = true → s.itemRuns 8 = true → b.length = 12 →
      ∃ t, exec (.faultReceive rx b) s = .next t ∧ t.rdN 0x8801 4 = (s.rdN 0x8801 4 + 1) % 2 ^ 32 ∧ t.rd 0x8801 0x0E = .bytes b ∧
        t.pic = s.pic) ∧
    (∀ (rx : PicotRx) (b : List Byte) (at_ : Nat) (s : State), s.picotFound rx = true → s.itemRuns 8 = true → b.length = 32 →
      ∃ t, exec (.timeReceive rx b at_) s = .next t ∧ t.rdN 0x8801 4 = (s.rdN 0x8801 4 + 1) % 2 ^ 32 ∧
        t.pic = { s.pic with farTimeSeq := beField b 12 2, farTimeArrival := at_ }) ∧
    (∀ (rx : PicotRx) (b : List Byte) (at_ : Nat) (s : State), s.picotFound rx = true → s.itemRuns 8 = true → b.length ≠ 32 →
      ∃ t, exec (.timeReceive rx b at_) s = .next t ∧ t.rdN 0x8801 6 = (s.rdN 0x8801 6 + 1) % 2 ^ 32 ∧ t.pic = s.pic) ∧
    (∀ (rx : PicotRx) (l : List Int) (s : State), s.picotFound rx = true → s.itemRuns 8 = true →
      (s.bodyBytes rx.sync l).length ≠ ((s.bodyBytes rx.sync l).headD 0).toNat + 6 →
      ∃ t, exec (.picotBadPacket rx l) s = .next t ∧ t.rdN 0x8801 5 = (s.rdN 0x8801 5 + 1) % 2 ^ 32 ∧ t.rdI 0x8801 7 = rx.afc ∧ t.wroteOnly s [key 0x8801 5, key 0x8801 7]) ∧
    ∀ (rx : PicotRx) (l : List Int) (b : List Byte) (s : State), s.picotFound rx = true → s.itemRuns 8 = true →
      s.bodyBytes rx.sync l = b → b.length = (b.headD 0).toNat + 6 →
      beField b ((b.headD 0).toNat + 2) 4 = crc32 (b.take ((b.headD 0).toNat + 2)) →
      (picotLengths (b.getD 1 0).toNat).contains (b.headD 0).toNat = false →
      ∃ t, exec (.picotBadPacket rx l) s = .next t ∧ t.rdN 0x8801 6 = (s.rdN 0x8801 6 + 1) % 2 ^ 32 ∧ t.rdI 0x8801 7 = rx.afc ∧ t.wroteOnly s [key 0x8801 6, key 0x8801 7]

/-- The picot channel sends one packet at a time, counts it when it has gone, and the timers of HELLO, OFFER, SHARE, FAULT
and TIME send theirs while the engine runs and the channel is on; feedback pairs wait, and one not begun is replaced. Under
the premises given for each, these answer a next state: picotPacketSent, helloTimer, offerRepeat, shareRepeat,
faultPeriodic, timePeriod, dpdWindowComplete, picotLosTimer. -/
def Obligations.PicotPacketsAreSentInTurn : Prop :=
  (∀ (k bits : Nat) (b : List Byte) (s : State), s.pic.sending = some (k, b, bits) → s.picotOn = true →
      ∃ t, exec .picotPacketSent s = .next t ∧ t.rdN 0x8801 3 = (s.rdN 0x8801 3 + 1) % 2 ^ 32 ∧
        (k = 1 → (b.getD 1 0).toNat = 0 → s.pic.farOffer ≠ [] → beField b 2 4 = crc32 s.pic.farOffer → t.pic.acceptSent = true) ∧
        (k ≠ 1 → s.pic.due = [] → t.pic = { s.pic with sending := none })) ∧
    (∀ s : State, s.picotEngine = true → s.picotOn = true → s.pic.sending = none → s.pic.due = [] →
      (∃ t, exec .helloTimer s = .next t ∧ t.pic.sending = some (3, s.helloBytes, 1) ∧
        t.out.head? = some (.picot 1 s.helloBytes)) ∧
      (s.pic.offerOn = true → ∃ t, exec .offerRepeat s = .next t ∧ t.pic.sending = some (4, s.pic.offer, 1) ∧
        t.out.head? = some (.picot 2 s.pic.offer) ∧ t.dict = s.dict) ∧
      (s.pic.shareOn = true → ∃ t, exec .shareRepeat s = .next t ∧ t.pic.sending = some (5, s.shareBytes, 1) ∧
        t.out.head? = some (.picot 4 s.shareBytes) ∧ t.dict = s.dict) ∧
      (s.faultFields.any (fun x => decide (x ≠ 0)) = true → ∃ t, exec .faultPeriodic s = .next t ∧
        t.pic.sending = some (0, [3] ++ s.faultFields ++ [0, 0], 1) ∧ t.pic.lastFault = s.faultFields) ∧
      ∃ t, exec .timePeriod s = .next t ∧ t.pic.timeSeq = (s.pic.timeSeq + 1) % 65536 ∧
        (t.pic.sending.map fun x => x.1) = some 6) ∧
    (∀ s : State, s.picotEngine = true → s.picotOn = true → s.pic.sending.isSome →
      (∃ t, exec .helloTimer s = .next t ∧ (3, s.helloBytes) ∈ t.pic.due ∧ t.pic.sending = s.pic.sending) ∧
      (s.pic.offerOn = true → ∃ t, exec .offerRepeat s = .next t ∧ (4, s.pic.offer) ∈ t.pic.due ∧ t.out = s.out) ∧
      (s.pic.shareOn = true → ∃ t, exec .shareRepeat s = .next t ∧ (5, s.shareBytes) ∈ t.pic.due ∧ t.out = s.out) ∧
      (s.faultFields.any (fun x => decide (x ≠ 0)) = true → ∃ t, exec .faultPeriodic s = .next t ∧
        (0, [3] ++ s.faultFields ++ [0, 0]) ∈ t.pic.due ∧ t.out = s.out) ∧
      ∃ t, exec .timePeriod s = .next t ∧ 6 ∈ t.pic.due.map (fun x => x.1) ∧ t.out = s.out) ∧
    (∀ s : State, s.picotOn = false → ∀ c ∈ [Instr.helloTimer, .offerRepeat, .shareRepeat, .faultPeriodic, .timePeriod],
      ∃ t, exec c s = .next t ∧ t = s) ∧
    (∀ (x y : List Byte × Int) (s : State), s.picotEngine = true → s.ctl.mode = .service → s.pic.sending.isSome →
      ∃ t, exec (.dpdWindowComplete x y) s = .next t ∧ t.pic.sending = s.pic.sending ∧ t.free = s.free + 1 ∧
        t.pic.due = (s.pic.due.filter fun p => p.1 != 7) ++
          (s.pic.due.filter fun p => p.1 == 7).take ((s.pic.due.filter fun p => p.1 == 7).length % 2) ++
          [(7, dpdBytes (s.windowMessage 0 x)), (7, dpdBytes (s.windowMessage 1 y))] ∧
        t.rdN 0x8801 9 = (if 2 ≤ (s.pic.due.filter fun p => p.1 == 7).length then (s.rdN 0x8801 9 + 1) % 2 ^ 32
          else s.rdN 0x8801 9)) ∧
    ∀ s : State, s.on 14 = true → s.inForce.profile = 0 → s.ctl.mode = .service ∨ s.ctl.mode = .shed →
      ∃ t, exec .picotLosTimer s = .next t ∧ t.rdBit 0x8801 2 0 = true ∧ t.wroteOnly s [key 0x8801 2]

/-- References: a candidate whose failure shows is marked with its cause and left, the line's without exchanges only by its
time part; one free of failure for its wait, with its frequency within the limit, is back; the DPLL locks, ages in holdover,
and free-runs while the oscillator fails. Under the premises given for each, these answer a next state: candidateFail,
waitToRestoreExpiry, dpllLock, holdoverUpdate, xoFailDetect, xoRecovery. -/
def Obligations.CandidatesFailReturnAndTheDpllFollows : Prop :=
  (∀ (r : Fin 9) (c : RefFail) (s : State), s.candOn r.val = true →
      (match c with
        | .activity => decide (r.val < 6) && s.on 0
        | .frequency o => s.itemRuns 8 && decide (s.offsetLimit r.val < o.natAbs)
        | .dnu => s.itemRuns 8 && qlRank (s.candQl r.val) == 4
        | .source => s.itemRuns 8 && s.sourceBad r.val
        | .exchange => false) = true →
      ∃ t, exec (.candidateFail r c) s = .next t ∧ (t.cand r.val).freq = false ∧ (t.cand r.val).failed = true ∧
        t.rdN (0x8010 + r.val) 0x0D =
          (match c with | .activity => 1 | .frequency _ => 2 | .dnu => 3 | .source => 4 | .exchange => 5) ∧
        t.rdN (0x8010 + r.val) 0x0C = (if (s.cand r.val).failed then s.rdN (0x8010 + r.val) 0x0C
          else (s.rdN (0x8010 + r.val) 0x0C + 1) % 2 ^ 32) ∧
        t.tim.freqSel ≠ some r.val ∧ (r ≠ 6 → t.tim.timeSel ≠ some r.val)) ∧
    (∀ s : State, s.candOn 6 = true → s.itemRuns 8 = true →
      ∃ t, exec (.candidateFail 6 .exchange) s = .next t ∧ (t.cand 6).freq = (s.cand 6).freq ∧
        (t.cand 6).time = s.picotFallback 5 ∧ t.rdN 0x8016 0x0D = 5) ∧
    (∀ (r : Fin 9) (o : Int) (s : State), s.candOn r.val = true → s.itemRuns 8 = true → o.natAbs ≤ s.offsetLimit r.val →
      o.natAbs ≤ 5000000 →
      ∃ t, exec (.candidateFail r (.frequency o)) s = .next t ∧ t.rdI (0x8010 + r.val) 9 = o ∧
        (t.cand r.val).freq = (s.cand r.val).freq ∧ t.tim.freqSel = s.tim.freqSel ∧ t.tim.timeSel = s.tim.timeSel ∧
        ((s.cand r.val).failed = true → s.rdN (0x8010 + r.val) 0x0D = 1 ∨ s.rdN (0x8010 + r.val) 0x0D = 2 →
          (t.cand r.val).failed = false ∧ (t.cand r.val).since = s.uptime) ∧
        (s.dpll = 2 → s.tim.freqSel = some r.val → t.rdI 0x8020 0x0D = o + s.tim.slewing)) ∧
    (∀ (r : Fin 9) (c : RefFail) (s : State), s.candOn r.val = false → exec (.candidateFail r c) s = .next s) ∧
    (∀ (r : Fin 9) (o : Int) (s : State), s.candOn r.val = true → s.itemRuns 8 = true → s.candBlocked r.val = false →
      o.natAbs ≤ s.offsetLimit r.val → (s.cand r.val).since + 1000000 * s.restoreWait r.val ≤ s.uptime →
      ∃ t, exec (.waitToRestoreExpiry r o) s = .next t ∧ (t.cand r.val).freq = true ∧ (t.cand r.val).failed = false ∧
        t.rdN (0x8010 + r.val) 0x0D = 0 ∧ t.rdI (0x8010 + r.val) 9 = o) ∧
    (∀ (r : Fin 9) (o : Int) (s : State), s.candOn r.val = false ∨ s.candBlocked r.val = true ∨ s.offsetLimit r.val < o.natAbs ∨
      s.uptime < (s.cand r.val).since + 1000000 * s.restoreWait r.val →
      exec (.waitToRestoreExpiry r o) s = .next s) ∧
    (∀ s : State, s.dpll = 1 → ∃ t, exec .dpllLock s = .next t ∧ t.dpll = 2 ∧ t.tim.lockedAt = some s.uptime) ∧
    (∀ s : State, s.dpll ≠ 1 → exec .dpllLock s = .next s) ∧
    (∀ (u : Nat) (s : State), s.dpll = 3 → s.itemRuns 8 = true →
      ∃ t, exec (.holdoverUpdate u) s = .next t ∧ t.rdN 0x8020 9 = (s.rdN 0x8020 9 + 1) % 2 ^ 32 ∧ t.tim = s.tim ∧
        t.rdBit 0x8000 0x0C 1 = decide (1728 * 1000 * s.rdN 0x8020 0x0C <
          holdoverError u (s.rdN 0x8020 0x0A) ((s.rdN 0x8020 9 + 1) % 2 ^ 32)) ∧
        t.wroteOnly s [key 0x8020 9, key 0x8020 0x0B, key 0x8000 0x0C]) ∧
    (∀ s : State, s.on 0 = true →
      ∃ t, exec .xoFailDetect s = .next t ∧ t.tim.xoFail = true ∧ t.rdBit 0x8000 0x0C 0 = true ∧ t.dpll = 0 ∧ t.rdN 0x8030 4 = 1) ∧
    (∀ s : State, s.tim.xoFail = true →
      ∃ t, exec .xoRecovery s = .next t ∧ t.tim.xoFail = false ∧ t.rdBit 0x8000 0x0C 0 = false ∧
        (s.rdN 0x8020 1 = 0 → s.tim.freqSel.isSome → t.dpll = 1) ∧ (s.rdN 0x8020 1 = 1 → t.dpll = 4) ∧
        (s.rdN 0x8020 1 = 3 → t.dpll = 0)) ∧
    ∀ s : State, s.tim.xoFail = false → exec .xoRecovery s = .next s

/-- Time: an exchange is accepted or rejected by its round trip, the mean of a second becomes the offset shown, a step moves
device time, the host sets the time of the next second or adjusts the phase, and a pulse leaves at most every half second.
Under the premises given for each, these answer a next state: timeExchange, transferSecond, crossingCalibration, timeStep,
phaseAdjust, ppsOutEdge, timeOfDayUpdate. -/
def Obligations.TimeIsExchangedSteppedAndSet : Prop :=
  (∀ (t1 t2 t3 t4 : Int) (s : State), s.exchange = some (t1, t2, t3, t4) → s.rdB 0x8040 1 = true → s.on 16 = true →
      s.lineMode = true → s.itemRuns 8 = true →
      let rtt := ((t4 - t1) - (t3 - t2)) * 1000
      ∃ t, exec .timeExchange s = .next t ∧
        (s.tim.rtts = [] ∨ (2 * rtt - twiceMedian s.tim.rtts).natAbs ≤ 2 * 50000 * 65536 →
          t.rdN 0x8040 7 = (s.rdN 0x8040 7 + 1) % 2 ^ 32 ∧ t.tim.secCount = s.tim.secCount + 1 ∧
          t.tim.secOffset = s.tim.secOffset + ((t2 - t1) - (t4 - t3)) * 1000 - s.rdI 0x8040 2 * 131072 ∧
          t.tim.rtts = (rtt :: s.tim.rtts).take 16 ∧ t.wroteOnly s [key 0x8040 7]) ∧
        (s.tim.rtts ≠ [] → 2 * 50000 * 65536 < (2 * rtt - twiceMedian s.tim.rtts).natAbs →
          t.rdN 0x8040 8 = (s.rdN 0x8040 8 + 1) % 2 ^ 32 ∧ t.tim = s.tim ∧ t.wroteOnly s [key 0x8040 8])) ∧
    (∀ s : State, s.exchange = none ∨ s.rdB 0x8040 1 = false → exec .timeExchange s = .next s) ∧
    (∀ (m : Int) (s : State), s.itemRuns 8 = true → s.on 0 = true → s.tim.secCount ≠ 0 → s.tim.secOffset = 131072 * s.tim.secCount * m →
      ∃ t, exec .transferSecond s = .next t ∧ t.tim.secCount = 0 ∧ t.rdI 0x8040 6 = m ∧ t.rdN 0x8040 0x0C = 2) ∧
    (∀ s : State, s.itemRuns 8 = true → s.on 0 = true → s.tim.secCount = 0 →
      ∃ t, exec .transferSecond s = .next t ∧
        t.rdN 0x8040 0x0C = (if s.rdB 0x8040 1 = false then 0
          else if s.rdN 0x8040 0x0C = 3 ∨ (s.cand 6).time = true ∧ s.candOn 6 = true ∧ s.picotFallback 5 = true then 3 else 1) ∧ t.rdI 0x8040 6 = s.rdI 0x8040 6) ∧
    (∀ (p : Int) (s : State), s.on 14 = true → s.on 16 = true →
      ∃ t, exec (.crossingCalibration p) s = .next t ∧
      t.rdI 0x8040 9 = p ∧ t.wroteOnly s [key 0x8040 9]) ∧
    (∀ (p : Int) (s : State), s.tim.stepPending = some p →
      ∃ t, exec .timeStep s = .next t ∧ t.tim = { s.tim with stepPending := none } ∧
        t.devTime = ((s.devTime : Int) + p * 65536 / 1000).toNat ∧ t.rdN 0x8030 6 = (s.rdN 0x8030 6 + 1) % 2 ^ 32 ∧
        t.wroteOnly s [key 0x8030 6]) ∧
    (∀ s : State, s.tim.stepPending = none → exec .timeStep s = .next s) ∧
    (∀ (n : Int) (s : State), s.serves → -1000000000 ≤ n → n ≤ 1000000000 →
      (s.rdN 0x8020 1 = 1 → ∃ t, exec (.phaseAdjust n) s = .next t ∧ t.told 0x8030 3 .done ∧
        t.tim.slew = (if s.rdN 0x8020 5 * 1000 < (n * 1000).natAbs then none else some (n * 1000)) ∧
        t.tim.stepPending = (if s.rdN 0x8020 5 * 1000 < (n * 1000).natAbs then some (n * 1000) else none)) ∧
      (s.rdN 0x8020 1 ≠ 1 → ∃ t, exec (.phaseAdjust n) s = .next t ∧ t.told 0x8030 3 .conflict ∧ t.tim = s.tim)) ∧
    (∀ s : State, s.pow.configured = true → s.rdB 0x8050 1 = true → s.squelched = false →
      (∀ p, s.tim.lastPulse = some p → p + 500000 ≤ s.uptime) →
      ∃ t, exec .ppsOutEdge s = .next t ∧ t.out = .pulse s.devTime (s.rdN 0x8050 2) :: s.out ∧ t.tim.lastPulse = some s.uptime ∧ t.dict = s.dict) ∧
    (∀ s : State, s.pow.configured = false ∨ s.rdB 0x8050 1 = false ∨ s.squelched = true ∨
        (∃ p, s.tim.lastPulse = some p ∧ s.uptime < p + 500000) → exec .ppsOutEdge s = .next s) ∧
    ∀ s : State, s.on 0 = true →
      ∃ t, exec .timeOfDayUpdate s = .next t ∧ t.wroteOnly s [key 0x8030 5] ∧
        t.rd 0x8030 5 = time96 (((s.devTime / 65536000000000 + 1) * 65536000000000 : Nat) +
          s.rdI 0x8050 3 * 65536 / 1000).toNat

/-- A time written to 8030:02 becomes the device time at its next whole second; it is refused while a time candidate is
selected; TIME_NOT_SET clears, and with a good oscillator and a loop that is not steered (log entry 118) the time status is
1 in free-run and 2 otherwise. Under the premises given for each, these answer a next state: setTime. -/
def Obligations.WrittenTimeBecomesTheNextSecond : Prop :=
  (∀ (v : Nat) (s : State), s.serves → v / 2 ^ 16 % 2 ^ 32 < 1000000000 →
      (s.tim.timeSel.isSome → ∃ t, exec (.setTime v) s = .next t ∧ t.told 0x8030 2 .conflict ∧ t.tim = s.tim ∧
        t.devTime = s.devTime) ∧
      (s.tim.timeSel = none → ∃ t, exec (.setTime v) s = .next t ∧ t.told 0x8030 2 .done ∧
        t.tim.setPending = some (ofTime96 v) ∧ t.rdBit 0x8000 0x0C 2 = false ∧ t.devTime = s.devTime ∧
        (s.tim.xoFail = false → s.dpll ≠ 4 → t.rdN 0x8030 4 = (if s.dpll = 0 then 1 else 2)))) ∧
    ∀ (v : Nat) (s : State), s.pending = [] → s.on 0 = true → s.tim.setPending = some v →
      ∃ t, step s = .next t ∧
        (65536000000000 ≤ s.devTime % 65536000000000 + 65536000 →
          t.devTime = v + (s.devTime + 65536000) % 65536000000000 ∧ t.tim.setPending = none) ∧
        (s.devTime % 65536000000000 + 65536000 < 65536000000000 →
          t.devTime = s.devTime + 65536000 ∧ t.tim.setPending = some v)

/-- Host lanes: with signal a powered lane adapts, warm where its stored state fits; adapted it is up, else it fails and
retries cold; without signal its port loses alignment; with every lane up the PCS aligns. Errors are injected where the lane
is free. Under the premises given for each, these answer a next state: laneSignalDetect, laneAdaptationDone, laneRetryTimer,
pcsAligned, injectSingle, injectContinuous, laneSignalLoss. -/
def Obligations.HostLanesAcquireAndAlign : Prop :=
  (∀ (l : Fin 16) (p : Nat) (s : State), s.lanePort l.val = some p → bit s.lanesPowered l.val = true →
      s.laneState l.val = 1 ∨ s.laneState l.val = 5 →
      ∃ t, exec (.laneSignalDetect l) s = .next t ∧ t.laneState l.val = 2 ∧ t.wroteOnly s [key (laneIdx l.val) 1] ∧
        t.lan.warm.contains l.val = (decide (s.rdS (laneIdx l.val) 7 ≠ []) &&
          ((s.rdS (laneIdx l.val) 7).headD 0).toNat == s.rdN (0x9010 + p) 3)) ∧
    (∀ (l : Fin 16) (p : Nat) (d : List Byte) (s : State), s.lanePort l.val = some p → s.laneState l.val = 2 →
      (∃ t, exec (.laneAdaptationDone l true d) s = .next t ∧ t.laneState l.val = 3 ∧
        (s.rdN (laneIdx l.val) 5 ≠ 2 → t.rd (laneIdx l.val) 7 =
          .bytes (beBytes 1 (s.rdN (0x9010 + p) 3) ++ padTo 31 ((d.drop 1).take 31)))) ∧
      ∃ t, exec (.laneAdaptationDone l false d) s = .next t ∧
        t.rdN (laneIdx l.val) 9 = (s.rdN (laneIdx l.val) 9 + 1) % 2 ^ 32 ∧
        t.laneState l.val = (if s.lan.warm.contains l.val then 2 else 5) ∧ t.lan.warm.contains l.val = false) ∧
    (∀ (l : Fin 16) (s : State), s.laneState l.val = 5 → bit s.lanesPowered l.val = true →
      ∃ t, exec (.laneRetryTimer l) s = .next t ∧ t.laneState l.val = 2 ∧ t.wroteOnly s [key (laneIdx l.val) 1]) ∧
    (∀ (l : Fin 16) (p : Nat) (s : State), s.lanePort l.val = some p → bit s.lanesPowered l.val = true →
      ∃ t, exec (.laneSignalLoss l) s = .next t ∧ t.laneState l.val = 1 ∧ t.lan.aligned.contains p = false ∧
        t.rdBit (0x7010 + p) 0x14 0 = true ∧ (s.portMode p = 1 → t.rdBit (0x7010 + p) 0x14 1 = true)) ∧
    (∀ (p : Fin 16) (s : State), s.portMode p.val = 1 → (s.laneSpan p.val).2 ≠ 0 → s.portUp p.val = true →
      ∃ t, exec (.pcsAligned p) s = .next t ∧ t.lan.aligned.contains p.val = true ∧ t.rdBit (0x7010 + p.val) 0x14 0 = false ∧
        t.rdBit (0x7010 + p.val) 0x14 1 = false) ∧
    (∀ (l : Fin 32) (s : State), s.serves → s.is1608 = false → s.laneUsed l.val = false →
      (∃ t, exec (.injectSingle l) s = .next t ∧ t.told (laneIdx l.val) 0x0F .done ∧ .bitFlip l.val 0 ∈ t.out) ∧
      ∃ t, exec (.injectContinuous l) s = .next t ∧ t.told (laneIdx l.val) 0x0F .done ∧
        .bitFlip l.val (s.rdN (laneIdx l.val) 0x10) ∈ t.out) ∧
    ∀ (l : Fin 32) (s : State), s.serves → s.is1608 = false → s.laneUsed l.val = true → s.ctl.mode ≠ .test →
      ∃ t, exec (.injectSingle l) s = .next t ∧ t.told (laneIdx l.val) 0x0F .conflict ∧ t.lan = s.lan

/-- Bobbin lanes: markers are counted and lock a lane, a bad one or a command retires it and sets its request, a clean one
is re-admitted; a due mask takes force at its counter; the lanes of a link that is up enter and leave electrical idle. Under
the premises given for each, these answer a next state: markerReceive, markerTransmit, laneRetireCommand,
laneReadmitCommand, laneReadmitTimer, portIdleEnter, portIdleExit. -/
def Obligations.BobbinLanesLockRetireAndIdle : Prop :=
  (∀ (b : Fin 16) (m : Marker) (s : State), s.bobLit (b.val / 8) = true → (s.bobLane b.val).retired = false →
      (s.bobLane b.val).resume = false → (s.bobLane b.val).locked = false → m.crcOk = true →
      m.counter = (s.bobLane b.val).lastCounter + 1 → 1 ≤ (s.bobLane b.val).lockRun → m.skewPs ≤ 40000 →
      m.uncorrectable ≤ s.rdN (0x9060 + b.val / 8) 7 → s.linkState (b.val / 8) = 3 →
      s.rdN 0x9000 4 ≤ 8 - max (popcount 8 m.retire) (popcount 8 (s.rdN (0x9060 + b.val / 8) 3)) →
      ∃ t, exec (.markerReceive b m) s = .next t ∧ (t.bobLane b.val).locked = true ∧ t.rdB (0x9040 + b.val) 0x15 = true ∧
        t.rdN (0x9040 + b.val) 1 = 3 ∧
        t.rdN (0x9040 + b.val) 0x11 = (s.rdN (0x9040 + b.val) 0x11 + 4096) % 2 ^ 64 ∧
        t.rdN (0x9040 + b.val) 0x13 = (s.rdN (0x9040 + b.val) 0x13 + m.uncorrectable) % 2 ^ 64) ∧
    (∀ (b : Fin 16) (m : Marker) (s : State), s.bobLit (b.val / 8) = true → (s.bobLane b.val).retired = false →
      (s.bobLane b.val).resume = true → m.crcOk = true → m.counter = (s.bobLane b.val).lastCounter + 1 → m.skewPs ≤ 40000 →
      m.uncorrectable ≤ s.rdN (0x9060 + b.val / 8) 7 → s.linkState (b.val / 8) = 0 →
      ∃ t, exec (.markerReceive b m) s = .next t ∧ (t.bobLane b.val).locked = true ∧ (t.bobLane b.val).lastCounter = m.counter ∧
        (t.bobLane b.val).resume = false) ∧
    (∀ (b : Fin 16) (m : Marker) (s : State), s.bobLit (b.val / 8) = true → (s.bobLane b.val).retired = false →
      (s.bobLane b.val).resume = false → (s.bobLane b.val).locked = true → m.crcOk = true →
      m.counter = (s.bobLane b.val).lastCounter + 1 → m.skewPs ≤ 40000 → s.rdN (0x9060 + b.val / 8) 7 < m.uncorrectable →
      s.linkState (b.val / 8) = 0 →
      ∃ t, exec (.markerReceive b m) s = .next t ∧ (t.bobLane b.val).retired = true ∧ t.rdN (0x9040 + b.val) 0x17 = 1 ∧
        t.rdBit (0x9060 + b.val / 8) 3 (b.val % 8) = true) ∧
    (∀ (q : Fin 2) (s : State), s.bobOn q.val = true → s.rdB (0x9060 + q.val) 8 = true →
      ∃ t, exec (.markerTransmit q) s = .next t ∧ t.rdN (0x9060 + q.val) 4 = (s.rdN (0x9060 + q.val) 4 + 1) % 2 ^ 64 ∧
        t.rdN (0x9060 + q.val) 1 = s.rdN (0x9060 + q.val) 1) ∧
    (∀ (q : Fin 2) (mask c : Nat) (s : State), s.bobOn q.val = true → s.rdB (0x9060 + q.val) 8 = false →
      (s.bobPort q.val).pendingMask = some (mask, c) → c = s.rdN (0x9060 + q.val) 4 + 1 →
      ∃ t, exec (.markerTransmit q) s = .next t ∧ t.rdN (0x9060 + q.val) 1 = mask ∧
        t.rdN (0x9060 + q.val) 9 = bobPayload (popcount 8 mask)) ∧
    (∀ (b : Fin 16) (s : State), s.serves → s.is1608 = false → (s.bobLane b.val).retired = false →
      s.linkState (b.val / 8) = 0 ∨ s.rdN 0x9000 4 + 1 ≤ s.lanesLeft (b.val / 8) →
      ∃ t, exec (.laneRetireCommand b) s = .next t ∧ t.told (0x9040 + b.val) 0x16 .done ∧ (t.bobLane b.val).retired = true ∧
        t.rdN (0x9040 + b.val) 1 = 4 ∧ t.rdN (0x9040 + b.val) 0x17 = 4 ∧ t.rdBit (0x9060 + b.val / 8) 3 (b.val % 8) = true) ∧
    (∀ (b : Fin 16) (s : State), s.serves → s.is1608 = false → (s.bobLane b.val).retired = true →
      ∃ t, exec (.laneReadmitCommand b) s = .next t ∧ t.told (0x9040 + b.val) 0x16 .done ∧
        (t.bobLane b.val).readmitting = true ∧ (t.bobLane b.val).retired = true) ∧
    (∀ (b : Fin 16) (s : State), s.bobLit (b.val / 8) = true → (s.bobLane b.val).retired = true → (s.bobLane b.val).locked = true →
      (s.bobLane b.val).readmitting = true ∨ s.rdB (0x9060 + b.val / 8) 6 = true → (s.bobLane b.val).skew ≤ 40000 →
      (s.bobLane b.val).cleanAt + 100000 ≤ s.uptime →
      ∃ t, exec (.laneReadmitTimer b) s = .next t ∧ (t.bobLane b.val).retired = false ∧ t.rdN (0x9040 + b.val) 1 = 3 ∧
        t.rdBit (0x9060 + b.val / 8) 3 (b.val % 8) = false ∧ t.out = s.out) ∧
    (∀ (q : Fin 2) (s : State), s.linkState q.val = 3 → s.bobLit q.val = true →
      ∃ t, exec (.portIdleEnter q) s = .next t ∧ t.linkState q.val = 5 ∧ t.rdB (0x9060 + q.val) 8 = true) ∧
    (∀ (q : Fin 2) (s : State), s.linkState q.val = 5 → s.rdB (0x9060 + q.val) 8 = true → s.on (20 + q.val) = true →
      ∃ t, exec (.portIdleExit q) s = .next t ∧ t.linkState q.val = 3 ∧ t.rdB (0x9060 + q.val) 8 = false) ∧
    ∀ (q : Fin 2) (s : State), s.linkState q.val ≠ 3 → exec (.portIdleEnter q) s = .next s

/-- The PCIe endpoint: PERST# takes the link down and its release trains it; a trained link has the width and speed within
what is advertised; causes enabled are signalled by vector, PM_PME or WAKE_N as the power state asks, and clear with
PME_Status. Under the premises given for each, these answer a next state: perstAssert, perstDeassert, wakeCause,
pmeStatusClear, pmeTurnOff, deviceStateWrite, pcieLinkTrained. -/
def Obligations.PcieSignalsItsWakeCauses : Prop :=
  (∀ s : State, ∃ t, exec .perstAssert s = .next t ∧ t.lan.pcieUp = false ∧ t.lan.perst = true ∧ t.lan.l2 = s.lan.l2 ∧
      t.rdN 0x9080 1 = 0 ∧ t.lan.msixEnabled = false ∧ t.wroteOnly s ([1, 2, 3, 6].map (key 0x9080))) ∧
    (∀ s : State, s.on 1 = true → s.lan.pcieUp = false →
      ∃ t, exec .perstDeassert s = .next t ∧ t.lan.perst = false ∧ t.lan.l2 = false ∧ t.lan.wakeLow = false ∧ t.rdN 0x9080 1 = 1) ∧
    (∀ (w v : Nat) (s : State), s.rdN 0x9080 1 = 1 → s.lan.perst = false → s.on 1 = true → s.rdN 0x9080 8 = 0 →
      ∃ t, exec (.pcieLinkTrained w v) s = .next t ∧ t.lan.pcieUp = true ∧ t.rdN 0x9080 1 = 2 ∧
        t.rdN 0x9080 2 = min (s.rdN 0x9080 5) w ∧ t.rdN 0x9080 3 = min (s.rdN 0x9080 4) v ∧ t.out = s.out) ∧
    (∀ (d e : Bool) (w : List (Nat × Byte)) (s : State), s.lan.pcieUp = true → s.lan.l2 = false → s.lan.crsUntil ≤ s.uptime →
      ∃ t, exec (.deviceStateWrite d e w) s = .next t ∧ t.lan.d3 = d ∧ t.lan.msixEnabled = e ∧
        t.rdN 0x9080 6 = (if d then 3 else 0) ∧
        (s.rdN 0x9080 8 = 0 → t.rdN 0x9080 1 = (if d then 3 else 2)) ∧
        t.lan.msixTable = w.foldl (fun m x => if x.1 < 1024 then lput x.1 x.2 m else m) s.lan.msixTable ∧
        (s.rdN 0x9080 8 = 0 → s.lan.pba = 0 ∨ d = true ∨ e = false → t.out = s.out ∧ t.lan.pba = s.lan.pba)) ∧
    (∀ (d e : Bool) (w : List (Nat × Byte)) (s : State), s.lan.pcieUp = false ∨ s.uptime < s.lan.crsUntil →
      exec (.deviceStateWrite d e w) s = .next s) ∧
    (∀ s : State, s.on 0 = true → s.rdBit 0x9080 7 1 = true → s.rdN 0x9080 8 = 0 → s.lan.signalled = 0 →
      (s.lan.l2 = true → s.lan.wakeLow = false → s.lan.wakeDue = none → ∃ t, exec (.wakeCause .shed) s = .next t ∧
        t.rdBit 0x9080 8 1 = true ∧
        t.lan.wakeLow = true ∧ t.out = .wakeN true :: s.out ∧ t.rdN 0x9080 9 = (s.rdN 0x9080 9 + 1) % 2 ^ 32) ∧
      (s.lan.l2 = true → s.lan.wakeDue.isSome → ∃ t, exec (.wakeCause .shed) s = .next t ∧ t.rdBit 0x9080 8 1 = true ∧
        t.out = s.out ∧ t.lan = s.lan) ∧
      (s.lan.l2 = false → s.lan.pcieUp = true → s.lan.d3 = true → ∃ t, exec (.wakeCause .shed) s = .next t ∧
        t.rdBit 0x9080 8 1 = true ∧ t.lan.pmeStatus = true ∧ t.out = .pmPme :: s.out ∧ t.rdN 0x9080 1 = 2) ∧
      (s.lan.l2 = false → s.msixMay 2 = true →
        ∃ t, exec (.wakeCause .shed) s = .next t ∧ t.rdBit 0x9080 8 1 = true ∧
          t.out = .msix 2 (s.msixField 32 8) (s.msixField 40 4) :: s.out) ∧
      (s.lan.l2 = false → s.lan.pcieUp = true → s.lan.d3 = false → s.lan.msixEnabled = true → s.msixMay 2 = false →
        ∃ t, exec (.wakeCause .shed) s = .next t ∧ t.rdBit 0x9080 8 1 = true ∧ t.out = s.out ∧ bit t.lan.pba 2 = true)) ∧
    (∀ (c : WakeCause) (s : State), s.on 0 = true → s.rdN 0x9080 7 = 0 →
      ∃ t, exec (.wakeCause c) s = .next t ∧ t.out = s.out ∧ t.lan = s.lan ∧ t.wroteOnly s [key 0x9080 8]) ∧
    (∀ s : State, s.lan.pcieUp = true → ∃ t, exec .pmeStatusClear s = .next t ∧ t.rdN 0x9080 8 = 0 ∧
      t.lan = { s.lan with pmeStatus := false, signalled := 0 } ∧ t.wroteOnly s [key 0x9080 8]) ∧
    ∀ s : State, s.lan.pcieUp = true → ∃ t, exec .pmeTurnOff s = .next t ∧ .pmeToAck ∈ t.out ∧ t.lan.l2 = true ∧
      t.lan.pcieUp = false ∧ t.rdN 0x9080 1 = 4 ∧ t.lan.wakeDue = some (s.uptime + 1000)

/-- Flits: one in sequence is taken or passed on, one out of sequence or with a bad CRC brings a NAK and raises the error
counter; a NAK sends the buffer again in order; the counter's limit, the credit deadline and the eighth resend fail the
link. Under the premises given for each, these answer a next state: tenantFlitReceive, nakReceive, flitCrcFail, nullFlitDue,
creditTimeout, errorCounterLeak. -/
def Obligations.FlitsAreNumberedAcknowledgedAndResent : Prop :=
  (∀ (q : Fin 2) (n valid piece frame cls : Nat) (first last : Bool) (tag : Option Nat) (data : List Byte) (f : Flit) (s : State),
      f.body = .tenant n first last valid piece frame cls tag data → s.linkUp q.val = true → f.seqNo ≠ (s.link q.val).rxSeq →
      (s.link q.val).nakAt ≠ some s.uptime → s.rdN (0x8C10 + q.val) 3 + 1 < s.rdN (0x8C10 + q.val) 4 →
      s.rdN (0x8C10 + q.val) 4 ≤ 1024 →
      ∃ t, exec (.tenantFlitReceive q f) s = .next t ∧ t.bob.partials = s.bob.partials ∧ t.grm = s.grm ∧
        (t.link q.val).rxSeq = (s.link q.val).rxSeq ∧ t.rdN (0x8C10 + q.val) 3 = s.rdN (0x8C10 + q.val) 3 + 1 ∧
        ∃ g, t.flitSent q.val = some g ∧ t.out.tail = s.out ∧ g.body = .nak (s.link q.val).rxSeq ∧ g.seqNo = 0 ∧ g.dest = s.neighbour q.val) ∧
    (∀ (q : Fin 2) (n valid piece frame cls : Nat) (first last : Bool) (tag : Option Nat) (data : List Byte) (f : Flit) (s : State),
      f.body = .tenant n first last valid piece frame cls tag data → s.linkUp 0 = true → s.linkUp 1 = true →
      f.seqNo = (s.link q.val).rxSeq → f.dest ≠ s.ownPosition → (s.link q.val).waiting = [] →
      (s.link (1 - q.val)).waiting = [] → (s.link (1 - q.val)).retry.length < 1024 → 0 < (s.link (1 - q.val)).vc0 →
      ∃ t, exec (.tenantFlitReceive q f) s = .next t ∧ t.bob.partials = s.bob.partials ∧ t.grm = s.grm ∧
        (t.link q.val).rxSeq = ((s.link q.val).rxSeq + 1) % 4096 ∧ (t.link q.val).back0 = (s.link q.val).back0 + 1 ∧
        (t.link (1 - q.val)).vc0 = (s.link (1 - q.val)).vc0 - 1 ∧
        ∃ g, t.flitSent (1 - q.val) = some g ∧ t.out.tail = s.out ∧ g.body = f.body ∧ g.source = f.source ∧ g.dest = f.dest ∧
          g.seqNo = (s.link (1 - q.val)).txSeq) ∧
    (∀ (q : Fin 2) (n valid piece frame cls : Nat) (first : Bool) (tag : Option Nat) (data : List Byte) (f : Flit) (s : State),
      f.body = .tenant n first false valid piece frame cls tag data → s.linkUp q.val = true → f.seqNo = (s.link q.val).rxSeq →
      f.dest = s.ownPosition → (s.link q.val).waiting = [] →
      ∃ t, exec (.tenantFlitReceive q f) s = .next t ∧ (t.link q.val).rxSeq = ((s.link q.val).rxSeq + 1) % 4096 ∧
        t.out = s.out ∧ ∃ x, lget (partialKey q.val f.source n) t.bob.partials = some x ∧
          x.len = valid + (if first then 0
            else match lget (partialKey q.val f.source n) s.bob.partials with | some y => y.len | none => 0) ∧
          x.bytes = (if first then [] else match lget (partialKey q.val f.source n) s.bob.partials with | some y => y.bytes | none => [])
            ++ padTo valid (data.take valid)) ∧
    (∀ (q : Fin 2) (e : Nat) (g : Flit) (r : List Flit) (f : Flit) (s : State), f.body = .nak e → s.linkUp q.val = true →
      (s.link q.val).retry = g :: r → g.seqNo = e → ((g :: r).any fun h => h.seqNo == f.acked) = false →
      (s.link q.val).waiting = [] → (s.link q.val).resends < 7 →
      ∃ t, exec (.nakReceive q f) s = .next t ∧ (t.link q.val).retry = g :: r ∧
        (t.link q.val).resends = (s.link q.val).resends + 1 ∧
        t.rdN (0x8C10 + q.val) 6 = (s.rdN (0x8C10 + q.val) 6 + (r.length + 1)) % 2 ^ 32 ∧
        (t.out.take (r.length + 1)).map (fun o => match o with | .flit p h => (p, h.seqNo, h.body) | _ => (2, 0, .null)) =
          ((g :: r).map fun h => (q.val, h.seqNo, h.body)).reverse) ∧
    (∀ (q : Fin 2) (e : Nat) (g : Flit) (r : List Flit) (f : Flit) (s : State), f.body = .nak e → s.linkUp q.val = true →
      (s.link q.val).retry = g :: r → g.seqNo = e → ((g :: r).any fun h => h.seqNo == f.acked) = false →
      7 ≤ (s.link q.val).resends →
      ∃ t, exec (.nakReceive q f) s = .next t ∧ t.linkState q.val = 4 ∧ t.rdN (0x8C10 + q.val) 0x0C = 4) ∧
    (∀ (q : Fin 2) (s : State), s.linkUp q.val = true → (s.link q.val).nakAt ≠ some s.uptime →
      (s.rdN (0x8C10 + q.val) 3 + 2 < s.rdN (0x8C10 + q.val) 4 → s.rdN (0x8C10 + q.val) 4 ≤ 1024 →
        ∃ t, exec (.flitCrcFail q) s = .next t ∧ t.rdN (0x8C10 + q.val) 3 = s.rdN (0x8C10 + q.val) 3 + 2 ∧
          t.rdN (0x8C10 + q.val) 9 = (s.rdN (0x8C10 + q.val) 9 + 1) % 2 ^ 32 ∧
          ∃ g, t.flitSent q.val = some g ∧ t.out.tail = s.out ∧ g.body = .nak (s.link q.val).rxSeq) ∧
      (s.rdN (0x8C10 + q.val) 4 ≤ s.rdN (0x8C10 + q.val) 3 + 2 → s.rdN (0x8C10 + q.val) 4 ≤ 1024 →
        ∃ t, exec (.flitCrcFail q) s = .next t ∧ t.linkState q.val = 4 ∧ t.rdN (0x8C10 + q.val) 0x0C = 1)) ∧
    (∀ (q : Fin 2) (s : State), s.linkUp q.val = true →
      ∃ t, exec (.nullFlitDue q) s = .next t ∧ t.rdN (0x8C10 + q.val) 7 = (s.rdN (0x8C10 + q.val) 7 + 1) % 2 ^ 64 ∧
        ∃ g, t.flitSent q.val = some g ∧ t.out.tail = s.out ∧ g.body = .null ∧ g.seqNo = 0 ∧
          g.acked = ((s.link q.val).rxSeq + 4095) % 4096 ∧ g.vc0 = min 255 (s.link q.val).back0) ∧
    (∀ (q vc : Fin 2) (s : State), s.linkUp q.val = true →
      (if vc.val = 0 then (s.link q.val).vc0 = 0 else (s.link q.val).vc1 = 0) →
      ((s.link q.val).waiting.any fun f => flitVc f.body == some vc.val) = true →
      ∃ t, exec (.creditTimeout q vc) s = .next t ∧ t.linkState q.val = 4 ∧ t.rdN (0x8C10 + q.val) 0x0C = 2 ∧
        t.rdN (0x8C10 + q.val) 0x0A = (s.rdN (0x8C10 + q.val) 0x0A + 1) % 2 ^ 32) ∧
    ∀ (q : Fin 2) (s : State), ∃ t, exec (.errorCounterLeak q) s = .next t ∧
      t.rdN (0x8C10 + q.val) 3 = s.rdN (0x8C10 + q.val) 3 - 1 ∧ t = { s with dict := t.dict } ∧
      t.wroteOnly s [key (0x8C10 + q.val) 3]

/-- What a flit for this member asks: INIT brings a link up or is refused, REQUEST is performed and answered, with status 1
where its target is unmapped or isolated, RESPONSE ends an outstanding request, or with a status its DMA channel's job, TIME
gives the candidate its offset and QL, PROT reports, tells a carrier its nibble, commands and acknowledges. Under the
premises given for each, these answer a next state: initReceive, requestFlitReceive, responseFlitReceive, timeFlitReceive,
protFlitReceive, resequenceTimeout, requestAcceptTimeout, bobbinTimeExchange. -/
def Obligations.FlitsDoWhatTheirTypeAsks : Prop :=
  (∀ (q : Fin 2) (pos size code : Nat) (digest : List Byte) (f : Flit) (ds : List (Nat × DVal)) (s : State),
      f.body = .init pos size code digest →
      s.linkState q.val = 2 →
      ((pos ≠ s.neighbour q.val ∨ size ≠ s.groupSize ∨ code = 1 ∨ s.is1608 = true) →
        ∃ t, exec (.initReceive q f ds) s = .next t ∧ t.linkState q.val = 4 ∧ t.rdN (0x8C10 + q.val) 0x0C = 5) ∧
      (pos = s.neighbour q.val → size = s.groupSize → code ≠ 1 → s.is1608 = false → s.groupRole ≠ 1 → s.protGroups = [] →
        s.bob.pendingCmd = [] →
        ∃ t, exec (.initReceive q f ds) s = .next t ∧ t.linkState q.val = 3 ∧ t.rdN (0x8C10 + q.val) 2 = pos ∧
          (t.link q.val).vc0 = 256 ∧ (t.link q.val).vc1 = 128 ∧ (t.link q.val).rxSeq = (f.seqNo + 1) % 4096)) ∧
    (∀ (q : Fin 2) (write : Bool) (tag len addr : Nat) (data : List Byte) (f : Flit) (s : State),
      f.body = .request write tag len addr data → s.linkUp q.val = true → f.seqNo = (s.link q.val).rxSeq →
      f.dest = s.ownPosition → (s.link q.val).waiting = [] → s.route f.source = some q.val →
      (s.link q.val).retry.length < 1024 → 0 < (s.link q.val).vc1 →
      (s.target (s.redirect addr) = none →
        ∃ t, exec (.requestFlitReceive q f) s = .next t ∧ t.mem = s.mem ∧ t.rdN 0x9480 4 = addr % 2 ^ 64 ∧
          ∃ g, t.flitSent q.val = some g ∧ t.out.tail = s.out ∧ g.body = .response tag 1 [] ∧ g.dest = f.source) ∧
      (∀ (d : Target × Nat) (u : State), s.target (s.redirect addr) = some d → s.matrixWrite (s.redirect addr) (data.take len) = some u →
        s.reaches (3 + q.val) d.1 true = true → s.mat.isolated.contains d.1.number = false → write = true →
        ∃ t, exec (.requestFlitReceive q f) s = .next t ∧ t.mem = u.mem ∧
          ∃ g, t.flitSent q.val = some g ∧ t.out.tail = s.out ∧ g.body = .response tag 0 [] ∧ g.dest = f.source) ∧
      (∀ (d : Target × Nat) (b : List Byte), s.target (s.redirect addr) = some d → s.matrixRead (s.redirect addr) len = some b →
        s.reaches (3 + q.val) d.1 false = true → s.mat.isolated.contains d.1.number = false → write = false →
        ∃ t, exec (.requestFlitReceive q f) s = .next t ∧ t.mem = s.mem ∧
          ∃ g, t.flitSent q.val = some g ∧ t.out.tail = s.out ∧ g.body = .response tag 0 b ∧ g.dest = f.source) ∧
      (∀ d : Target × Nat, s.target (s.redirect addr) = some d → s.mat.isolated.contains d.1.number = true →
        ∃ t, exec (.requestFlitReceive q f) s = .next t ∧ t.mem = s.mem ∧
          ∃ g, t.flitSent q.val = some g ∧ t.out.tail = s.out ∧ g.body = .response tag 1 [] ∧ g.dest = f.source) ∧
      ∃ t, exec (.requestAcceptTimeout q f) s = .next t ∧ t.mem = s.mem ∧
        ∃ g, t.flitSent q.val = some g ∧ t.out.tail = s.out ∧ g.body = .response tag 2 [] ∧ g.dest = f.source) ∧
    (∀ (q : Fin 2) (tag st : Nat) (data : List Byte) (f : Flit) (s : State), f.body = .response tag st data →
      s.linkUp q.val = true → f.seqNo = (s.link q.val).rxSeq → f.dest = s.ownPosition → (s.link q.val).waiting = [] →
      ∃ t, exec (.responseFlitReceive q f) s = .next t ∧ (t.link q.val).outstanding = ldel tag (s.link q.val).outstanding ∧
        (t.link q.val).rxSeq = ((s.link q.val).rxSeq + 1) % 4096 ∧
        (st = 0 → t.mat = s.mat ∧ t.mem = s.mem) ∧
        ∀ a ∈ (lget tag (s.link q.val).outstanding).toList, a.1 < 64 → st ≠ 0 → s.dmaBusy a.1 = true →
          t.rdN (0x9500 + a.1) 0x0A = 4 ∧ t.rdN (0x9500 + a.1) 0x0D = 4) ∧
    (∀ (q : Fin 2) (t1 t2 t3 t4 : Fin 1000000000) (ql : Nat) (h : Bool) (f : Flit) (s : State),
      f.body = .time t1.val t2.val t3.val t4.val ql h → s.linkUp q.val = true → f.seqNo = (s.link q.val).rxSeq →
      f.dest = s.ownPosition → (s.link q.val).waiting = [] →
      ∃ t, exec (.timeFlitReceive q f) s = .next t ∧ t.rdN (0x8017 + q.val) 8 = ql % 16 ∧
        (t.cand (7 + q.val)).holdover = h ∧
        (2 * t.rdI (0x8017 + q.val) 0x0A - ((t2.val : Int) - t1.val - (t4.val - t3.val))).natAbs ≤ 1) ∧
    (∀ (q : Fin 2) (s : State), s.linkUp q.val = true → ∃ t, exec (.bobbinTimeExchange q) s = .next t ∧
      (t.link q.val).txSeq = ((s.link q.val).txSeq + 1) % 4096 ∧
      ∃ g, t.flitSent q.val = some g ∧ t.out.tail = s.out ∧ g.dest = s.neighbour q.val ∧
        (match g.body with | .time _ _ _ _ ql h => (ql, h) | _ => (16, false)) = (s.ssmOf, decide (s.dpll = 3 ∨ s.dpll = 0))) ∧
    (∀ (q : Fin 2) (j : Fin 256) (cmd number : Nat) (w p : Bool) (f : Flit) (s : State), s.linkUp q.val = true →
      f.seqNo = (s.link q.val).rxSeq → f.dest = s.ownPosition → (s.link q.val).waiting = [] →
      (f.body = .prot j.val cmd number true w p → s.homeHere (s.rdN (0x8D00 + j.val) 2) = true →
        ∃ t, exec (.protFlitReceive q f) s = .next t ∧
          (t.prot j.val).rawWorking = (if bit number 0 then w else (s.prot j.val).rawWorking) ∧
          (t.prot j.val).rawProtect = (if bit number 1 then p else (s.prot j.val).rawProtect) ∧
          (t.prot j.val).carrier = (if bit number 1 then f.source else (s.prot j.val).carrier) ∧
          t.bob.pendingCmd = s.bob.pendingCmd) ∧
      (f.body = .prot j.val cmd number true w p → s.homeHere (s.rdN (0x8D00 + j.val) 2) = false →
        ∃ t, exec (.protFlitReceive q f) s = .next t ∧ t.prot j.val = { s.prot j.val with nibble := cmd }) ∧
      (f.body = .prot j.val cmd number false w p → s.groupRole ≠ 1 → s.homeHere (s.rdN (0x8D00 + j.val) 2) = true →
        s.route f.source = some q.val → (s.link q.val).retry.length < 1023 →
        ∃ t, exec (.protFlitReceive q f) s = .next t ∧
          (∃ g, t.flitSent q.val = some g ∧ g.body = .prot j.val cmd number false false false ∧ g.dest = f.source) ∧
          ((s.prot j.val).lastNumber = some number → t.prot j.val = s.prot j.val) ∧
          ((s.prot j.val).lastNumber ≠ some number → (t.prot j.val).lastNumber = some number ∧
            (t.prot j.val).command = (match cmd with | 2 => 1 | 3 => 3 | 4 => 5 | _ => 0))) ∧
      (f.body = .prot j.val cmd number false w p → s.groupRole = 1 → ∀ c, s.bob.pendingCmd = [c] → c.number = number →
        c.group = j.val → ∃ t, exec (.protFlitReceive q f) s = .next t ∧ t.bob.pendingCmd = [] ∧
          t.rdN (0x8D00 + j.val) 0x11 = 1)) ∧
    ∀ (n : Fin 4096) (a : Nat) (s : State), s.groupHome n.val = true → s.protOf n.val = none → s.headSeqs n.val = [a] →
      a ≠ lgetD n.val 0 s.bob.spanSeq → ∃ t, exec (.resequenceTimeout n) s = .next t ∧ lgetD n.val 0 t.bob.spanSeq = a ∧
        t.rdN 0x8C00 0x0E = (s.rdN 0x8C00 0x0E + (a + 2 ^ 32 - lgetD n.val 0 s.bob.spanSeq) % 2 ^ 32) % 2 ^ 64 ∧
        t = { s with dict := t.dict, bob := { s.bob with spanSeq := t.bob.spanSeq } } ∧ t.wroteOnly s [key 0x8C00 0x0E]

/-- Links are taken down and restart; the request in force selects a group's copy, and its hold-off, wait and commands move
it; alert causes are latched, cleared, gathered by the master and drive the line. Under the premises given for each, these
answer a next state: linkRestartTimer, linkTakeDown, linkRestart, holdOffExpiry, protectionWtrExpiry, protectionClear,
protectionLockout, protectionForced, protectionManual, alertReport, clearAlerts. -/
def Obligations.LinksRestartProtectionSelectsAlertsTell : Prop :=
  (∀ (q : Fin 2) (s : State), s.grouped = true → s.on (20 + q.val) = true →
      (s.linkState q.val = 4 → s.rdN (0x8C10 + q.val) 0x0C ≠ 6 →
        ∃ t, exec (.linkRestartTimer q) s = .next t ∧ t.linkState q.val = 1 ∧ t.link q.val = Link.start ∧
          t.rdN (0x8C10 + q.val) 3 = 0) ∧
      (s.linkState q.val = 4 → s.rdN (0x8C10 + q.val) 0x0C = 6 → exec (.linkRestartTimer q) s = .next s) ∧
      (s.serves → s.is1608 = false → s.linkState q.val = 3 →
        ∃ t, exec (.linkTakeDown q) s = .next t ∧ t.told (0x8C10 + q.val) 0x0D .done ∧ t.linkState q.val = 4 ∧
          t.rdN (0x8C10 + q.val) 0x0C = 6 ∧ t.rdBit 0x8C00 7 0 = true ∧ t.link q.val = Link.start) ∧
      (s.serves → s.is1608 = false → s.linkState q.val = 4 →
        ∃ t, exec (.linkRestart q) s = .next t ∧ t.told (0x8C10 + q.val) 0x0D .done ∧ t.linkState q.val = 1)) ∧
    (∀ (j : Fin 256) (s : State), s.is1608 = false → s.rdB (0x8D00 + j.val) 1 = true → s.homeHere (s.rdN (0x8D00 + j.val) 2) = true →
      s.rdB (0x8D00 + j.val) 4 = false →
      s.rawFail (s.rdN (0x8D00 + j.val) 3) (s.prot j.val).carrier (s.prot j.val).rawProtect = false → (s.prot j.val).sfProtect = false →
      (s.rawFail (s.rdN (0x8D00 + j.val) 2) (s.prot j.val).carrierW (s.prot j.val).rawWorking = true → (s.prot j.val).command = 0 →
        ∃ t, exec (.holdOffExpiry j false) s = .next t ∧ t.rdB (0x8D00 + j.val) 9 = true ∧ t.rdN (0x8D00 + j.val) 0x0A = 4 ∧
          (s.rdB (0x8D00 + j.val) 9 = false → t.rdBit 0x8C00 7 1 = true ∧ t.rdN (0x8D00 + j.val) 0x0E ≤ 10000 ∧
            t.rdN (0x8D00 + j.val) 0x0C = (s.rdN (0x8D00 + j.val) 0x0C + 1) % 2 ^ 32)) ∧
      (s.rawFail (s.rdN (0x8D00 + j.val) 2) (s.prot j.val).carrierW (s.prot j.val).rawWorking = true → (s.prot j.val).command = 1 →
        ∃ t, exec (.holdOffExpiry j false) s = .next t ∧ t.rdB (0x8D00 + j.val) 9 = false ∧ t.rdN (0x8D00 + j.val) 0x0A = 1) ∧
      (s.rawFail (s.rdN (0x8D00 + j.val) 2) (s.prot j.val).carrierW (s.prot j.val).rawWorking = false → (s.prot j.val).sfWorking = false →
        s.rdB (0x8D00 + j.val) 5 = true → (s.prot j.val).command = 0 →
        ∃ t, exec (.protectionWtrExpiry j) s = .next t ∧ t.rdB (0x8D00 + j.val) 9 = false ∧ t.rdN (0x8D00 + j.val) 0x0A = 7)) ∧
    (∀ (j : Fin 256) (s : State), s.serves → s.is1608 = false → s.groupRole = 0 →
      s.rdB (0x8D00 + j.val) 1 = true → s.homeHere (s.rdN (0x8D00 + j.val) 2) = true → s.rdB (0x8D00 + j.val) 4 = false →
      s.rawFail (s.rdN (0x8D00 + j.val) 2) (s.prot j.val).carrierW (s.prot j.val).rawWorking = false → (s.prot j.val).sfWorking = false →
      (s.prot j.val).wtr = false →
      (∃ t, exec (.protectionLockout j) s = .next t ∧ t.told (0x8D00 + j.val) 8 .done ∧ t.rdN (0x8D00 + j.val) 0x0A = 1 ∧
        t.rdB (0x8D00 + j.val) 9 = false ∧ t.rdN (0x8D00 + j.val) 0x11 = 1) ∧
      (s.rawFail (s.rdN (0x8D00 + j.val) 3) (s.prot j.val).carrier (s.prot j.val).rawProtect = false →
        (∃ t, exec (.protectionForced j) s = .next t ∧ t.told (0x8D00 + j.val) 8 .done ∧ t.rdN (0x8D00 + j.val) 0x0A = 3 ∧
          t.rdB (0x8D00 + j.val) 9 = true ∧ t.rdN (0x8D00 + j.val) 0x11 = 1) ∧
        (∃ t, exec (.protectionManual j) s = .next t ∧ t.told (0x8D00 + j.val) 8 .done ∧ t.rdN (0x8D00 + j.val) 0x0A = 5 ∧
          t.rdB (0x8D00 + j.val) 9 = true) ∧
        (s.rdB (0x8D00 + j.val) 5 = true → ∃ t, exec (.protectionClear j) s = .next t ∧ t.told (0x8D00 + j.val) 8 .done ∧
          t.rdN (0x8D00 + j.val) 0x0A = 7 ∧ t.rdB (0x8D00 + j.val) 9 = false))) ∧
    (∀ (causes : List Nat) (low : Bool) (s : State), s.is1608 = false → s.on 1 = true →
      ∃ t, exec (.alertReport causes low) s = .next t ∧ t.rdN 0x8C00 7 = s.alertCauses % 2 ^ 32 ∧
        t.rdB 0x8C00 9 = (low || decide (s.alertCauses &&& s.rdN 0x8C00 6 ≠ 0)) ∧
        (s.groupRole = 1 → t.rdS 0x8C00 0x0A = (List.range 4).flatMap fun i =>
          beBytes 4 (if i = s.ownPosition then s.alertCauses else causes.getD i 0)) ∧
        (s.groupRole ≠ 1 → t.rd 0x8C00 0x0A = s.rd 0x8C00 0x0A)) ∧
    ∀ (mask : BitVec 32) (s : State), s.serves → s.is1608 = false →
      ∃ t, exec (.clearAlerts mask) s = .next t ∧ t.told 0x8C00 8 .done ∧
        ∀ i : Fin 5, bit t.bob.latched i.val = (bit s.bob.latched i.val && !bit mask.toNat i.val)

/-- Clusters: the third missed heartbeat in succession or a trap makes one faulty; its item moves to a spare, evicts an item
of lower rank, or is suspended; a move ends in the destination, and its source is checked, held or retired. Under the
premises given for each, these answer a next state: heartbeatMiss, engineTrap, moveSourceStopped, moveDestinationRunning,
clusterCheckDone, historyWrite, clusterMoveOff, clusterRetire, clusterReadmit. -/
def Obligations.ClustersFaultMoveAndReturn : Prop :=
  (∀ (n : Fin 12) (e : Fin 8) (m u : Nat) (s : State), s.clState n.val = 2 ∨ s.clState n.val = 4 →
      lgetD (8 * n.val + e.val) (0, 0) s.eng.misses = (m, u) →
      (m = 0 ∨ u + 1500 < s.uptime → ∃ t, exec (.heartbeatMiss n e) s = .next t ∧ t.wroteOnly s [key (0x9410 + n.val) 4] ∧
        t.rdN (0x9410 + n.val) 4 = (s.rdN (0x9410 + n.val) 4 + 1) % 2 ^ 32 ∧
        lgetD (8 * n.val + e.val) (0, 0) t.eng.misses = (1, s.uptime)) ∧
      (m = 1 → s.uptime ≤ u + 1500 → ∃ t, exec (.heartbeatMiss n e) s = .next t ∧ t.clState n.val = s.clState n.val ∧
        lgetD (8 * n.val + e.val) (0, 0) t.eng.misses = (2, s.uptime)) ∧
      (m = 2 → s.uptime ≤ u + 1500 → s.clState n.val = 2 → s.clItem n.val < 11 → s.eng.move = none →
        ∀ d, s.spareFor (s.clItem n.val) = some d →
        ∃ t, exec (.heartbeatMiss n e) s = .next t ∧ t.rdN (0x9410 + n.val) 6 = 1 ∧
          t.eng.move = some { fault := true, item := s.clItem n.val, src := n.val, dst := d, retire := false, stopped := true, follow := none })) ∧
    (∀ (n : Fin 12) (w : Nat) (s : State), s.clState n.val = 2 → s.clItem n.val = w → w < 11 → s.eng.move = none →
      (∀ d, s.spareFor w = some d → ∃ t, exec (.engineTrap n) s = .next t ∧ t.rdN (0x9410 + n.val) 6 = 2 ∧
        t.clState n.val = 4 ∧ t.clState d = 4 ∧ t.rdN (0x9420 + w) 3 = 1 ∧
        t.rdN 0x9400 4 = (s.rdN 0x9400 4 + 1) % 2 ^ 32) ∧
      (s.clustersIn 3 = [] → ∀ v, (s.lowestItem fun v => decide (itemRank v < itemRank w) && mayPlace w (s.itemAt v)) = some v →
        ∃ t, exec (.engineTrap n) s = .next t ∧ t.rdN (0x9420 + v) 3 = 2 ∧ t.itemAt v = 255 ∧
          t.rdN 0x9400 5 = (s.rdN 0x9400 5 + 1) % 2 ^ 32 ∧
          t.eng.move = some { fault := true, item := w, src := n.val, dst := s.itemAt v, retire := false, stopped := true, follow := none }) ∧
      (s.clustersIn 3 = [] → (s.lowestItem fun v => decide (itemRank v < itemRank w) && mayPlace w (s.itemAt v)) = none →
        ∃ t, exec (.engineTrap n) s = .next t ∧ t.clState n.val = 5 ∧ t.rdN (0x9420 + w) 3 = 2 ∧ t.itemAt w = 255 ∧
          bit (t.rdN 0x9400 2) w = true ∧ t.rdBit 0x9400 6 1 = true)) ∧
    (∀ (m : Move) (s : State), s.eng.move = some m → m.stopped = false →
      exec .moveSourceStopped s = .next { s with eng := { s.eng with move := some { m with stopped := true } } }) ∧
    (∀ (src dst : Fin 12) (w : Fin 11) (fault retire : Bool) (s : State), src ≠ dst → s.eng.waiting = [] →
      (∀ v : Fin 11, s.rdN (0x9420 + v.val) 3 ≠ 2) → (fault = true → s.rdN (0x9410 + src.val) 6 ≠ 3) →
      s.eng.move = some { fault := fault, item := w.val, src := src.val, dst := dst.val, retire := retire, stopped := true, follow := none } →
      ∃ t, exec .moveDestinationRunning s = .next t ∧ t.eng.move = none ∧ t.clState dst.val = 2 ∧ t.clItem dst.val = w.val ∧
        t.itemAt w.val = dst.val ∧ t.rdN (0x9420 + w.val) 3 = 0 ∧ t.clItem src.val = 255 ∧
        (retire = true → t.clState src.val = 6) ∧
        (retire = false → s.rdN 0x1011 1 = 0 → t.clState src.val = 1) ∧
        (retire = false → s.rdN 0x1011 1 ≠ 0 → t.clState src.val = s.clState src.val ∧ src.val ∈ t.eng.heldFrom)) ∧
    (∀ (n : Fin 12) (s : State), s.clState n.val = 1 →
      (s.eng.move ≠ none → ∃ t, exec (.clusterCheckDone n true) s = .next t ∧ t.clState n.val = 3 ∧ t.eng = s.eng) ∧
      (∃ t, exec (.clusterCheckDone n false) s = .next t ∧ t.clState n.val = 5 ∧ t.rdN (0x9410 + n.val) 6 = 5 ∧ t.eng = s.eng) ∧
      (∀ w : Fin 11, s.eng.move = none → s.eng.waiting = [] → (∀ v : Fin 11, s.rdN (0x9420 + v.val) 3 = 2 ↔ v = w) →
        s.clustersIn 3 = [] → mayPlace w.val n.val = true →
        ∃ t, exec (.clusterCheckDone n true) s = .next t ∧ t.clState n.val = 4 ∧ t.rdN (0x9420 + w.val) 3 = 1 ∧
          t.eng.move = some { fault := true, item := w.val, src := 255, dst := n.val, retire := false, stopped := true, follow := none })) ∧
    (∀ (w : Fin 11) (s : State), s.itemRuns w.val = true → s.clState (s.itemAt w.val) = 2 →
      ∃ t, exec (.historyWrite w) s = .next t ∧ t.rd (0x9420 + w.val) 5 = s.now ∧ t = { s with dict := t.dict } ∧
        t.wroteOnly s [key (0x9420 + w.val) 5]) ∧
    ∀ (n : Fin 12) (s : State), s.serves → s.eng.move = none →
      (s.clState n.val = 2 → (∀ d, s.spareFor (s.clItem n.val) = some d →
          (∃ t, exec (.clusterMoveOff n) s = .next t ∧ t.told (0x9410 + n.val) 7 .done ∧ t.clState n.val = 4 ∧ t.clState d = 4 ∧
            t.eng.move = some { fault := false, item := s.clItem n.val, src := n.val, dst := d, retire := false, stopped := false, follow := none }) ∧
          ∃ t, exec (.clusterRetire n) s = .next t ∧ t.told (0x9410 + n.val) 7 .done ∧ t.rdBit 0x9400 8 n.val = true ∧
            t.eng.move = some { fault := false, item := s.clItem n.val, src := n.val, dst := d, retire := true, stopped := false, follow := none }) ∧
        (s.spareFor (s.clItem n.val) = none →
          ∃ t, exec (.clusterMoveOff n) s = .next t ∧ t.told (0x9410 + n.val) 7 .exhausted ∧ t.eng = s.eng)) ∧
      (s.clState n.val ≠ 2 → ∃ t, exec (.clusterMoveOff n) s = .next t ∧ t.told (0x9410 + n.val) 7 .conflict ∧ t.eng = s.eng) ∧
      (s.clState n.val = 0 ∨ s.clState n.val = 1 ∨ s.clState n.val = 3 ∨ s.clState n.val = 5 →
        ∃ t, exec (.clusterRetire n) s = .next t ∧ t.told (0x9410 + n.val) 7 .done ∧ t.clState n.val = 6 ∧
          t.rdBit 0x9400 8 n.val = true) ∧
      (s.clState n.val = 5 ∨ s.clState n.val = 6 →
        ∃ t, exec (.clusterReadmit n) s = .next t ∧ t.told (0x9410 + n.val) 7 .done ∧ t.clState n.val = 1 ∧
          t.rdBit 0x9400 8 n.val = false) ∧
      (s.clState n.val < 5 → ∃ t, exec (.clusterReadmit n) s = .next t ∧ t.told (0x9410 + n.val) 7 .conflict ∧ t.eng = s.eng)

/-- An unmapped access is answered by mode and master: logged, held, its cluster faulty or its channel ended with error 3.
Under the premises given for each, these answer a next state: matrixDecodeFault. -/
def Obligations.UnmappedAccessesAreAnsweredByMode : Prop :=
  (∀ (m : Fin 18) (c : Fin 64) (a : Nat) (s : State), s.on 1 = true → s.unmapped m.val a = true →
      (m.val < 5 → ∃ t, exec (.matrixDecodeFault m c a) s = .next t ∧ t.rdN 0x9480 2 = (s.rdN 0x9480 2 + 1) % 2 ^ 32 ∧
        t.rdN 0x9480 3 = m.val ∧ t.rdN 0x9480 4 = a % 2 ^ 64 ∧ t.rdN 0x9480 5 = 1 ∧ t = { s with dict := t.dict } ∧
        t.wroteOnly s ([2, 3, 4, 5].map (key 0x9480))) ∧
      (5 < m.val → s.ctl.mode = .boot ∨ s.ctl.mode = .test ∨ s.ctl.mode = .safe →
        exec (.matrixDecodeFault m c a) s = .next s) ∧
      (5 < m.val → s.ctl.mode = .quiet ∨ s.ctl.mode = .discover ∨ s.ctl.mode = .service ∨ s.ctl.mode = .shed →
        s.clState (m.val - 6) = 2 ∨ s.clState (m.val - 6) = 3 →
        ∃ t, exec (.matrixDecodeFault m c a) s = .next t ∧ t.rdN 0x9480 5 = 2 ∧ t.rdN 0x9480 3 = m.val ∧
          t.rdN (0x9410 + (m.val - 6)) 6 = 4 ∧ t.clState (m.val - 6) ≠ 3 ∧ t.rdBit 0x9480 7 0 = false) ∧
      (m.val = 5 → s.rdN (0x9500 + c.val) 0x0A = 1 → s.rdN (0x9500 + c.val) 7 = 0 →
        (s.ctl.mode = .boot ∨ s.ctl.mode = .test ∨ s.ctl.mode = .safe →
          ∃ t, exec (.matrixDecodeFault m c a) s = .next t ∧ t.rdN (0x9500 + c.val) 0x0A = 4 ∧ t.rdN (0x9500 + c.val) 0x0D = 3 ∧
            t.rdN 0x9480 2 = s.rdN 0x9480 2) ∧
        (s.ctl.mode = .quiet ∨ s.ctl.mode = .discover ∨ s.ctl.mode = .service ∨ s.ctl.mode = .shed →
          ∃ t, exec (.matrixDecodeFault m c a) s = .next t ∧ t.rdN (0x9500 + c.val) 0x0A = 4 ∧ t.rdN (0x9500 + c.val) 0x0D = 3 ∧
            t.rdN 0x9480 2 = (s.rdN 0x9480 2 + 1) % 2 ^ 32 ∧ t.rdN 0x9480 3 = 5 ∧ t.rdN 0x9480 5 = 3)) ∧
      (m.val = 5 → s.rdN (0x9500 + c.val) 0x0A = 0 → exec (.matrixDecodeFault m c a) s = .next s)) ∧
    ∀ (m : Fin 18) (c : Fin 64) (a : Nat) (s : State), s.unmapped m.val a = false →
      exec (.matrixDecodeFault m c a) s = .next s

/-- A DMA job: started or turned away, stopped, moved a burst at a time from one place of memory to another and nowhere
else, ended by the first error or by both lists, settled, and marked by a late error. Under the premises given for each,
these answer a next state: dmaStart, dmaStop, dmaBurst, dmaComplete, dmaSettled, dmaLateError. -/
def Obligations.DmaJobsMoveBurstsAndEnd : Prop :=
  (∀ (c : Fin 64) (s : State), s.serves →
      (c.val < 56 → s.ctl.mode ≠ .shed → s.rdN (0x9500 + c.val) 0x0A ≠ 1 → s.rdN (0x9500 + c.val) 0x0A ≠ 2 →
        ∃ t, exec (.dmaStart c) s = .next t ∧ t.told (0x9500 + c.val) 9 .done ∧ t.rdN (0x9500 + c.val) 0x0A = 1 ∧
          t.rdN (0x9500 + c.val) 0x0C = 0 ∧ t.rdN (0x9500 + c.val) 0x0D = 0 ∧ t.rdB (0x9500 + c.val) 0x0B = false ∧
          t.rdN (0x9500 + c.val) 0x10 = (s.rdN (0x9500 + c.val) 0x10 + 1) % 2 ^ 32 ∧
          lget c.val t.mat.chans = some { src := Cursor.start (s.rdN (0x9500 + c.val) 4), dst := Cursor.start (s.rdN (0x9500 + c.val) 6), gathered := [] }) ∧
      (c.val < 56 → s.ctl.mode ≠ .shed → s.rdN (0x9500 + c.val) 0x0A = 1 ∨ s.rdN (0x9500 + c.val) 0x0A = 2 →
        (∃ t, exec (.dmaStart c) s = .next t ∧ t.told (0x9500 + c.val) 9 .conflict ∧ t.mat = s.mat) ∧
        (s.rdN (0x9500 + c.val) 7 = 0 → ∃ t, exec (.dmaStop c) s = .next t ∧ t.told (0x9500 + c.val) 9 .done ∧
          t.rdN (0x9500 + c.val) 0x0A = 4 ∧ t.rdN (0x9500 + c.val) 0x0D = 7 ∧
          t.rdN (0x9500 + c.val) 0x0E = s.dmaAt c.val % 2 ^ 32)) ∧
      (c.val < 56 → s.ctl.mode = .shed → ∃ t, exec (.dmaStart c) s = .next t ∧ t.toldBusy (0x9500 + c.val) 9 ∧ t.mat = s.mat) ∧
      (56 ≤ c.val → (s.ctl.mode ≠ .shed → ∃ t, exec (.dmaStart c) s = .next t ∧ t.told (0x9500 + c.val) 9 .conflict ∧ t.mat = s.mat) ∧
        ∃ t, exec (.dmaStop c) s = .next t ∧ t.told (0x9500 + c.val) 9 .conflict ∧ t.mat = s.mat)) ∧
    (∀ (c : Fin 64) (ch : Chan) (n x : Nat) (host : List Byte) (p : Bool) (s : State), s.canonical →
      s.rdN (0x9500 + c.val) 0x0A = 1 → lget c.val s.mat.chans = some ch → s.rdN (0x9500 + c.val) 3 = 0 →
      s.rdN (0x9500 + c.val) 5 = 0 → n = min 256 (min ch.src.left ch.dst.left) → 0 < n →
      (∀ d < n, s.windowOf (ch.src.addr + d) = none ∧ s.windowOf (ch.dst.addr + d) = none) →
      ([ch.src.next, ch.src.addr, ch.dst.next, ch.dst.addr].any s.remoteWaits) = false → s.mms.poison = [] → s.mat.isolated = [] →
      0x40000000 ≤ ch.src.addr → ch.src.addr + n ≤ 0x41000000 → 0x40000000 ≤ ch.dst.addr → ch.dst.addr + n ≤ 0x41000000 →
      (∃ t, exec (.dmaBurst c host p true true) s = .next t ∧ t.memRead ch.dst.addr n = s.memRead ch.src.addr n ∧
        ((x < ch.dst.addr ∨ ch.dst.addr + n ≤ x) → cellGet 0 t.mem x = cellGet 0 s.mem x) ∧
        t.rdN (0x9500 + c.val) 0x0C = (s.rdN (0x9500 + c.val) 0x0C + n) % 2 ^ 64 ∧
        t.rdN (0x9500 + c.val) 0x0A = 1 ∧ lget c.val t.mat.chans = some { ch with src := ch.src.advance n, dst := ch.dst.advance n }) ∧
      (s.rdN (0x9500 + c.val) 7 = 0 →
        (∃ t, exec (.dmaBurst c host p false true) s = .next t ∧ t.mem = s.mem ∧ t.rdN (0x9500 + c.val) 0x0A = 4 ∧
          t.rdN (0x9500 + c.val) 0x0D = 4 ∧ t.rdN (0x9500 + c.val) 0x0E = ch.src.count % 2 ^ 32) ∧
        ∃ t, exec (.dmaBurst c host p true false) s = .next t ∧ t.mem = s.mem ∧ t.rdN (0x9500 + c.val) 0x0A = 4 ∧
          t.rdN (0x9500 + c.val) 0x0D = 6)) ∧
    (∀ (c : Fin 64) (ch : Chan) (host : List Byte) (m k : Bool) (s : State),
      s.rdN (0x9500 + c.val) 0x0A = 1 → lget c.val s.mat.chans = some ch → s.rdN (0x9500 + c.val) 7 = 0 →
      ([ch.src.next, ch.src.addr, ch.dst.next, ch.dst.addr].any s.remoteWaits) = false →
      (s.rdN (0x9500 + c.val) 3 = 1 → 0 < ch.src.left → 0 < ch.dst.left →
        ∃ t, exec (.dmaBurst c host false m k) s = .next t ∧ t.mem = s.mem ∧ t.rdN (0x9500 + c.val) 0x0A = 4 ∧
          t.rdN (0x9500 + c.val) 0x0D = 5) ∧
      (s.rdN (0x9500 + c.val) 2 = 1 → ch.src.left = 0 → ch.src.last = false → 16 ≤ host.length → 4 ≤ beField host 12 4 →
        ∃ t, exec (.dmaBurst c host true m k) s = .next t ∧ t.mem = s.mem ∧ t.rdN (0x9500 + c.val) 0x0D = 9 ∧
          t.rdN (0x9500 + c.val) 0x0E = ch.src.count % 2 ^ 32) ∧
      (ch.src.left = 0 → ch.src.last = true → 0 < ch.dst.left →
        ∃ t, exec (.dmaBurst c host true m k) s = .next t ∧ t.mem = s.mem ∧ t.rdN (0x9500 + c.val) 0x0D = 2) ∧
      (ch.src.left = 0 → ch.src.last = true → ch.dst.left = 0 → ch.dst.last = true → ch.gathered = [] →
        ∃ t, exec (.dmaComplete c) s = .next t ∧ t.rdN (0x9500 + c.val) 0x0A = 3 ∧ t.rdN (0x9500 + c.val) 0x0D = 0 ∧
          t.rdB (0x9500 + c.val) 0x0B = decide (s.rdN (0x9500 + c.val) 5 = 1) ∧ lget c.val t.mat.chans = none)) ∧
    (∀ (c : Fin 64) (ch : Chan) (s : State), s.rdN (0x9500 + c.val) 0x0A = 1 → lget c.val s.mat.chans = some ch →
      ch.src.left = 0 → ch.src.last = true → ch.dst.left = 0 → ch.dst.last = true → ch.gathered = [] →
      s.rdN (0x9500 + c.val) 2 = 1 → s.rdN (0x9500 + c.val) 7 ≠ 0 →
      ∃ t, exec (.dmaComplete c) s = .next t ∧ t.rdN (0x9500 + c.val) 0x0A = 3 ∧
        (t.out.any fun o => match o with
          | .hostWrite a b => a == s.rdN (0x9500 + c.val) 7 && b.length == 64 &&
              b.take 10 == beBytes 8 (s.rdN (0x9500 + c.val) 0x0C) ++ [3, 0]
          | _ => false) = true) ∧
    (∀ (c : Fin 64) (s : State), s.rdN (0x9500 + c.val) 0x0A = 3 ∨ s.rdN (0x9500 + c.val) 0x0A = 4 →
      (∀ q : Fin 2, ∀ x ∈ (s.link q.val).outstanding, x.2 ≠ (c.val, true)) →
      ∃ t, exec (.dmaSettled c) s = .next t ∧ t.rdB (0x9500 + c.val) 0x0B = true ∧ t = { s with dict := t.dict } ∧
        t.wroteOnly s [key (0x9500 + c.val) 0x0B]) ∧
    (∀ (c : Fin 64) (s : State), (s.rdN (0x9500 + c.val) 0x0A = 1 ∨ ¬ ∀ q : Fin 2, ∀ x ∈ (s.link q.val).outstanding, x.2 ≠ (c.val, true)) →
      exec (.dmaSettled c) s = .next s) ∧
    (∀ (c : Fin 64) (ch : Chan) (host : List Byte) (p m k : Bool) (s : State), lget c.val s.mat.chans = some ch →
      ([ch.src.next, ch.src.addr, ch.dst.next, ch.dst.addr].any s.remoteWaits) = true →
      exec (.dmaBurst c host p m k) s = .next s) ∧
    ∀ (c : Fin 64) (s : State), s.rdN (0x9500 + c.val) 0x0A = 3 → s.rdB (0x9500 + c.val) 0x0B = false →
      ∃ t, exec (.dmaLateError c) s = .next t ∧ t.rdN (0x9500 + c.val) 0x0A = 4 ∧ t.rdN (0x9500 + c.val) 0x0D = 4 ∧
        t.rdN (0x9500 + c.val) 0x11 = (s.rdN (0x9500 + c.val) 0x11 + 1) % 2 ^ 32 ∧ t.mem = s.mem ∧ t.mat = s.mat

/-- Memory errors: corrected ones are counted, logged and gathered against the threshold, uncorrectable ones poison and act,
in the dictionary store by the value from flash or the default; scrubbing judges by the syndrome; the background test
counts; pages and banks are retired; the log is cleared. Under the premises given for each, these answer a next state:
correctedError, uncorrectableRead, scrubRead, marchTestLine, retirePage, retireBank, clearLog. -/
def Obligations.MemoryErrorsAreCountedLoggedAndRetired : Prop :=
  (∀ (m : Fin 18) (addr syn inst : Nat) (s : State), s.memOn (memId m) inst = true →
      ∃ t, exec (.correctedError m addr syn inst) s = .next t ∧ t.mem = s.mem ∧
        t.rdN (0x9810 + memId m) 1 = (s.rdN (0x9810 + memId m) 1 + 1) % 2 ^ 64 ∧
        (∀ e, s.mms.log.getLast? = some e → e.mem = memId m → e.kind = 1 → e.addr = addr → e.inst = inst →
          s.uptime ≤ s.mms.lastAt + 1000000 → s.mms.units = [] → 1 ≤ s.rdN 0x9800 4 →
          t.mms.log.length = s.mms.log.length ∧
            t.mms.log.getLast? = some { e with count := min (2 ^ 32 - 1) (e.count + 1) }) ∧
        (s.mms.units = [] → 1 ≤ s.rdN 0x9800 4 → s.mms.log = [] → t.mms.log =
          [{ time := s.devTime, mem := memId m, kind := 1, action := 0, syndrome := syn, addr := addr, inst := inst, count := 1 }]) ∧
        ((lgetD (unitKey (memId m) inst (unitOf (memId m) addr)) [] s.mms.units).length = s.rdN 0x9800 4 →
          (∀ u ∈ lgetD (unitKey (memId m) inst (unitOf (memId m) addr)) [] s.mms.units, s.uptime < u + dayUs) → t.rdBit 0x9800 5 (memId m) = true ∧
            t.mms.log.getLast? = some { time := s.devTime, mem := memId m, kind := 4, action := 0, syndrome := 0, addr := addr, inst := inst, count := 1 })) ∧
    (∀ (m master : Fin 18) (addr syn inst : Nat) (both : Bool) (s : State), s.memOn (memId m) inst = true → memId m ≠ 7 →
      ∃ t, exec (.uncorrectableRead m addr syn inst master both) s = .next t ∧ t.mem = s.mem ∧
        t.rdN (0x9810 + memId m) 2 = (s.rdN (0x9810 + memId m) 2 + 1) % 2 ^ 64 ∧
        (memId m = 1 ∨ memId m = 4 ∨ memId m = 5 ∨ memId m = 6 → (memId m, addr / 8) ∈ t.mms.poison) ∧
        (memId m = 2 → (t.queue (addr / 32)).frames = []) ∧
        (memId m = 4 ∨ memId m = 5 → master.val = 0 → t.pow.restartDue = some (s.pow.restartDue.getD .memory)) ∧
        (memId m = 6 → t.pow.restartDue = some (s.pow.restartDue.getD .memory))) ∧
    (∀ (master : Fin 18) (addr syn : Nat) (both : Bool) (s : State), s.on 0 = true →
      let k := addr % 2 ^ 24
      ∃ t, exec (.uncorrectableRead 6 addr syn 0 master both) s = .next t ∧ t.mem = s.mem ∧
        t.rd (k / 256) (k % 256) = (if isN k then s.committed k else defaultOf k) ∧
        (k ≠ key 0x9817 2 → t.rdN 0x9817 2 = (s.rdN 0x9817 2 + 1) % 2 ^ 64)) ∧
    (∀ (m : Fin 18) (word stored inst : Nat) (s : State), s.memOn (memId m) inst = true →
      (judgeSyndrome (syndrome stored word) = .good → exec (.scrubRead m word stored inst) s = .next s) ∧
      (judgeSyndrome (syndrome stored word) = .corrected → ∃ t, exec (.scrubRead m word stored inst) s = .next t ∧
        t.rdN (0x9810 + memId m) 1 = (s.rdN (0x9810 + memId m) 1 + 1) % 2 ^ 64 ∧ t.mms.poison = s.mms.poison) ∧
      (judgeSyndrome (syndrome stored word) = .uncorrectable → memId m ≠ 7 → ∃ t, exec (.scrubRead m word stored inst) s = .next t ∧
        t.rdN (0x9810 + memId m) 2 = (s.rdN (0x9810 + memId m) 2 + 1) % 2 ^ 64 ∧
        (memId m = 4 → (4, word) ∈ t.mms.poison ∧ t.pow = s.pow))) ∧
    (∀ (m : Fin 18) (line n inst : Nat) (bad : Bool) (s : State), s.memOn (memId m) inst = true → s.rdB 0x9800 2 = true →
      memLines (memId m) = some n →
      (s.rdN 0x1011 1 = 0 → ∃ t, exec (.marchTestLine m line inst bad) s = .next t ∧ t.mem = s.mem ∧
        t.rdN (0x9810 + memId m) 4 = (s.rdN (0x9810 + memId m) 4 + (if line + 1 = n then 1 else 0)) % 2 ^ 32 ∧
        t.rdN (0x9810 + memId m) 5 = (s.rdN (0x9810 + memId m) 5 + (if bad then 1 else 0)) % 2 ^ 32 ∧
        (bad = false → t.mms = s.mms)) ∧
      (1 ≤ s.rdN 0x1011 1 → exec (.marchTestLine m line inst bad) s = .next s)) ∧
    (∀ (id o w x : Nat) (s : State), s.serves → s.canonical → s.memOf (s.rdN 0x9830 3) = some (id, o) → pageOk id o = true →
      pageOk (s.rdN 0x9830 1) (s.rdN 0x9830 2) = true →
      (s.freeWindow = some w → s.pageTaken (s.rdN 0x9830 3) = false →
        ∃ t, exec .retirePage s = .next t ∧ t.told 0x9830 4 .done ∧ t.rdN 0x9830 5 = 0 ∧ t.rdB (0x94A0 + w) 1 = true ∧
          t.rdN (0x94A0 + w) 2 = memBase (s.rdN 0x9830 1) + s.rdN 0x9830 2 ∧ t.rdN (0x94A0 + w) 4 = s.rdN 0x9830 3 ∧
          t.rdN (0x94A0 + w) 3 = 0 ∧
          t.memRead (memBase id + o) 4096 = s.memRead (memBase (s.rdN 0x9830 1) + s.rdN 0x9830 2) 4096 ∧
          ((x < memBase id + o ∨ memBase id + o + 4096 ≤ x) → cellGet 0 t.mem x = cellGet 0 s.mem x)) ∧
      (s.freeWindow = some w → s.pageTaken (s.rdN 0x9830 3) = true →
        ∃ t, exec .retirePage s = .next t ∧ t.told 0x9830 4 .conflict ∧ t.mem = s.mem) ∧
      (s.freeWindow = none → s.pageTaken (s.rdN 0x9830 3) = false →
        ∃ t, exec .retirePage s = .next t ∧ t.told 0x9830 4 .exhausted ∧ t.mem = s.mem)) ∧
    (∀ s : State, s.serves → s.rdN 0x9830 1 = 1 → s.rdN 0x9830 2 < 256 → (s.rdS 0x9831 1).length = 32 →
      s.bankRetired (s.rdN 0x9830 2) = false →
      (s.retiredCells + 1024 + 16384 ≤ s.sharedPart → ∃ t, exec .retireBank s = .next t ∧ t.told 0x9830 4 .done ∧
        t.bankRetired (s.rdN 0x9830 2) = true ∧ t.rdN 0x9830 5 = 0 ∧
        t.rdN 0x9811 7 = (s.rdN 0x9811 7 + 1) % 2 ^ 32) ∧
      (s.sharedPart < s.retiredCells + 1024 + 16384 → ∃ t, exec .retireBank s = .next t ∧ t.told 0x9830 4 .exhausted ∧
        t.mms = s.mms ∧ t.bankRetired (s.rdN 0x9830 2) = false)) ∧
    ∀ s : State, s.serves → ∃ t, exec .clearLog s = .next t ∧ t.told 0x9808 3 .done ∧ t.mms.log = [] ∧ t.rdN 0x9808 1 = 0 ∧
      t.rdS 0x9808 2 = []

/-- PM boundaries latch the counts and number the second; an edge too soon is counted, three placed boundaries raise
PMSYNC_LOSS and three accepted edges clear it; dumps are latched on command or period, completed in their slot, and copied
to the host's ring. Under the premises given for each, these answer a next state: pmBoundary, pmSyncEdge, pmSyncMissing,
dumpNow, dumpComplete, dumpStreamCopy. -/
def Obligations.BoundariesLatchCountsAndDumps : Prop :=
  (∀ s : State, s.on 0 = true → s.tel.source = 0 →
      ∃ t, exec .pmBoundary s = .next t ∧ t.latched = s.events ∧ t.rd 0xA000 3 = time96 (s.devTime - s.devTime % 65536000000000) ∧
        t.rdN 0xA000 5 = (s.rdN 0xA000 5 + 1) % 2 ^ 32 ∧ t.tel.source = s.rdN 0xA000 1 ∧
        (s.rdN 0xA010 2 ≠ 0 → (s.rdN 0xA000 5 + 1) % 2 ^ 32 % s.rdN 0xA010 2 = 0 → s.on 1 = true → s.rdN 0x1011 1 = 0 →
          (s.tel.writing = none → s.tel.due = none →
            t.tel.nextDump = (s.tel.nextDump + 1) % 2 ^ 32 ∧ t.tel.writing.map (fun d => (d.number, d.time, d.trigger)) =
              some (s.tel.nextDump, s.devTime - s.devTime % 65536000000000, 1)) ∧
          (s.tel.writing ≠ none → t.tel.writing = s.tel.writing ∧ t.rdN 0xA010 8 = (s.rdN 0xA010 8 + 1) % 2 ^ 32))) ∧
    (∀ s : State, s.tel.source = 1 → exec .pmBoundary s = .next s) ∧
    (∀ (n : Nat) (s : State), s.on 0 = true → s.tel.source = 1 → s.rdN 0xA010 2 = 0 →
      ((n : Int) - s.rdI 0xA000 2 < 900000000 → ∃ t, exec (.pmSyncEdge n) s = .next t ∧ t.latched = s.latched ∧
        t.rdN 0xA000 4 = (s.rdN 0xA000 4 + 1) % 2 ^ 32 ∧ t.wroteOnly s [key 0xA000 4]) ∧
      (900000000 ≤ (n : Int) - s.rdI 0xA000 2 → ∃ t, exec (.pmSyncEdge n) s = .next t ∧ t.latched = s.events ∧
        t.rdN 0xA000 5 = (s.rdN 0xA000 5 + 1) % 2 ^ 32 ∧ t.tel.placed = 0 ∧
        (2 ≤ s.tel.accepted → t.rdBit 0xA000 6 0 = false) ∧
        (s.tel.accepted < 2 → t.rdBit 0xA000 6 0 = s.rdBit 0xA000 6 0)) ∧
      ∃ t, exec .pmSyncMissing s = .next t ∧ t.latched = s.events ∧ t.tel.placed = s.tel.placed + 1 ∧ t.tel.accepted = 0 ∧
        t.rd 0xA000 3 = time96 (ofTime96 (s.rdI 0xA000 3) + 65536000000000) ∧
        (2 ≤ s.tel.placed → t.rdBit 0xA000 6 0 = true) ∧ (s.tel.placed < 2 → t.rdBit 0xA000 6 0 = s.rdBit 0xA000 6 0)) ∧
    (∀ s : State, s.serves →
      (s.tel.writing = none → s.tel.due = none → s.rdN 0x1011 1 = 0 →
        ∃ t, exec .dumpNow s = .next t ∧ t.told 0xA010 3 .done ∧ t.tel = { s.tel with due := some (s.nextTen, 2) }) ∧
      (s.tel.writing = none → s.tel.due = none → 1 ≤ s.rdN 0x1011 1 →
        ∃ t, exec .dumpNow s = .next t ∧ t.told 0xA010 3 .done ∧ t.tel = s.tel ∧
          t.rdN 0xA010 8 = (s.rdN 0xA010 8 + 1) % 2 ^ 32) ∧
      (s.tel.writing ≠ none → ∃ t, exec .dumpNow s = .next t ∧ t.toldBusy 0xA010 3 ∧ t.tel = s.tel)) ∧
    (∀ (d : Dump) (x : Nat) (s : State), s.canonical → s.tel.writing = some d → s.mms.poison = [] → d.body.length ≤ 131064 →
      (∀ i : Fin 16, s.rdB (0x94A0 + i.val) 1 = false) →
      d.number < 2 ^ 32 →
      ∃ t, exec .dumpComplete s = .next t ∧ t.tel.writing = none ∧ t.rdN 0xA010 1 = d.number ∧
        t.memRead (dumpAddr d.number + 64) (8 * d.body.length) = d.bytes ∧
        t.memRead (dumpAddr d.number) 8 = beBytes 4 0x534B5443 ++ beBytes 4 d.number ∧
        t.memRead (dumpAddr d.number + 37) 1 = [1] ∧ t.memRead (dumpAddr d.number + 40) 4 = beBytes 4 (crc32 d.bytes) ∧
        ((x < dumpAddr d.number ∨ dumpAddr d.number + 64 + 8 * d.body.length ≤ x) → cellGet 0 t.mem x = cellGet 0 s.mem x)) ∧
    ∀ (q : Nat) (r : List Nat) (s : State), s.tel.copied = q :: r → s.rdB 0xA010 4 = true → s.rdN 0x1011 1 = 0 →
      s.itemRuns 10 = true → s.lan.pcieUp = true →
      (s.rdN 0xA010 6 ≤ (s.rdN 0xA010 9 + 2 ^ 32 - s.rdN 0xA010 7) % 2 ^ 32 →
        ∃ t, exec .dumpStreamCopy s = .next t ∧ t.tel.copied = r ∧ t.out = s.out ∧
          t.rdN 0xA010 8 = (s.rdN 0xA010 8 + 1) % 2 ^ 32) ∧
      ((s.rdN 0xA010 9 + 2 ^ 32 - s.rdN 0xA010 7) % 2 ^ 32 < s.rdN 0xA010 6 → s.rdB 0xA010 0x0B = false →
        (∀ b, s.masterRead (dumpAddr q) 0x100000 = some b →
          ∃ t, exec .dumpStreamCopy s = .next t ∧ t.tel.copied = r ∧ t.rdN 0xA010 9 = (s.rdN 0xA010 9 + 1) % 2 ^ 32 ∧
            t.rdN 0x9538 0x0A = 3 ∧ t.rdN 0x9538 0x0C = 0x100000 ∧ t.rdN 0x9538 0x10 = (s.rdN 0x9538 0x10 + 1) % 2 ^ 32 ∧
            t.mem = s.mem ∧ t.out = .hostWrite (s.rdN 0xA010 5 + s.rdN 0xA010 9 % s.rdN 0xA010 6 * 0x100000) b :: s.out) ∧
        (s.masterRead (dumpAddr q) 0x100000 = none →
          ∃ t, exec .dumpStreamCopy s = .next t ∧ t.rdN 0x9538 0x0A = 4 ∧ t.rdN 0x9538 0x0D = 6 ∧ t.mem = s.mem ∧ t.out = s.out))

/-- The housekeeping ADC: a pass takes the settings as they stand, or has overrun; each slot's result is its mean code at
the reference in use to within a microvolt (rounded freely, log entry 3), a curve gives its temperature, the next slot
follows; a trigger starts the injected sequence or is missed. Under the premises given for each, these answer a next state:
hkRegularPass, hkSlotDone, hkInjectTrigger, hkInjectNow. -/
def Obligations.HousekeepingRunsPassesAndInjections : Prop :=
  (∀ s : State, s.tel.hkOn = true →
      (s.tel.regular ≠ none → exec .hkRegularPass s = .next { s with tel := { s.tel with passDue := true } }) ∧
      (s.tel.regular = none → 0 < s.rdN 0xA020 3 →
        ∃ t, exec .hkRegularPass s = .next t ∧ t.tel.regular = some 0 ∧ t.tel.reference = s.rdN 0xA020 1 ∧
          t.tel.declared = s.rdN 0xA020 2 ∧ t.tel.interval = s.rdN 0xA020 4 ∧
          t.tel.regSlots = (List.range (s.rdN 0xA020 3)).map s.hkSettings) ∧
      (s.tel.regular = none → s.rdN 0xA020 3 = 0 → ∃ t, exec .hkRegularPass s = .next t ∧ t.tel.regular = none)) ∧
    (∀ (i : Fin 64) (x : HkSlot) (cs : List (BitVec 16 × Nat)) (s : State), s.tel.hkOn = true → s.tel.regular = some i.val →
      s.tel.regSlots[i.val]? = some x → cs.length = x.averaging → 0 < x.averaging → x.averaging ≤ 16 →
      s.tel.reference = 0 ∨ s.rdBit 0xA020 0x0D 0 = false ∧ (∀ c ∈ cs, 100 * (c.2 - s.tel.declared * 1000) ≤ s.tel.declared * 1000 ∧
        100 * (s.tel.declared * 1000 - c.2) ≤ s.tel.declared * 1000) →
      s.tel.interval ≠ 0 → s.tel.passDue = false →
      ∃ t, exec (.hkSlotDone ⟨i.val, by omega⟩ cs) s = .next t ∧
        (65536 * x.averaging * (t.rdN (0xA030 + i.val) 7 : Int) - s.hkRef * ((cs.map fun c => c.1.toNat).sum : Nat)).natAbs
          < 65536 * x.averaging ∧
        (x.curve = 0 → t.rdI (0xA030 + i.val) 8 = t.rdN (0xA030 + i.val) 7 ∧ t.rdBit (0xA030 + i.val) 9 2 = false) ∧
        (x.curve ≠ 0 → s.excitation x.excitation = 0 → t.rdBit (0xA030 + i.val) 9 2 = true) ∧
        (x.curve ≠ 0 → s.excitation x.excitation ≠ 0 →
          (∀ p ∈ (curveTemp x.curve (t.rdN (0xA030 + i.val) 7) (s.excitation x.excitation)).toList,
            t.rdBit (0xA030 + i.val) 9 2 = false ∧ p.1 ≤ t.rdI (0xA030 + i.val) 8 ∧ t.rdI (0xA030 + i.val) 8 ≤ p.1 + 1) ∧
          (curveTemp x.curve (t.rdN (0xA030 + i.val) 7) (s.excitation x.excitation) = none →
            t.rdBit (0xA030 + i.val) 9 2 = true)) ∧
        (t.rdBit (0xA030 + i.val) 9 1 = cs.any fun c => c.1 == 0xFFFF) ∧
        (i.val + 1 < s.tel.regSlots.length → t.tel = { s.tel with regular := some (i.val + 1) } ∧
          t.wroteOnly s ([7, 8, 9, 10].map (key (0xA030 + i.val)))) ∧
        (s.tel.regSlots.length ≤ i.val + 1 → t.tel.regular = none ∧
          t.rdN 0xA020 9 = (s.rdN 0xA020 9 + 1) % 2 ^ 32)) ∧
    (∀ (j : Fin 8) (x : HkSlot) (cs : List (BitVec 16 × Nat)) (s : State), s.tel.hkOn = true → s.tel.injected = some j.val →
      s.tel.injSlots[j.val]? = some x → cs.length = x.averaging → 0 < x.averaging → s.tel.reference = 0 →
      ∃ t, exec (.hkSlotDone ⟨64 + j.val, by omega⟩ cs) s = .next t ∧
        (x.curve = 0 → t.rdI (0xA070 + j.val) 8 = t.rdN (0xA070 + j.val) 7) ∧ t.tel.regular = s.tel.regular ∧
        (j.val + 1 < s.tel.injSlots.length → t.tel.injected = some (j.val + 1)) ∧
        (s.tel.injSlots.length ≤ j.val + 1 → t.tel.injected = none ∧
          t.rdN 0xA020 0x0A = (s.rdN 0xA020 0x0A + 1) % 2 ^ 32)) ∧
    (∀ (c : Fin 4) (s : State), s.tel.hkOn = true → 0 < s.rdN 0xA020 5 →
      (c.val ≠ 0 → s.rdN 0xA020 6 = c.val → s.tel.injected = none →
        ∃ t, exec (.hkInjectTrigger c) s = .next t ∧ t.tel.injected = some 0 ∧ t.tel.injSlots.length = s.rdN 0xA020 5 ∧
          10 ≤ t.rdN 0xA020 0x0C ∧ t.rdN 0xA020 0x0C ≤ 1010 ∧
          (s.rdN 0xA020 7 = 1 → t.rdN 0xA020 0x0C ≤ 20)) ∧
      (c.val ≠ 0 → s.rdN 0xA020 6 = c.val → s.tel.injected ≠ none →
        ∃ t, exec (.hkInjectTrigger c) s = .next t ∧ t.tel = s.tel ∧ t.rdN 0xA020 0x0B = (s.rdN 0xA020 0x0B + 1) % 2 ^ 32) ∧
      (c.val = 0 ∨ s.rdN 0xA020 6 ≠ c.val → exec (.hkInjectTrigger c) s = .next s)) ∧
    ∀ s : State, s.serves → s.tel.hkOn = true → 0 < s.rdN 0xA020 5 →
      (s.tel.injected = none → ∃ t, exec .hkInjectNow s = .next t ∧ t.told 0xA020 8 .done ∧ t.tel.injected = some 0) ∧
      (s.tel.injected ≠ none → ∃ t, exec .hkInjectNow s = .next t ∧ t.told 0xA020 8 .done ∧ t.tel = s.tel ∧
        t.rdN 0xA020 0x0B = (s.rdN 0xA020 0x0B + 1) % 2 ^ 32)

/-- Frames of the events that do not pass the server: every part of the state that an arm does not name stands, whatever the
event finds. -/
def Obligations.EventsChangeOnlyTheirParts : Prop :=
  ∀ (c : Instr) (s t : State), exec c s = .next t →
    match c with
    | .railGroupGood ..
      => t = { s with devTime := t.devTime, dict := t.dict, events := t.events, pow := t.pow }
    | .manifestChecked ..
      => t = { s with dict := t.dict, events := t.events, pow := t.pow, frm := t.frm, boot := t.boot }
    | .neighbourSolicitation .. | .icmpEcho ..
      => t = { s with out := t.out }
    | .proposeReceive ..
      => t = { s with dict := t.dict, out := t.out, pow := t.pow, tra := t.tra, rx := t.rx }
    | .ackReceive ..
      => t = { s with dict := t.dict, tra := t.tra }
    | .confirmReceive .. | .resizeCalendarBuild ..
      => t = { s with tra := t.tra }
    | .withdrawReceive .. | .confirmDeadline ..
      => t = { s with pow := t.pow, tra := t.tra, rx := t.rx }
    | .threadRetireDark ..
      => t = { s with dict := t.dict, cfg := t.cfg }
    | .threadIslandGate ..
      => t = { s with pow := t.pow }
    | .calrefCheck ..
      => t = { s with dict := t.dict, events := t.events, cnv := t.cnv, frm := t.frm }
    | .dacTrimStep ..
      => t = { s with dict := t.dict, cnv := t.cnv }
    | .dacImageTimer .. | .dpdFbTimeout | .rxClkLolClear | .foHighTimer .. | .thrSnrLowTimer .. | .lfLofTimer ..
    | .lfOhlTimer | .tenOvfClear .. | .faultReceive .. | .picotLosTimer | .avsTargetUpdate ..
      => t = { s with dict := t.dict, events := t.events, frm := t.frm }
    | .gainLoopUpdate .. | .fespiRetry ..
      => t = { s with dict := t.dict, events := t.events, out := t.out, cnv := t.cnv, frm := t.frm }
    | .muteRampEnd | .lowPowerExit | .lowPowerRiseStep
      => t = { s with dict := t.dict, tx := t.tx }
    | .enableSettleExpiry
      => t = { s with tx := t.tx }
    | .dpdLocalProposal ..
      => t = { s with dict := t.dict, events := t.events, tx := t.tx, frm := t.frm }
    | .dpdFeedbackReceive ..
      => t = { s with free := t.free, dict := t.dict, events := t.events, tx := t.tx, frm := t.frm }
    | .acqSignalConfirmed | .acqFrequencyFound .. | .warmVerifyDone ..
      => t = { s with dict := t.dict, rx := t.rx }
    | .cdCandidateDone ..
      => t = { s with rx := t.rx }
    | .cdSweepDone | .rxLosClear | .shedMaskTimeout ..
      => t = { s with dict := t.dict, events := t.events, rx := t.rx, frm := t.frm }
    | .frontEndUpdate .. | .cdTrackUpdate .. | .nlScaleAdapt .. | .easelTrigger | .picotBadPacket ..
    | .crossingCalibration .. | .timeOfDayUpdate | .laneRetryTimer .. | .errorCounterLeak .. | .historyWrite ..
    | .dmaSettled .. | .flashWindowTimeout
      => t = { s with dict := t.dict }
    | .cycleSlip ..
      => t = { s with dict := t.dict, events := t.events }
    | .easelCaptureDone ..
      => t = { s with free := t.free, dict := t.dict }
    | .codewordRelease ..
      => t = { s with free := t.free, dict := t.dict, events := t.events, out := t.out, fec := t.fec }
    | .budgetCapUpdate .. | .fecWindowEnd ..
      => t = { s with dict := t.dict, events := t.events, fec := t.fec, frm := t.frm }
    | .pageAdopt ..
      => t = { s with frm := t.frm }
    | .pmVerdictCommit
      => t = { s with dict := t.dict, frm := t.frm }
    | .ingressFrame ..
      => t = { s with free := t.free, dict := t.dict, grm := t.grm, bob := t.bob }
    | .cellRequest ..
      => t = { s with dict := t.dict, out := t.out, grm := t.grm }
    | .egressFrameStart ..
      => t = { s with dict := t.dict, out := t.out, grm := t.grm, bob := t.bob }
    | .shaperPosition ..
      => t = { s with dict := t.dict, out := t.out, grm := t.grm, sls := t.sls }
    | .pauseRepeat ..
      => t = { s with dict := t.dict, out := t.out }
    | .pauseReceive .. | .pfcReceive .. | .pauseExpiry ..
      => t = { s with dict := t.dict, events := t.events, frm := t.frm, grm := t.grm }
    | .localFaultTimer ..
      => t = { s with dict := t.dict, events := t.events, out := t.out, frm := t.frm, grm := t.grm }
    | .s3Relight
      => t = { s with dict := t.dict, grm := t.grm }
    | .sealHeaderReceive .. | .derivedKeyWrite .. | .receiveKeyDerive ..
      => t = { s with dict := t.dict, events := t.events, frm := t.frm, sls := t.sls }
    | .tagReceive ..
      => t = { s with dict := t.dict, events := t.events, out := t.out, frm := t.frm, grm := t.grm, sls := t.sls }
    | .keyPairGenerated
      => t = { s with free := t.free, dict := t.dict, out := t.out, sls := t.sls, pic := t.pic }
    | .keyshareShareReceive .. | .ecdhDone | .helloReceive ..
      => t = { s with dict := t.dict, events := t.events, out := t.out, frm := t.frm, sls := t.sls, pic := t.pic }
    | .keyshareConfirmReceive ..
      => t = { s with dict := t.dict, events := t.events, frm := t.frm, sls := t.sls, pic := t.pic }
    | .entropyTestFail ..
      => t = { s with dict := t.dict, sls := t.sls, pic := t.pic }
    | .entropyRetest ..
      => t = { s with dict := t.dict, sls := t.sls, boot := t.boot }
    | .drbgReseed
      => t = { s with dict := t.dict, sls := t.sls }
    | .offerReceive ..
      => t = { s with dict := t.dict, events := t.events, out := t.out, frm := t.frm, pic := t.pic }
    | .timeReceive ..
      => t = { s with free := t.free, dict := t.dict, events := t.events, frm := t.frm, pic := t.pic }
    | .helloTimer | .offerRepeat | .shareRepeat | .faultPeriodic | .timePeriod
      => t = { s with out := t.out, pic := t.pic }
    | .dpdWindowComplete ..
      => t = { s with free := t.free, dict := t.dict, out := t.out, pic := t.pic }
    | .candidateFail .. | .waitToRestoreExpiry .. | .dpllLock | .xoFailDetect | .xoRecovery
      => t = { s with free := t.free, dict := t.dict, events := t.events, frm := t.frm, tim := t.tim }
    | .holdoverUpdate ..
      => t = { s with free := t.free, dict := t.dict, events := t.events, frm := t.frm }
    | .timeExchange
      => t = { s with dict := t.dict, tim := t.tim }
    | .transferSecond
      => t = { s with devTime := t.devTime, free := t.free, dict := t.dict, events := t.events, frm := t.frm, tim := t.tim }
    | .timeStep
      => t = { s with devTime := t.devTime, dict := t.dict, events := t.events, tim := t.tim }
    | .ppsOutEdge
      => t = { s with out := t.out, tim := t.tim }
    | .laneSignalDetect .. | .laneReadmitTimer .. | .pmeStatusClear
      => t = { s with dict := t.dict, lan := t.lan }
    | .laneAdaptationDone .. | .pcsAligned ..
      => t = { s with free := t.free, dict := t.dict, events := t.events, frm := t.frm, lan := t.lan }
    | .perstAssert
      => t = { s with dict := t.dict, events := t.events, lan := t.lan }
    | .perstDeassert | .wakeCause .. | .pmeTurnOff | .dmaLateError .. | .deviceStateWrite .. | .pcieLinkTrained ..
      => t = { s with dict := t.dict, out := t.out, lan := t.lan }
    | .nullFlitDue ..
      => t = { s with dict := t.dict, out := t.out, bob := t.bob }
    | .resequenceTimeout ..
      => t = { s with dict := t.dict, bob := t.bob }
    | .holdOffExpiry .. | .protectionWtrExpiry ..
      => t = { s with free := t.free, dict := t.dict, events := t.events, out := t.out, lan := t.lan, bob := t.bob }
    | .alertReport ..
      => t = { s with dict := t.dict, events := t.events, out := t.out, lan := t.lan, bob := t.bob }
    | .moveSourceStopped
      => t = { s with eng := t.eng }
    | .correctedError ..
      => t = { s with dict := t.dict, events := t.events, frm := t.frm, mms := t.mms }
    | .marchTestLine ..
      => t = { s with free := t.free, dict := t.dict, mms := t.mms }
    | .commitComplete ..
      => t = { s with dict := t.dict, flash := t.flash, boot := t.boot }
    | .flashCommandDone ..
      => t = { s with free := t.free, dict := t.dict, out := t.out, flash := t.flash, lan := t.lan, boot := t.boot }
    | .bootRecordWriteDone
      => t = { s with dict := t.dict, out := t.out, flash := t.flash, lan := t.lan, boot := t.boot }
    | .pmBoundary | .pmSyncEdge .. | .pmSyncMissing
      => t = { s with free := t.free, dict := t.dict, events := t.events, latched := t.latched, mem := t.mem, fec := t.fec, frm := t.frm, mms := t.mms, tel := t.tel }
    | .dumpComplete
      => t = { s with dict := t.dict, mem := t.mem, mms := t.mms, tel := t.tel }
    | .dumpStreamCopy
      => t = { s with dict := t.dict, out := t.out, lan := t.lan, tel := t.tel }
    | .hkRegularPass
      => t = { s with dict := t.dict, events := t.events, frm := t.frm, tel := t.tel }
    | .hkSlotDone ..
      => t = { s with free := t.free, dict := t.dict, events := t.events, frm := t.frm, tel := t.tel }
    | .hkInjectTrigger ..
      => t = { s with free := t.free, dict := t.dict, tel := t.tel }
    | .laneSignalLoss ..
      => t = { s with dict := t.dict, events := t.events, frm := t.frm, lan := t.lan }
    | .bobbinTimeExchange ..
      => t = { s with free := t.free, dict := t.dict, out := t.out, bob := t.bob }
    | _ => True

/-- Frames of commands and events that pass the server and touch at most thirteen parts of the state: every other part
stands. -/
def Obligations.HostCommandsChangeOnlyTheirParts : Prop :=
  ∀ (c : Instr) (s t : State), exec c s = .next t →
    match c with
    | .warmRequest | .restartRequest
      => t = { s with free := t.free, dict := t.dict, out := t.out, pow := t.pow, srv := t.srv }
    | .hitlessRestart
      => t = { s with dict := t.dict, events := t.events, out := t.out, pow := t.pow, srv := t.srv, tra := t.tra, cnv := t.cnv, rx := t.rx, frm := t.frm, lan := t.lan }
    | .discoverAdvance | .shedEntry
      => t = { s with dict := t.dict, events := t.events, out := t.out, ctl := t.ctl, srv := t.srv, frm := t.frm, pic := t.pic, lan := t.lan }
    | .discoverTimeout
      => t = { s with dict := t.dict, events := t.events, out := t.out, srv := t.srv, tra := t.tra, tx := t.tx, rx := t.rx, frm := t.frm, sls := t.sls, pic := t.pic, lan := t.lan }
    | .bootComplete
      => t = { s with free := t.free, dict := t.dict, events := t.events, mem := t.mem, pow := t.pow, srv := t.srv, frm := t.frm, grm := t.grm, tim := t.tim, boot := t.boot, tel := t.tel }
    | .pendingCopyExpiry .. | .mailboxStatusClear ..
      => t = { s with srv := t.srv }
    | .notify ..
      => t = { s with dict := t.dict, out := t.out, srv := t.srv, grm := t.grm, lan := t.lan }
    | .dadComplete ..
      => t = { s with dict := t.dict, events := t.events, srv := t.srv, frm := t.frm }
    | .plcaBeacon
      => t = { s with out := t.out, srv := t.srv }
    | .mdioBadOpcode ..
      => t = { s with out := t.out, srv := t.srv, lan := t.lan }
    | .refuseReceive .. | .ackDeadline ..
      => t = { s with dict := t.dict, out := t.out, srv := t.srv, tra := t.tra, lan := t.lan }
    | .referenceModeWrite .. | .easelArm | .easelAbort | .injectSingle .. | .injectContinuous ..
      => t = { s with free := t.free, dict := t.dict, out := t.out, srv := t.srv }
    | .readmissionTimeout ..
      => t = { s with dict := t.dict, events := t.events, out := t.out, pow := t.pow, srv := t.srv, tra := t.tra, cfg := t.cfg, rx := t.rx, frm := t.frm, lan := t.lan }
    | .foregroundCalibrationDone ..
      => t = { s with free := t.free, dict := t.dict, events := t.events, out := t.out, srv := t.srv, tra := t.tra, cnv := t.cnv, tx := t.tx, rx := t.rx, frm := t.frm, pic := t.pic, lan := t.lan }
    | .synthLockLoss | .synthLockReturn
      => t = { s with dict := t.dict, events := t.events, out := t.out, srv := t.srv, tra := t.tra, tx := t.tx, rx := t.rx, frm := t.frm, pic := t.pic, lan := t.lan }
    | .rotationStart .. | .spareMeasurementDone .. | .shadowWindowEnd .. | .releasedSliceMeasured .. | .sliceFault ..
      => t = { s with dict := t.dict, events := t.events, out := t.out, srv := t.srv, tra := t.tra, cnv := t.cnv, rx := t.rx, frm := t.frm, lan := t.lan }
    | .sliceRetire | .sliceReadmit ..
      => t = { s with free := t.free, dict := t.dict, events := t.events, out := t.out, srv := t.srv, tra := t.tra, cnv := t.cnv, rx := t.rx, frm := t.frm, lan := t.lan }
    | .hostMute | .hostUnmute
      => t = { s with free := t.free, dict := t.dict, events := t.events, out := t.out, srv := t.srv, tx := t.tx, pic := t.pic }
    | .clockToneLock
      => t = { s with dict := t.dict, out := t.out, srv := t.srv, tra := t.tra, rx := t.rx, frm := t.frm, lan := t.lan }
    | .blindEqConverged .. | .pilotSearchDone ..
      => t = { s with dict := t.dict, out := t.out, srv := t.srv, tra := t.tra, frm := t.frm, lan := t.lan }
    | .carrierLock .. | .thrLolSet ..
      => t = { s with dict := t.dict, events := t.events, out := t.out, srv := t.srv, tra := t.tra, frm := t.frm, lan := t.lan }
    | .acqStepTimeout .. | .rxLosSet | .rxClkLolSet
      => t = { s with dict := t.dict, events := t.events, out := t.out, srv := t.srv, tra := t.tra, rx := t.rx, frm := t.frm, lan := t.lan }
    | .forcedFailure ..
      => t = { s with free := t.free, dict := t.dict, out := t.out, srv := t.srv, fec := t.fec }
    | .tenantAllocate .. | .tenantFree ..
      => t = { s with free := t.free, dict := t.dict, events := t.events, out := t.out, srv := t.srv, frm := t.frm, grm := t.grm }
    | .exactAdd | .exactDelete | .exactLookUp
      => t = { s with free := t.free, dict := t.dict, out := t.out, srv := t.srv, grm := t.grm }
    | .s3DarkenFirstSet | .s3DarkenSecondSet
      => t = { s with dict := t.dict, out := t.out, srv := t.srv, tra := t.tra, grm := t.grm, lan := t.lan }
    | .wrappedKeyLoad .. | .eraseEvenSlot .. | .eraseOddSlot .. | .loadByDeviceKey .. | .loadByKek ..
    | .managementSlotErase ..
      => t = { s with free := t.free, dict := t.dict, events := t.events, out := t.out, srv := t.srv, frm := t.frm, sls := t.sls }
    | .acceptReceive .. | .picotPacketSent
      => t = { s with dict := t.dict, events := t.events, out := t.out, pow := t.pow, srv := t.srv, tra := t.tra, frm := t.frm, sls := t.sls, pic := t.pic, lan := t.lan }
    | .setTime ..
      => t = { s with free := t.free, dict := t.dict, events := t.events, out := t.out, srv := t.srv, frm := t.frm, tim := t.tim }
    | .phaseAdjust ..
      => t = { s with free := t.free, dict := t.dict, out := t.out, srv := t.srv, tim := t.tim }
    | .markerReceive .. | .markerTransmit .. | .laneRetireCommand .. | .initReceive .. | .responseFlitReceive ..
    | .nakReceive .. | .flitCrcFail .. | .timeFlitReceive .. | .protFlitReceive .. | .creditTimeout .. | .linkTakeDown ..
    | .linkRestart .. | .requestAcceptTimeout ..
      => t = { s with free := t.free, dict := t.dict, events := t.events, out := t.out, mem := t.mem, srv := t.srv, frm := t.frm, tim := t.tim, lan := t.lan, bob := t.bob, mat := t.mat, mms := t.mms }
    | .laneReadmitCommand ..
      => t = { s with free := t.free, dict := t.dict, out := t.out, srv := t.srv, lan := t.lan }
    | .portIdleEnter .. | .portIdleExit .. | .protectionClear .. | .protectionLockout .. | .protectionForced ..
    | .protectionManual .. | .clearAlerts ..
      => t = { s with free := t.free, dict := t.dict, events := t.events, out := t.out, srv := t.srv, lan := t.lan, bob := t.bob }
    | .tenantFlitReceive ..
      => t = { s with free := t.free, dict := t.dict, events := t.events, out := t.out, mem := t.mem, srv := t.srv, frm := t.frm, grm := t.grm, tim := t.tim, lan := t.lan, bob := t.bob, mat := t.mat, mms := t.mms }
    | .linkRestartTimer .. | .dmaStop ..
      => t = { s with free := t.free, dict := t.dict, events := t.events, out := t.out, mem := t.mem, srv := t.srv, frm := t.frm, lan := t.lan, bob := t.bob, mat := t.mat, mms := t.mms }
    | .heartbeatMiss .. | .engineTrap .. | .clusterCheckDone ..
      => t = { s with dict := t.dict, events := t.events, out := t.out, srv := t.srv, tra := t.tra, cnv := t.cnv, rx := t.rx, frm := t.frm, lan := t.lan, eng := t.eng }
    | .moveDestinationRunning
      => t = { s with free := t.free, dict := t.dict, events := t.events, out := t.out, srv := t.srv, tra := t.tra, cnv := t.cnv, rx := t.rx, frm := t.frm, pic := t.pic, tim := t.tim, lan := t.lan, eng := t.eng }
    | .clusterMoveOff .. | .clusterRetire .. | .clusterReadmit ..
      => t = { s with free := t.free, dict := t.dict, events := t.events, out := t.out, srv := t.srv, tra := t.tra, cnv := t.cnv, rx := t.rx, frm := t.frm, lan := t.lan, eng := t.eng }
    | .dmaStart ..
      => t = { s with free := t.free, dict := t.dict, out := t.out, srv := t.srv, mat := t.mat }
    | .retirePage | .retireBank
      => t = { s with free := t.free, dict := t.dict, events := t.events, out := t.out, mem := t.mem, srv := t.srv, frm := t.frm, mms := t.mms }
    | .clearLog
      => t = { s with free := t.free, dict := t.dict, out := t.out, srv := t.srv, mms := t.mms }
    | .commitSettings | .erasePersistence | .bankCheck .. | .bankActivateHitless .. | .bankActivateAtReset ..
    | .acceptTrial | .raiseSecurityFuse | .rewriteBootRecord
      => t = { s with free := t.free, dict := t.dict, out := t.out, flash := t.flash, srv := t.srv, boot := t.boot }
    | .flashEraseSector | .flashEraseBlock | .flashProgram | .flashRead | .flashBlankCheck
      => t = { s with free := t.free, dict := t.dict, out := t.out, srv := t.srv, boot := t.boot }
    | .setPointWrite ..
      => t = { s with free := t.free, dict := t.dict, events := t.events, out := t.out, srv := t.srv, frm := t.frm }
    | .shedExit
      => t = { s with dict := t.dict, events := t.events, out := t.out, ctl := t.ctl, srv := t.srv, tx := t.tx, frm := t.frm, sls := t.sls, pic := t.pic, lan := t.lan }
    | .dumpNow | .hkInjectNow
      => t = { s with free := t.free, dict := t.dict, out := t.out, srv := t.srv, tel := t.tel }
    | _ => True

/-- R424: the straps latched at the release decide the role, which 8C00:01 reports and a strap conflict raises GRP_STRAP; a
standalone device never powers its bobbin ports, whatever command it takes. Under the premises given for each, these answer
a next state: porRelease. -/
def Obligations.StrapsDecideTheRole : Prop :=
  (∀ (master : Bool) (pos : Fin 4) (rest : Fin 8192) (mv : Nat) (rom : Bool) (s : State), s.is1608 = false →
      s.pow.groups = 3 → s.pow.released = false → s.pow.pinLow = false →
      ∃ t, exec (.porRelease (BitVec.ofNat 16 (8 * rest.val + 4 * master.toNat + pos.val)) mv rom) s = .next t ∧
        (master = true → pos = 0 → t.viewN 0x8C00 1 = 1 ∧ t.ownPosition = 0 ∧ t.grouped = true) ∧
        (master = false → pos ≠ 0 → t.viewN 0x8C00 1 = 2 ∧ t.ownPosition = pos.val ∧ t.grouped = true) ∧
        (master = false → pos = 0 → t.viewN 0x8C00 1 = 0 ∧ t.grouped = false) ∧
        (master = true → pos ≠ 0 → t.viewN 0x8C00 1 = 3 ∧ t.grouped = false ∧ t.rdBit 0x8C00 0x0D 0 = true)) ∧
    ∀ (c : Instr) (s t : State), (s.grouped = false → s.on 20 = false ∧ s.on 21 = false) → exec c s = .next t →
      t.grouped = false → t.on 20 = false ∧ t.on 21 = false
end

