-- ==== Sys2Proof/Laws/State.lean ====
section
/-! SUPPORT. What each named update of `State` leaves alone: one lemma per field and update, true by definition. -/

namespace Sys2Proof.Machine

variable (s : State)

/-! ### `State.setK` -/
@[simp] theorem State.setK_pending (k : Nat) (v : DVal) : (s.setK k v).pending = s.pending := rfl
@[simp] theorem State.setK_uptime (k : Nat) (v : DVal) : (s.setK k v).uptime = s.uptime := rfl
@[simp] theorem State.setK_devTime (k : Nat) (v : DVal) : (s.setK k v).devTime = s.devTime := rfl
@[simp] theorem State.setK_free (k : Nat) (v : DVal) : (s.setK k v).free = s.free := rfl
@[simp] theorem State.setK_events (k : Nat) (v : DVal) : (s.setK k v).events = s.events := rfl
@[simp] theorem State.setK_latched (k : Nat) (v : DVal) : (s.setK k v).latched = s.latched := rfl
@[simp] theorem State.setK_levels (k : Nat) (v : DVal) : (s.setK k v).levels = s.levels := rfl
@[simp] theorem State.setK_out (k : Nat) (v : DVal) : (s.setK k v).out = s.out := rfl
@[simp] theorem State.setK_mem (k : Nat) (v : DVal) : (s.setK k v).mem = s.mem := rfl
@[simp] theorem State.setK_flash (k : Nat) (v : DVal) : (s.setK k v).flash = s.flash := rfl
@[simp] theorem State.setK_fuse (k : Nat) (v : DVal) : (s.setK k v).fuse = s.fuse := rfl
@[simp] theorem State.setK_pow (k : Nat) (v : DVal) : (s.setK k v).pow = s.pow := rfl
@[simp] theorem State.setK_ctl (k : Nat) (v : DVal) : (s.setK k v).ctl = s.ctl := rfl
@[simp] theorem State.setK_srv (k : Nat) (v : DVal) : (s.setK k v).srv = s.srv := rfl
@[simp] theorem State.setK_tra (k : Nat) (v : DVal) : (s.setK k v).tra = s.tra := rfl
@[simp] theorem State.setK_cfg (k : Nat) (v : DVal) : (s.setK k v).cfg = s.cfg := rfl
@[simp] theorem State.setK_cnv (k : Nat) (v : DVal) : (s.setK k v).cnv = s.cnv := rfl
@[simp] theorem State.setK_tx (k : Nat) (v : DVal) : (s.setK k v).tx = s.tx := rfl
@[simp] theorem State.setK_rx (k : Nat) (v : DVal) : (s.setK k v).rx = s.rx := rfl
@[simp] theorem State.setK_fec (k : Nat) (v : DVal) : (s.setK k v).fec = s.fec := rfl
@[simp] theorem State.setK_frm (k : Nat) (v : DVal) : (s.setK k v).frm = s.frm := rfl
@[simp] theorem State.setK_grm (k : Nat) (v : DVal) : (s.setK k v).grm = s.grm := rfl
@[simp] theorem State.setK_sls (k : Nat) (v : DVal) : (s.setK k v).sls = s.sls := rfl
@[simp] theorem State.setK_pic (k : Nat) (v : DVal) : (s.setK k v).pic = s.pic := rfl
@[simp] theorem State.setK_tim (k : Nat) (v : DVal) : (s.setK k v).tim = s.tim := rfl
@[simp] theorem State.setK_lan (k : Nat) (v : DVal) : (s.setK k v).lan = s.lan := rfl
@[simp] theorem State.setK_bob (k : Nat) (v : DVal) : (s.setK k v).bob = s.bob := rfl
@[simp] theorem State.setK_eng (k : Nat) (v : DVal) : (s.setK k v).eng = s.eng := rfl
@[simp] theorem State.setK_mat (k : Nat) (v : DVal) : (s.setK k v).mat = s.mat := rfl
@[simp] theorem State.setK_mms (k : Nat) (v : DVal) : (s.setK k v).mms = s.mms := rfl
@[simp] theorem State.setK_boot (k : Nat) (v : DVal) : (s.setK k v).boot = s.boot := rfl
@[simp] theorem State.setK_tel (k : Nat) (v : DVal) : (s.setK k v).tel = s.tel := rfl
@[simp] theorem State.setK_mode (k : Nat) (v : DVal) : (s.setK k v).mode = s.mode := rfl
@[simp] theorem State.setK_is1608 (k : Nat) (v : DVal) : (s.setK k v).is1608 = s.is1608 := rfl
@[simp] theorem State.setK_noSeal (k : Nat) (v : DVal) : (s.setK k v).noSeal = s.noSeal := rfl
@[simp] theorem State.setK_freeNat (k : Nat) (v : DVal) : (s.setK k v).freeNat = s.freeNat := rfl
@[simp] theorem State.setK_freeBool (k : Nat) (v : DVal) : (s.setK k v).freeBool = s.freeBool := rfl
@[simp] theorem State.setK_on (k : Nat) (v : DVal) (d : Nat) : (s.setK k v).on d = s.on d := rfl
@[simp] theorem State.setK_inMode (k : Nat) (v : DVal) (m : Mode) : (s.setK k v).inMode m = s.inMode m := rfl
@[simp] theorem State.setK_hasIdx (k : Nat) (v : DVal) (d : Nat) : (s.setK k v).hasIdx d = s.hasIdx d := rfl

/-! ### `State.wr` -/
@[simp] theorem State.wr_pending (i j : Nat) (v : DVal) : (s.wr i j v).pending = s.pending := rfl
@[simp] theorem State.wr_uptime (i j : Nat) (v : DVal) : (s.wr i j v).uptime = s.uptime := rfl
@[simp] theorem State.wr_devTime (i j : Nat) (v : DVal) : (s.wr i j v).devTime = s.devTime := rfl
@[simp] theorem State.wr_free (i j : Nat) (v : DVal) : (s.wr i j v).free = s.free := rfl
@[simp] theorem State.wr_events (i j : Nat) (v : DVal) : (s.wr i j v).events = s.events := rfl
@[simp] theorem State.wr_latched (i j : Nat) (v : DVal) : (s.wr i j v).latched = s.latched := rfl
@[simp] theorem State.wr_levels (i j : Nat) (v : DVal) : (s.wr i j v).levels = s.levels := rfl
@[simp] theorem State.wr_out (i j : Nat) (v : DVal) : (s.wr i j v).out = s.out := rfl
@[simp] theorem State.wr_mem (i j : Nat) (v : DVal) : (s.wr i j v).mem = s.mem := rfl
@[simp] theorem State.wr_flash (i j : Nat) (v : DVal) : (s.wr i j v).flash = s.flash := rfl
@[simp] theorem State.wr_fuse (i j : Nat) (v : DVal) : (s.wr i j v).fuse = s.fuse := rfl
@[simp] theorem State.wr_pow (i j : Nat) (v : DVal) : (s.wr i j v).pow = s.pow := rfl
@[simp] theorem State.wr_ctl (i j : Nat) (v : DVal) : (s.wr i j v).ctl = s.ctl := rfl
@[simp] theorem State.wr_srv (i j : Nat) (v : DVal) : (s.wr i j v).srv = s.srv := rfl
@[simp] theorem State.wr_tra (i j : Nat) (v : DVal) : (s.wr i j v).tra = s.tra := rfl
@[simp] theorem State.wr_cfg (i j : Nat) (v : DVal) : (s.wr i j v).cfg = s.cfg := rfl
@[simp] theorem State.wr_cnv (i j : Nat) (v : DVal) : (s.wr i j v).cnv = s.cnv := rfl
@[simp] theorem State.wr_tx (i j : Nat) (v : DVal) : (s.wr i j v).tx = s.tx := rfl
@[simp] theorem State.wr_rx (i j : Nat) (v : DVal) : (s.wr i j v).rx = s.rx := rfl
@[simp] theorem State.wr_fec (i j : Nat) (v : DVal) : (s.wr i j v).fec = s.fec := rfl
@[simp] theorem State.wr_frm (i j : Nat) (v : DVal) : (s.wr i j v).frm = s.frm := rfl
@[simp] theorem State.wr_grm (i j : Nat) (v : DVal) : (s.wr i j v).grm = s.grm := rfl
@[simp] theorem State.wr_sls (i j : Nat) (v : DVal) : (s.wr i j v).sls = s.sls := rfl
@[simp] theorem State.wr_pic (i j : Nat) (v : DVal) : (s.wr i j v).pic = s.pic := rfl
@[simp] theorem State.wr_tim (i j : Nat) (v : DVal) : (s.wr i j v).tim = s.tim := rfl
@[simp] theorem State.wr_lan (i j : Nat) (v : DVal) : (s.wr i j v).lan = s.lan := rfl
@[simp] theorem State.wr_bob (i j : Nat) (v : DVal) : (s.wr i j v).bob = s.bob := rfl
@[simp] theorem State.wr_eng (i j : Nat) (v : DVal) : (s.wr i j v).eng = s.eng := rfl
@[simp] theorem State.wr_mat (i j : Nat) (v : DVal) : (s.wr i j v).mat = s.mat := rfl
@[simp] theorem State.wr_mms (i j : Nat) (v : DVal) : (s.wr i j v).mms = s.mms := rfl
@[simp] theorem State.wr_boot (i j : Nat) (v : DVal) : (s.wr i j v).boot = s.boot := rfl
@[simp] theorem State.wr_tel (i j : Nat) (v : DVal) : (s.wr i j v).tel = s.tel := rfl
@[simp] theorem State.wr_mode (i j : Nat) (v : DVal) : (s.wr i j v).mode = s.mode := rfl
@[simp] theorem State.wr_is1608 (i j : Nat) (v : DVal) : (s.wr i j v).is1608 = s.is1608 := rfl
@[simp] theorem State.wr_noSeal (i j : Nat) (v : DVal) : (s.wr i j v).noSeal = s.noSeal := rfl
@[simp] theorem State.wr_freeNat (i j : Nat) (v : DVal) : (s.wr i j v).freeNat = s.freeNat := rfl
@[simp] theorem State.wr_freeBool (i j : Nat) (v : DVal) : (s.wr i j v).freeBool = s.freeBool := rfl
@[simp] theorem State.wr_on (i j : Nat) (v : DVal) (d : Nat) : (s.wr i j v).on d = s.on d := rfl
@[simp] theorem State.wr_inMode (i j : Nat) (v : DVal) (m : Mode) : (s.wr i j v).inMode m = s.inMode m := rfl
@[simp] theorem State.wr_hasIdx (i j : Nat) (v : DVal) (d : Nat) : (s.wr i j v).hasIdx d = s.hasIdx d := rfl

/-! ### `State.wrI` -/
@[simp] theorem State.wrI_pending (i j : Nat) (v : Int) : (s.wrI i j v).pending = s.pending := rfl
@[simp] theorem State.wrI_uptime (i j : Nat) (v : Int) : (s.wrI i j v).uptime = s.uptime := rfl
@[simp] theorem State.wrI_devTime (i j : Nat) (v : Int) : (s.wrI i j v).devTime = s.devTime := rfl
@[simp] theorem State.wrI_free (i j : Nat) (v : Int) : (s.wrI i j v).free = s.free := rfl
@[simp] theorem State.wrI_events (i j : Nat) (v : Int) : (s.wrI i j v).events = s.events := rfl
@[simp] theorem State.wrI_latched (i j : Nat) (v : Int) : (s.wrI i j v).latched = s.latched := rfl
@[simp] theorem State.wrI_levels (i j : Nat) (v : Int) : (s.wrI i j v).levels = s.levels := rfl
@[simp] theorem State.wrI_out (i j : Nat) (v : Int) : (s.wrI i j v).out = s.out := rfl
@[simp] theorem State.wrI_mem (i j : Nat) (v : Int) : (s.wrI i j v).mem = s.mem := rfl
@[simp] theorem State.wrI_flash (i j : Nat) (v : Int) : (s.wrI i j v).flash = s.flash := rfl
@[simp] theorem State.wrI_fuse (i j : Nat) (v : Int) : (s.wrI i j v).fuse = s.fuse := rfl
@[simp] theorem State.wrI_pow (i j : Nat) (v : Int) : (s.wrI i j v).pow = s.pow := rfl
@[simp] theorem State.wrI_ctl (i j : Nat) (v : Int) : (s.wrI i j v).ctl = s.ctl := rfl
@[simp] theorem State.wrI_srv (i j : Nat) (v : Int) : (s.wrI i j v).srv = s.srv := rfl
@[simp] theorem State.wrI_tra (i j : Nat) (v : Int) : (s.wrI i j v).tra = s.tra := rfl
@[simp] theorem State.wrI_cfg (i j : Nat) (v : Int) : (s.wrI i j v).cfg = s.cfg := rfl
@[simp] theorem State.wrI_cnv (i j : Nat) (v : Int) : (s.wrI i j v).cnv = s.cnv := rfl
@[simp] theorem State.wrI_tx (i j : Nat) (v : Int) : (s.wrI i j v).tx = s.tx := rfl
@[simp] theorem State.wrI_rx (i j : Nat) (v : Int) : (s.wrI i j v).rx = s.rx := rfl
@[simp] theorem State.wrI_fec (i j : Nat) (v : Int) : (s.wrI i j v).fec = s.fec := rfl
@[simp] theorem State.wrI_frm (i j : Nat) (v : Int) : (s.wrI i j v).frm = s.frm := rfl
@[simp] theorem State.wrI_grm (i j : Nat) (v : Int) : (s.wrI i j v).grm = s.grm := rfl
@[simp] theorem State.wrI_sls (i j : Nat) (v : Int) : (s.wrI i j v).sls = s.sls := rfl
@[simp] theorem State.wrI_pic (i j : Nat) (v : Int) : (s.wrI i j v).pic = s.pic := rfl
@[simp] theorem State.wrI_tim (i j : Nat) (v : Int) : (s.wrI i j v).tim = s.tim := rfl
@[simp] theorem State.wrI_lan (i j : Nat) (v : Int) : (s.wrI i j v).lan = s.lan := rfl
@[simp] theorem State.wrI_bob (i j : Nat) (v : Int) : (s.wrI i j v).bob = s.bob := rfl
@[simp] theorem State.wrI_eng (i j : Nat) (v : Int) : (s.wrI i j v).eng = s.eng := rfl
@[simp] theorem State.wrI_mat (i j : Nat) (v : Int) : (s.wrI i j v).mat = s.mat := rfl
@[simp] theorem State.wrI_mms (i j : Nat) (v : Int) : (s.wrI i j v).mms = s.mms := rfl
@[simp] theorem State.wrI_boot (i j : Nat) (v : Int) : (s.wrI i j v).boot = s.boot := rfl
@[simp] theorem State.wrI_tel (i j : Nat) (v : Int) : (s.wrI i j v).tel = s.tel := rfl
@[simp] theorem State.wrI_mode (i j : Nat) (v : Int) : (s.wrI i j v).mode = s.mode := rfl
@[simp] theorem State.wrI_is1608 (i j : Nat) (v : Int) : (s.wrI i j v).is1608 = s.is1608 := rfl
@[simp] theorem State.wrI_noSeal (i j : Nat) (v : Int) : (s.wrI i j v).noSeal = s.noSeal := rfl
@[simp] theorem State.wrI_freeNat (i j : Nat) (v : Int) : (s.wrI i j v).freeNat = s.freeNat := rfl
@[simp] theorem State.wrI_freeBool (i j : Nat) (v : Int) : (s.wrI i j v).freeBool = s.freeBool := rfl
@[simp] theorem State.wrI_on (i j : Nat) (v : Int) (d : Nat) : (s.wrI i j v).on d = s.on d := rfl
@[simp] theorem State.wrI_inMode (i j : Nat) (v : Int) (m : Mode) : (s.wrI i j v).inMode m = s.inMode m := rfl
@[simp] theorem State.wrI_hasIdx (i j : Nat) (v : Int) (d : Nat) : (s.wrI i j v).hasIdx d = s.hasIdx d := rfl

/-! ### `State.wrN` -/
@[simp] theorem State.wrN_pending (i j v : Nat) : (s.wrN i j v).pending = s.pending := rfl
@[simp] theorem State.wrN_uptime (i j v : Nat) : (s.wrN i j v).uptime = s.uptime := rfl
@[simp] theorem State.wrN_devTime (i j v : Nat) : (s.wrN i j v).devTime = s.devTime := rfl
@[simp] theorem State.wrN_free (i j v : Nat) : (s.wrN i j v).free = s.free := rfl
@[simp] theorem State.wrN_events (i j v : Nat) : (s.wrN i j v).events = s.events := rfl
@[simp] theorem State.wrN_latched (i j v : Nat) : (s.wrN i j v).latched = s.latched := rfl
@[simp] theorem State.wrN_levels (i j v : Nat) : (s.wrN i j v).levels = s.levels := rfl
@[simp] theorem State.wrN_out (i j v : Nat) : (s.wrN i j v).out = s.out := rfl
@[simp] theorem State.wrN_mem (i j v : Nat) : (s.wrN i j v).mem = s.mem := rfl
@[simp] theorem State.wrN_flash (i j v : Nat) : (s.wrN i j v).flash = s.flash := rfl
@[simp] theorem State.wrN_fuse (i j v : Nat) : (s.wrN i j v).fuse = s.fuse := rfl
@[simp] theorem State.wrN_pow (i j v : Nat) : (s.wrN i j v).pow = s.pow := rfl
@[simp] theorem State.wrN_ctl (i j v : Nat) : (s.wrN i j v).ctl = s.ctl := rfl
@[simp] theorem State.wrN_srv (i j v : Nat) : (s.wrN i j v).srv = s.srv := rfl
@[simp] theorem State.wrN_tra (i j v : Nat) : (s.wrN i j v).tra = s.tra := rfl
@[simp] theorem State.wrN_cfg (i j v : Nat) : (s.wrN i j v).cfg = s.cfg := rfl
@[simp] theorem State.wrN_cnv (i j v : Nat) : (s.wrN i j v).cnv = s.cnv := rfl
@[simp] theorem State.wrN_tx (i j v : Nat) : (s.wrN i j v).tx = s.tx := rfl
@[simp] theorem State.wrN_rx (i j v : Nat) : (s.wrN i j v).rx = s.rx := rfl
@[simp] theorem State.wrN_fec (i j v : Nat) : (s.wrN i j v).fec = s.fec := rfl
@[simp] theorem State.wrN_frm (i j v : Nat) : (s.wrN i j v).frm = s.frm := rfl
@[simp] theorem State.wrN_grm (i j v : Nat) : (s.wrN i j v).grm = s.grm := rfl
@[simp] theorem State.wrN_sls (i j v : Nat) : (s.wrN i j v).sls = s.sls := rfl
@[simp] theorem State.wrN_pic (i j v : Nat) : (s.wrN i j v).pic = s.pic := rfl
@[simp] theorem State.wrN_tim (i j v : Nat) : (s.wrN i j v).tim = s.tim := rfl
@[simp] theorem State.wrN_lan (i j v : Nat) : (s.wrN i j v).lan = s.lan := rfl
@[simp] theorem State.wrN_bob (i j v : Nat) : (s.wrN i j v).bob = s.bob := rfl
@[simp] theorem State.wrN_eng (i j v : Nat) : (s.wrN i j v).eng = s.eng := rfl
@[simp] theorem State.wrN_mat (i j v : Nat) : (s.wrN i j v).mat = s.mat := rfl
@[simp] theorem State.wrN_mms (i j v : Nat) : (s.wrN i j v).mms = s.mms := rfl
@[simp] theorem State.wrN_boot (i j v : Nat) : (s.wrN i j v).boot = s.boot := rfl
@[simp] theorem State.wrN_tel (i j v : Nat) : (s.wrN i j v).tel = s.tel := rfl
@[simp] theorem State.wrN_mode (i j v : Nat) : (s.wrN i j v).mode = s.mode := rfl
@[simp] theorem State.wrN_is1608 (i j v : Nat) : (s.wrN i j v).is1608 = s.is1608 := rfl
@[simp] theorem State.wrN_noSeal (i j v : Nat) : (s.wrN i j v).noSeal = s.noSeal := rfl
@[simp] theorem State.wrN_freeNat (i j v : Nat) : (s.wrN i j v).freeNat = s.freeNat := rfl
@[simp] theorem State.wrN_freeBool (i j v : Nat) : (s.wrN i j v).freeBool = s.freeBool := rfl
@[simp] theorem State.wrN_on (i j v : Nat) (d : Nat) : (s.wrN i j v).on d = s.on d := rfl
@[simp] theorem State.wrN_inMode (i j v : Nat) (m : Mode) : (s.wrN i j v).inMode m = s.inMode m := rfl
@[simp] theorem State.wrN_hasIdx (i j v : Nat) (d : Nat) : (s.wrN i j v).hasIdx d = s.hasIdx d := rfl

/-! ### `State.wrB` -/
@[simp] theorem State.wrB_pending (i j : Nat) (v : Bool) : (s.wrB i j v).pending = s.pending := rfl
@[simp] theorem State.wrB_uptime (i j : Nat) (v : Bool) : (s.wrB i j v).uptime = s.uptime := rfl
@[simp] theorem State.wrB_devTime (i j : Nat) (v : Bool) : (s.wrB i j v).devTime = s.devTime := rfl
@[simp] theorem State.wrB_free (i j : Nat) (v : Bool) : (s.wrB i j v).free = s.free := rfl
@[simp] theorem State.wrB_events (i j : Nat) (v : Bool) : (s.wrB i j v).events = s.events := rfl
@[simp] theorem State.wrB_latched (i j : Nat) (v : Bool) : (s.wrB i j v).latched = s.latched := rfl
@[simp] theorem State.wrB_levels (i j : Nat) (v : Bool) : (s.wrB i j v).levels = s.levels := rfl
@[simp] theorem State.wrB_out (i j : Nat) (v : Bool) : (s.wrB i j v).out = s.out := rfl
@[simp] theorem State.wrB_mem (i j : Nat) (v : Bool) : (s.wrB i j v).mem = s.mem := rfl
@[simp] theorem State.wrB_flash (i j : Nat) (v : Bool) : (s.wrB i j v).flash = s.flash := rfl
@[simp] theorem State.wrB_fuse (i j : Nat) (v : Bool) : (s.wrB i j v).fuse = s.fuse := rfl
@[simp] theorem State.wrB_pow (i j : Nat) (v : Bool) : (s.wrB i j v).pow = s.pow := rfl
@[simp] theorem State.wrB_ctl (i j : Nat) (v : Bool) : (s.wrB i j v).ctl = s.ctl := rfl
@[simp] theorem State.wrB_srv (i j : Nat) (v : Bool) : (s.wrB i j v).srv = s.srv := rfl
@[simp] theorem State.wrB_tra (i j : Nat) (v : Bool) : (s.wrB i j v).tra = s.tra := rfl
@[simp] theorem State.wrB_cfg (i j : Nat) (v : Bool) : (s.wrB i j v).cfg = s.cfg := rfl
@[simp] theorem State.wrB_cnv (i j : Nat) (v : Bool) : (s.wrB i j v).cnv = s.cnv := rfl
@[simp] theorem State.wrB_tx (i j : Nat) (v : Bool) : (s.wrB i j v).tx = s.tx := rfl
@[simp] theorem State.wrB_rx (i j : Nat) (v : Bool) : (s.wrB i j v).rx = s.rx := rfl
@[simp] theorem State.wrB_fec (i j : Nat) (v : Bool) : (s.wrB i j v).fec = s.fec := rfl
@[simp] theorem State.wrB_frm (i j : Nat) (v : Bool) : (s.wrB i j v).frm = s.frm := rfl
@[simp] theorem State.wrB_grm (i j : Nat) (v : Bool) : (s.wrB i j v).grm = s.grm := rfl
@[simp] theorem State.wrB_sls (i j : Nat) (v : Bool) : (s.wrB i j v).sls = s.sls := rfl
@[simp] theorem State.wrB_pic (i j : Nat) (v : Bool) : (s.wrB i j v).pic = s.pic := rfl
@[simp] theorem State.wrB_tim (i j : Nat) (v : Bool) : (s.wrB i j v).tim = s.tim := rfl
@[simp] theorem State.wrB_lan (i j : Nat) (v : Bool) : (s.wrB i j v).lan = s.lan := rfl
@[simp] theorem State.wrB_bob (i j : Nat) (v : Bool) : (s.wrB i j v).bob = s.bob := rfl
@[simp] theorem State.wrB_eng (i j : Nat) (v : Bool) : (s.wrB i j v).eng = s.eng := rfl
@[simp] theorem State.wrB_mat (i j : Nat) (v : Bool) : (s.wrB i j v).mat = s.mat := rfl
@[simp] theorem State.wrB_mms (i j : Nat) (v : Bool) : (s.wrB i j v).mms = s.mms := rfl
@[simp] theorem State.wrB_boot (i j : Nat) (v : Bool) : (s.wrB i j v).boot = s.boot := rfl
@[simp] theorem State.wrB_tel (i j : Nat) (v : Bool) : (s.wrB i j v).tel = s.tel := rfl
@[simp] theorem State.wrB_mode (i j : Nat) (v : Bool) : (s.wrB i j v).mode = s.mode := rfl
@[simp] theorem State.wrB_is1608 (i j : Nat) (v : Bool) : (s.wrB i j v).is1608 = s.is1608 := rfl
@[simp] theorem State.wrB_noSeal (i j : Nat) (v : Bool) : (s.wrB i j v).noSeal = s.noSeal := rfl
@[simp] theorem State.wrB_freeNat (i j : Nat) (v : Bool) : (s.wrB i j v).freeNat = s.freeNat := rfl
@[simp] theorem State.wrB_freeBool (i j : Nat) (v : Bool) : (s.wrB i j v).freeBool = s.freeBool := rfl
@[simp] theorem State.wrB_on (i j : Nat) (v : Bool) (d : Nat) : (s.wrB i j v).on d = s.on d := rfl
@[simp] theorem State.wrB_inMode (i j : Nat) (v : Bool) (m : Mode) : (s.wrB i j v).inMode m = s.inMode m := rfl
@[simp] theorem State.wrB_hasIdx (i j : Nat) (v : Bool) (d : Nat) : (s.wrB i j v).hasIdx d = s.hasIdx d := rfl

/-! ### `State.wrS` -/
@[simp] theorem State.wrS_pending (i j : Nat) (v : List Byte) : (s.wrS i j v).pending = s.pending := rfl
@[simp] theorem State.wrS_uptime (i j : Nat) (v : List Byte) : (s.wrS i j v).uptime = s.uptime := rfl
@[simp] theorem State.wrS_devTime (i j : Nat) (v : List Byte) : (s.wrS i j v).devTime = s.devTime := rfl
@[simp] theorem State.wrS_free (i j : Nat) (v : List Byte) : (s.wrS i j v).free = s.free := rfl
@[simp] theorem State.wrS_events (i j : Nat) (v : List Byte) : (s.wrS i j v).events = s.events := rfl
@[simp] theorem State.wrS_latched (i j : Nat) (v : List Byte) : (s.wrS i j v).latched = s.latched := rfl
@[simp] theorem State.wrS_levels (i j : Nat) (v : List Byte) : (s.wrS i j v).levels = s.levels := rfl
@[simp] theorem State.wrS_out (i j : Nat) (v : List Byte) : (s.wrS i j v).out = s.out := rfl
@[simp] theorem State.wrS_mem (i j : Nat) (v : List Byte) : (s.wrS i j v).mem = s.mem := rfl
@[simp] theorem State.wrS_flash (i j : Nat) (v : List Byte) : (s.wrS i j v).flash = s.flash := rfl
@[simp] theorem State.wrS_fuse (i j : Nat) (v : List Byte) : (s.wrS i j v).fuse = s.fuse := rfl
@[simp] theorem State.wrS_pow (i j : Nat) (v : List Byte) : (s.wrS i j v).pow = s.pow := rfl
@[simp] theorem State.wrS_ctl (i j : Nat) (v : List Byte) : (s.wrS i j v).ctl = s.ctl := rfl
@[simp] theorem State.wrS_srv (i j : Nat) (v : List Byte) : (s.wrS i j v).srv = s.srv := rfl
@[simp] theorem State.wrS_tra (i j : Nat) (v : List Byte) : (s.wrS i j v).tra = s.tra := rfl
@[simp] theorem State.wrS_cfg (i j : Nat) (v : List Byte) : (s.wrS i j v).cfg = s.cfg := rfl
@[simp] theorem State.wrS_cnv (i j : Nat) (v : List Byte) : (s.wrS i j v).cnv = s.cnv := rfl
@[simp] theorem State.wrS_tx (i j : Nat) (v : List Byte) : (s.wrS i j v).tx = s.tx := rfl
@[simp] theorem State.wrS_rx (i j : Nat) (v : List Byte) : (s.wrS i j v).rx = s.rx := rfl
@[simp] theorem State.wrS_fec (i j : Nat) (v : List Byte) : (s.wrS i j v).fec = s.fec := rfl
@[simp] theorem State.wrS_frm (i j : Nat) (v : List Byte) : (s.wrS i j v).frm = s.frm := rfl
@[simp] theorem State.wrS_grm (i j : Nat) (v : List Byte) : (s.wrS i j v).grm = s.grm := rfl
@[simp] theorem State.wrS_sls (i j : Nat) (v : List Byte) : (s.wrS i j v).sls = s.sls := rfl
@[simp] theorem State.wrS_pic (i j : Nat) (v : List Byte) : (s.wrS i j v).pic = s.pic := rfl
@[simp] theorem State.wrS_tim (i j : Nat) (v : List Byte) : (s.wrS i j v).tim = s.tim := rfl
@[simp] theorem State.wrS_lan (i j : Nat) (v : List Byte) : (s.wrS i j v).lan = s.lan := rfl
@[simp] theorem State.wrS_bob (i j : Nat) (v : List Byte) : (s.wrS i j v).bob = s.bob := rfl
@[simp] theorem State.wrS_eng (i j : Nat) (v : List Byte) : (s.wrS i j v).eng = s.eng := rfl
@[simp] theorem State.wrS_mat (i j : Nat) (v : List Byte) : (s.wrS i j v).mat = s.mat := rfl
@[simp] theorem State.wrS_mms (i j : Nat) (v : List Byte) : (s.wrS i j v).mms = s.mms := rfl
@[simp] theorem State.wrS_boot (i j : Nat) (v : List Byte) : (s.wrS i j v).boot = s.boot := rfl
@[simp] theorem State.wrS_tel (i j : Nat) (v : List Byte) : (s.wrS i j v).tel = s.tel := rfl
@[simp] theorem State.wrS_mode (i j : Nat) (v : List Byte) : (s.wrS i j v).mode = s.mode := rfl
@[simp] theorem State.wrS_is1608 (i j : Nat) (v : List Byte) : (s.wrS i j v).is1608 = s.is1608 := rfl
@[simp] theorem State.wrS_noSeal (i j : Nat) (v : List Byte) : (s.wrS i j v).noSeal = s.noSeal := rfl
@[simp] theorem State.wrS_freeNat (i j : Nat) (v : List Byte) : (s.wrS i j v).freeNat = s.freeNat := rfl
@[simp] theorem State.wrS_freeBool (i j : Nat) (v : List Byte) : (s.wrS i j v).freeBool = s.freeBool := rfl
@[simp] theorem State.wrS_on (i j : Nat) (v : List Byte) (d : Nat) : (s.wrS i j v).on d = s.on d := rfl
@[simp] theorem State.wrS_inMode (i j : Nat) (v : List Byte) (m : Mode) : (s.wrS i j v).inMode m = s.inMode m := rfl
@[simp] theorem State.wrS_hasIdx (i j : Nat) (v : List Byte) (d : Nat) : (s.wrS i j v).hasIdx d = s.hasIdx d := rfl

/-! ### `State.wrBit` -/
@[simp] theorem State.wrBit_pending (i j n : Nat) (v : Bool) : (s.wrBit i j n v).pending = s.pending := rfl
@[simp] theorem State.wrBit_uptime (i j n : Nat) (v : Bool) : (s.wrBit i j n v).uptime = s.uptime := rfl
@[simp] theorem State.wrBit_devTime (i j n : Nat) (v : Bool) : (s.wrBit i j n v).devTime = s.devTime := rfl
@[simp] theorem State.wrBit_free (i j n : Nat) (v : Bool) : (s.wrBit i j n v).free = s.free := rfl
@[simp] theorem State.wrBit_events (i j n : Nat) (v : Bool) : (s.wrBit i j n v).events = s.events := rfl
@[simp] theorem State.wrBit_latched (i j n : Nat) (v : Bool) : (s.wrBit i j n v).latched = s.latched := rfl
@[simp] theorem State.wrBit_levels (i j n : Nat) (v : Bool) : (s.wrBit i j n v).levels = s.levels := rfl
@[simp] theorem State.wrBit_out (i j n : Nat) (v : Bool) : (s.wrBit i j n v).out = s.out := rfl
@[simp] theorem State.wrBit_mem (i j n : Nat) (v : Bool) : (s.wrBit i j n v).mem = s.mem := rfl
@[simp] theorem State.wrBit_flash (i j n : Nat) (v : Bool) : (s.wrBit i j n v).flash = s.flash := rfl
@[simp] theorem State.wrBit_fuse (i j n : Nat) (v : Bool) : (s.wrBit i j n v).fuse = s.fuse := rfl
@[simp] theorem State.wrBit_pow (i j n : Nat) (v : Bool) : (s.wrBit i j n v).pow = s.pow := rfl
@[simp] theorem State.wrBit_ctl (i j n : Nat) (v : Bool) : (s.wrBit i j n v).ctl = s.ctl := rfl
@[simp] theorem State.wrBit_srv (i j n : Nat) (v : Bool) : (s.wrBit i j n v).srv = s.srv := rfl
@[simp] theorem State.wrBit_tra (i j n : Nat) (v : Bool) : (s.wrBit i j n v).tra = s.tra := rfl
@[simp] theorem State.wrBit_cfg (i j n : Nat) (v : Bool) : (s.wrBit i j n v).cfg = s.cfg := rfl
@[simp] theorem State.wrBit_cnv (i j n : Nat) (v : Bool) : (s.wrBit i j n v).cnv = s.cnv := rfl
@[simp] theorem State.wrBit_tx (i j n : Nat) (v : Bool) : (s.wrBit i j n v).tx = s.tx := rfl
@[simp] theorem State.wrBit_rx (i j n : Nat) (v : Bool) : (s.wrBit i j n v).rx = s.rx := rfl
@[simp] theorem State.wrBit_fec (i j n : Nat) (v : Bool) : (s.wrBit i j n v).fec = s.fec := rfl
@[simp] theorem State.wrBit_frm (i j n : Nat) (v : Bool) : (s.wrBit i j n v).frm = s.frm := rfl
@[simp] theorem State.wrBit_grm (i j n : Nat) (v : Bool) : (s.wrBit i j n v).grm = s.grm := rfl
@[simp] theorem State.wrBit_sls (i j n : Nat) (v : Bool) : (s.wrBit i j n v).sls = s.sls := rfl
@[simp] theorem State.wrBit_pic (i j n : Nat) (v : Bool) : (s.wrBit i j n v).pic = s.pic := rfl
@[simp] theorem State.wrBit_tim (i j n : Nat) (v : Bool) : (s.wrBit i j n v).tim = s.tim := rfl
@[simp] theorem State.wrBit_lan (i j n : Nat) (v : Bool) : (s.wrBit i j n v).lan = s.lan := rfl
@[simp] theorem State.wrBit_bob (i j n : Nat) (v : Bool) : (s.wrBit i j n v).bob = s.bob := rfl
@[simp] theorem State.wrBit_eng (i j n : Nat) (v : Bool) : (s.wrBit i j n v).eng = s.eng := rfl
@[simp] theorem State.wrBit_mat (i j n : Nat) (v : Bool) : (s.wrBit i j n v).mat = s.mat := rfl
@[simp] theorem State.wrBit_mms (i j n : Nat) (v : Bool) : (s.wrBit i j n v).mms = s.mms := rfl
@[simp] theorem State.wrBit_boot (i j n : Nat) (v : Bool) : (s.wrBit i j n v).boot = s.boot := rfl
@[simp] theorem State.wrBit_tel (i j n : Nat) (v : Bool) : (s.wrBit i j n v).tel = s.tel := rfl
@[simp] theorem State.wrBit_mode (i j n : Nat) (v : Bool) : (s.wrBit i j n v).mode = s.mode := rfl
@[simp] theorem State.wrBit_is1608 (i j n : Nat) (v : Bool) : (s.wrBit i j n v).is1608 = s.is1608 := rfl
@[simp] theorem State.wrBit_noSeal (i j n : Nat) (v : Bool) : (s.wrBit i j n v).noSeal = s.noSeal := rfl
@[simp] theorem State.wrBit_freeNat (i j n : Nat) (v : Bool) : (s.wrBit i j n v).freeNat = s.freeNat := rfl
@[simp] theorem State.wrBit_freeBool (i j n : Nat) (v : Bool) : (s.wrBit i j n v).freeBool = s.freeBool := rfl
@[simp] theorem State.wrBit_on (i j n : Nat) (v : Bool) (d : Nat) : (s.wrBit i j n v).on d = s.on d := rfl
@[simp] theorem State.wrBit_inMode (i j n : Nat) (v : Bool) (m : Mode) : (s.wrBit i j n v).inMode m = s.inMode m := rfl
@[simp] theorem State.wrBit_hasIdx (i j n : Nat) (v : Bool) (d : Nat) : (s.wrBit i j n v).hasIdx d = s.hasIdx d := rfl

/-! ### `State.bump` -/
@[simp] theorem State.bump_pending (i j w n : Nat) : (s.bump i j w n).pending = s.pending := rfl
@[simp] theorem State.bump_uptime (i j w n : Nat) : (s.bump i j w n).uptime = s.uptime := rfl
@[simp] theorem State.bump_devTime (i j w n : Nat) : (s.bump i j w n).devTime = s.devTime := rfl
@[simp] theorem State.bump_free (i j w n : Nat) : (s.bump i j w n).free = s.free := rfl
@[simp] theorem State.bump_events (i j w n : Nat) : (s.bump i j w n).events = s.events := rfl
@[simp] theorem State.bump_latched (i j w n : Nat) : (s.bump i j w n).latched = s.latched := rfl
@[simp] theorem State.bump_levels (i j w n : Nat) : (s.bump i j w n).levels = s.levels := rfl
@[simp] theorem State.bump_out (i j w n : Nat) : (s.bump i j w n).out = s.out := rfl
@[simp] theorem State.bump_mem (i j w n : Nat) : (s.bump i j w n).mem = s.mem := rfl
@[simp] theorem State.bump_flash (i j w n : Nat) : (s.bump i j w n).flash = s.flash := rfl
@[simp] theorem State.bump_fuse (i j w n : Nat) : (s.bump i j w n).fuse = s.fuse := rfl
@[simp] theorem State.bump_pow (i j w n : Nat) : (s.bump i j w n).pow = s.pow := rfl
@[simp] theorem State.bump_ctl (i j w n : Nat) : (s.bump i j w n).ctl = s.ctl := rfl
@[simp] theorem State.bump_srv (i j w n : Nat) : (s.bump i j w n).srv = s.srv := rfl
@[simp] theorem State.bump_tra (i j w n : Nat) : (s.bump i j w n).tra = s.tra := rfl
@[simp] theorem State.bump_cfg (i j w n : Nat) : (s.bump i j w n).cfg = s.cfg := rfl
@[simp] theorem State.bump_cnv (i j w n : Nat) : (s.bump i j w n).cnv = s.cnv := rfl
@[simp] theorem State.bump_tx (i j w n : Nat) : (s.bump i j w n).tx = s.tx := rfl
@[simp] theorem State.bump_rx (i j w n : Nat) : (s.bump i j w n).rx = s.rx := rfl
@[simp] theorem State.bump_fec (i j w n : Nat) : (s.bump i j w n).fec = s.fec := rfl
@[simp] theorem State.bump_frm (i j w n : Nat) : (s.bump i j w n).frm = s.frm := rfl
@[simp] theorem State.bump_grm (i j w n : Nat) : (s.bump i j w n).grm = s.grm := rfl
@[simp] theorem State.bump_sls (i j w n : Nat) : (s.bump i j w n).sls = s.sls := rfl
@[simp] theorem State.bump_pic (i j w n : Nat) : (s.bump i j w n).pic = s.pic := rfl
@[simp] theorem State.bump_tim (i j w n : Nat) : (s.bump i j w n).tim = s.tim := rfl
@[simp] theorem State.bump_lan (i j w n : Nat) : (s.bump i j w n).lan = s.lan := rfl
@[simp] theorem State.bump_bob (i j w n : Nat) : (s.bump i j w n).bob = s.bob := rfl
@[simp] theorem State.bump_eng (i j w n : Nat) : (s.bump i j w n).eng = s.eng := rfl
@[simp] theorem State.bump_mat (i j w n : Nat) : (s.bump i j w n).mat = s.mat := rfl
@[simp] theorem State.bump_mms (i j w n : Nat) : (s.bump i j w n).mms = s.mms := rfl
@[simp] theorem State.bump_boot (i j w n : Nat) : (s.bump i j w n).boot = s.boot := rfl
@[simp] theorem State.bump_tel (i j w n : Nat) : (s.bump i j w n).tel = s.tel := rfl
@[simp] theorem State.bump_mode (i j w n : Nat) : (s.bump i j w n).mode = s.mode := rfl
@[simp] theorem State.bump_is1608 (i j w n : Nat) : (s.bump i j w n).is1608 = s.is1608 := rfl
@[simp] theorem State.bump_noSeal (i j w n : Nat) : (s.bump i j w n).noSeal = s.noSeal := rfl
@[simp] theorem State.bump_freeNat (i j w n : Nat) : (s.bump i j w n).freeNat = s.freeNat := rfl
@[simp] theorem State.bump_freeBool (i j w n : Nat) : (s.bump i j w n).freeBool = s.freeBool := rfl
@[simp] theorem State.bump_on (i j w n : Nat) (d : Nat) : (s.bump i j w n).on d = s.on d := rfl
@[simp] theorem State.bump_inMode (i j w n : Nat) (m : Mode) : (s.bump i j w n).inMode m = s.inMode m := rfl
@[simp] theorem State.bump_hasIdx (i j w n : Nat) (d : Nat) : (s.bump i j w n).hasIdx d = s.hasIdx d := rfl

/-! ### `State.inc32` -/
@[simp] theorem State.inc32_pending (i j : Nat) : (s.inc32 i j).pending = s.pending := rfl
@[simp] theorem State.inc32_uptime (i j : Nat) : (s.inc32 i j).uptime = s.uptime := rfl
@[simp] theorem State.inc32_devTime (i j : Nat) : (s.inc32 i j).devTime = s.devTime := rfl
@[simp] theorem State.inc32_free (i j : Nat) : (s.inc32 i j).free = s.free := rfl
@[simp] theorem State.inc32_events (i j : Nat) : (s.inc32 i j).events = s.events := rfl
@[simp] theorem State.inc32_latched (i j : Nat) : (s.inc32 i j).latched = s.latched := rfl
@[simp] theorem State.inc32_levels (i j : Nat) : (s.inc32 i j).levels = s.levels := rfl
@[simp] theorem State.inc32_out (i j : Nat) : (s.inc32 i j).out = s.out := rfl
@[simp] theorem State.inc32_mem (i j : Nat) : (s.inc32 i j).mem = s.mem := rfl
@[simp] theorem State.inc32_flash (i j : Nat) : (s.inc32 i j).flash = s.flash := rfl
@[simp] theorem State.inc32_fuse (i j : Nat) : (s.inc32 i j).fuse = s.fuse := rfl
@[simp] theorem State.inc32_pow (i j : Nat) : (s.inc32 i j).pow = s.pow := rfl
@[simp] theorem State.inc32_ctl (i j : Nat) : (s.inc32 i j).ctl = s.ctl := rfl
@[simp] theorem State.inc32_srv (i j : Nat) : (s.inc32 i j).srv = s.srv := rfl
@[simp] theorem State.inc32_tra (i j : Nat) : (s.inc32 i j).tra = s.tra := rfl
@[simp] theorem State.inc32_cfg (i j : Nat) : (s.inc32 i j).cfg = s.cfg := rfl
@[simp] theorem State.inc32_cnv (i j : Nat) : (s.inc32 i j).cnv = s.cnv := rfl
@[simp] theorem State.inc32_tx (i j : Nat) : (s.inc32 i j).tx = s.tx := rfl
@[simp] theorem State.inc32_rx (i j : Nat) : (s.inc32 i j).rx = s.rx := rfl
@[simp] theorem State.inc32_fec (i j : Nat) : (s.inc32 i j).fec = s.fec := rfl
@[simp] theorem State.inc32_frm (i j : Nat) : (s.inc32 i j).frm = s.frm := rfl
@[simp] theorem State.inc32_grm (i j : Nat) : (s.inc32 i j).grm = s.grm := rfl
@[simp] theorem State.inc32_sls (i j : Nat) : (s.inc32 i j).sls = s.sls := rfl
@[simp] theorem State.inc32_pic (i j : Nat) : (s.inc32 i j).pic = s.pic := rfl
@[simp] theorem State.inc32_tim (i j : Nat) : (s.inc32 i j).tim = s.tim := rfl
@[simp] theorem State.inc32_lan (i j : Nat) : (s.inc32 i j).lan = s.lan := rfl
@[simp] theorem State.inc32_bob (i j : Nat) : (s.inc32 i j).bob = s.bob := rfl
@[simp] theorem State.inc32_eng (i j : Nat) : (s.inc32 i j).eng = s.eng := rfl
@[simp] theorem State.inc32_mat (i j : Nat) : (s.inc32 i j).mat = s.mat := rfl
@[simp] theorem State.inc32_mms (i j : Nat) : (s.inc32 i j).mms = s.mms := rfl
@[simp] theorem State.inc32_boot (i j : Nat) : (s.inc32 i j).boot = s.boot := rfl
@[simp] theorem State.inc32_tel (i j : Nat) : (s.inc32 i j).tel = s.tel := rfl
@[simp] theorem State.inc32_mode (i j : Nat) : (s.inc32 i j).mode = s.mode := rfl
@[simp] theorem State.inc32_is1608 (i j : Nat) : (s.inc32 i j).is1608 = s.is1608 := rfl
@[simp] theorem State.inc32_noSeal (i j : Nat) : (s.inc32 i j).noSeal = s.noSeal := rfl
@[simp] theorem State.inc32_freeNat (i j : Nat) : (s.inc32 i j).freeNat = s.freeNat := rfl
@[simp] theorem State.inc32_freeBool (i j : Nat) : (s.inc32 i j).freeBool = s.freeBool := rfl
@[simp] theorem State.inc32_on (i j : Nat) (d : Nat) : (s.inc32 i j).on d = s.on d := rfl
@[simp] theorem State.inc32_inMode (i j : Nat) (m : Mode) : (s.inc32 i j).inMode m = s.inMode m := rfl
@[simp] theorem State.inc32_hasIdx (i j : Nat) (d : Nat) : (s.inc32 i j).hasIdx d = s.hasIdx d := rfl

/-! ### `State.inc64` -/
@[simp] theorem State.inc64_pending (i j : Nat) : (s.inc64 i j).pending = s.pending := rfl
@[simp] theorem State.inc64_uptime (i j : Nat) : (s.inc64 i j).uptime = s.uptime := rfl
@[simp] theorem State.inc64_devTime (i j : Nat) : (s.inc64 i j).devTime = s.devTime := rfl
@[simp] theorem State.inc64_free (i j : Nat) : (s.inc64 i j).free = s.free := rfl
@[simp] theorem State.inc64_events (i j : Nat) : (s.inc64 i j).events = s.events := rfl
@[simp] theorem State.inc64_latched (i j : Nat) : (s.inc64 i j).latched = s.latched := rfl
@[simp] theorem State.inc64_levels (i j : Nat) : (s.inc64 i j).levels = s.levels := rfl
@[simp] theorem State.inc64_out (i j : Nat) : (s.inc64 i j).out = s.out := rfl
@[simp] theorem State.inc64_mem (i j : Nat) : (s.inc64 i j).mem = s.mem := rfl
@[simp] theorem State.inc64_flash (i j : Nat) : (s.inc64 i j).flash = s.flash := rfl
@[simp] theorem State.inc64_fuse (i j : Nat) : (s.inc64 i j).fuse = s.fuse := rfl
@[simp] theorem State.inc64_pow (i j : Nat) : (s.inc64 i j).pow = s.pow := rfl
@[simp] theorem State.inc64_ctl (i j : Nat) : (s.inc64 i j).ctl = s.ctl := rfl
@[simp] theorem State.inc64_srv (i j : Nat) : (s.inc64 i j).srv = s.srv := rfl
@[simp] theorem State.inc64_tra (i j : Nat) : (s.inc64 i j).tra = s.tra := rfl
@[simp] theorem State.inc64_cfg (i j : Nat) : (s.inc64 i j).cfg = s.cfg := rfl
@[simp] theorem State.inc64_cnv (i j : Nat) : (s.inc64 i j).cnv = s.cnv := rfl
@[simp] theorem State.inc64_tx (i j : Nat) : (s.inc64 i j).tx = s.tx := rfl
@[simp] theorem State.inc64_rx (i j : Nat) : (s.inc64 i j).rx = s.rx := rfl
@[simp] theorem State.inc64_fec (i j : Nat) : (s.inc64 i j).fec = s.fec := rfl
@[simp] theorem State.inc64_frm (i j : Nat) : (s.inc64 i j).frm = s.frm := rfl
@[simp] theorem State.inc64_grm (i j : Nat) : (s.inc64 i j).grm = s.grm := rfl
@[simp] theorem State.inc64_sls (i j : Nat) : (s.inc64 i j).sls = s.sls := rfl
@[simp] theorem State.inc64_pic (i j : Nat) : (s.inc64 i j).pic = s.pic := rfl
@[simp] theorem State.inc64_tim (i j : Nat) : (s.inc64 i j).tim = s.tim := rfl
@[simp] theorem State.inc64_lan (i j : Nat) : (s.inc64 i j).lan = s.lan := rfl
@[simp] theorem State.inc64_bob (i j : Nat) : (s.inc64 i j).bob = s.bob := rfl
@[simp] theorem State.inc64_eng (i j : Nat) : (s.inc64 i j).eng = s.eng := rfl
@[simp] theorem State.inc64_mat (i j : Nat) : (s.inc64 i j).mat = s.mat := rfl
@[simp] theorem State.inc64_mms (i j : Nat) : (s.inc64 i j).mms = s.mms := rfl
@[simp] theorem State.inc64_boot (i j : Nat) : (s.inc64 i j).boot = s.boot := rfl
@[simp] theorem State.inc64_tel (i j : Nat) : (s.inc64 i j).tel = s.tel := rfl
@[simp] theorem State.inc64_mode (i j : Nat) : (s.inc64 i j).mode = s.mode := rfl
@[simp] theorem State.inc64_is1608 (i j : Nat) : (s.inc64 i j).is1608 = s.is1608 := rfl
@[simp] theorem State.inc64_noSeal (i j : Nat) : (s.inc64 i j).noSeal = s.noSeal := rfl
@[simp] theorem State.inc64_freeNat (i j : Nat) : (s.inc64 i j).freeNat = s.freeNat := rfl
@[simp] theorem State.inc64_freeBool (i j : Nat) : (s.inc64 i j).freeBool = s.freeBool := rfl
@[simp] theorem State.inc64_on (i j : Nat) (d : Nat) : (s.inc64 i j).on d = s.on d := rfl
@[simp] theorem State.inc64_inMode (i j : Nat) (m : Mode) : (s.inc64 i j).inMode m = s.inMode m := rfl
@[simp] theorem State.inc64_hasIdx (i j : Nat) (d : Nat) : (s.inc64 i j).hasIdx d = s.hasIdx d := rfl

/-! ### `State.addSat` -/
@[simp] theorem State.addSat_pending (i j c n : Nat) : (s.addSat i j c n).pending = s.pending := rfl
@[simp] theorem State.addSat_uptime (i j c n : Nat) : (s.addSat i j c n).uptime = s.uptime := rfl
@[simp] theorem State.addSat_devTime (i j c n : Nat) : (s.addSat i j c n).devTime = s.devTime := rfl
@[simp] theorem State.addSat_free (i j c n : Nat) : (s.addSat i j c n).free = s.free := rfl
@[simp] theorem State.addSat_events (i j c n : Nat) : (s.addSat i j c n).events = s.events := rfl
@[simp] theorem State.addSat_latched (i j c n : Nat) : (s.addSat i j c n).latched = s.latched := rfl
@[simp] theorem State.addSat_levels (i j c n : Nat) : (s.addSat i j c n).levels = s.levels := rfl
@[simp] theorem State.addSat_out (i j c n : Nat) : (s.addSat i j c n).out = s.out := rfl
@[simp] theorem State.addSat_mem (i j c n : Nat) : (s.addSat i j c n).mem = s.mem := rfl
@[simp] theorem State.addSat_flash (i j c n : Nat) : (s.addSat i j c n).flash = s.flash := rfl
@[simp] theorem State.addSat_fuse (i j c n : Nat) : (s.addSat i j c n).fuse = s.fuse := rfl
@[simp] theorem State.addSat_pow (i j c n : Nat) : (s.addSat i j c n).pow = s.pow := rfl
@[simp] theorem State.addSat_ctl (i j c n : Nat) : (s.addSat i j c n).ctl = s.ctl := rfl
@[simp] theorem State.addSat_srv (i j c n : Nat) : (s.addSat i j c n).srv = s.srv := rfl
@[simp] theorem State.addSat_tra (i j c n : Nat) : (s.addSat i j c n).tra = s.tra := rfl
@[simp] theorem State.addSat_cfg (i j c n : Nat) : (s.addSat i j c n).cfg = s.cfg := rfl
@[simp] theorem State.addSat_cnv (i j c n : Nat) : (s.addSat i j c n).cnv = s.cnv := rfl
@[simp] theorem State.addSat_tx (i j c n : Nat) : (s.addSat i j c n).tx = s.tx := rfl
@[simp] theorem State.addSat_rx (i j c n : Nat) : (s.addSat i j c n).rx = s.rx := rfl
@[simp] theorem State.addSat_fec (i j c n : Nat) : (s.addSat i j c n).fec = s.fec := rfl
@[simp] theorem State.addSat_frm (i j c n : Nat) : (s.addSat i j c n).frm = s.frm := rfl
@[simp] theorem State.addSat_grm (i j c n : Nat) : (s.addSat i j c n).grm = s.grm := rfl
@[simp] theorem State.addSat_sls (i j c n : Nat) : (s.addSat i j c n).sls = s.sls := rfl
@[simp] theorem State.addSat_pic (i j c n : Nat) : (s.addSat i j c n).pic = s.pic := rfl
@[simp] theorem State.addSat_tim (i j c n : Nat) : (s.addSat i j c n).tim = s.tim := rfl
@[simp] theorem State.addSat_lan (i j c n : Nat) : (s.addSat i j c n).lan = s.lan := rfl
@[simp] theorem State.addSat_bob (i j c n : Nat) : (s.addSat i j c n).bob = s.bob := rfl
@[simp] theorem State.addSat_eng (i j c n : Nat) : (s.addSat i j c n).eng = s.eng := rfl
@[simp] theorem State.addSat_mat (i j c n : Nat) : (s.addSat i j c n).mat = s.mat := rfl
@[simp] theorem State.addSat_mms (i j c n : Nat) : (s.addSat i j c n).mms = s.mms := rfl
@[simp] theorem State.addSat_boot (i j c n : Nat) : (s.addSat i j c n).boot = s.boot := rfl
@[simp] theorem State.addSat_tel (i j c n : Nat) : (s.addSat i j c n).tel = s.tel := rfl
@[simp] theorem State.addSat_mode (i j c n : Nat) : (s.addSat i j c n).mode = s.mode := rfl
@[simp] theorem State.addSat_is1608 (i j c n : Nat) : (s.addSat i j c n).is1608 = s.is1608 := rfl
@[simp] theorem State.addSat_noSeal (i j c n : Nat) : (s.addSat i j c n).noSeal = s.noSeal := rfl
@[simp] theorem State.addSat_freeNat (i j c n : Nat) : (s.addSat i j c n).freeNat = s.freeNat := rfl
@[simp] theorem State.addSat_freeBool (i j c n : Nat) : (s.addSat i j c n).freeBool = s.freeBool := rfl
@[simp] theorem State.addSat_on (i j c n : Nat) (d : Nat) : (s.addSat i j c n).on d = s.on d := rfl
@[simp] theorem State.addSat_inMode (i j c n : Nat) (m : Mode) : (s.addSat i j c n).inMode m = s.inMode m := rfl
@[simp] theorem State.addSat_hasIdx (i j c n : Nat) (d : Nat) : (s.addSat i j c n).hasIdx d = s.hasIdx d := rfl

/-! ### `State.atLeast` -/
@[simp] theorem State.atLeast_pending (i j n : Nat) : (s.atLeast i j n).pending = s.pending := rfl
@[simp] theorem State.atLeast_uptime (i j n : Nat) : (s.atLeast i j n).uptime = s.uptime := rfl
@[simp] theorem State.atLeast_devTime (i j n : Nat) : (s.atLeast i j n).devTime = s.devTime := rfl
@[simp] theorem State.atLeast_free (i j n : Nat) : (s.atLeast i j n).free = s.free := rfl
@[simp] theorem State.atLeast_events (i j n : Nat) : (s.atLeast i j n).events = s.events := rfl
@[simp] theorem State.atLeast_latched (i j n : Nat) : (s.atLeast i j n).latched = s.latched := rfl
@[simp] theorem State.atLeast_levels (i j n : Nat) : (s.atLeast i j n).levels = s.levels := rfl
@[simp] theorem State.atLeast_out (i j n : Nat) : (s.atLeast i j n).out = s.out := rfl
@[simp] theorem State.atLeast_mem (i j n : Nat) : (s.atLeast i j n).mem = s.mem := rfl
@[simp] theorem State.atLeast_flash (i j n : Nat) : (s.atLeast i j n).flash = s.flash := rfl
@[simp] theorem State.atLeast_fuse (i j n : Nat) : (s.atLeast i j n).fuse = s.fuse := rfl
@[simp] theorem State.atLeast_pow (i j n : Nat) : (s.atLeast i j n).pow = s.pow := rfl
@[simp] theorem State.atLeast_ctl (i j n : Nat) : (s.atLeast i j n).ctl = s.ctl := rfl
@[simp] theorem State.atLeast_srv (i j n : Nat) : (s.atLeast i j n).srv = s.srv := rfl
@[simp] theorem State.atLeast_tra (i j n : Nat) : (s.atLeast i j n).tra = s.tra := rfl
@[simp] theorem State.atLeast_cfg (i j n : Nat) : (s.atLeast i j n).cfg = s.cfg := rfl
@[simp] theorem State.atLeast_cnv (i j n : Nat) : (s.atLeast i j n).cnv = s.cnv := rfl
@[simp] theorem State.atLeast_tx (i j n : Nat) : (s.atLeast i j n).tx = s.tx := rfl
@[simp] theorem State.atLeast_rx (i j n : Nat) : (s.atLeast i j n).rx = s.rx := rfl
@[simp] theorem State.atLeast_fec (i j n : Nat) : (s.atLeast i j n).fec = s.fec := rfl
@[simp] theorem State.atLeast_frm (i j n : Nat) : (s.atLeast i j n).frm = s.frm := rfl
@[simp] theorem State.atLeast_grm (i j n : Nat) : (s.atLeast i j n).grm = s.grm := rfl
@[simp] theorem State.atLeast_sls (i j n : Nat) : (s.atLeast i j n).sls = s.sls := rfl
@[simp] theorem State.atLeast_pic (i j n : Nat) : (s.atLeast i j n).pic = s.pic := rfl
@[simp] theorem State.atLeast_tim (i j n : Nat) : (s.atLeast i j n).tim = s.tim := rfl
@[simp] theorem State.atLeast_lan (i j n : Nat) : (s.atLeast i j n).lan = s.lan := rfl
@[simp] theorem State.atLeast_bob (i j n : Nat) : (s.atLeast i j n).bob = s.bob := rfl
@[simp] theorem State.atLeast_eng (i j n : Nat) : (s.atLeast i j n).eng = s.eng := rfl
@[simp] theorem State.atLeast_mat (i j n : Nat) : (s.atLeast i j n).mat = s.mat := rfl
@[simp] theorem State.atLeast_mms (i j n : Nat) : (s.atLeast i j n).mms = s.mms := rfl
@[simp] theorem State.atLeast_boot (i j n : Nat) : (s.atLeast i j n).boot = s.boot := rfl
@[simp] theorem State.atLeast_tel (i j n : Nat) : (s.atLeast i j n).tel = s.tel := rfl
@[simp] theorem State.atLeast_mode (i j n : Nat) : (s.atLeast i j n).mode = s.mode := rfl
@[simp] theorem State.atLeast_is1608 (i j n : Nat) : (s.atLeast i j n).is1608 = s.is1608 := rfl
@[simp] theorem State.atLeast_noSeal (i j n : Nat) : (s.atLeast i j n).noSeal = s.noSeal := rfl
@[simp] theorem State.atLeast_freeNat (i j n : Nat) : (s.atLeast i j n).freeNat = s.freeNat := rfl
@[simp] theorem State.atLeast_freeBool (i j n : Nat) : (s.atLeast i j n).freeBool = s.freeBool := rfl
@[simp] theorem State.atLeast_on (i j n : Nat) (d : Nat) : (s.atLeast i j n).on d = s.on d := rfl
@[simp] theorem State.atLeast_inMode (i j n : Nat) (m : Mode) : (s.atLeast i j n).inMode m = s.inMode m := rfl
@[simp] theorem State.atLeast_hasIdx (i j n : Nat) (d : Nat) : (s.atLeast i j n).hasIdx d = s.hasIdx d := rfl

/-! ### `State.clearIdx` -/
@[simp] theorem State.clearIdx_pending (p : Nat → Nat → Bool) : (s.clearIdx p).pending = s.pending := rfl
@[simp] theorem State.clearIdx_uptime (p : Nat → Nat → Bool) : (s.clearIdx p).uptime = s.uptime := rfl
@[simp] theorem State.clearIdx_devTime (p : Nat → Nat → Bool) : (s.clearIdx p).devTime = s.devTime := rfl
@[simp] theorem State.clearIdx_free (p : Nat → Nat → Bool) : (s.clearIdx p).free = s.free := rfl
@[simp] theorem State.clearIdx_events (p : Nat → Nat → Bool) : (s.clearIdx p).events = s.events := rfl
@[simp] theorem State.clearIdx_latched (p : Nat → Nat → Bool) : (s.clearIdx p).latched = s.latched := rfl
@[simp] theorem State.clearIdx_levels (p : Nat → Nat → Bool) : (s.clearIdx p).levels = s.levels := rfl
@[simp] theorem State.clearIdx_out (p : Nat → Nat → Bool) : (s.clearIdx p).out = s.out := rfl
@[simp] theorem State.clearIdx_mem (p : Nat → Nat → Bool) : (s.clearIdx p).mem = s.mem := rfl
@[simp] theorem State.clearIdx_flash (p : Nat → Nat → Bool) : (s.clearIdx p).flash = s.flash := rfl
@[simp] theorem State.clearIdx_fuse (p : Nat → Nat → Bool) : (s.clearIdx p).fuse = s.fuse := rfl
@[simp] theorem State.clearIdx_pow (p : Nat → Nat → Bool) : (s.clearIdx p).pow = s.pow := rfl
@[simp] theorem State.clearIdx_ctl (p : Nat → Nat → Bool) : (s.clearIdx p).ctl = s.ctl := rfl
@[simp] theorem State.clearIdx_srv (p : Nat → Nat → Bool) : (s.clearIdx p).srv = s.srv := rfl
@[simp] theorem State.clearIdx_tra (p : Nat → Nat → Bool) : (s.clearIdx p).tra = s.tra := rfl
@[simp] theorem State.clearIdx_cfg (p : Nat → Nat → Bool) : (s.clearIdx p).cfg = s.cfg := rfl
@[simp] theorem State.clearIdx_cnv (p : Nat → Nat → Bool) : (s.clearIdx p).cnv = s.cnv := rfl
@[simp] theorem State.clearIdx_tx (p : Nat → Nat → Bool) : (s.clearIdx p).tx = s.tx := rfl
@[simp] theorem State.clearIdx_rx (p : Nat → Nat → Bool) : (s.clearIdx p).rx = s.rx := rfl
@[simp] theorem State.clearIdx_fec (p : Nat → Nat → Bool) : (s.clearIdx p).fec = s.fec := rfl
@[simp] theorem State.clearIdx_frm (p : Nat → Nat → Bool) : (s.clearIdx p).frm = s.frm := rfl
@[simp] theorem State.clearIdx_grm (p : Nat → Nat → Bool) : (s.clearIdx p).grm = s.grm := rfl
@[simp] theorem State.clearIdx_sls (p : Nat → Nat → Bool) : (s.clearIdx p).sls = s.sls := rfl
@[simp] theorem State.clearIdx_pic (p : Nat → Nat → Bool) : (s.clearIdx p).pic = s.pic := rfl
@[simp] theorem State.clearIdx_tim (p : Nat → Nat → Bool) : (s.clearIdx p).tim = s.tim := rfl
@[simp] theorem State.clearIdx_lan (p : Nat → Nat → Bool) : (s.clearIdx p).lan = s.lan := rfl
@[simp] theorem State.clearIdx_bob (p : Nat → Nat → Bool) : (s.clearIdx p).bob = s.bob := rfl
@[simp] theorem State.clearIdx_eng (p : Nat → Nat → Bool) : (s.clearIdx p).eng = s.eng := rfl
@[simp] theorem State.clearIdx_mat (p : Nat → Nat → Bool) : (s.clearIdx p).mat = s.mat := rfl
@[simp] theorem State.clearIdx_mms (p : Nat → Nat → Bool) : (s.clearIdx p).mms = s.mms := rfl
@[simp] theorem State.clearIdx_boot (p : Nat → Nat → Bool) : (s.clearIdx p).boot = s.boot := rfl
@[simp] theorem State.clearIdx_tel (p : Nat → Nat → Bool) : (s.clearIdx p).tel = s.tel := rfl
@[simp] theorem State.clearIdx_mode (p : Nat → Nat → Bool) : (s.clearIdx p).mode = s.mode := rfl
@[simp] theorem State.clearIdx_is1608 (p : Nat → Nat → Bool) : (s.clearIdx p).is1608 = s.is1608 := rfl
@[simp] theorem State.clearIdx_noSeal (p : Nat → Nat → Bool) : (s.clearIdx p).noSeal = s.noSeal := rfl
@[simp] theorem State.clearIdx_freeNat (p : Nat → Nat → Bool) : (s.clearIdx p).freeNat = s.freeNat := rfl
@[simp] theorem State.clearIdx_freeBool (p : Nat → Nat → Bool) : (s.clearIdx p).freeBool = s.freeBool := rfl
@[simp] theorem State.clearIdx_on (p : Nat → Nat → Bool) (d : Nat) : (s.clearIdx p).on d = s.on d := rfl
@[simp] theorem State.clearIdx_inMode (p : Nat → Nat → Bool) (m : Mode) : (s.clearIdx p).inMode m = s.inMode m := rfl
@[simp] theorem State.clearIdx_hasIdx (p : Nat → Nat → Bool) (d : Nat) : (s.clearIdx p).hasIdx d = s.hasIdx d := rfl

/-! ### `State.forget` -/
@[simp] theorem State.forget_pending (p : Nat → Bool) (c : Cls → Bool) : (s.forget p c).pending = s.pending := rfl
@[simp] theorem State.forget_uptime (p : Nat → Bool) (c : Cls → Bool) : (s.forget p c).uptime = s.uptime := rfl
@[simp] theorem State.forget_devTime (p : Nat → Bool) (c : Cls → Bool) : (s.forget p c).devTime = s.devTime := rfl
@[simp] theorem State.forget_free (p : Nat → Bool) (c : Cls → Bool) : (s.forget p c).free = s.free := rfl
@[simp] theorem State.forget_events (p : Nat → Bool) (c : Cls → Bool) : (s.forget p c).events = s.events := rfl
@[simp] theorem State.forget_latched (p : Nat → Bool) (c : Cls → Bool) : (s.forget p c).latched = s.latched := rfl
@[simp] theorem State.forget_levels (p : Nat → Bool) (c : Cls → Bool) : (s.forget p c).levels = s.levels := rfl
@[simp] theorem State.forget_out (p : Nat → Bool) (c : Cls → Bool) : (s.forget p c).out = s.out := rfl
@[simp] theorem State.forget_mem (p : Nat → Bool) (c : Cls → Bool) : (s.forget p c).mem = s.mem := rfl
@[simp] theorem State.forget_flash (p : Nat → Bool) (c : Cls → Bool) : (s.forget p c).flash = s.flash := rfl
@[simp] theorem State.forget_fuse (p : Nat → Bool) (c : Cls → Bool) : (s.forget p c).fuse = s.fuse := rfl
@[simp] theorem State.forget_pow (p : Nat → Bool) (c : Cls → Bool) : (s.forget p c).pow = s.pow := rfl
@[simp] theorem State.forget_ctl (p : Nat → Bool) (c : Cls → Bool) : (s.forget p c).ctl = s.ctl := rfl
@[simp] theorem State.forget_srv (p : Nat → Bool) (c : Cls → Bool) : (s.forget p c).srv = s.srv := rfl
@[simp] theorem State.forget_tra (p : Nat → Bool) (c : Cls → Bool) : (s.forget p c).tra = s.tra := rfl
@[simp] theorem State.forget_cfg (p : Nat → Bool) (c : Cls → Bool) : (s.forget p c).cfg = s.cfg := rfl
@[simp] theorem State.forget_cnv (p : Nat → Bool) (c : Cls → Bool) : (s.forget p c).cnv = s.cnv := rfl
@[simp] theorem State.forget_tx (p : Nat → Bool) (c : Cls → Bool) : (s.forget p c).tx = s.tx := rfl
@[simp] theorem State.forget_rx (p : Nat → Bool) (c : Cls → Bool) : (s.forget p c).rx = s.rx := rfl
@[simp] theorem State.forget_fec (p : Nat → Bool) (c : Cls → Bool) : (s.forget p c).fec = s.fec := rfl
@[simp] theorem State.forget_frm (p : Nat → Bool) (c : Cls → Bool) : (s.forget p c).frm = s.frm := rfl
@[simp] theorem State.forget_grm (p : Nat → Bool) (c : Cls → Bool) : (s.forget p c).grm = s.grm := rfl
@[simp] theorem State.forget_sls (p : Nat → Bool) (c : Cls → Bool) : (s.forget p c).sls = s.sls := rfl
@[simp] theorem State.forget_pic (p : Nat → Bool) (c : Cls → Bool) : (s.forget p c).pic = s.pic := rfl
@[simp] theorem State.forget_tim (p : Nat → Bool) (c : Cls → Bool) : (s.forget p c).tim = s.tim := rfl
@[simp] theorem State.forget_lan (p : Nat → Bool) (c : Cls → Bool) : (s.forget p c).lan = s.lan := rfl
@[simp] theorem State.forget_bob (p : Nat → Bool) (c : Cls → Bool) : (s.forget p c).bob = s.bob := rfl
@[simp] theorem State.forget_eng (p : Nat → Bool) (c : Cls → Bool) : (s.forget p c).eng = s.eng := rfl
@[simp] theorem State.forget_mat (p : Nat → Bool) (c : Cls → Bool) : (s.forget p c).mat = s.mat := rfl
@[simp] theorem State.forget_mms (p : Nat → Bool) (c : Cls → Bool) : (s.forget p c).mms = s.mms := rfl
@[simp] theorem State.forget_boot (p : Nat → Bool) (c : Cls → Bool) : (s.forget p c).boot = s.boot := rfl
@[simp] theorem State.forget_tel (p : Nat → Bool) (c : Cls → Bool) : (s.forget p c).tel = s.tel := rfl
@[simp] theorem State.forget_mode (p : Nat → Bool) (c : Cls → Bool) : (s.forget p c).mode = s.mode := rfl
@[simp] theorem State.forget_is1608 (p : Nat → Bool) (c : Cls → Bool) : (s.forget p c).is1608 = s.is1608 := rfl
@[simp] theorem State.forget_noSeal (p : Nat → Bool) (c : Cls → Bool) : (s.forget p c).noSeal = s.noSeal := rfl
@[simp] theorem State.forget_freeNat (p : Nat → Bool) (c : Cls → Bool) : (s.forget p c).freeNat = s.freeNat := rfl
@[simp] theorem State.forget_freeBool (p : Nat → Bool) (c : Cls → Bool) : (s.forget p c).freeBool = s.freeBool := rfl
@[simp] theorem State.forget_on (p : Nat → Bool) (c : Cls → Bool) (d : Nat) : (s.forget p c).on d = s.on d := rfl
@[simp] theorem State.forget_inMode (p : Nat → Bool) (c : Cls → Bool) (m : Mode) : (s.forget p c).inMode m = s.inMode m := rfl
@[simp] theorem State.forget_hasIdx (p : Nat → Bool) (c : Cls → Bool) (d : Nat) : (s.forget p c).hasIdx d = s.hasIdx d := rfl

/-! ### `State.emit` -/
@[simp] theorem State.emit_pending (o : Out) : (s.emit o).pending = s.pending := rfl
@[simp] theorem State.emit_uptime (o : Out) : (s.emit o).uptime = s.uptime := rfl
@[simp] theorem State.emit_devTime (o : Out) : (s.emit o).devTime = s.devTime := rfl
@[simp] theorem State.emit_free (o : Out) : (s.emit o).free = s.free := rfl
@[simp] theorem State.emit_dict (o : Out) : (s.emit o).dict = s.dict := rfl
@[simp] theorem State.emit_events (o : Out) : (s.emit o).events = s.events := rfl
@[simp] theorem State.emit_latched (o : Out) : (s.emit o).latched = s.latched := rfl
@[simp] theorem State.emit_levels (o : Out) : (s.emit o).levels = s.levels := rfl
@[simp] theorem State.emit_mem (o : Out) : (s.emit o).mem = s.mem := rfl
@[simp] theorem State.emit_flash (o : Out) : (s.emit o).flash = s.flash := rfl
@[simp] theorem State.emit_fuse (o : Out) : (s.emit o).fuse = s.fuse := rfl
@[simp] theorem State.emit_pow (o : Out) : (s.emit o).pow = s.pow := rfl
@[simp] theorem State.emit_ctl (o : Out) : (s.emit o).ctl = s.ctl := rfl
@[simp] theorem State.emit_srv (o : Out) : (s.emit o).srv = s.srv := rfl
@[simp] theorem State.emit_tra (o : Out) : (s.emit o).tra = s.tra := rfl
@[simp] theorem State.emit_cfg (o : Out) : (s.emit o).cfg = s.cfg := rfl
@[simp] theorem State.emit_cnv (o : Out) : (s.emit o).cnv = s.cnv := rfl
@[simp] theorem State.emit_tx (o : Out) : (s.emit o).tx = s.tx := rfl
@[simp] theorem State.emit_rx (o : Out) : (s.emit o).rx = s.rx := rfl
@[simp] theorem State.emit_fec (o : Out) : (s.emit o).fec = s.fec := rfl
@[simp] theorem State.emit_frm (o : Out) : (s.emit o).frm = s.frm := rfl
@[simp] theorem State.emit_grm (o : Out) : (s.emit o).grm = s.grm := rfl
@[simp] theorem State.emit_sls (o : Out) : (s.emit o).sls = s.sls := rfl
@[simp] theorem State.emit_pic (o : Out) : (s.emit o).pic = s.pic := rfl
@[simp] theorem State.emit_tim (o : Out) : (s.emit o).tim = s.tim := rfl
@[simp] theorem State.emit_lan (o : Out) : (s.emit o).lan = s.lan := rfl
@[simp] theorem State.emit_bob (o : Out) : (s.emit o).bob = s.bob := rfl
@[simp] theorem State.emit_eng (o : Out) : (s.emit o).eng = s.eng := rfl
@[simp] theorem State.emit_mat (o : Out) : (s.emit o).mat = s.mat := rfl
@[simp] theorem State.emit_mms (o : Out) : (s.emit o).mms = s.mms := rfl
@[simp] theorem State.emit_boot (o : Out) : (s.emit o).boot = s.boot := rfl
@[simp] theorem State.emit_tel (o : Out) : (s.emit o).tel = s.tel := rfl
@[simp] theorem State.emit_on (o : Out) (d : Nat) : (s.emit o).on d = s.on d := rfl
@[simp] theorem State.emit_inMode (o : Out) (m : Mode) : (s.emit o).inMode m = s.inMode m := rfl
@[simp] theorem State.emit_hasIdx (o : Out) (d : Nat) : (s.emit o).hasIdx d = s.hasIdx d := rfl
@[simp] theorem State.emit_rd (o : Out) (x y : Nat) : (s.emit o).rd x y = s.rd x y := rfl
@[simp] theorem State.emit_rdI (o : Out) (x y : Nat) : (s.emit o).rdI x y = s.rdI x y := rfl
@[simp] theorem State.emit_rdN (o : Out) (x y : Nat) : (s.emit o).rdN x y = s.rdN x y := rfl
@[simp] theorem State.emit_rdB (o : Out) (x y : Nat) : (s.emit o).rdB x y = s.rdB x y := rfl
@[simp] theorem State.emit_rdS (o : Out) (x y : Nat) : (s.emit o).rdS x y = s.rdS x y := rfl
@[simp] theorem State.emit_rdBit (o : Out) (x y z : Nat) : (s.emit o).rdBit x y z = s.rdBit x y z := rfl

/-! ### `State.drawn` -/
@[simp] theorem State.drawn_pending : (s.drawn).pending = s.pending := rfl
@[simp] theorem State.drawn_uptime : (s.drawn).uptime = s.uptime := rfl
@[simp] theorem State.drawn_devTime : (s.drawn).devTime = s.devTime := rfl
@[simp] theorem State.drawn_dict : (s.drawn).dict = s.dict := rfl
@[simp] theorem State.drawn_events : (s.drawn).events = s.events := rfl
@[simp] theorem State.drawn_latched : (s.drawn).latched = s.latched := rfl
@[simp] theorem State.drawn_levels : (s.drawn).levels = s.levels := rfl
@[simp] theorem State.drawn_out : (s.drawn).out = s.out := rfl
@[simp] theorem State.drawn_mem : (s.drawn).mem = s.mem := rfl
@[simp] theorem State.drawn_flash : (s.drawn).flash = s.flash := rfl
@[simp] theorem State.drawn_fuse : (s.drawn).fuse = s.fuse := rfl
@[simp] theorem State.drawn_pow : (s.drawn).pow = s.pow := rfl
@[simp] theorem State.drawn_ctl : (s.drawn).ctl = s.ctl := rfl
@[simp] theorem State.drawn_srv : (s.drawn).srv = s.srv := rfl
@[simp] theorem State.drawn_tra : (s.drawn).tra = s.tra := rfl
@[simp] theorem State.drawn_cfg : (s.drawn).cfg = s.cfg := rfl
@[simp] theorem State.drawn_cnv : (s.drawn).cnv = s.cnv := rfl
@[simp] theorem State.drawn_tx : (s.drawn).tx = s.tx := rfl
@[simp] theorem State.drawn_rx : (s.drawn).rx = s.rx := rfl
@[simp] theorem State.drawn_fec : (s.drawn).fec = s.fec := rfl
@[simp] theorem State.drawn_frm : (s.drawn).frm = s.frm := rfl
@[simp] theorem State.drawn_grm : (s.drawn).grm = s.grm := rfl
@[simp] theorem State.drawn_sls : (s.drawn).sls = s.sls := rfl
@[simp] theorem State.drawn_pic : (s.drawn).pic = s.pic := rfl
@[simp] theorem State.drawn_tim : (s.drawn).tim = s.tim := rfl
@[simp] theorem State.drawn_lan : (s.drawn).lan = s.lan := rfl
@[simp] theorem State.drawn_bob : (s.drawn).bob = s.bob := rfl
@[simp] theorem State.drawn_eng : (s.drawn).eng = s.eng := rfl
@[simp] theorem State.drawn_mat : (s.drawn).mat = s.mat := rfl
@[simp] theorem State.drawn_mms : (s.drawn).mms = s.mms := rfl
@[simp] theorem State.drawn_boot : (s.drawn).boot = s.boot := rfl
@[simp] theorem State.drawn_tel : (s.drawn).tel = s.tel := rfl
@[simp] theorem State.drawn_on (d : Nat) : (s.drawn).on d = s.on d := rfl
@[simp] theorem State.drawn_inMode (m : Mode) : (s.drawn).inMode m = s.inMode m := rfl
@[simp] theorem State.drawn_hasIdx (d : Nat) : (s.drawn).hasIdx d = s.hasIdx d := rfl
@[simp] theorem State.drawn_rd (x y : Nat) : (s.drawn).rd x y = s.rd x y := rfl
@[simp] theorem State.drawn_rdI (x y : Nat) : (s.drawn).rdI x y = s.rdI x y := rfl
@[simp] theorem State.drawn_rdN (x y : Nat) : (s.drawn).rdN x y = s.rdN x y := rfl
@[simp] theorem State.drawn_rdB (x y : Nat) : (s.drawn).rdB x y = s.rdB x y := rfl
@[simp] theorem State.drawn_rdS (x y : Nat) : (s.drawn).rdS x y = s.rdS x y := rfl
@[simp] theorem State.drawn_rdBit (x y z : Nat) : (s.drawn).rdBit x y z = s.rdBit x y z := rfl

/-! ### `State.memWrite` -/
@[simp] theorem State.memWrite_pending (a : Nat) (b : List Byte) : (s.memWrite a b).pending = s.pending := rfl
@[simp] theorem State.memWrite_uptime (a : Nat) (b : List Byte) : (s.memWrite a b).uptime = s.uptime := rfl
@[simp] theorem State.memWrite_devTime (a : Nat) (b : List Byte) : (s.memWrite a b).devTime = s.devTime := rfl
@[simp] theorem State.memWrite_free (a : Nat) (b : List Byte) : (s.memWrite a b).free = s.free := rfl
@[simp] theorem State.memWrite_dict (a : Nat) (b : List Byte) : (s.memWrite a b).dict = s.dict := rfl
@[simp] theorem State.memWrite_events (a : Nat) (b : List Byte) : (s.memWrite a b).events = s.events := rfl
@[simp] theorem State.memWrite_latched (a : Nat) (b : List Byte) : (s.memWrite a b).latched = s.latched := rfl
@[simp] theorem State.memWrite_levels (a : Nat) (b : List Byte) : (s.memWrite a b).levels = s.levels := rfl
@[simp] theorem State.memWrite_out (a : Nat) (b : List Byte) : (s.memWrite a b).out = s.out := rfl
@[simp] theorem State.memWrite_flash (a : Nat) (b : List Byte) : (s.memWrite a b).flash = s.flash := rfl
@[simp] theorem State.memWrite_fuse (a : Nat) (b : List Byte) : (s.memWrite a b).fuse = s.fuse := rfl
@[simp] theorem State.memWrite_pow (a : Nat) (b : List Byte) : (s.memWrite a b).pow = s.pow := rfl
@[simp] theorem State.memWrite_ctl (a : Nat) (b : List Byte) : (s.memWrite a b).ctl = s.ctl := rfl
@[simp] theorem State.memWrite_srv (a : Nat) (b : List Byte) : (s.memWrite a b).srv = s.srv := rfl
@[simp] theorem State.memWrite_tra (a : Nat) (b : List Byte) : (s.memWrite a b).tra = s.tra := rfl
@[simp] theorem State.memWrite_cfg (a : Nat) (b : List Byte) : (s.memWrite a b).cfg = s.cfg := rfl
@[simp] theorem State.memWrite_cnv (a : Nat) (b : List Byte) : (s.memWrite a b).cnv = s.cnv := rfl
@[simp] theorem State.memWrite_tx (a : Nat) (b : List Byte) : (s.memWrite a b).tx = s.tx := rfl
@[simp] theorem State.memWrite_rx (a : Nat) (b : List Byte) : (s.memWrite a b).rx = s.rx := rfl
@[simp] theorem State.memWrite_fec (a : Nat) (b : List Byte) : (s.memWrite a b).fec = s.fec := rfl
@[simp] theorem State.memWrite_frm (a : Nat) (b : List Byte) : (s.memWrite a b).frm = s.frm := rfl
@[simp] theorem State.memWrite_grm (a : Nat) (b : List Byte) : (s.memWrite a b).grm = s.grm := rfl
@[simp] theorem State.memWrite_sls (a : Nat) (b : List Byte) : (s.memWrite a b).sls = s.sls := rfl
@[simp] theorem State.memWrite_pic (a : Nat) (b : List Byte) : (s.memWrite a b).pic = s.pic := rfl
@[simp] theorem State.memWrite_tim (a : Nat) (b : List Byte) : (s.memWrite a b).tim = s.tim := rfl
@[simp] theorem State.memWrite_lan (a : Nat) (b : List Byte) : (s.memWrite a b).lan = s.lan := rfl
@[simp] theorem State.memWrite_bob (a : Nat) (b : List Byte) : (s.memWrite a b).bob = s.bob := rfl
@[simp] theorem State.memWrite_eng (a : Nat) (b : List Byte) : (s.memWrite a b).eng = s.eng := rfl
@[simp] theorem State.memWrite_mat (a : Nat) (b : List Byte) : (s.memWrite a b).mat = s.mat := rfl
@[simp] theorem State.memWrite_mms (a : Nat) (b : List Byte) : (s.memWrite a b).mms = s.mms := rfl
@[simp] theorem State.memWrite_boot (a : Nat) (b : List Byte) : (s.memWrite a b).boot = s.boot := rfl
@[simp] theorem State.memWrite_tel (a : Nat) (b : List Byte) : (s.memWrite a b).tel = s.tel := rfl
@[simp] theorem State.memWrite_on (a : Nat) (b : List Byte) (d : Nat) : (s.memWrite a b).on d = s.on d := rfl
@[simp] theorem State.memWrite_inMode (a : Nat) (b : List Byte) (m : Mode) : (s.memWrite a b).inMode m = s.inMode m := rfl
@[simp] theorem State.memWrite_hasIdx (a : Nat) (b : List Byte) (d : Nat) : (s.memWrite a b).hasIdx d = s.hasIdx d := rfl
@[simp] theorem State.memWrite_rd (a : Nat) (b : List Byte) (x y : Nat) : (s.memWrite a b).rd x y = s.rd x y := rfl
@[simp] theorem State.memWrite_rdI (a : Nat) (b : List Byte) (x y : Nat) : (s.memWrite a b).rdI x y = s.rdI x y := rfl
@[simp] theorem State.memWrite_rdN (a : Nat) (b : List Byte) (x y : Nat) : (s.memWrite a b).rdN x y = s.rdN x y := rfl
@[simp] theorem State.memWrite_rdB (a : Nat) (b : List Byte) (x y : Nat) : (s.memWrite a b).rdB x y = s.rdB x y := rfl
@[simp] theorem State.memWrite_rdS (a : Nat) (b : List Byte) (x y : Nat) : (s.memWrite a b).rdS x y = s.rdS x y := rfl
@[simp] theorem State.memWrite_rdBit (a : Nat) (b : List Byte) (x y z : Nat) : (s.memWrite a b).rdBit x y z = s.rdBit x y z := rfl

/-! ### `State.flashSet` -/
@[simp] theorem State.flashSet_pending (a : Nat) (b : List Byte) : (s.flashSet a b).pending = s.pending := rfl
@[simp] theorem State.flashSet_uptime (a : Nat) (b : List Byte) : (s.flashSet a b).uptime = s.uptime := rfl
@[simp] theorem State.flashSet_devTime (a : Nat) (b : List Byte) : (s.flashSet a b).devTime = s.devTime := rfl
@[simp] theorem State.flashSet_free (a : Nat) (b : List Byte) : (s.flashSet a b).free = s.free := rfl
@[simp] theorem State.flashSet_dict (a : Nat) (b : List Byte) : (s.flashSet a b).dict = s.dict := rfl
@[simp] theorem State.flashSet_events (a : Nat) (b : List Byte) : (s.flashSet a b).events = s.events := rfl
@[simp] theorem State.flashSet_latched (a : Nat) (b : List Byte) : (s.flashSet a b).latched = s.latched := rfl
@[simp] theorem State.flashSet_levels (a : Nat) (b : List Byte) : (s.flashSet a b).levels = s.levels := rfl
@[simp] theorem State.flashSet_out (a : Nat) (b : List Byte) : (s.flashSet a b).out = s.out := rfl
@[simp] theorem State.flashSet_mem (a : Nat) (b : List Byte) : (s.flashSet a b).mem = s.mem := rfl
@[simp] theorem State.flashSet_fuse (a : Nat) (b : List Byte) : (s.flashSet a b).fuse = s.fuse := rfl
@[simp] theorem State.flashSet_pow (a : Nat) (b : List Byte) : (s.flashSet a b).pow = s.pow := rfl
@[simp] theorem State.flashSet_ctl (a : Nat) (b : List Byte) : (s.flashSet a b).ctl = s.ctl := rfl
@[simp] theorem State.flashSet_srv (a : Nat) (b : List Byte) : (s.flashSet a b).srv = s.srv := rfl
@[simp] theorem State.flashSet_tra (a : Nat) (b : List Byte) : (s.flashSet a b).tra = s.tra := rfl
@[simp] theorem State.flashSet_cfg (a : Nat) (b : List Byte) : (s.flashSet a b).cfg = s.cfg := rfl
@[simp] theorem State.flashSet_cnv (a : Nat) (b : List Byte) : (s.flashSet a b).cnv = s.cnv := rfl
@[simp] theorem State.flashSet_tx (a : Nat) (b : List Byte) : (s.flashSet a b).tx = s.tx := rfl
@[simp] theorem State.flashSet_rx (a : Nat) (b : List Byte) : (s.flashSet a b).rx = s.rx := rfl
@[simp] theorem State.flashSet_fec (a : Nat) (b : List Byte) : (s.flashSet a b).fec = s.fec := rfl
@[simp] theorem State.flashSet_frm (a : Nat) (b : List Byte) : (s.flashSet a b).frm = s.frm := rfl
@[simp] theorem State.flashSet_grm (a : Nat) (b : List Byte) : (s.flashSet a b).grm = s.grm := rfl
@[simp] theorem State.flashSet_sls (a : Nat) (b : List Byte) : (s.flashSet a b).sls = s.sls := rfl
@[simp] theorem State.flashSet_pic (a : Nat) (b : List Byte) : (s.flashSet a b).pic = s.pic := rfl
@[simp] theorem State.flashSet_tim (a : Nat) (b : List Byte) : (s.flashSet a b).tim = s.tim := rfl
@[simp] theorem State.flashSet_lan (a : Nat) (b : List Byte) : (s.flashSet a b).lan = s.lan := rfl
@[simp] theorem State.flashSet_bob (a : Nat) (b : List Byte) : (s.flashSet a b).bob = s.bob := rfl
@[simp] theorem State.flashSet_eng (a : Nat) (b : List Byte) : (s.flashSet a b).eng = s.eng := rfl
@[simp] theorem State.flashSet_mat (a : Nat) (b : List Byte) : (s.flashSet a b).mat = s.mat := rfl
@[simp] theorem State.flashSet_mms (a : Nat) (b : List Byte) : (s.flashSet a b).mms = s.mms := rfl
@[simp] theorem State.flashSet_boot (a : Nat) (b : List Byte) : (s.flashSet a b).boot = s.boot := rfl
@[simp] theorem State.flashSet_tel (a : Nat) (b : List Byte) : (s.flashSet a b).tel = s.tel := rfl
@[simp] theorem State.flashSet_on (a : Nat) (b : List Byte) (d : Nat) : (s.flashSet a b).on d = s.on d := rfl
@[simp] theorem State.flashSet_inMode (a : Nat) (b : List Byte) (m : Mode) : (s.flashSet a b).inMode m = s.inMode m := rfl
@[simp] theorem State.flashSet_hasIdx (a : Nat) (b : List Byte) (d : Nat) : (s.flashSet a b).hasIdx d = s.hasIdx d := rfl
@[simp] theorem State.flashSet_rd (a : Nat) (b : List Byte) (x y : Nat) : (s.flashSet a b).rd x y = s.rd x y := rfl
@[simp] theorem State.flashSet_rdI (a : Nat) (b : List Byte) (x y : Nat) : (s.flashSet a b).rdI x y = s.rdI x y := rfl
@[simp] theorem State.flashSet_rdN (a : Nat) (b : List Byte) (x y : Nat) : (s.flashSet a b).rdN x y = s.rdN x y := rfl
@[simp] theorem State.flashSet_rdB (a : Nat) (b : List Byte) (x y : Nat) : (s.flashSet a b).rdB x y = s.rdB x y := rfl
@[simp] theorem State.flashSet_rdS (a : Nat) (b : List Byte) (x y : Nat) : (s.flashSet a b).rdS x y = s.rdS x y := rfl
@[simp] theorem State.flashSet_rdBit (a : Nat) (b : List Byte) (x y z : Nat) : (s.flashSet a b).rdBit x y z = s.rdBit x y z := rfl

/-! ### `State.flashErase` -/
@[simp] theorem State.flashErase_pending (a n : Nat) : (s.flashErase a n).pending = s.pending := rfl
@[simp] theorem State.flashErase_uptime (a n : Nat) : (s.flashErase a n).uptime = s.uptime := rfl
@[simp] theorem State.flashErase_devTime (a n : Nat) : (s.flashErase a n).devTime = s.devTime := rfl
@[simp] theorem State.flashErase_free (a n : Nat) : (s.flashErase a n).free = s.free := rfl
@[simp] theorem State.flashErase_dict (a n : Nat) : (s.flashErase a n).dict = s.dict := rfl
@[simp] theorem State.flashErase_events (a n : Nat) : (s.flashErase a n).events = s.events := rfl
@[simp] theorem State.flashErase_latched (a n : Nat) : (s.flashErase a n).latched = s.latched := rfl
@[simp] theorem State.flashErase_levels (a n : Nat) : (s.flashErase a n).levels = s.levels := rfl
@[simp] theorem State.flashErase_out (a n : Nat) : (s.flashErase a n).out = s.out := rfl
@[simp] theorem State.flashErase_mem (a n : Nat) : (s.flashErase a n).mem = s.mem := rfl
@[simp] theorem State.flashErase_fuse (a n : Nat) : (s.flashErase a n).fuse = s.fuse := rfl
@[simp] theorem State.flashErase_pow (a n : Nat) : (s.flashErase a n).pow = s.pow := rfl
@[simp] theorem State.flashErase_ctl (a n : Nat) : (s.flashErase a n).ctl = s.ctl := rfl
@[simp] theorem State.flashErase_srv (a n : Nat) : (s.flashErase a n).srv = s.srv := rfl
@[simp] theorem State.flashErase_tra (a n : Nat) : (s.flashErase a n).tra = s.tra := rfl
@[simp] theorem State.flashErase_cfg (a n : Nat) : (s.flashErase a n).cfg = s.cfg := rfl
@[simp] theorem State.flashErase_cnv (a n : Nat) : (s.flashErase a n).cnv = s.cnv := rfl
@[simp] theorem State.flashErase_tx (a n : Nat) : (s.flashErase a n).tx = s.tx := rfl
@[simp] theorem State.flashErase_rx (a n : Nat) : (s.flashErase a n).rx = s.rx := rfl
@[simp] theorem State.flashErase_fec (a n : Nat) : (s.flashErase a n).fec = s.fec := rfl
@[simp] theorem State.flashErase_frm (a n : Nat) : (s.flashErase a n).frm = s.frm := rfl
@[simp] theorem State.flashErase_grm (a n : Nat) : (s.flashErase a n).grm = s.grm := rfl
@[simp] theorem State.flashErase_sls (a n : Nat) : (s.flashErase a n).sls = s.sls := rfl
@[simp] theorem State.flashErase_pic (a n : Nat) : (s.flashErase a n).pic = s.pic := rfl
@[simp] theorem State.flashErase_tim (a n : Nat) : (s.flashErase a n).tim = s.tim := rfl
@[simp] theorem State.flashErase_lan (a n : Nat) : (s.flashErase a n).lan = s.lan := rfl
@[simp] theorem State.flashErase_bob (a n : Nat) : (s.flashErase a n).bob = s.bob := rfl
@[simp] theorem State.flashErase_eng (a n : Nat) : (s.flashErase a n).eng = s.eng := rfl
@[simp] theorem State.flashErase_mat (a n : Nat) : (s.flashErase a n).mat = s.mat := rfl
@[simp] theorem State.flashErase_mms (a n : Nat) : (s.flashErase a n).mms = s.mms := rfl
@[simp] theorem State.flashErase_boot (a n : Nat) : (s.flashErase a n).boot = s.boot := rfl
@[simp] theorem State.flashErase_tel (a n : Nat) : (s.flashErase a n).tel = s.tel := rfl
@[simp] theorem State.flashErase_on (a n : Nat) (d : Nat) : (s.flashErase a n).on d = s.on d := rfl
@[simp] theorem State.flashErase_inMode (a n : Nat) (m : Mode) : (s.flashErase a n).inMode m = s.inMode m := rfl
@[simp] theorem State.flashErase_hasIdx (a n : Nat) (d : Nat) : (s.flashErase a n).hasIdx d = s.hasIdx d := rfl
@[simp] theorem State.flashErase_rd (a n : Nat) (x y : Nat) : (s.flashErase a n).rd x y = s.rd x y := rfl
@[simp] theorem State.flashErase_rdI (a n : Nat) (x y : Nat) : (s.flashErase a n).rdI x y = s.rdI x y := rfl
@[simp] theorem State.flashErase_rdN (a n : Nat) (x y : Nat) : (s.flashErase a n).rdN x y = s.rdN x y := rfl
@[simp] theorem State.flashErase_rdB (a n : Nat) (x y : Nat) : (s.flashErase a n).rdB x y = s.rdB x y := rfl
@[simp] theorem State.flashErase_rdS (a n : Nat) (x y : Nat) : (s.flashErase a n).rdS x y = s.rdS x y := rfl
@[simp] theorem State.flashErase_rdBit (a n : Nat) (x y z : Nat) : (s.flashErase a n).rdBit x y z = s.rdBit x y z := rfl

/-! ### `State.noteWrite` -/
@[simp] theorem State.noteWrite_pending (i j : Nat) : (s.noteWrite i j).pending = s.pending := by
  unfold State.noteWrite State.whenB
  dsimp only
  split
  · split <;> rfl
  · rfl
@[simp] theorem State.noteWrite_uptime (i j : Nat) : (s.noteWrite i j).uptime = s.uptime := by
  unfold State.noteWrite State.whenB
  dsimp only
  split
  · split <;> rfl
  · rfl
@[simp] theorem State.noteWrite_devTime (i j : Nat) : (s.noteWrite i j).devTime = s.devTime := by
  unfold State.noteWrite State.whenB
  dsimp only
  split
  · split <;> rfl
  · rfl
@[simp] theorem State.noteWrite_free (i j : Nat) : (s.noteWrite i j).free = s.free := by
  unfold State.noteWrite State.whenB
  dsimp only
  split
  · split <;> rfl
  · rfl
@[simp] theorem State.noteWrite_events (i j : Nat) : (s.noteWrite i j).events = s.events := by
  unfold State.noteWrite State.whenB
  dsimp only
  split
  · split <;> rfl
  · rfl
@[simp] theorem State.noteWrite_latched (i j : Nat) : (s.noteWrite i j).latched = s.latched := by
  unfold State.noteWrite State.whenB
  dsimp only
  split
  · split <;> rfl
  · rfl
@[simp] theorem State.noteWrite_levels (i j : Nat) : (s.noteWrite i j).levels = s.levels := by
  unfold State.noteWrite State.whenB
  dsimp only
  split
  · split <;> rfl
  · rfl
@[simp] theorem State.noteWrite_out (i j : Nat) : (s.noteWrite i j).out = s.out := by
  unfold State.noteWrite State.whenB
  dsimp only
  split
  · split <;> rfl
  · rfl
@[simp] theorem State.noteWrite_mem (i j : Nat) : (s.noteWrite i j).mem = s.mem := by
  unfold State.noteWrite State.whenB
  dsimp only
  split
  · split <;> rfl
  · rfl
@[simp] theorem State.noteWrite_flash (i j : Nat) : (s.noteWrite i j).flash = s.flash := by
  unfold State.noteWrite State.whenB
  dsimp only
  split
  · split <;> rfl
  · rfl
@[simp] theorem State.noteWrite_fuse (i j : Nat) : (s.noteWrite i j).fuse = s.fuse := by
  unfold State.noteWrite State.whenB
  dsimp only
  split
  · split <;> rfl
  · rfl
@[simp] theorem State.noteWrite_pow (i j : Nat) : (s.noteWrite i j).pow = s.pow := by
  unfold State.noteWrite State.whenB
  dsimp only
  split
  · split <;> rfl
  · rfl
@[simp] theorem State.noteWrite_ctl (i j : Nat) : (s.noteWrite i j).ctl = s.ctl := by
  unfold State.noteWrite State.whenB
  dsimp only
  split
  · split <;> rfl
  · rfl
@[simp] theorem State.noteWrite_tra (i j : Nat) : (s.noteWrite i j).tra = s.tra := by
  unfold State.noteWrite State.whenB
  dsimp only
  split
  · split <;> rfl
  · rfl
@[simp] theorem State.noteWrite_cfg (i j : Nat) : (s.noteWrite i j).cfg = s.cfg := by
  unfold State.noteWrite State.whenB
  dsimp only
  split
  · split <;> rfl
  · rfl
@[simp] theorem State.noteWrite_cnv (i j : Nat) : (s.noteWrite i j).cnv = s.cnv := by
  unfold State.noteWrite State.whenB
  dsimp only
  split
  · split <;> rfl
  · rfl
@[simp] theorem State.noteWrite_tx (i j : Nat) : (s.noteWrite i j).tx = s.tx := by
  unfold State.noteWrite State.whenB
  dsimp only
  split
  · split <;> rfl
  · rfl
@[simp] theorem State.noteWrite_rx (i j : Nat) : (s.noteWrite i j).rx = s.rx := by
  unfold State.noteWrite State.whenB
  dsimp only
  split
  · split <;> rfl
  · rfl
@[simp] theorem State.noteWrite_fec (i j : Nat) : (s.noteWrite i j).fec = s.fec := by
  unfold State.noteWrite State.whenB
  dsimp only
  split
  · split <;> rfl
  · rfl
@[simp] theorem State.noteWrite_frm (i j : Nat) : (s.noteWrite i j).frm = s.frm := by
  unfold State.noteWrite State.whenB
  dsimp only
  split
  · split <;> rfl
  · rfl
@[simp] theorem State.noteWrite_grm (i j : Nat) : (s.noteWrite i j).grm = s.grm := by
  unfold State.noteWrite State.whenB
  dsimp only
  split
  · split <;> rfl
  · rfl
@[simp] theorem State.noteWrite_sls (i j : Nat) : (s.noteWrite i j).sls = s.sls := by
  unfold State.noteWrite State.whenB
  dsimp only
  split
  · split <;> rfl
  · rfl
@[simp] theorem State.noteWrite_pic (i j : Nat) : (s.noteWrite i j).pic = s.pic := by
  unfold State.noteWrite State.whenB
  dsimp only
  split
  · split <;> rfl
  · rfl
@[simp] theorem State.noteWrite_tim (i j : Nat) : (s.noteWrite i j).tim = s.tim := by
  unfold State.noteWrite State.whenB
  dsimp only
  split
  · split <;> rfl
  · rfl
@[simp] theorem State.noteWrite_lan (i j : Nat) : (s.noteWrite i j).lan = s.lan := by
  unfold State.noteWrite State.whenB
  dsimp only
  split
  · split <;> rfl
  · rfl
@[simp] theorem State.noteWrite_bob (i j : Nat) : (s.noteWrite i j).bob = s.bob := by
  unfold State.noteWrite State.whenB
  dsimp only
  split
  · split <;> rfl
  · rfl
@[simp] theorem State.noteWrite_eng (i j : Nat) : (s.noteWrite i j).eng = s.eng := by
  unfold State.noteWrite State.whenB
  dsimp only
  split
  · split <;> rfl
  · rfl
@[simp] theorem State.noteWrite_mat (i j : Nat) : (s.noteWrite i j).mat = s.mat := by
  unfold State.noteWrite State.whenB
  dsimp only
  split
  · split <;> rfl
  · rfl
@[simp] theorem State.noteWrite_mms (i j : Nat) : (s.noteWrite i j).mms = s.mms := by
  unfold State.noteWrite State.whenB
  dsimp only
  split
  · split <;> rfl
  · rfl
@[simp] theorem State.noteWrite_boot (i j : Nat) : (s.noteWrite i j).boot = s.boot := by
  unfold State.noteWrite State.whenB
  dsimp only
  split
  · split <;> rfl
  · rfl
@[simp] theorem State.noteWrite_tel (i j : Nat) : (s.noteWrite i j).tel = s.tel := by
  unfold State.noteWrite State.whenB
  dsimp only
  split
  · split <;> rfl
  · rfl
/-! ### `State.commandCount` -/
@[simp] theorem State.commandCount_pending : (s.commandCount).pending = s.pending := by
  unfold State.commandCount
  split <;> rfl
@[simp] theorem State.commandCount_uptime : (s.commandCount).uptime = s.uptime := by
  unfold State.commandCount
  split <;> rfl
@[simp] theorem State.commandCount_devTime : (s.commandCount).devTime = s.devTime := by
  unfold State.commandCount
  split <;> rfl
@[simp] theorem State.commandCount_free : (s.commandCount).free = s.free := by
  unfold State.commandCount
  split <;> rfl
@[simp] theorem State.commandCount_events : (s.commandCount).events = s.events := by
  unfold State.commandCount
  split <;> rfl
@[simp] theorem State.commandCount_latched : (s.commandCount).latched = s.latched := by
  unfold State.commandCount
  split <;> rfl
@[simp] theorem State.commandCount_levels : (s.commandCount).levels = s.levels := by
  unfold State.commandCount
  split <;> rfl
@[simp] theorem State.commandCount_out : (s.commandCount).out = s.out := by
  unfold State.commandCount
  split <;> rfl
@[simp] theorem State.commandCount_mem : (s.commandCount).mem = s.mem := by
  unfold State.commandCount
  split <;> rfl
@[simp] theorem State.commandCount_flash : (s.commandCount).flash = s.flash := by
  unfold State.commandCount
  split <;> rfl
@[simp] theorem State.commandCount_fuse : (s.commandCount).fuse = s.fuse := by
  unfold State.commandCount
  split <;> rfl
@[simp] theorem State.commandCount_pow : (s.commandCount).pow = s.pow := by
  unfold State.commandCount
  split <;> rfl
@[simp] theorem State.commandCount_ctl : (s.commandCount).ctl = s.ctl := by
  unfold State.commandCount
  split <;> rfl
@[simp] theorem State.commandCount_srv : (s.commandCount).srv = s.srv := by
  unfold State.commandCount
  split <;> rfl
@[simp] theorem State.commandCount_tra : (s.commandCount).tra = s.tra := by
  unfold State.commandCount
  split <;> rfl
@[simp] theorem State.commandCount_cfg : (s.commandCount).cfg = s.cfg := by
  unfold State.commandCount
  split <;> rfl
@[simp] theorem State.commandCount_cnv : (s.commandCount).cnv = s.cnv := by
  unfold State.commandCount
  split <;> rfl
@[simp] theorem State.commandCount_tx : (s.commandCount).tx = s.tx := by
  unfold State.commandCount
  split <;> rfl
@[simp] theorem State.commandCount_rx : (s.commandCount).rx = s.rx := by
  unfold State.commandCount
  split <;> rfl
@[simp] theorem State.commandCount_fec : (s.commandCount).fec = s.fec := by
  unfold State.commandCount
  split <;> rfl
@[simp] theorem State.commandCount_frm : (s.commandCount).frm = s.frm := by
  unfold State.commandCount
  split <;> rfl
@[simp] theorem State.commandCount_grm : (s.commandCount).grm = s.grm := by
  unfold State.commandCount
  split <;> rfl
@[simp] theorem State.commandCount_sls : (s.commandCount).sls = s.sls := by
  unfold State.commandCount
  split <;> rfl
@[simp] theorem State.commandCount_pic : (s.commandCount).pic = s.pic := by
  unfold State.commandCount
  split <;> rfl
@[simp] theorem State.commandCount_tim : (s.commandCount).tim = s.tim := by
  unfold State.commandCount
  split <;> rfl
@[simp] theorem State.commandCount_lan : (s.commandCount).lan = s.lan := by
  unfold State.commandCount
  split <;> rfl
@[simp] theorem State.commandCount_bob : (s.commandCount).bob = s.bob := by
  unfold State.commandCount
  split <;> rfl
@[simp] theorem State.commandCount_eng : (s.commandCount).eng = s.eng := by
  unfold State.commandCount
  split <;> rfl
@[simp] theorem State.commandCount_mat : (s.commandCount).mat = s.mat := by
  unfold State.commandCount
  split <;> rfl
@[simp] theorem State.commandCount_mms : (s.commandCount).mms = s.mms := by
  unfold State.commandCount
  split <;> rfl
@[simp] theorem State.commandCount_boot : (s.commandCount).boot = s.boot := by
  unfold State.commandCount
  split <;> rfl
@[simp] theorem State.commandCount_tel : (s.commandCount).tel = s.tel := by
  unfold State.commandCount
  split <;> rfl

@[simp] theorem State.emit_out (o : Out) : (s.emit o).out = o :: s.out := rfl
@[simp] theorem State.drawn_free : s.drawn.free = s.free + 1 := rfl

end Sys2Proof.Machine
end

