-- ==== Sys2Proof/Laws/Ops.lean ====
section
/-! SUPPORT. What the shared operations do, said once: reading back what was written, the canonical form that every operation
over a store or a memory keeps, and the cases of judging a write. -/

namespace Sys2Proof.Machine

variable {α : Type}

/-! ### Sparse stores -/

theorem mem_lins (k : Nat) (v : α) (l : List (Nat × α)) (p : Nat × α) : p ∈ lins k v l ↔ p = (k, v) ∨ p ∈ l := by
  induction l with
  | nil => simp [lins]
  | cons q r ih =>
    simp only [lins]
    split
    · simp
    · simp only [List.mem_cons, ih]
      constructor <;> rintro (h | h | h) <;> simp [h]

theorem lget_lins_same (k : Nat) (v : α) (l : List (Nat × α)) (h : ∀ p ∈ l, p.1 ≠ k) : lget k (lins k v l) = some v := by
  induction l with
  | nil => simp [lins, lget]
  | cons q r ih =>
    simp only [lins]
    split
    · simp [lget]
    · simp only [lget, if_neg (h q (by simp))]
      exact ih fun p hp => h p (by simp [hp])

theorem lget_lins_ne (k j : Nat) (v : α) (l : List (Nat × α)) (hne : k ≠ j) : lget j (lins k v l) = lget j l := by
  induction l with
  | nil => simp [lins, lget, hne]
  | cons q r ih =>
    simp only [lins]
    split
    · simp [lget, hne]
    · simp [lget, ih]

theorem lget_ldel_same (k : Nat) (l : List (Nat × α)) : lget k (ldel k l) = none := by
  induction l with
  | nil => rfl
  | cons q r ih =>
    simp only [ldel, ne_eq, decide_not] at ih ⊢
    by_cases h : q.1 = k <;> simp [h, lget, ih]

theorem lget_ldel_ne (k j : Nat) (l : List (Nat × α)) (hne : j ≠ k) : lget j (ldel k l) = lget j l := by
  induction l with
  | nil => rfl
  | cons q r ih =>
    simp only [ldel, ne_eq, decide_not] at ih ⊢
    by_cases h : q.1 = k
    · simp [h, lget, ih, Ne.symm hne]
    · simp [h, lget, ih]

/-- What was put under a key is read back. -/
@[simp] theorem lget_lput_same (k : Nat) (v : α) (l : List (Nat × α)) : lget k (lput k v l) = some v :=
  lget_lins_same k v _ fun p hp => by simpa using (List.mem_filter.mp hp).2

/-- The other keys keep what they hold. -/
theorem lget_lput_ne (k j : Nat) (v : α) (l : List (Nat × α)) (hne : j ≠ k) : lget j (lput k v l) = lget j l := by
  rw [lput, lget_lins_ne _ _ _ _ (Ne.symm hne), lget_ldel_ne _ _ _ hne]

theorem rising_iff (l : List (Nat × α)) : rising l = true ↔ l.Pairwise fun p q => p.1 < q.1 := by
  induction l with
  | nil => simp [rising]
  | cons p r ih =>
    cases r with
    | nil => simp [rising]
    | cons q r =>
      simp only [rising, Bool.and_eq_true, decide_eq_true_eq, ih, List.pairwise_cons]
      constructor
      · rintro ⟨h, hq, hr⟩
        refine ⟨fun x hx => ?_, hq, hr⟩
        rcases List.mem_cons.mp hx with rfl | hx
        · exact h
        · exact Nat.lt_trans h (hq x hx)
      · rintro ⟨h, hr⟩
        exact ⟨h q (by simp), hr⟩

/-- A store loses keys and keeps its order. -/
theorem rising_filter (f : Nat × α → Bool) (l : List (Nat × α)) (h : rising l = true) : rising (l.filter f) = true := by
  rw [rising_iff] at h ⊢
  exact h.filter f

theorem rising_lins (k : Nat) (v : α) (l : List (Nat × α)) (h : rising l = true) (hk : ∀ p ∈ l, p.1 ≠ k) :
    rising (lins k v l) = true := by
  rw [rising_iff] at h ⊢
  induction l with
  | nil => simp [lins]
  | cons q r ih =>
    rw [List.pairwise_cons] at h
    simp only [lins]
    split
    · rename_i hlt
      refine List.pairwise_cons.mpr ⟨fun x hx => ?_, List.pairwise_cons.mpr h⟩
      rcases List.mem_cons.mp hx with rfl | hx
      · exact hlt
      · exact Nat.lt_trans hlt (h.1 x hx)
    · rename_i hge
      refine List.pairwise_cons.mpr ⟨fun x hx => ?_, ih h.2 fun p hp => hk p (by simp [hp])⟩
      rcases (mem_lins k v r x).mp hx with rfl | hx
      · exact Nat.lt_of_le_of_ne (Nat.le_of_not_lt hge) (hk q (by simp))
      · exact h.1 x hx

/-- A store in which a key is put keeps its order. -/
theorem rising_lput (k : Nat) (v : α) (l : List (Nat × α)) (h : rising l = true) : rising (lput k v l) = true :=
  rising_lins k v _ (rising_filter _ _ h) fun p hp => by simpa using (List.mem_filter.mp hp).2

/-! ### The dictionary store -/

/-- Keys name index and subindex. -/
theorem key_inj {i j i' j' : Nat} (hj : j < 256) (hj' : j' < 256) : key i j = key i' j' ↔ i = i' ∧ j = j' := by
  simp only [key]; omega

@[simp] theorem State.getK_setK_same (s : State) (k : Nat) (v : DVal) : (s.setK k v).getK k = v := by
  by_cases h : v = defaultOf k <;> simp [State.getK, State.setK, h, lget_ldel_same]

theorem State.getK_setK_ne (s : State) (k j : Nat) (v : DVal) (h : j ≠ k) : (s.setK k v).getK j = s.getK j := by
  by_cases hv : v = defaultOf k <;> simp [State.getK, State.setK, hv, lget_ldel_ne _ _ _ h, lget_lput_ne _ _ _ _ h]

@[simp] theorem State.rd_wr_same (s : State) (i j : Nat) (v : DVal) : (s.wr i j v).rd i j = v := by
  simp [State.rd, State.wr]

theorem State.rd_wr_ne (s : State) (i j i' j' : Nat) (v : DVal) (h : key i' j' ≠ key i j) :
    (s.wr i j v).rd i' j' = s.rd i' j' := by
  simp [State.rd, State.wr, State.getK_setK_ne _ _ _ _ h]

@[simp] theorem State.rdN_wrN_same (s : State) (i j v : Nat) : (s.wrN i j v).rdN i j = v := by
  simp [State.rdN, State.wrN, DVal.int]

theorem State.rdN_wrN_ne (s : State) (i j i' j' v : Nat) (h : key i' j' ≠ key i j) :
    (s.wrN i j v).rdN i' j' = s.rdN i' j' := by
  simp [State.rdN, State.wrN, State.rd_wr_ne _ _ _ _ _ _ h]

@[simp] theorem State.rdI_wrI_same (s : State) (i j : Nat) (v : Int) : (s.wrI i j v).rdI i j = v := by
  simp [State.rdI, State.wrI, DVal.int]

@[simp] theorem State.rdI_wrN_same (s : State) (i j v : Nat) : (s.wrN i j v).rdI i j = v := by
  simp [State.rdI, State.wrN, DVal.int]

@[simp] theorem State.rdS_wrS_same (s : State) (i j : Nat) (v : List Byte) : (s.wrS i j v).rdS i j = v := by
  simp [State.rdS, State.wrS, DVal.str]

@[simp] theorem State.rdB_wrB_same (s : State) (i j : Nat) (v : Bool) : (s.wrB i j v).rdB i j = v := by
  cases v <;> simp [State.rdB, State.wrB, State.wrN, DVal.int]

@[simp] theorem State.rdN_bump_same (s : State) (i j w n : Nat) : (s.bump i j w n).rdN i j = (s.rdN i j + n) % 2 ^ w := by
  simp [State.bump]

theorem State.rd_bump_ne (s : State) (i j i' j' w n : Nat) (h : key i' j' ≠ key i j) :
    (s.bump i j w n).rd i' j' = s.rd i' j' := by
  simp [State.bump, State.wrN, State.rd_wr_ne _ _ _ _ _ _ h]

/-- The canonical form of the store as two facts. -/
theorem dictWf_iff (d : List (Nat × DVal)) :
    dictWf d = true ↔ rising d = true ∧ ∀ p ∈ d, p.2 ≠ defaultOf p.1 := by
  simp [dictWf]

/-- Setting a value keeps the store canonical. -/
theorem dictWf_setK (s : State) (k : Nat) (v : DVal) (h : dictWf s.dict = true) : dictWf (s.setK k v).dict = true := by
  rw [dictWf_iff] at h ⊢
  by_cases hv : v = defaultOf k
  · simp only [State.setK, hv, if_true]
    exact ⟨rising_filter _ _ h.1, fun p hp => h.2 p (List.mem_filter.mp hp).1⟩
  · simp only [State.setK, hv, if_false]
    refine ⟨rising_lput _ _ _ h.1, fun p hp => ?_⟩
    rcases (mem_lins k v _ p).mp hp with rfl | hp
    · exact hv
    · exact h.2 p (List.mem_filter.mp hp).1

/-- Returning entries to their defaults keeps the store canonical. -/
theorem dictWf_filter (d : List (Nat × DVal)) (f : Nat × DVal → Bool) (h : dictWf d = true) : dictWf (d.filter f) = true := by
  rw [dictWf_iff] at h ⊢
  exact ⟨rising_filter _ _ h.1, fun p hp => h.2 p (List.mem_filter.mp hp).1⟩

theorem dictWf_clearIdx (s : State) (p : Nat → Nat → Bool) (h : dictWf s.dict = true) : dictWf (s.clearIdx p).dict = true :=
  dictWf_filter _ _ h

theorem dictWf_forget (s : State) (p : Nat → Bool) (c : Cls → Bool) (h : dictWf s.dict = true) :
    dictWf (s.forget p c).dict = true :=
  dictWf_filter _ _ h

/-! ### Byte memories -/

theorem Memory.wf_iff (d : Byte) (m : List Host.Cell) :
    Memory.wf d m = true ↔ rising m = true ∧ ∀ c ∈ m, c.2 ≠ d := by
  simp [Memory.wf]

/-- Writing a byte keeps a memory canonical. -/
theorem Memory.wf_cellPut (d : Byte) (m : List Host.Cell) (a : Nat) (b : Byte) (h : Memory.wf d m = true) :
    Memory.wf d (cellPut d m a b) = true := by
  rw [Memory.wf_iff] at h ⊢
  by_cases hb : b = d
  · simp only [cellPut, hb, if_true]
    exact ⟨rising_filter _ _ h.1, fun p hp => h.2 p (List.mem_filter.mp hp).1⟩
  · simp only [cellPut, hb, if_false]
    refine ⟨rising_lput _ _ _ h.1, fun p hp => ?_⟩
    rcases (mem_lins a b _ p).mp hp with rfl | hp
    · exact hb
    · exact h.2 p (List.mem_filter.mp hp).1

/-- Writing bytes keeps a memory canonical. -/
theorem Memory.wf_cellWrite (d : Byte) (l : List Byte) (m : List Host.Cell) (a : Nat) (h : Memory.wf d m = true) :
    Memory.wf d (cellWrite d m a l) = true := by
  induction l generalizing m a with
  | nil => exact h
  | cons b r ih => exact ih _ _ (Memory.wf_cellPut d m a b h)

/-- Erasing cells keeps a memory canonical. -/
theorem Memory.wf_filter (d : Byte) (m : List Host.Cell) (f : Host.Cell → Bool) (h : Memory.wf d m = true) :
    Memory.wf d (m.filter f) = true := by
  rw [Memory.wf_iff] at h ⊢
  exact ⟨rising_filter _ _ h.1, fun p hp => h.2 p (List.mem_filter.mp hp).1⟩

/-- On-chip memory stays canonical through its one writing operation. -/
theorem State.memWrite_wf (s : State) (a : Nat) (b : List Byte) (h : Memory.wf 0 s.mem = true) :
    Memory.wf 0 (s.memWrite a b).mem = true :=
  Memory.wf_cellWrite 0 b s.mem a h

/-- Flash stays canonical through its two changing operations. -/
theorem State.flashSet_wf (s : State) (a : Nat) (b : List Byte) (h : Memory.wf 0xFF s.flash = true) :
    Memory.wf 0xFF (s.flashSet a b).flash = true :=
  Memory.wf_cellWrite _ b s.flash a h
theorem State.flashErase_wf (s : State) (a n : Nat) (h : Memory.wf 0xFF s.flash = true) :
    Memory.wf 0xFF (s.flashErase a n).flash = true :=
  Memory.wf_filter _ _ _ h

/-- A byte written is read back, and no other byte changes. -/
theorem cellGet_cellPut (d : Byte) (m : List Host.Cell) (a x : Nat) (b : Byte) :
    cellGet d (cellPut d m a b) x = if x = a then b else cellGet d m x := by
  by_cases hx : x = a
  · subst hx
    by_cases hb : b = d <;> simp [cellGet, cellPut, lgetD, hb, lget_ldel_same]
  · by_cases hb : b = d <;>
      simp [cellGet, cellPut, lgetD, hb, hx, lget_ldel_ne _ _ _ hx, lget_lput_ne _ _ _ _ hx]

/-- Bytes outside those written keep their values. -/
theorem cellGet_cellWrite_out (d : Byte) (l : List Byte) (m : List Host.Cell) (a x : Nat) (h : x < a ∨ a + l.length ≤ x) :
    cellGet d (cellWrite d m a l) x = cellGet d m x := by
  induction l generalizing m a with
  | nil => rfl
  | cons b r ih =>
    simp only [List.length_cons] at h
    rw [cellWrite, ih _ _ (by omega), cellGet_cellPut, if_neg (by omega)]

/-- Bytes written are read back. -/
theorem cellRead_cellWrite (d : Byte) (l : List Byte) (m : List Host.Cell) (a : Nat) :
    cellRead d (cellWrite d m a l) a l.length = l := by
  induction l generalizing m a with
  | nil => rfl
  | cons b r ih =>
    simp only [cellWrite, List.length_cons, cellRead, ih]
    rw [cellGet_cellWrite_out _ _ _ _ _ (by omega), cellGet_cellPut, if_pos rfl]

/-! ### Doing things in order -/

@[simp] theorem State.whenB_true (s : State) (f : State → State) : s.whenB true f = f s := rfl
@[simp] theorem State.whenB_false (s : State) (f : State → State) : s.whenB false f = s := rfl
@[simp] theorem State.each_nil {β : Type} (s : State) (f : State → β → State) : s.each [] f = s := rfl
@[simp] theorem State.each_cons {β : Type} (s : State) (b : β) (l : List β) (f : State → β → State) :
    s.each (b :: l) f = (f s b).each l f := rfl

/-- What every act keeps, a conditional act keeps. -/
theorem State.whenB_keeps (P : State → Prop) (s : State) (c : Bool) (f : State → State) (h : P s) (hf : P (f s)) :
    P (s.whenB c f) := by
  cases c <;> assumption

/-- What every act keeps, a run of acts keeps. -/
theorem State.each_keeps {β : Type} (P : State → Prop) (l : List β) (f : State → β → State)
    (hf : ∀ t b, P t → P (f t b)) (s : State) (h : P s) : P (s.each l f) := by
  induction l generalizing s with
  | nil => exact h
  | cons b r ih => exact ih _ (hf s b h)

/-! ### Judging a write -/

/-- Judging a write keeps what its effect keeps: the state after it is the state before, the effect's, or the one the rule
gives a failure. -/
theorem judge_keeps (P : State → Prop) (s : State) (fails : List Status) (e : Effect) (h : P s) (he : P e.state)
    (hf : ∀ u, e.failed = some u → P u) : P (judge s fails e).2 := by
  unfold judge
  split
  · split
    · exact he
    · cases hx : e.failed with
      | none => simpa using h
      | some u => simpa using hf u hx
  · exact h

/-- A write without a failure is DONE and its effect stands. -/
theorem judge_done (s : State) (fails : List Status) (e : Effect) (hf : firstFailure (fails ++ e.fails) = .done)
    (hl : e.late = []) : judge s fails e = (.done, e.state) := by
  simp [judge, hf, hl, firstListed]

/-- A write with a failure changes nothing (R64). -/
theorem judge_failed (s : State) (fails : List Status) (e : Effect) (h : firstFailure (fails ++ e.fails) ≠ .done) :
    judge s fails e = (firstFailure (fails ++ e.fails), s) := by
  unfold judge
  split
  · contradiction
  · rfl

/-- A host command before 30 ms does nothing (R74). -/
theorem State.command_silent (s : State) (i j : Nat) (v : DVal) (e : Effect) (h : s.identityServed = false) :
    s.command i j v e = s := by
  simp [State.command, h]

/-- A host command is judged, counted and answered with its status. -/
theorem State.command_served (s : State) (i j : Nat) (v : DVal) (e : Effect) (h : s.identityServed = true)
    (hb : (s.judgeWrite i j (s.writeFails i j v) e).1 ≠ .busy) :
    s.command i j v e =
      (s.judgeWrite i j (s.writeFails i j v) e).2.commandCount.emit
        (.answer (key i j) (s.judgeWrite i j (s.writeFails i j v) e).1 0) := by
  simp [State.command, h, hb]

/-- A host command that no check fails is DONE: its effect stands, is noted and counted, and is answered. -/
theorem State.command_done (s : State) (i j : Nat) (v : DVal) (e : Effect) (h : s.identityServed = true)
    (hf : firstFailure (s.writeFails i j v ++ e.fails) = .done) (hl : firstListed e.late = .done) :
    s.command i j v e = ((e.state.noteWrite i j).commandCount).emit (.answer (key i j) .done 0) := by
  have hj : judge s (s.writeFails i j v) e = (.done, e.state) := by simp [judge, hf, hl]
  simp [State.command, State.judgeWrite, h, hj]

/-- A host command that a check fails changes nothing but the count of requests and what is sent (R64, R91). -/
theorem State.command_failed (s : State) (i j : Nat) (v : DVal) (e : Effect) (st : Status) (h : s.identityServed = true)
    (hf : firstFailure (s.writeFails i j v ++ e.fails) = st) (hd : st ≠ .done) (hb : st ≠ .busy) :
    s.command i j v e = s.commandCount.emit (.answer (key i j) st 0) := by
  have hj : judge s (s.writeFails i j v) e = (st, s) := by
    rw [judge_failed _ _ _ (by rw [hf]; exact hd), hf]
  have hw : s.judgeWrite i j (s.writeFails i j v) e = (st, s) := by
    unfold State.judgeWrite
    rw [hj]
    cases st <;> first | rfl | contradiction
  simp [State.command, hw, h, hb]

/-- No check before the rule's own fails: the host is served, the entry is there and may be written, and the value is in
range. -/
theorem State.writeFails_nil (s : State) (i j : Nat) (v : DVal) (e : Entry) (hb : s.serverBusy = false)
    (hp : s.presence i j = []) (he : entryOf i j = some e) (ha : s.accessW e false = [])
    (hr : (e.rng.holds v && e.ty.valueOk v) = true) : s.writeFails i j v = [] := by
  simp [State.writeFails, hb, hp, he, ha, hr, need]

/-- A check that holds fails nothing, and one that does not fails with its status. -/
@[simp] theorem need_true (st : Status) : need true st = [] := rfl
@[simp] theorem need_false (st : Status) : need false st = [st] := rfl
@[simp] theorem firstFailure_nil : firstFailure [] = .done := rfl
@[simp] theorem firstListed_nil : firstListed [] = .done := rfl

end Sys2Proof.Machine
end

