-- ==== Sys2Proof/Laws/Kept.lean ====
section
/-! SUPPORT. `Kept s t`: going from `s` to `t`, the queue, the fuses, the model's clock and the supplies as sequenced are as they
were, and the dictionary store and the memories are still in canonical form. The files beside this one prove it, one lemma
per operation, of every operation of the model. -/

namespace Sys2Proof.Machine

/-- What every operation of the block keeps. -/
structure Kept (s t : State) : Prop where
  pending : t.pending = s.pending
  fuse : t.fuse = s.fuse
  uptime : t.uptime = s.uptime
  groups : t.pow.groups = s.pow.groups
  released : t.pow.released = s.pow.released
  pinLow : t.pow.pinLow = s.pow.pinLow
  straps : t.pow.straps = s.pow.straps
  dict : dictWf s.dict = true → dictWf t.dict = true
  mem : Memory.wf 0 s.mem = true → Memory.wf 0 t.mem = true
  flash : Memory.wf 0xFF s.flash = true → Memory.wf 0xFF t.flash = true

namespace Kept

variable {s t u : State}

theorem refl (s : State) : Kept s s := ⟨rfl, rfl, rfl, rfl, rfl, rfl, rfl, id, id, id⟩

theorem trans (h : Kept s t) (k : Kept t u) : Kept s u :=
  ⟨k.pending.trans h.pending, k.fuse.trans h.fuse, k.uptime.trans h.uptime, k.groups.trans h.groups,
    k.released.trans h.released, k.pinLow.trans h.pinLow, k.straps.trans h.straps, k.dict ∘ h.dict, k.mem ∘ h.mem,
    k.flash ∘ h.flash⟩

/-- A record update of none of the fields that count. -/
theorem step (h : Kept s t) (h1 : u.pending = t.pending) (h2 : u.dict = t.dict) (h3 : u.mem = t.mem) (h4 : u.flash = t.flash)
    (h5 : u.fuse = t.fuse) (h6 : u.uptime = t.uptime) (h7 : u.pow.groups = t.pow.groups) (h8 : u.pow.released = t.pow.released)
    (h9 : u.pow.pinLow = t.pow.pinLow) (h10 : u.pow.straps = t.pow.straps) : Kept s u :=
  h.trans ⟨h1, h5, h6, h7, h8, h9, h10, fun x => h2 ▸ x, fun x => h3 ▸ x, fun x => h4 ▸ x⟩

/-- A record update, field by field, of none of the fields that count. -/
theorem upd {pending uptime devTime free dict events latched levels out mem flash fuse pow ctl srv tra cfg cnv tx rx fec frm grm sls
      pic tim lan bob eng mat mms boot tel} (h : Kept s t) (h1 : pending = t.pending) (h2 : dict = t.dict) (h3 : mem = t.mem)
    (h4 : flash = t.flash) (h5 : fuse = t.fuse) (h6 : uptime = t.uptime) (h7 : pow.groups = t.pow.groups)
    (h8 : pow.released = t.pow.released) (h9 : pow.pinLow = t.pow.pinLow) (h10 : pow.straps = t.pow.straps) :
    Kept s (State.mk pending uptime devTime free dict events latched levels out mem flash fuse pow ctl srv tra cfg cnv tx rx fec
      frm grm sls pic tim lan bob eng mat mms boot tel) :=
  h.step h1 h2 h3 h4 h5 h6 h7 h8 h9 h10

/-- A record update that empties on-chip memory and touches none of the other fields that count. -/
theorem updMem {pending uptime devTime free dict events latched levels out flash fuse pow ctl srv tra cfg cnv tx rx fec frm grm sls
      pic tim lan bob eng mat mms boot tel} (h : Kept s t) (h1 : pending = t.pending) (h2 : dict = t.dict)
    (h4 : flash = t.flash) (h5 : fuse = t.fuse) (h6 : uptime = t.uptime) (h7 : pow.groups = t.pow.groups)
    (h8 : pow.released = t.pow.released) (h9 : pow.pinLow = t.pow.pinLow) (h10 : pow.straps = t.pow.straps) :
    Kept s (State.mk pending uptime devTime free dict events latched levels out [] flash fuse pow ctl srv tra cfg cnv tx rx fec
      frm grm sls pic tim lan bob eng mat mms boot tel) :=
  h.trans ⟨h1, h5, h6, h7, h8, h9, h10, fun x => h2 ▸ x, fun _ => rfl, fun x => h4 ▸ x⟩

theorem ite {c : Prop} [Decidable c] (h : Kept s t) (k : Kept s u) : Kept s (if c then t else u) := by
  split <;> assumption

theorem each {β : Type} {l : List β} {f : State → β → State} (h : Kept s t) (hf : ∀ v b, Kept v (f v b)) :
    Kept s (t.each l f) :=
  State.each_keeps (fun w => Kept s w) l f (fun v b hv => hv.trans (hf v b)) t h

theorem foldl {β : Type} {l : List β} {f : State → β → State} (h : Kept s t) (hf : ∀ v b, Kept v (f v b)) :
    Kept s (l.foldl f t) :=
  each h hf

theorem whenB {c : Bool} {f : State → State} (h : Kept s t) (hf : ∀ v, Kept v (f v)) : Kept s (t.whenB c f) := by
  cases c
  · exact h
  · exact h.trans (hf t)

end Kept

/-- What even a supply event or a reset keeps: `Kept` but for the supplies. -/
structure Sound (s t : State) : Prop where
  pending : t.pending = s.pending
  fuse : t.fuse = s.fuse
  uptime : t.uptime = s.uptime
  dict : dictWf s.dict = true → dictWf t.dict = true
  mem : Memory.wf 0 s.mem = true → Memory.wf 0 t.mem = true
  flash : Memory.wf 0xFF s.flash = true → Memory.wf 0xFF t.flash = true

theorem Kept.sound {s t : State} (h : Kept s t) : Sound s t := ⟨h.pending, h.fuse, h.uptime, h.dict, h.mem, h.flash⟩

theorem Sound.trans {s t u : State} (h : Sound s t) (k : Sound t u) : Sound s u :=
  ⟨k.pending.trans h.pending, k.fuse.trans h.fuse, k.uptime.trans h.uptime, k.dict ∘ h.dict, k.mem ∘ h.mem, k.flash ∘ h.flash⟩

/-- An effect keeps it, and so does the state its rule gives a failure. -/
structure EffKept (s : State) (e : Effect) : Prop where
  state : Kept s e.state
  failed : ∀ u, e.failed = some u → Kept s u

/-- The same effect with other checks. -/
theorem EffKept.fails {s : State} {e : Effect} {l : List Status} (h : EffKept s e) : EffKept s { e with fails := l } :=
  ⟨h.state, h.failed⟩

/-- The same effect with more done where it stands. -/
theorem EffKept.then {s : State} {e : Effect} {f : State → State} (h : EffKept s e) (hf : ∀ v, Kept v (f v)) :
    EffKept s { e with state := f e.state } :=
  ⟨h.state.trans (hf _), h.failed⟩

theorem EffKept.ite {c : Prop} [Decidable c] {s : State} {e f : Effect} (h : EffKept s e) (k : EffKept s f) :
    EffKept s (if c then e else f) := by
  split <;> assumption

/-- A failure's state that depends on a condition. -/
theorem EffKept.failed_ite {c : Prop} [Decidable c] {s t u : State} (h : Kept s t) (k : Kept s u) :
    ∀ x, (if c then some t else some u) = some x → Kept s x := by
  intro x hx
  split at hx <;> cases hx <;> assumption

/-- The effect of a rule taken at a later state. -/
theorem EffKept.after {s t : State} {e : Effect} (h : Kept s t) (k : EffKept t e) : EffKept s e :=
  ⟨h.trans k.state, fun u hu => h.trans (k.failed u hu)⟩

/-- An outcome keeps it where it is a next state. -/
def OutKept (s : State) (o : Host.Outcome State Fault Refusal) : Prop := ∀ t, o = .next t → Kept s t

theorem OutKept.next {s t : State} (h : Kept s t) : OutKept s (.next t) := by
  intro u hu
  cases hu
  exact h

/-- An outcome is sound where it is a next state. -/
def OutSound (s : State) (o : Host.Outcome State Fault Refusal) : Prop := ∀ t, o = .next t → Sound s t

theorem OutKept.sound {s : State} {o : Host.Outcome State Fault Refusal} (h : OutKept s o) : OutSound s o :=
  fun t ht => (h t ht).sound

theorem OutSound.next {s t : State} (h : Sound s t) : OutSound s (.next t) := by
  intro u hu
  cases hu
  exact h

theorem OutKept.ite {c : Prop} [Decidable c] {s : State} {o p : Host.Outcome State Fault Refusal} (h : OutKept s o)
    (k : OutKept s p) : OutKept s (if c then o else p) := by
  split <;> assumption

theorem EffKept.plain {s : State} {e : Effect} (h : Kept s e.state) (hn : e.failed = none) : EffKept s e :=
  ⟨h, fun u hu => by simp [hn] at hu⟩

theorem EffKept.ok {s t : State} (h : Kept s t) : EffKept s (.ok t) := .plain h rfl

theorem State.setK_kept (s : State) (k : Nat) (v : DVal) : Kept s (s.setK k v) :=
  ⟨rfl, rfl, rfl, rfl, rfl, rfl, rfl, dictWf_setK s k v, id, id⟩

theorem State.clearIdx_kept (s : State) (p : Nat → Nat → Bool) : Kept s (s.clearIdx p) :=
  ⟨rfl, rfl, rfl, rfl, rfl, rfl, rfl, dictWf_clearIdx s p, id, id⟩

theorem State.forget_kept (s : State) (p : Nat → Bool) (c : Cls → Bool) : Kept s (s.forget p c) :=
  ⟨rfl, rfl, rfl, rfl, rfl, rfl, rfl, dictWf_forget s p c, id, id⟩

theorem State.memWrite_kept (s : State) (a : Nat) (b : List Byte) : Kept s (s.memWrite a b) :=
  ⟨rfl, rfl, rfl, rfl, rfl, rfl, rfl, id, State.memWrite_wf s a b, id⟩

theorem State.flashSet_kept (s : State) (a : Nat) (b : List Byte) : Kept s (s.flashSet a b) :=
  ⟨rfl, rfl, rfl, rfl, rfl, rfl, rfl, id, id, State.flashSet_wf s a b⟩

theorem State.flashErase_kept (s : State) (a n : Nat) : Kept s (s.flashErase a n) :=
  ⟨rfl, rfl, rfl, rfl, rfl, rfl, rfl, id, id, State.flashErase_wf s a n⟩

theorem judge_kept (s : State) (fails : List Status) (e : Effect) (h : EffKept s e) : Kept s (judge s fails e).2 :=
  judge_keeps (fun t => Kept s t) s fails e (Kept.refl s) h.state h.failed

end Sys2Proof.Machine
end

