-- ==== Sys2Proof/Laws/KeptOps.lean ====
section
/-! SUPPORT. `Kept` of the operations of Machine/Ops.lean, one lemma each. -/

namespace Sys2Proof.Machine

theorem State.wr_kept (s : State) (idx sub : Nat) (v : DVal) : Kept s (State.wr s idx sub v) := by
  unfold State.wr
  exact State.setK_kept ..

theorem State.wrI_kept (s : State) (idx sub : Nat) (v : Int) : Kept s (State.wrI s idx sub v) := by
  unfold State.wrI
  exact State.wr_kept ..

theorem State.wrN_kept (s : State) (idx sub v : Nat) : Kept s (State.wrN s idx sub v) := by
  unfold State.wrN
  exact State.wr_kept ..

theorem State.wrB_kept (s : State) (idx sub : Nat) (v : Bool) : Kept s (State.wrB s idx sub v) := by
  unfold State.wrB
  exact State.wrN_kept ..

theorem State.wrS_kept (s : State) (idx sub : Nat) (v : List Byte) : Kept s (State.wrS s idx sub v) := by
  unfold State.wrS
  exact State.wr_kept ..

theorem State.wrBit_kept (s : State) (idx sub i : Nat) (v : Bool) : Kept s (State.wrBit s idx sub i v) := by
  unfold State.wrBit
  exact State.wrN_kept ..

theorem State.bump_kept (s : State) (idx sub w n : Nat) : Kept s (State.bump s idx sub w n) := by
  unfold State.bump
  exact State.wrN_kept ..

theorem State.inc32_kept (s : State) (idx sub : Nat) : Kept s (State.inc32 s idx sub) := by
  unfold State.inc32
  exact State.bump_kept ..

theorem State.inc64_kept (s : State) (idx sub : Nat) : Kept s (State.inc64 s idx sub) := by
  unfold State.inc64
  exact State.bump_kept ..

theorem State.addSat_kept (s : State) (idx sub cap n : Nat) : Kept s (State.addSat s idx sub cap n) := by
  unfold State.addSat
  exact State.wrN_kept ..

theorem State.atLeast_kept (s : State) (idx sub n : Nat) : Kept s (State.atLeast s idx sub n) := by
  unfold State.atLeast
  exact State.wrN_kept ..

theorem State.emit_kept (s : State) (o : Out) : Kept s (State.emit s o) := by
  unfold State.emit
  exact .upd (.refl _) rfl rfl rfl rfl rfl rfl rfl rfl rfl rfl

theorem State.drawn_kept (s : State) : Kept s (State.drawn s) := by
  unfold State.drawn
  exact .upd (.refl _) rfl rfl rfl rfl rfl rfl rfl rfl rfl rfl

theorem State.msixSend_kept (s : State) (v : Nat) : Kept s (State.msixSend s v) := by
  unfold State.msixSend
  exact State.emit_kept ..

theorem State.vector_kept (s : State) (v : Nat) : Kept s (State.vector s v) := by
  unfold State.vector
  refine .ite ?_ ?_
  · exact State.msixSend_kept ..
  · exact .upd (.refl _) rfl rfl rfl rfl rfl rfl rfl rfl rfl rfl

theorem State.msixFlush_kept (s : State) : Kept s (State.msixFlush s) := by
  unfold State.msixFlush
  refine .foldl ?_ ?_
  · exact .refl _
  · intro _ _
    refine .trans ?_ (State.msixSend_kept ..)
    exact .upd (.refl _) rfl rfl rfl rfl rfl rfl rfl rfl rfl rfl

end Sys2Proof.Machine
end

