-- ==== Sys2Proof/Laws/KeptFlags.lean ====
section
/-! SUPPORT. `Kept` of the operations of Machine/Flags.lean, one lemma each. -/

namespace Sys2Proof.Machine

theorem State.countCode_kept (s : State) (c n : Nat) : Kept s (State.countCode s c n) := by
  unfold State.countCode
  refine .ite ?_ ?_
  · exact .upd (.refl _) rfl rfl rfl rfl rfl rfl rfl rfl rfl rfl
  · exact .refl _

theorem State.count_kept (s : State) (e : Ev) : Kept s (State.count s e) := by
  unfold State.count
  exact State.countCode_kept ..

theorem State.countRaise_kept (s : State) (e : Ev) : Kept s (State.countRaise s e) := by
  unfold State.countRaise
  refine .ite ?_ ?_
  · exact .refl _
  · exact State.count_kept ..

theorem State.defect_kept (s : State) (idx sub i : Nat) (v : Bool) : Kept s (State.defect s idx sub i v) := by
  unfold State.defect
  refine .ite ?_ ?_
  · refine .trans ?_ (State.countCode_kept ..)
    refine .ite ?_ ?_
    · refine .upd ?_ rfl rfl rfl rfl rfl rfl rfl rfl rfl rfl
      exact State.wrBit_kept ..
    · exact State.wrBit_kept ..
  · refine .ite ?_ ?_
    · refine .upd ?_ rfl rfl rfl rfl rfl rfl rfl rfl rfl rfl
      exact State.wrBit_kept ..
    · exact State.wrBit_kept ..

theorem State.raise_kept (s : State) (idx sub i : Nat) : Kept s (State.raise s idx sub i) := by
  unfold State.raise
  exact State.defect_kept ..

theorem State.clear_kept (s : State) (idx sub i : Nat) : Kept s (State.clear s idx sub i) := by
  unfold State.clear
  exact State.defect_kept ..

theorem State.countLevels_kept (s : State) : Kept s (State.countLevels s) := by
  unfold State.countLevels
  refine .each ?_ ?_
  · exact .upd (.refl _) rfl rfl rfl rfl rfl rfl rfl rfl rfl rfl
  · intro _ _
    refine .whenB ?_ ?_
    · exact .refl _
    · intro _
      exact State.countCode_kept ..

end Sys2Proof.Machine
end

