-- ==== Sys2Proof/Laws/KeptOperands.lean ====
section
/-! SUPPORT. `Kept` of the operations of Machine/Operands.lean, one lemma each. -/

namespace Sys2Proof.Machine

theorem State.noteWrite_kept (s : State) (idx sub : Nat) : Kept s (s.noteWrite idx sub) := by
  unfold State.noteWrite
  dsimp only
  split
  · exact .whenB (.step (.refl _) rfl rfl rfl rfl rfl rfl rfl rfl rfl rfl) fun _ => State.inc32_kept ..
  · exact .step (.refl _) rfl rfl rfl rfl rfl rfl rfl rfl rfl rfl

theorem State.judgeWrite_kept (s : State) (i j : Nat) (fails : List Status) (e : Effect) (h : EffKept s e) :
    Kept s (s.judgeWrite i j fails e).2 := by
  have hj := judge_kept s fails e h
  unfold State.judgeWrite
  split
  · rename_i t ht
    rw [ht] at hj
    exact hj.trans (State.noteWrite_kept ..)
  · exact hj

theorem State.commandCount_kept (s : State) : Kept s s.commandCount := by
  unfold State.commandCount
  exact .ite (State.inc32_kept ..) (State.inc32_kept ..)

theorem State.command_kept (s : State) (idx sub : Nat) (v : DVal) (e : Effect) (h : EffKept s e) :
    Kept s (s.command idx sub v e) := by
  unfold State.command
  refine .ite (.refl _) (.whenB ?_ fun _ => State.drawn_kept ..)
  exact ((State.judgeWrite_kept s _ _ _ e h).trans (State.commandCount_kept _)).trans (State.emit_kept ..)

end Sys2Proof.Machine
end

