-- ==== Sys2Proof/Laws/KeptLineModes.lean ====
section
/-! SUPPORT. `Kept` of the operations of Machine/LineModes.lean, one lemma each. -/

namespace Sys2Proof.Machine

theorem State.applyReference_kept (s : State) (n : Nat) : Kept s (State.applyReference s n) := by
  unfold State.applyReference
  refine .each ?_ ?_
  · refine .trans ?_ (State.wrN_kept ..)
    refine .trans ?_ (State.wrN_kept ..)
    refine .trans ?_ (State.wrN_kept ..)
    exact State.wrN_kept ..
  · intro _ _
    refine .trans ?_ (State.wrN_kept ..)
    exact State.wrN_kept ..

theorem State.referenceEffect_kept (s : State) (n : Nat) : EffKept s (State.referenceEffect s n) := by
  unfold State.referenceEffect
  refine .ok ?_
  refine .ite ?_ ?_
  · exact .refl _
  · exact State.applyReference_kept ..

theorem execReferenceModeWrite_kept (m : Nat) (s : State) : OutKept s (execReferenceModeWrite m s) := by
  unfold execReferenceModeWrite
  refine .next ?_
  refine State.command_kept _ _ _ _ _ ?_
  exact State.referenceEffect_kept ..

theorem State.latchCarrier_kept (s : State) : Kept s (State.latchCarrier s) := by
  unfold State.latchCarrier
  refine .each ?_ ?_
  · exact .upd (.refl _) rfl rfl rfl rfl rfl rfl rfl rfl rfl rfl
  · intro _ _
    refine .trans ?_ (State.wrN_kept ..)
    refine .trans ?_ (State.wrN_kept ..)
    refine .trans ?_ (State.wrN_kept ..)
    exact State.wrN_kept ..

theorem State.gateThread_kept (s : State) (k : Nat) : Kept s (State.gateThread s k) := by
  unfold State.gateThread
  exact .upd (.refl _) rfl rfl rfl rfl rfl rfl rfl rfl rfl rfl

theorem State.ungateThread_kept (s : State) (k : Nat) : Kept s (State.ungateThread s k) := by
  unfold State.ungateThread
  exact .upd (.refl _) rfl rfl rfl rfl rfl rfl rfl rfl rfl rfl

theorem execThreadRetireDark_kept (k : Fin 32) (s : State) : OutKept s (execThreadRetireDark k s) := by
  unfold execThreadRetireDark
  refine .next ?_
  split
  · refine .ite ?_ ?_
    · refine .trans ?_ (State.wrN_kept ..)
      exact .upd (.refl _) rfl rfl rfl rfl rfl rfl rfl rfl rfl rfl
    · exact .refl _
  · exact .refl _

theorem execThreadIslandGate_kept (k : Fin 32) (s : State) : OutKept s (execThreadIslandGate k s) := by
  unfold execThreadIslandGate
  refine .next ?_
  refine .ite ?_ ?_
  · exact State.gateThread_kept ..
  · exact .refl _

end Sys2Proof.Machine
end

