-- ==== Sys2Proof/Laws/KeptTransmit.lean ====
section
/-! SUPPORT. `Kept` of the operations of Machine/Transmit.lean, one lemma each. -/

namespace Sys2Proof.Machine

theorem State.newSet_kept (s : State) : Kept s (State.newSet s) := by
  unfold State.newSet
  refine .trans ?_ (State.wrN_kept ..)
  exact State.inc32_kept ..

theorem State.putSets_kept (s : State) (x y : List Byte) : Kept s (State.putSets s x y) := by
  unfold State.putSets
  refine .trans ?_ (State.defect_kept ..)
  refine .trans ?_ (State.wrS_kept ..)
  exact State.wrS_kept ..

theorem State.setsInForce_kept (s : State) (x y : List Byte) : Kept s (State.setsInForce s x y) := by
  unfold State.setsInForce
  refine .trans ?_ (State.newSet_kept ..)
  exact State.putSets_kept ..

theorem State.swapped_kept (s : State) (old : List Byte × List Byte) (reversion : Bool) :
    Kept s (State.swapped s old reversion) := by
  unfold State.swapped
  exact .upd (.refl _) rfl rfl rfl rfl rfl rfl rfl rfl rfl rfl

theorem State.dpdSwap_kept (s : State) : Kept s (State.dpdSwap s) := by
  unfold State.dpdSwap
  split
  · refine .ite ?_ ?_
    · refine .trans ?_ (State.swapped_kept ..)
      exact State.setsInForce_kept ..
    · exact .refl _
  · exact .refl _

theorem State.dpdForget_kept (s : State) : Kept s (State.dpdForget s) := by
  unfold State.dpdForget
  exact .upd (.refl _) rfl rfl rfl rfl rfl rfl rfl rfl rfl rfl

theorem State.dpdModeBoundary_kept (s : State) : Kept s (State.dpdModeBoundary s) := by
  unfold State.dpdModeBoundary
  refine .ite ?_ ?_
  · exact .refl _
  · refine .ite ?_ ?_
    · exact .upd (.refl _) rfl rfl rfl rfl rfl rfl rfl rfl rfl rfl
    · refine .ite ?_ ?_
      · refine .trans ?_ (State.setsInForce_kept ..)
        refine .trans ?_ (State.dpdForget_kept ..)
        exact .upd (.refl _) rfl rfl rfl rfl rfl rfl rfl rfl rfl rfl
      · refine .trans ?_ (State.dpdForget_kept ..)
        exact .upd (.refl _) rfl rfl rfl rfl rfl rfl rfl rfl rfl rfl

theorem State.dpdJudge_kept (s : State) (residuals : List (Nat × Int)) : Kept s ((State.dpdJudge s residuals).2) := by
  unfold State.dpdJudge
  split
  · refine .upd ?_ rfl rfl rfl rfl rfl rfl rfl rfl rfl rfl
    refine .trans ?_ (State.inc32_kept ..)
    refine .trans ?_ (State.raise_kept ..)
    exact .upd (.refl _) rfl rfl rfl rfl rfl rfl rfl rfl rfl rfl
  · split
    · refine .trans ?_ (State.clear_kept ..)
      exact .upd (.refl _) rfl rfl rfl rfl rfl rfl rfl rfl rfl rfl
    · exact .upd (.refl _) rfl rfl rfl rfl rfl rfl rfl rfl rfl rfl

theorem execDpdLocalProposal_kept (p : Fin 2) (set : List Byte) (residual : Int) (s : State) :
    OutKept s (execDpdLocalProposal p set residual s) := by
  unfold execDpdLocalProposal
  refine .next ?_
  refine .ite ?_ ?_
  · refine .ite ?_ ?_
    · refine .trans ?_ (State.dpdJudge_kept ..)
      exact State.wrI_kept ..
    · refine .upd ?_ rfl rfl rfl rfl rfl rfl rfl rfl rfl rfl
      refine .trans ?_ (State.dpdJudge_kept ..)
      exact State.wrI_kept ..
  · exact .refl _

theorem State.dpdAccept_kept (s : State) (a b : DpdMsg) : Kept s (State.dpdAccept s a b) := by
  unfold State.dpdAccept
  refine .ite ?_ ?_
  · refine .trans ?_ (State.dpdJudge_kept ..)
    refine .upd ?_ rfl rfl rfl rfl rfl rfl rfl rfl rfl rfl
    refine .trans ?_ (State.clear_kept ..)
    refine .trans ?_ (State.wrI_kept ..)
    exact State.bump_kept ..
  · refine .upd ?_ rfl rfl rfl rfl rfl rfl rfl rfl rfl rfl
    refine .trans ?_ (State.dpdJudge_kept ..)
    refine .upd ?_ rfl rfl rfl rfl rfl rfl rfl rfl rfl rfl
    refine .trans ?_ (State.clear_kept ..)
    refine .trans ?_ (State.wrI_kept ..)
    exact State.bump_kept ..

theorem State.dpdFeedback_kept (s : State) (m : DpdMsg) : Kept s (State.dpdFeedback s m) := by
  unfold State.dpdFeedback
  refine .ite ?_ ?_
  · refine .ite ?_ ?_
    · exact .upd (.refl _) rfl rfl rfl rfl rfl rfl rfl rfl rfl rfl
    · exact .refl _
  · refine .ite ?_ ?_
    · split
      · refine .ite ?_ ?_
        · refine .trans ?_ (State.dpdAccept_kept ..)
          refine .ite ?_ ?_
          · exact .upd (.refl _) rfl rfl rfl rfl rfl rfl rfl rfl rfl rfl
          · exact .refl _
        · refine .upd ?_ rfl rfl rfl rfl rfl rfl rfl rfl rfl rfl
          refine .ite ?_ ?_
          · exact .upd (.refl _) rfl rfl rfl rfl rfl rfl rfl rfl rfl rfl
          · exact .refl _
      · refine .upd ?_ rfl rfl rfl rfl rfl rfl rfl rfl rfl rfl
        refine .ite ?_ ?_
        · exact .upd (.refl _) rfl rfl rfl rfl rfl rfl rfl rfl rfl rfl
        · exact .refl _
    · refine .trans ?_ (State.inc32_kept ..)
      refine .ite ?_ ?_
      · exact .upd (.refl _) rfl rfl rfl rfl rfl rfl rfl rfl rfl rfl
      · exact .refl _

theorem execDpdFbTimeout_kept (s : State) : OutKept s (execDpdFbTimeout s) := by
  unfold execDpdFbTimeout
  refine .next ?_
  refine .ite ?_ ?_
  · exact State.raise_kept ..
  · exact .refl _

theorem State.saveStartSets_kept (s : State) : Kept s (State.saveStartSets s) := by
  unfold State.saveStartSets
  refine .trans ?_ (State.wrS_kept ..)
  exact State.wrS_kept ..

theorem State.loadStartSets_kept (s : State) : Kept s (State.loadStartSets s) := by
  unfold State.loadStartSets
  refine .ite ?_ ?_
  · refine .trans ?_ (State.setsInForce_kept ..)
    refine .upd ?_ rfl rfl rfl rfl rfl rfl rfl rfl rfl rfl
    exact State.dpdForget_kept ..
  · refine .trans ?_ (State.setsInForce_kept ..)
    refine .upd ?_ rfl rfl rfl rfl rfl rfl rfl rfl rfl rfl
    exact State.dpdForget_kept ..

theorem State.picotKick_kept (s : State) : Kept s (State.picotKick s) := by
  unfold State.picotKick
  split
  · refine .ite ?_ ?_
    · refine .trans ?_ (State.emit_kept ..)
      exact .upd (.refl _) rfl rfl rfl rfl rfl rfl rfl rfl rfl rfl
    · exact .refl _
  · exact .refl _

theorem State.picotFollow_kept (s : State) : Kept s (State.picotFollow s) := by
  unfold State.picotFollow
  refine .ite ?_ ?_
  · exact State.picotKick_kept ..
  · exact .upd (.refl _) rfl rfl rfl rfl rfl rfl rfl rfl rfl rfl

theorem State.muteCause_kept (s : State) (i : Nat) : Kept s (State.muteCause s i) := by
  unfold State.muteCause
  refine .trans ?_ (State.picotFollow_kept ..)
  refine .whenB ?_ ?_
  · refine .upd ?_ rfl rfl rfl rfl rfl rfl rfl rfl rfl rfl
    refine .whenB ?_ ?_
    · exact State.wrBit_kept ..
    · intro _
      refine .trans ?_ (State.count_kept ..)
      exact State.inc32_kept ..
  · intro _
    exact State.wrB_kept ..

theorem State.tryEnable_kept (s : State) : Kept s (State.tryEnable s) := by
  unfold State.tryEnable
  refine .ite ?_ ?_
  · refine .trans ?_ (State.wrB_kept ..)
    exact .upd (.refl _) rfl rfl rfl rfl rfl rfl rfl rfl rfl rfl
  · exact .refl _

theorem State.unmuteCause_kept (s : State) (i : Nat) : Kept s (State.unmuteCause s i) := by
  unfold State.unmuteCause
  refine .trans ?_ (State.picotFollow_kept ..)
  refine .trans ?_ (State.tryEnable_kept ..)
  exact State.wrBit_kept ..

theorem State.hostMuteEffect_kept (s : State) (v : Bool) : EffKept s (State.hostMuteEffect s v) := by
  unfold State.hostMuteEffect
  refine .ok ?_
  refine .ite ?_ ?_
  · exact State.wrB_kept ..
  · refine .ite ?_ ?_
    · refine .trans ?_ (State.muteCause_kept ..)
      exact State.wrB_kept ..
    · refine .ite ?_ ?_
      · refine .trans ?_ (State.unmuteCause_kept ..)
        exact State.wrB_kept ..
      · exact State.wrB_kept ..

theorem execHostMute_kept (s : State) : OutKept s (execHostMute s) := by
  unfold execHostMute
  refine .next ?_
  refine State.command_kept _ _ _ _ _ ?_
  exact State.hostMuteEffect_kept ..

theorem execHostUnmute_kept (s : State) : OutKept s (execHostUnmute s) := by
  unfold execHostUnmute
  refine .next ?_
  refine State.command_kept _ _ _ _ _ ?_
  exact State.hostMuteEffect_kept ..

theorem execMuteRampEnd_kept (s : State) : OutKept s (execMuteRampEnd s) := by
  unfold execMuteRampEnd
  refine .next ?_
  split
  · refine .trans ?_ (State.wrB_kept ..)
    exact .upd (.refl _) rfl rfl rfl rfl rfl rfl rfl rfl rfl rfl
  · exact .upd (.refl _) rfl rfl rfl rfl rfl rfl rfl rfl rfl rfl
  · exact .refl _

theorem execEnableSettleExpiry_kept (s : State) : OutKept s (execEnableSettleExpiry s) := by
  unfold execEnableSettleExpiry
  refine .next ?_
  refine .ite ?_ ?_
  · exact .upd (.refl _) rfl rfl rfl rfl rfl rfl rfl rfl rfl rfl
  · exact .refl _

theorem State.lowPower_kept (s : State) : Kept s (State.lowPower s) := by
  unfold State.lowPower
  refine .trans ?_ (State.wrBit_kept ..)
  exact .upd (.refl _) rfl rfl rfl rfl rfl rfl rfl rfl rfl rfl

theorem execLowPowerExit_kept (s : State) : OutKept s (execLowPowerExit s) := by
  unfold execLowPowerExit
  refine .next ?_
  refine .ite ?_ ?_
  · refine .trans ?_ (State.wrBit_kept ..)
    exact .upd (.refl _) rfl rfl rfl rfl rfl rfl rfl rfl rfl rfl
  · exact .refl _

theorem execLowPowerRiseStep_kept (s : State) : OutKept s (execLowPowerRiseStep s) := by
  unfold execLowPowerRiseStep
  refine .next ?_
  refine .ite ?_ ?_
  · refine .trans ?_ (State.wrBit_kept ..)
    exact .upd (.refl _) rfl rfl rfl rfl rfl rfl rfl rfl rfl rfl
  · exact .refl _

theorem State.nlTables_kept (s : State) : Kept s (State.nlTables s) := by
  unfold State.nlTables
  exact .upd (.refl _) rfl rfl rfl rfl rfl rfl rfl rfl rfl rfl

theorem State.txBoundary_kept (s : State) : Kept s (State.txBoundary s) := by
  unfold State.txBoundary
  refine .trans ?_ (State.dpdSwap_kept ..)
  refine .trans ?_ (State.dpdModeBoundary_kept ..)
  refine .trans ?_ (State.nlTables_kept ..)
  exact .upd (.refl _) rfl rfl rfl rfl rfl rfl rfl rfl rfl rfl

end Sys2Proof.Machine
end

