-- ==== Sys2Proof/Laws/KeptFrame.lean ====
section
/-! SUPPORT. `Kept` of the operations of Machine/Frame.lean, one lemma each. -/

namespace Sys2Proof.Machine

theorem State.reserveHolds_kept (s was : State) : Kept s (State.reserveHolds s was) := by
  unfold State.reserveHolds
  exact .upd (.refl _) rfl rfl rfl rfl rfl rfl rfl rfl rfl rfl

theorem State.setTen_kept (s : State) (n : Nat) (t : TenLine) : Kept s (State.setTen s n t) := by
  unfold State.setTen
  exact .upd (.refl _) rfl rfl rfl rfl rfl rfl rfl rfl rfl rfl

theorem State.setHunt_kept (s : State) (k : Nat) (h : HuntState) : Kept s (State.setHunt s k h) := by
  unfold State.setHunt
  exact .upd (.refl _) rfl rfl rfl rfl rfl rfl rfl rfl rfl rfl

theorem State.ssf_kept (s : State) : Kept s (State.ssf s) := by
  unfold State.ssf
  refine .foldl ?_ ?_
  · exact .refl _
  · intro _ _
    exact State.defect_kept ..

end Sys2Proof.Machine
end

