-- ==== Sys2Proof/Laws/KeptTransact.lean ====
section
/-! SUPPORT. `Kept` of the operations of Machine/Transact.lean, one lemma each. -/

namespace Sys2Proof.Machine

theorem State.makeResponse_kept (s : State) (src : Source) (op seq : Nat) (slot : Option Nat) (st : Status)
    (retry tag : Nat) (items : List RspItem) : Kept s (s.makeResponse src op seq slot st retry tag items).2 := by
  unfold State.makeResponse
  dsimp only
  split <;> first | exact .refl _ | exact .upd (.refl _) rfl rfl rfl rfl rfl rfl rfl rfl rfl rfl

theorem State.sendAnswer_kept (s : State) (o : Out) : Kept s (State.sendAnswer s o) := by
  unfold State.sendAnswer
  split
  · refine .whenB ?_ ?_
    · refine .trans ?_ (State.emit_kept ..)
      exact .upd (.refl _) rfl rfl rfl rfl rfl rfl rfl rfl rfl rfl
    · intro _
      exact State.vector_kept ..
  · refine .trans ?_ (State.emit_kept ..)
    exact .upd (.refl _) rfl rfl rfl rfl rfl rfl rfl rfl rfl rfl
  · exact State.emit_kept ..

theorem State.keepAnswer_kept (s : State) (src : Source) (seq : Nat) (o : Out) : Kept s (State.keepAnswer s src seq o) := by
  unfold State.keepAnswer
  exact .upd (.refl _) rfl rfl rfl rfl rfl rfl rfl rfl rfl rfl

theorem State.respond_kept (s : State) (src : Source) (seq : Nat) (o : Out) : Kept s (State.respond s src seq o) := by
  unfold State.respond
  refine .trans ?_ (State.inc32_kept ..)
  refine .trans ?_ (State.sendAnswer_kept ..)
  exact State.keepAnswer_kept ..

theorem State.answered_kept (s : State) (o : Out) : Kept s (State.answered s o) := by
  unfold State.answered
  split
  · exact State.respond_kept ..
  · exact State.sendAnswer_kept ..

theorem State.stagedReport_kept (s : State) : Kept s (State.stagedReport s) := by
  unfold State.stagedReport
  exact State.wrN_kept ..

theorem State.mapReport_kept (s : State) : Kept s (State.mapReport s) := by
  unfold State.mapReport
  refine .each ?_ ?_
  · exact .refl _
  · intro _ _
    exact State.wrB_kept ..

theorem State.finish_kept (s : State) (x : Staged) (st : Status) : Kept s (State.finish s x st) := by
  unfold State.finish
  refine .trans ?_ (State.respond_kept ..)
  refine .trans ?_ (State.makeResponse_kept ..)
  refine .trans ?_ (State.mapReport_kept ..)
  refine .trans ?_ (State.wrN_kept ..)
  refine .trans ?_ (State.wrN_kept ..)
  refine .trans ?_ (State.stagedReport_kept ..)
  exact .upd (.refl _) rfl rfl rfl rfl rfl rfl rfl rfl rfl rfl

theorem State.withdrawSelf_kept (s : State) (x : Staged) (st : Status) : Kept s (State.withdrawSelf s x st) := by
  unfold State.withdrawSelf
  refine .ite ?_ ?_
  · refine .upd ?_ rfl rfl rfl rfl rfl rfl rfl rfl rfl rfl
    exact State.finish_kept ..
  · exact State.finish_kept ..

theorem State.withdrawOver_kept (n : Nat) (s : State) : Kept s (State.withdrawOver n s) := by
  induction n generalizing s with
  | zero => exact .refl _
  | succ n ih =>
    unfold State.withdrawOver
    split
    · exact (State.withdrawSelf_kept ..).trans (ih _)
    · exact .refl _

theorem State.withdrawOne_kept (s : State) (x : Staged) (st : Status) : Kept s (State.withdrawOne s x st) := by
  unfold State.withdrawOne
  refine .ite ?_ ?_
  · refine .trans ?_ (State.withdrawOver_kept ..)
    exact State.withdrawSelf_kept ..
  · exact .refl _

theorem State.withdraw_kept (s : State) (p : Staged → Bool) (st : Status) : Kept s (State.withdraw s p st) := by
  unfold State.withdraw
  refine .each ?_ ?_
  · exact .refl _
  · intro _ _
    exact State.withdrawOne_kept ..

theorem State.withdrawAll_kept (s : State) : Kept s (State.withdrawAll s) := by
  unfold State.withdrawAll
  exact State.withdraw_kept ..

theorem State.withdrawTwoEnded_kept (s : State) : Kept s (State.withdrawTwoEnded s) := by
  unfold State.withdrawTwoEnded
  exact State.withdraw_kept ..

theorem State.withdrawThread_kept (s : State) (k : Nat) : Kept s (State.withdrawThread s k) := by
  unfold State.withdrawThread
  exact State.withdraw_kept ..

theorem State.withdrawDark_kept (s : State) (k : Nat) : Kept s (State.withdrawDark s k) := by
  unfold State.withdrawDark
  exact State.withdraw_kept ..

theorem State.dropPart_kept (s : State) (x : FarPart) : Kept s (State.dropPart s x) := by
  unfold State.dropPart
  refine .each ?_ ?_
  · exact .upd (.refl _) rfl rfl rfl rfl rfl rfl rfl rfl rfl rfl
  · intro _ _
    exact State.gateThread_kept ..

theorem State.answer_kept (s : State) (num target : Nat) (st : Status) : Kept s (State.answer s num target st) := by
  unfold State.answer
  refine .ite ?_ ?_
  · refine .trans ?_ (State.emit_kept ..)
    exact .upd (.refl _) rfl rfl rfl rfl rfl rfl rfl rfl rfl rfl
  · refine .trans ?_ (State.emit_kept ..)
    refine .trans ?_ (State.inc32_kept ..)
    exact .upd (.refl _) rfl rfl rfl rfl rfl rfl rfl rfl rfl rfl

theorem State.channelMessages_kept (s : State) : Kept s (State.channelMessages s) := by
  unfold State.channelMessages
  refine .each ?_ ?_
  · refine .each ?_ ?_
    · refine .upd ?_ rfl rfl rfl rfl rfl rfl rfl rfl rfl rfl
      refine .each ?_ ?_
      · exact .refl _
      · intro _ _
        exact State.emit_kept ..
    · intro _ _
      exact State.emit_kept ..
  · intro _ _
    refine .trans ?_ (State.inc32_kept ..)
    exact State.emit_kept ..

theorem execAckReceive_kept (num target : Nat) (s : State) : OutKept s (execAckReceive num target s) := by
  unfold execAckReceive
  refine .next ?_
  refine .ite ?_ ?_
  · refine .trans ?_ (State.inc32_kept ..)
    exact .upd (.refl _) rfl rfl rfl rfl rfl rfl rfl rfl rfl rfl
  · exact .refl _

theorem execRefuseReceive_kept (num target reason : Nat) (s : State) :
    OutKept s (execRefuseReceive num target reason s) := by
  unfold execRefuseReceive
  refine .next ?_
  split
  · refine .trans ?_ (State.withdrawOne_kept ..)
    refine .trans ?_ (State.wrN_kept ..)
    exact State.inc32_kept ..
  · exact .refl _

theorem execAckDeadline_kept (num : Nat) (s : State) : OutKept s (execAckDeadline num s) := by
  unfold execAckDeadline
  refine .next ?_
  split
  · exact State.withdrawOne_kept ..
  · exact .refl _

theorem execConfirmReceive_kept (num target : Nat) (s : State) : OutKept s (execConfirmReceive num target s) := by
  unfold execConfirmReceive
  refine .next ?_
  refine .ite ?_ ?_
  · exact .upd (.refl _) rfl rfl rfl rfl rfl rfl rfl rfl rfl rfl
  · exact .refl _

theorem execWithdrawReceive_kept (num : Nat) (s : State) : OutKept s (execWithdrawReceive num s) := by
  unfold execWithdrawReceive
  refine .next ?_
  split
  · exact State.dropPart_kept ..
  · exact .refl _

theorem execConfirmDeadline_kept (num : Nat) (s : State) : OutKept s (execConfirmDeadline num s) := by
  unfold execConfirmDeadline
  refine .next ?_
  split
  · exact State.dropPart_kept ..
  · exact .refl _

end Sys2Proof.Machine
end

