-- ==== Sys2Proof/Laws/KeptReceive.lean ====
section
/-! SUPPORT. `Kept` of the operations of Machine/Receive.lean, one lemma each. -/

namespace Sys2Proof.Machine

theorem State.easelFire_kept (s : State) : Kept s (State.easelFire s) := by
  unfold State.easelFire
  refine .trans ?_ (State.wr_kept ..)
  exact State.wrN_kept ..

theorem State.easelEvent_kept (s : State) (n k : Nat) : Kept s (State.easelEvent s n k) := by
  unfold State.easelEvent
  refine .whenB ?_ ?_
  · exact .refl _
  · intro _
    exact State.easelFire_kept ..

theorem State.badStitches_kept (s : State) (n count : Nat) : Kept s (State.badStitches s n count) := by
  unfold State.badStitches
  refine .ite ?_ ?_
  · refine .trans ?_ (State.bump_kept ..)
    exact State.setTen_kept ..
  · exact State.setTen_kept ..

theorem State.countLf_kept (s : State) (k : Nat) (accepted : Bool) : Kept s (State.countLf s k accepted) := by
  unfold State.countLf
  refine .ite ?_ ?_
  · refine .upd ?_ rfl rfl rfl rfl rfl rfl rfl rfl rfl rfl
    exact State.setHunt_kept ..
  · exact State.setHunt_kept ..

theorem State.lfCut_kept (s : State) (k : Nat) : Kept s (State.lfCut s k) := by
  unfold State.lfCut
  refine .each ?_ ?_
  · exact State.countLf_kept ..
  · intro _ _
    refine .trans ?_ (State.badStitches_kept ..)
    exact State.setTen_kept ..

theorem State.huntOff_kept (s : State) (k : Nat) : Kept s (State.huntOff s k) := by
  unfold State.huntOff
  refine .whenB ?_ ?_
  · refine .trans ?_ (State.setHunt_kept ..)
    refine .trans ?_ (State.wrN_kept ..)
    refine .whenB ?_ ?_
    · exact .refl _
    · intro _
      exact State.lfCut_kept ..
  · intro _
    exact State.withdrawThread_kept ..

theorem State.easelGuard_kept (s : State) : Kept s (State.easelGuard s) := by
  unfold State.easelGuard
  refine .ite ?_ ?_
  · exact State.wrN_kept ..
  · exact .refl _

theorem State.setLock_kept (s : State) (k v : Nat) : Kept s (State.setLock s k v) := by
  unfold State.setLock
  refine .ite ?_ ?_
  · refine .ite ?_ ?_
    · refine .trans ?_ (State.wrN_kept ..)
      exact State.wrN_kept ..
    · exact State.wrN_kept ..
  · refine .ite ?_ ?_
    · exact State.wrN_kept ..
    · refine .trans ?_ (State.huntOff_kept ..)
      exact State.wrN_kept ..

theorem State.beginMask_kept (s : State) (k : Nat) : Kept s (State.beginMask s k) := by
  unfold State.beginMask
  refine .trans ?_ (State.ssf_kept ..)
  refine .trans ?_ (State.setHunt_kept ..)
  refine .trans ?_ (State.wrN_kept ..)
  refine .trans ?_ (State.wrN_kept ..)
  exact State.setLock_kept ..

theorem State.endMask_kept (s : State) (k : Nat) : Kept s (State.endMask s k) := by
  unfold State.endMask
  refine .ite ?_ ?_
  · exact State.setLock_kept ..
  · exact .refl _

theorem State.setRxStatus_kept (s : State) (k v : Nat) : Kept s (State.setRxStatus s k v) := by
  unfold State.setRxStatus
  refine .trans ?_ (State.ssf_kept ..)
  refine .trans ?_ (State.easelGuard_kept ..)
  refine .ite ?_ ?_
  · refine .trans ?_ (State.beginMask_kept ..)
    refine .trans ?_ (State.setHunt_kept ..)
    exact State.wrN_kept ..
  · refine .ite ?_ ?_
    · refine .trans ?_ (State.setHunt_kept ..)
      exact State.wrN_kept ..
    · refine .ite ?_ ?_
      · refine .trans ?_ (State.setHunt_kept ..)
        exact State.wrN_kept ..
      · refine .trans ?_ (State.endMask_kept ..)
        refine .trans ?_ (State.setHunt_kept ..)
        exact State.wrN_kept ..

theorem State.loseThread_kept (s : State) (k v : Nat) : Kept s (State.loseThread s k v) := by
  unfold State.loseThread
  refine .ite ?_ ?_
  · exact State.setLock_kept ..
  · refine .trans ?_ (State.easelEvent_kept ..)
    refine .trans ?_ (State.setLock_kept ..)
    refine .trans ?_ (State.count_kept ..)
    refine .trans ?_ (State.inc32_kept ..)
    exact State.raise_kept ..

theorem State.loseAll_kept (s : State) : Kept s (State.loseAll s) := by
  unfold State.loseAll
  refine .each ?_ ?_
  · exact .refl _
  · intro _ _
    exact State.loseThread_kept ..

theorem State.sweepAgain_kept (s : State) : Kept s (State.sweepAgain s) := by
  unfold State.sweepAgain
  exact .upd (.refl _) rfl rfl rfl rfl rfl rfl rfl rfl rfl rfl

theorem State.acqAfresh_kept (s : State) : Kept s (State.acqAfresh s) := by
  unfold State.acqAfresh
  refine .trans ?_ (State.sweepAgain_kept ..)
  exact .upd (.refl _) rfl rfl rfl rfl rfl rfl rfl rfl rfl rfl

theorem State.startAcquisition_kept (s : State) (cold : Bool) : Kept s (State.startAcquisition s cold) := by
  unfold State.startAcquisition
  refine .trans ?_ (State.wrN_kept ..)
  refine .trans ?_ (State.acqAfresh_kept ..)
  exact .upd (.refl _) rfl rfl rfl rfl rfl rfl rfl rfl rfl rfl

theorem State.toClock_kept (s : State) (cd : Int) : Kept s (State.toClock s cd) := by
  unfold State.toClock
  refine .trans ?_ (State.wrN_kept ..)
  refine .trans ?_ (State.wrI_kept ..)
  exact .upd (.refl _) rfl rfl rfl rfl rfl rfl rfl rfl rfl rfl

theorem State.toCold_kept (s : State) : Kept s (State.toCold s) := by
  unfold State.toCold
  refine .trans ?_ (State.wrN_kept ..)
  refine .trans ?_ (State.sweepAgain_kept ..)
  exact .upd (.refl _) rfl rfl rfl rfl rfl rfl rfl rfl rfl rfl

theorem State.toDispersion_kept (s : State) : Kept s (State.toDispersion s) := by
  unfold State.toDispersion
  split
  · exact State.toClock_kept ..
  · exact State.toCold_kept ..
  · refine .ite ?_ ?_
    · refine .trans ?_ (State.wrN_kept ..)
      exact .upd (.refl _) rfl rfl rfl rfl rfl rfl rfl rfl rfl rfl
    · exact State.toCold_kept ..

theorem State.rxInvalidJudge_kept (s : State) : Kept s (State.rxInvalidJudge s) := by
  unfold State.rxInvalidJudge
  refine .ite ?_ ?_
  · exact .refl _
  · refine .ite ?_ ?_
    · refine .trans ?_ (State.ssf_kept ..)
      refine .trans ?_ (State.startAcquisition_kept ..)
      refine .trans ?_ (State.loseAll_kept ..)
      exact State.defect_kept ..
    · refine .ite ?_ ?_
      · refine .trans ?_ (State.ssf_kept ..)
        refine .trans ?_ (State.startAcquisition_kept ..)
        exact State.defect_kept ..
      · exact State.defect_kept ..

theorem State.restartAcquisition_kept (s : State) : Kept s (State.restartAcquisition s) := by
  unfold State.restartAcquisition
  refine .ite ?_ ?_
  · refine .each ?_ ?_
    · exact .refl _
    · intro _ _
      refine .ite ?_ ?_
      · exact .refl _
      · exact State.setLock_kept ..
  · exact State.startAcquisition_kept ..

theorem State.rxConfigure_kept (s : State) : Kept s (State.rxConfigure s) := by
  unfold State.rxConfigure
  refine .each ?_ ?_
  · refine .trans ?_ (State.wrN_kept ..)
    refine .trans ?_ (State.wrN_kept ..)
    exact State.wrN_kept ..
  · intro _ _
    exact State.wrN_kept ..

theorem execAcqSignalConfirmed_kept (s : State) : OutKept s (execAcqSignalConfirmed s) := by
  unfold execAcqSignalConfirmed
  refine .next ?_
  refine .ite ?_ ?_
  · refine .trans ?_ (State.wrN_kept ..)
    exact .upd (.refl _) rfl rfl rfl rfl rfl rfl rfl rfl rfl rfl
  · exact .refl _

theorem execAcqFrequencyFound_kept (mhz : Int) (s : State) : OutKept s (execAcqFrequencyFound mhz s) := by
  unfold execAcqFrequencyFound
  refine .next ?_
  refine .ite ?_ ?_
  · refine .trans ?_ (State.toDispersion_kept ..)
    exact State.wrI_kept ..
  · exact .refl _

theorem execWarmVerifyDone_kept (pass : Bool) (metrics : List Nat) (s : State) :
    OutKept s (execWarmVerifyDone pass metrics s) := by
  unfold execWarmVerifyDone
  refine .next ?_
  refine .ite ?_ ?_
  · refine .ite ?_ ?_
    · exact State.toClock_kept ..
    · exact State.toCold_kept ..
  · exact .refl _

theorem execCdCandidateDone_kept (metric : Nat) (s : State) : OutKept s (execCdCandidateDone metric s) := by
  unfold execCdCandidateDone
  refine .next ?_
  split
  · refine .ite ?_ ?_
    · exact .upd (.refl _) rfl rfl rfl rfl rfl rfl rfl rfl rfl rfl
    · exact .upd (.refl _) rfl rfl rfl rfl rfl rfl rfl rfl rfl rfl
  · exact .refl _

theorem execCdSweepDone_kept (s : State) : OutKept s (execCdSweepDone s) := by
  unfold execCdSweepDone
  refine .next ?_
  refine .ite ?_ ?_
  · refine .ite ?_ ?_
    · refine .trans ?_ (State.toClock_kept ..)
      refine .trans ?_ (State.clear_kept ..)
      exact .upd (.refl _) rfl rfl rfl rfl rfl rfl rfl rfl rfl rfl
    · refine .ite ?_ ?_
      · refine .trans ?_ (State.sweepAgain_kept ..)
        exact .upd (.refl _) rfl rfl rfl rfl rfl rfl rfl rfl rfl rfl
      · refine .trans ?_ (State.startAcquisition_kept ..)
        exact State.raise_kept ..
  · exact .refl _

theorem execClockToneLock_kept (s : State) : OutKept s (execClockToneLock s) := by
  unfold execClockToneLock
  refine .next ?_
  refine .ite ?_ ?_
  · refine .each ?_ ?_
    · refine .trans ?_ (State.wrN_kept ..)
      refine .whenB ?_ ?_
      · exact .upd (.refl _) rfl rfl rfl rfl rfl rfl rfl rfl rfl rfl
      · intro _
        refine .trans ?_ (State.wrN_kept ..)
        exact State.wrI_kept ..
    · intro _ _
      refine .ite ?_ ?_
      · exact .refl _
      · exact State.setLock_kept ..
  · exact .refl _

theorem execBlindEqConverged_kept (k : Fin 32) (s : State) : OutKept s (execBlindEqConverged k s) := by
  unfold execBlindEqConverged
  refine .next ?_
  refine .ite ?_ ?_
  · exact State.setLock_kept ..
  · exact .refl _

theorem execPilotSearchDone_kept (k : Fin 32) (s : State) : OutKept s (execPilotSearchDone k s) := by
  unfold execPilotSearchDone
  refine .next ?_
  refine .ite ?_ ?_
  · exact State.setLock_kept ..
  · exact .refl _

theorem execCarrierLock_kept (k : Fin 32) (timeUs : Nat) (s : State) : OutKept s (execCarrierLock k timeUs s) := by
  unfold execCarrierLock
  refine .next ?_
  refine .ite ?_ ?_
  · refine .trans ?_ (State.ssf_kept ..)
    refine .ite ?_ ?_
    · refine .trans ?_ (State.count_kept ..)
      refine .trans ?_ (State.inc32_kept ..)
      refine .trans ?_ (State.wrN_kept ..)
      refine .trans ?_ (State.wrN_kept ..)
      refine .trans ?_ (State.clear_kept ..)
      exact State.setLock_kept ..
    · refine .trans ?_ (State.clear_kept ..)
      exact State.setLock_kept ..
  · exact .refl _

theorem execAcqStepTimeout_kept (step : Nat) (k : Fin 32) (s : State) : OutKept s (execAcqStepTimeout step k s) := by
  unfold execAcqStepTimeout
  refine .next ?_
  split
  · refine .ite ?_ ?_
    · exact State.toCold_kept ..
    · exact .refl _
  · refine .ite ?_ ?_
    · exact State.toDispersion_kept ..
    · exact .refl _
  · refine .ite ?_ ?_
    · refine .trans ?_ (State.count_kept ..)
      refine .trans ?_ (State.inc32_kept ..)
      exact State.setLock_kept ..
    · exact .refl _
  · refine .ite ?_ ?_
    · refine .trans ?_ (State.count_kept ..)
      refine .trans ?_ (State.inc32_kept ..)
      exact State.setLock_kept ..
    · exact .refl _
  · refine .ite ?_ ?_
    · refine .trans ?_ (State.count_kept ..)
      refine .trans ?_ (State.inc32_kept ..)
      exact State.setLock_kept ..
    · exact .refl _
  · exact .refl _

theorem execRxLosSet_kept (s : State) : OutKept s (execRxLosSet s) := by
  unfold execRxLosSet
  refine .next ?_
  refine .ite ?_ ?_
  · refine .trans ?_ (State.ssf_kept ..)
    refine .trans ?_ (State.startAcquisition_kept ..)
    refine .trans ?_ (State.loseAll_kept ..)
    refine .trans ?_ (State.easelEvent_kept ..)
    exact State.raise_kept ..
  · exact .refl _

theorem execRxLosClear_kept (s : State) : OutKept s (execRxLosClear s) := by
  unfold execRxLosClear
  refine .next ?_
  refine .ite ?_ ?_
  · refine .trans ?_ (State.ssf_kept ..)
    refine .trans ?_ (State.startAcquisition_kept ..)
    exact State.clear_kept ..
  · exact .refl _

theorem execRxClkLolSet_kept (s : State) : OutKept s (execRxClkLolSet s) := by
  unfold execRxClkLolSet
  refine .next ?_
  refine .ite ?_ ?_
  · refine .trans ?_ (State.ssf_kept ..)
    refine .ite ?_ ?_
    · refine .trans ?_ (State.wrN_kept ..)
      refine .upd ?_ rfl rfl rfl rfl rfl rfl rfl rfl rfl rfl
      refine .upd ?_ rfl rfl rfl rfl rfl rfl rfl rfl rfl rfl
      refine .trans ?_ (State.loseAll_kept ..)
      exact State.raise_kept ..
    · refine .upd ?_ rfl rfl rfl rfl rfl rfl rfl rfl rfl rfl
      refine .trans ?_ (State.loseAll_kept ..)
      exact State.raise_kept ..
  · exact .refl _

theorem execRxClkLolClear_kept (s : State) : OutKept s (execRxClkLolClear s) := by
  unfold execRxClkLolClear
  refine .next ?_
  refine .ite ?_ ?_
  · refine .trans ?_ (State.ssf_kept ..)
    exact State.clear_kept ..
  · exact .refl _

theorem execFoHighTimer_kept (above : Bool) (s : State) : OutKept s (execFoHighTimer above s) := by
  unfold execFoHighTimer
  refine .next ?_
  refine .ite ?_ ?_
  · exact State.defect_kept ..
  · exact .refl _

theorem execThrLolSet_kept (k : Fin 32) (s : State) : OutKept s (execThrLolSet k s) := by
  unfold execThrLolSet
  refine .next ?_
  refine .ite ?_ ?_
  · refine .trans ?_ (State.ssf_kept ..)
    exact State.loseThread_kept ..
  · exact .refl _

theorem execThrSnrLowTimer_kept (k : Fin 32) (below : Bool) (s : State) : OutKept s (execThrSnrLowTimer k below s) := by
  unfold execThrSnrLowTimer
  refine .next ?_
  refine .ite ?_ ?_
  · exact State.defect_kept ..
  · exact .refl _

theorem execCycleSlip_kept (k : Fin 32) (s : State) : OutKept s (execCycleSlip k s) := by
  unfold execCycleSlip
  refine .next ?_
  refine .ite ?_ ?_
  · refine .trans ?_ (State.easelEvent_kept ..)
    refine .trans ?_ (State.count_kept ..)
    exact State.inc32_kept ..
  · exact .refl _

theorem State.readmitFails_kept (s : State) (k : Nat) : Kept s (State.readmitFails s k) := by
  unfold State.readmitFails
  split
  · refine .ite ?_ ?_
    · refine .trans ?_ (State.inc32_kept ..)
      refine .trans ?_ (State.wrN_kept ..)
      refine .trans ?_ (State.wrN_kept ..)
      exact .upd (.refl _) rfl rfl rfl rfl rfl rfl rfl rfl rfl rfl
    · exact .refl _
  · exact .refl _

theorem State.readmitFailsFar_kept (s : State) (k : Nat) : Kept s (State.readmitFailsFar s k) := by
  unfold State.readmitFailsFar
  split
  · refine .ite ?_ ?_
    · refine .ite ?_ ?_
      · refine .trans ?_ (State.gateThread_kept ..)
        refine .trans ?_ (State.setRxStatus_kept ..)
        refine .upd ?_ rfl rfl rfl rfl rfl rfl rfl rfl rfl rfl
        exact .upd (.refl _) rfl rfl rfl rfl rfl rfl rfl rfl rfl rfl
      · exact .upd (.refl _) rfl rfl rfl rfl rfl rfl rfl rfl rfl rfl
    · exact .refl _
  · exact .refl _

theorem execReadmissionTimeout_kept (k : Fin 32) (s : State) : OutKept s (execReadmissionTimeout k s) := by
  unfold execReadmissionTimeout
  refine .next ?_
  refine .trans ?_ (State.readmitFailsFar_kept ..)
  exact State.readmitFails_kept ..

theorem execFrontEndUpdate_kept (c : Fin 4) (skew gain quad : Int) (s : State) :
    OutKept s (execFrontEndUpdate c skew gain quad s) := by
  unfold execFrontEndUpdate
  refine .next ?_
  refine .ite ?_ ?_
  · refine .ite ?_ ?_
    · exact State.wrI_kept ..
    · refine .trans ?_ (State.wrI_kept ..)
      refine .trans ?_ (State.wrI_kept ..)
      exact State.wrI_kept ..
  · exact .refl _

theorem execCdTrackUpdate_kept (residual : Int) (s : State) : OutKept s (execCdTrackUpdate residual s) := by
  unfold execCdTrackUpdate
  refine .next ?_
  refine .ite ?_ ?_
  · exact State.wrI_kept ..
  · exact .refl _

theorem execNlScaleAdapt_kept (k : Fin 32) (scale : Int) (s : State) : OutKept s (execNlScaleAdapt k scale s) := by
  unfold execNlScaleAdapt
  refine .next ?_
  refine .ite ?_ ?_
  · exact State.wrI_kept ..
  · exact .refl _

theorem State.rxBoundary_kept (s : State) (k : Nat) : Kept s (State.rxBoundary s k) := by
  unfold State.rxBoundary
  refine .ite ?_ ?_
  · refine .upd ?_ rfl rfl rfl rfl rfl rfl rfl rfl rfl rfl
    exact State.wrB_kept ..
  · exact State.wrB_kept ..

theorem State.easelArmEffect_kept (s : State) : EffKept s (State.easelArmEffect s) := by
  unfold State.easelArmEffect
  refine .plain ?_ rfl
  refine .ite ?_ ?_
  · exact State.easelFire_kept ..
  · exact State.wrN_kept ..

theorem State.easelAbortEffect_kept (s : State) : EffKept s (State.easelAbortEffect s) := by
  unfold State.easelAbortEffect
  refine .ok ?_
  refine .ite ?_ ?_
  · exact State.wrN_kept ..
  · exact .refl _

theorem execEaselArm_kept (s : State) : OutKept s (execEaselArm s) := by
  unfold execEaselArm
  refine .next ?_
  refine State.command_kept _ _ _ _ _ ?_
  exact State.easelArmEffect_kept ..

theorem execEaselAbort_kept (s : State) : OutKept s (execEaselAbort s) := by
  unfold execEaselAbort
  refine .next ?_
  refine State.command_kept _ _ _ _ _ ?_
  exact State.easelAbortEffect_kept ..

theorem execEaselTrigger_kept (s : State) : OutKept s (execEaselTrigger s) := by
  unfold execEaselTrigger
  refine .next ?_
  refine .ite ?_ ?_
  · exact State.easelFire_kept ..
  · exact .refl _

theorem execEaselCaptureDone_kept (data : List (List Int)) (s : State) : OutKept s (execEaselCaptureDone data s) := by
  unfold execEaselCaptureDone
  refine .next ?_
  refine .ite ?_ ?_
  · refine .trans ?_ (State.inc32_kept ..)
    refine .trans ?_ (State.wrN_kept ..)
    refine .trans ?_ (State.wrN_kept ..)
    refine .trans ?_ (State.wrS_kept ..)
    exact .upd (.refl _) rfl rfl rfl rfl rfl rfl rfl rfl rfl rfl
  · exact .refl _

end Sys2Proof.Machine
end

