-- ==== Sys2Proof/Laws/KeptConverters.lean ====
section
/-! SUPPORT. `Kept` of the operations of Machine/Converters.lean, one lemma each. -/

namespace Sys2Proof.Machine

theorem State.setSlice_kept (s : State) (a n : Nat) (x : Slice) : Kept s (State.setSlice s a n x) := by
  unfold State.setSlice
  exact .upd (.refl _) rfl rfl rfl rfl rfl rfl rfl rfl rfl rfl

theorem State.adcReport_kept (s : State) (a : Nat) : Kept s (State.adcReport s a) := by
  unfold State.adcReport
  refine .trans ?_ (State.rxInvalidJudge_kept ..)
  refine .trans ?_ (State.defect_kept ..)
  refine .trans ?_ (State.defect_kept ..)
  refine .trans ?_ (State.wrN_kept ..)
  refine .trans ?_ (State.wrN_kept ..)
  refine .trans ?_ (State.wrN_kept ..)
  refine .trans ?_ (State.wrN_kept ..)
  exact State.wrN_kept ..

theorem State.trimReport_kept (s : State) (a : Nat) : Kept s (State.trimReport s a) := by
  unfold State.trimReport
  refine .trans ?_ (State.wrN_kept ..)
  exact State.wrS_kept ..

theorem State.makeLive_kept (s : State) (a n p : Nat) : Kept s (State.makeLive s a n p) := by
  unfold State.makeLive
  exact State.setSlice_kept ..

theorem State.setRole_kept (s : State) (a n r : Nat) : Kept s (State.setRole s a n r) := by
  unfold State.setRole
  exact State.setSlice_kept ..

theorem State.faulty_kept (s : State) (a n cause : Nat) : Kept s (State.faulty s a n cause) := by
  unfold State.faulty
  exact State.setSlice_kept ..

theorem State.fillDegraded_kept (s : State) (a : Nat) : Kept s (State.fillDegraded s a) := by
  unfold State.fillDegraded
  split
  · refine .trans ?_ (State.count_kept ..)
    refine .trans ?_ (State.inc32_kept ..)
    refine .upd ?_ rfl rfl rfl rfl rfl rfl rfl rfl rfl rfl
    exact State.makeLive_kept ..
  · exact .refl _

theorem State.endRotation_kept (s : State) (a : Nat) : Kept s (State.endRotation s a) := by
  unfold State.endRotation
  exact .upd (.refl _) rfl rfl rfl rfl rfl rfl rfl rfl rfl rfl

theorem State.abandon_kept (s : State) (a : Nat) : Kept s (State.abandon s a) := by
  unfold State.abandon
  refine .trans ?_ (State.count_kept ..)
  refine .trans ?_ (State.inc32_kept ..)
  refine .trans ?_ (State.endRotation_kept ..)
  split
  · refine .ite ?_ ?_
    · exact .upd (.refl _) rfl rfl rfl rfl rfl rfl rfl rfl rfl rfl
    · exact .refl _
  · exact .refl _

theorem State.sendInit_kept (s : State) : Kept s (State.sendInit s) := by
  unfold State.sendInit
  refine .each ?_ ?_
  · exact .refl _
  · intro _ _
    refine .ite ?_ ?_
    · refine .each ?_ ?_
      · exact .refl _
      · intro _ _
        refine .trans ?_ (State.inc32_kept ..)
        exact State.emit_kept ..
    · exact .refl _

theorem State.convStart_kept (s : State) : Kept s (State.convStart s) := by
  unfold State.convStart
  refine .trans ?_ (State.sendInit_kept ..)
  refine .trans ?_ (State.wrN_kept ..)
  exact .upd (.refl _) rfl rfl rfl rfl rfl rfl rfl rfl rfl rfl

theorem State.calref_kept (s : State) (uv : Nat) : Kept s (State.calref s uv) := by
  unfold State.calref
  refine .ite ?_ ?_
  · refine .trans ?_ (State.raise_kept ..)
    refine .upd ?_ rfl rfl rfl rfl rfl rfl rfl rfl rfl rfl
    exact State.wrN_kept ..
  · refine .ite ?_ ?_
    · refine .trans ?_ (State.clear_kept ..)
      refine .upd ?_ rfl rfl rfl rfl rfl rfl rfl rfl rfl rfl
      exact State.wrN_kept ..
    · refine .upd ?_ rfl rfl rfl rfl rfl rfl rfl rfl rfl rfl
      exact State.wrN_kept ..

theorem State.calSlice_kept (s : State) (a n : Nat) (faulty : Bool) : Kept s (State.calSlice s a n faulty) := by
  unfold State.calSlice
  refine .ite ?_ ?_
  · exact State.setSlice_kept ..
  · refine .ite ?_ ?_
    · exact State.setSlice_kept ..
    · exact State.setSlice_kept ..

theorem State.assignPositions_kept (s : State) (a : Nat) : Kept s (State.assignPositions s a) := by
  unfold State.assignPositions
  refine .each ?_ ?_
  · exact .refl _
  · intro _ _
    split
    · exact State.setSlice_kept ..
    · exact .upd (.refl _) rfl rfl rfl rfl rfl rfl rfl rfl rfl rfl

theorem State.dacRecord_kept (s : State) (d : Nat) (words : List Byte) : Kept s (State.dacRecord s d words) := by
  unfold State.dacRecord
  refine .trans ?_ (State.wrN_kept ..)
  refine .trans ?_ (State.wrS_kept ..)
  exact .upd (.refl _) rfl rfl rfl rfl rfl rfl rfl rfl rfl rfl

theorem State.calDac_kept (s : State) (d : Nat) : Kept s (State.calDac s d) := by
  unfold State.calDac
  exact State.dacRecord_kept ..

theorem State.freezeConverters_kept (s : State) : Kept s (State.freezeConverters s) := by
  unfold State.freezeConverters
  refine .trans ?_ (State.wrN_kept ..)
  refine .upd ?_ rfl rfl rfl rfl rfl rfl rfl rfl rfl rfl
  refine .each ?_ ?_
  · exact .refl _
  · intro _ _
    split
    · refine .ite ?_ ?_
      · exact State.setRole_kept ..
      · refine .trans ?_ (State.adcReport_kept ..)
        refine .trans ?_ (State.fillDegraded_kept ..)
        refine .trans ?_ (State.abandon_kept ..)
        exact State.setSlice_kept ..
    · exact .refl _

theorem execSynthLockLoss_kept (s : State) : OutKept s (execSynthLockLoss s) := by
  unfold execSynthLockLoss
  refine .next ?_
  refine .ite ?_ ?_
  · refine .trans ?_ (State.rxInvalidJudge_kept ..)
    refine .trans ?_ (State.muteCause_kept ..)
    exact State.raise_kept ..
  · exact .refl _

theorem execSynthLockReturn_kept (s : State) : OutKept s (execSynthLockReturn s) := by
  unfold execSynthLockReturn
  refine .next ?_
  refine .ite ?_ ?_
  · refine .trans ?_ (State.rxInvalidJudge_kept ..)
    refine .trans ?_ (State.unmuteCause_kept ..)
    exact State.clear_kept ..
  · exact .refl _

theorem execCalrefCheck_kept (measuredUv : Nat) (s : State) : OutKept s (execCalrefCheck measuredUv s) := by
  unfold execCalrefCheck
  refine .next ?_
  refine .ite ?_ ?_
  · exact State.calref_kept ..
  · exact .refl _

theorem State.startRotation_kept (s : State) (a p : Nat) (retire : Bool) : Kept s (State.startRotation s a p retire) := by
  unfold State.startRotation
  split
  · refine .upd ?_ rfl rfl rfl rfl rfl rfl rfl rfl rfl rfl
    exact State.setSlice_kept ..
  · exact .refl _

theorem State.roundRobin_kept (s : State) (a : Nat) : Kept s (State.roundRobin s a) := by
  unfold State.roundRobin
  refine .ite ?_ ?_
  · refine .trans ?_ (State.adcReport_kept ..)
    refine .trans ?_ (State.wrN_kept ..)
    exact State.startRotation_kept ..
  · exact .refl _

theorem State.servedRetires_kept (s : State) (a : Nat) : Kept s (State.servedRetires s a) := by
  unfold State.servedRetires
  refine .each ?_ ?_
  · exact .refl _
  · intro _ _
    refine .ite ?_ ?_
    · refine .trans ?_ (State.adcReport_kept ..)
      refine .trans ?_ (State.trimReport_kept ..)
      refine .trans ?_ (State.setRole_kept ..)
      exact .upd (.refl _) rfl rfl rfl rfl rfl rfl rfl rfl rfl rfl
    · exact .upd (.refl _) rfl rfl rfl rfl rfl rfl rfl rfl rfl rfl

theorem State.nextRetire_kept (s : State) (a : Nat) : Kept s (State.nextRetire s a) := by
  unfold State.nextRetire
  refine .ite ?_ ?_
  · exact State.servedRetires_kept ..
  · split
    · refine .ite ?_ ?_
      · exact State.servedRetires_kept ..
      · refine .trans ?_ (State.adcReport_kept ..)
        refine .trans ?_ (State.startRotation_kept ..)
        refine .upd ?_ rfl rfl rfl rfl rfl rfl rfl rfl rfl rfl
        exact State.servedRetires_kept ..
    · refine .ite ?_ ?_
      · refine .trans ?_ (State.roundRobin_kept ..)
        refine .upd ?_ rfl rfl rfl rfl rfl rfl rfl rfl rfl rfl
        exact State.servedRetires_kept ..
      · exact State.servedRetires_kept ..

theorem State.readmitted_kept (s : State) (a n : Nat) (m : SliceMeasure) : Kept s (State.readmitted s a n m) := by
  unfold State.readmitted
  refine .trans ?_ (State.nextRetire_kept ..)
  refine .trans ?_ (State.adcReport_kept ..)
  refine .trans ?_ (State.trimReport_kept ..)
  refine .ite ?_ ?_
  · refine .trans ?_ (State.fillDegraded_kept ..)
    exact State.setSlice_kept ..
  · exact State.faulty_kept ..

theorem State.resumeConverters_kept (s : State) : Kept s (State.resumeConverters s) := by
  unfold State.resumeConverters
  refine .each ?_ ?_
  · refine .trans ?_ (State.wrN_kept ..)
    refine .each ?_ ?_
    · refine .upd ?_ rfl rfl rfl rfl rfl rfl rfl rfl rfl rfl
      refine .each ?_ ?_
      · exact .upd (.refl _) rfl rfl rfl rfl rfl rfl rfl rfl rfl rfl
      · intro _ _
        split
        · refine .ite ?_ ?_
          · exact State.setRole_kept ..
          · exact .refl _
        · exact .refl _
    · intro _ _
      exact State.readmitted_kept ..
  · intro _ _
    exact State.nextRetire_kept ..

theorem State.convJudge_kept (s : State) : Kept s (State.convJudge s) := by
  unfold State.convJudge
  refine .ite ?_ ?_
  · exact .refl _
  · refine .ite ?_ ?_
    · exact State.freezeConverters_kept ..
    · refine .ite ?_ ?_
      · exact State.resumeConverters_kept ..
      · exact .refl _

theorem execForegroundCalibrationDone_kept (r : ForeResult) (s : State) : OutKept s (execForegroundCalibrationDone r s) := by
  unfold execForegroundCalibrationDone
  refine .next ?_
  refine .ite ?_ ?_
  · refine .trans ?_ (State.unmuteCause_kept ..)
    refine .trans ?_ (State.convJudge_kept ..)
    refine .trans ?_ (State.wrN_kept ..)
    refine .trans ?_ (State.wrN_kept ..)
    refine .upd ?_ rfl rfl rfl rfl rfl rfl rfl rfl rfl rfl
    refine .each ?_ ?_
    · refine .each ?_ ?_
      · refine .each ?_ ?_
        · exact State.calref_kept ..
        · intro _ _
          refine .trans ?_ (State.assignPositions_kept ..)
          refine .each ?_ ?_
          · exact .refl _
          · intro _ _
            exact State.calSlice_kept ..
      · intro _ _
        refine .trans ?_ (State.trimReport_kept ..)
        exact State.adcReport_kept ..
    · intro _ _
      exact State.calDac_kept ..
  · exact .refl _

theorem execRotationStart_kept (a : Fin 4) (s : State) : OutKept s (execRotationStart a s) := by
  unfold execRotationStart
  refine .next ?_
  refine .ite ?_ ?_
  · exact .refl _
  · refine .ite ?_ ?_
    · exact .upd (.refl _) rfl rfl rfl rfl rfl rfl rfl rfl rfl rfl
    · exact State.roundRobin_kept ..

theorem execSpareMeasurementDone_kept (a : Fin 4) (m : SliceMeasure) (s : State) :
    OutKept s (execSpareMeasurementDone a m s) := by
  unfold execSpareMeasurementDone
  refine .next ?_
  split
  · refine .ite ?_ ?_
    · exact .refl _
    · refine .ite ?_ ?_
      · refine .ite ?_ ?_
        · refine .trans ?_ (State.trimReport_kept ..)
          refine .upd ?_ rfl rfl rfl rfl rfl rfl rfl rfl rfl rfl
          exact State.setSlice_kept ..
        · refine .upd ?_ rfl rfl rfl rfl rfl rfl rfl rfl rfl rfl
          exact State.setSlice_kept ..
      · refine .trans ?_ (State.nextRetire_kept ..)
        refine .trans ?_ (State.adcReport_kept ..)
        refine .trans ?_ (State.endRotation_kept ..)
        exact State.faulty_kept ..
  · exact .refl _

theorem State.swapSlice_kept (s : State) (a : Nat) (r : Rotation) : Kept s (State.swapSlice s a r) := by
  unfold State.swapSlice
  refine .ite ?_ ?_
  · refine .trans ?_ (State.nextRetire_kept ..)
    refine .trans ?_ (State.adcReport_kept ..)
    refine .trans ?_ (State.trimReport_kept ..)
    refine .trans ?_ (State.count_kept ..)
    refine .trans ?_ (State.inc32_kept ..)
    refine .trans ?_ (State.endRotation_kept ..)
    refine .trans ?_ (State.setRole_kept ..)
    exact State.makeLive_kept ..
  · refine .upd ?_ rfl rfl rfl rfl rfl rfl rfl rfl rfl rfl
    refine .trans ?_ (State.setRole_kept ..)
    exact State.makeLive_kept ..

theorem execShadowWindowEnd_kept (a : Fin 4) (d : Residual) (taps : List Int) (s : State) :
    OutKept s (execShadowWindowEnd a d taps s) := by
  unfold execShadowWindowEnd
  refine .next ?_
  split
  · refine .ite ?_ ?_
    · exact .refl _
    · refine .ite ?_ ?_
      · refine .trans ?_ (State.swapSlice_kept ..)
        exact State.setSlice_kept ..
      · refine .ite ?_ ?_
        · refine .trans ?_ (State.nextRetire_kept ..)
          refine .trans ?_ (State.adcReport_kept ..)
          refine .trans ?_ (State.fillDegraded_kept ..)
          refine .trans ?_ (State.abandon_kept ..)
          refine .trans ?_ (State.setRole_kept ..)
          exact State.setSlice_kept ..
        · refine .upd ?_ rfl rfl rfl rfl rfl rfl rfl rfl rfl rfl
          exact State.setSlice_kept ..
  · exact .refl _

theorem execReleasedSliceMeasured_kept (a : Fin 4) (m : SliceMeasure) (s : State) :
    OutKept s (execReleasedSliceMeasured a m s) := by
  unfold execReleasedSliceMeasured
  refine .next ?_
  split
  · refine .ite ?_ ?_
    · exact .refl _
    · refine .trans ?_ (State.nextRetire_kept ..)
      refine .trans ?_ (State.adcReport_kept ..)
      refine .trans ?_ (State.count_kept ..)
      refine .trans ?_ (State.inc32_kept ..)
      refine .trans ?_ (State.endRotation_kept ..)
      refine .ite ?_ ?_
      · refine .trans ?_ (State.trimReport_kept ..)
        refine .ite ?_ ?_
        · refine .trans ?_ (State.fillDegraded_kept ..)
          exact State.setSlice_kept ..
        · exact State.faulty_kept ..
      · refine .ite ?_ ?_
        · refine .trans ?_ (State.fillDegraded_kept ..)
          exact State.setSlice_kept ..
        · exact State.faulty_kept ..
  · exact .refl _

theorem State.emergencyAt_kept (s : State) (a p : Nat) : Kept s (State.emergencyAt s a p) := by
  unfold State.emergencyAt
  split
  · refine .trans ?_ (State.count_kept ..)
    refine .trans ?_ (State.inc32_kept ..)
    refine .ite ?_ ?_
    · refine .upd ?_ rfl rfl rfl rfl rfl rfl rfl rfl rfl rfl
      exact State.makeLive_kept ..
    · exact State.makeLive_kept ..
  · refine .trans ?_ (State.count_kept ..)
    refine .trans ?_ (State.inc32_kept ..)
    exact State.makeLive_kept ..
  · refine .ite ?_ ?_
    · exact .upd (.refl _) rfl rfl rfl rfl rfl rfl rfl rfl rfl rfl
    · refine .trans ?_ (State.count_kept ..)
      refine .trans ?_ (State.inc32_kept ..)
      refine .trans ?_ (State.makeLive_kept ..)
      exact State.abandon_kept ..
  · exact .upd (.refl _) rfl rfl rfl rfl rfl rfl rfl rfl rfl rfl

theorem State.sliceFault_kept (s : State) (a n cause : Nat) : Kept s (State.sliceFault s a n cause) := by
  unfold State.sliceFault
  refine .ite ?_ ?_
  · dsimp only
    split
    · refine .ite ?_ ?_
      · refine .trans ?_ (State.nextRetire_kept ..)
        refine .trans ?_ (State.adcReport_kept ..)
        refine .trans ?_ (State.count_kept ..)
        refine .trans ?_ (State.inc32_kept ..)
        refine .trans ?_ (State.endRotation_kept ..)
        refine .trans ?_ (State.makeLive_kept ..)
        refine .ite ?_ ?_
        · refine .upd ?_ rfl rfl rfl rfl rfl rfl rfl rfl rfl rfl
          exact State.faulty_kept ..
        · exact State.faulty_kept ..
      · refine .trans ?_ (State.nextRetire_kept ..)
        refine .trans ?_ (State.adcReport_kept ..)
        refine .trans ?_ (State.emergencyAt_kept ..)
        exact State.faulty_kept ..
    · refine .trans ?_ (State.nextRetire_kept ..)
      refine .trans ?_ (State.adcReport_kept ..)
      refine .trans ?_ (State.emergencyAt_kept ..)
      exact State.faulty_kept ..
  · refine .ite ?_ ?_
    · refine .trans ?_ (State.nextRetire_kept ..)
      refine .trans ?_ (State.adcReport_kept ..)
      refine .trans ?_ (State.faulty_kept ..)
      exact State.abandon_kept ..
    · exact .refl _

theorem execSliceFault_kept (a : Fin 4) (slice : Fin 152) (watch : SliceWatch) (s : State) :
    OutKept s (execSliceFault a slice watch s) := by
  unfold execSliceFault
  refine .next ?_
  split
  · exact State.sliceFault_kept ..
  · exact .refl _

theorem State.rotationIntervalEffect_kept (s : State) (v : Nat) : EffKept s (State.rotationIntervalEffect s v) := by
  unfold State.rotationIntervalEffect
  refine .ok ?_
  refine .ite ?_ ?_
  · refine .trans ?_ (State.wrN_kept ..)
    refine .upd ?_ rfl rfl rfl rfl rfl rfl rfl rfl rfl rfl
    exact State.wrN_kept ..
  · refine .upd ?_ rfl rfl rfl rfl rfl rfl rfl rfl rfl rfl
    exact State.wrN_kept ..

theorem State.sliceRetireEffect_kept (s : State) : EffKept s (State.sliceRetireEffect s) := by
  unfold State.sliceRetireEffect
  refine .plain ?_ rfl
  split
  · dsimp only
    split
    · split
      · refine .ite ?_ ?_
        · exact .upd (.refl _) rfl rfl rfl rfl rfl rfl rfl rfl rfl rfl
        · exact .upd (.refl _) rfl rfl rfl rfl rfl rfl rfl rfl rfl rfl
      · refine .trans ?_ (State.adcReport_kept ..)
        exact State.startRotation_kept ..
    · refine .trans ?_ (State.nextRetire_kept ..)
      refine .trans ?_ (State.adcReport_kept ..)
      refine .trans ?_ (State.trimReport_kept ..)
      refine .trans ?_ (State.setRole_kept ..)
      exact State.abandon_kept ..
    · exact .refl _
    · exact .refl _
    · split
      · refine .ite ?_ ?_
        · refine .trans ?_ (State.nextRetire_kept ..)
          refine .trans ?_ (State.adcReport_kept ..)
          refine .trans ?_ (State.trimReport_kept ..)
          refine .trans ?_ (State.setRole_kept ..)
          exact State.abandon_kept ..
        · refine .ite ?_ ?_
          · refine .trans ?_ (State.nextRetire_kept ..)
            refine .trans ?_ (State.adcReport_kept ..)
            refine .trans ?_ (State.trimReport_kept ..)
            refine .trans ?_ (State.setRole_kept ..)
            refine .trans ?_ (State.count_kept ..)
            refine .trans ?_ (State.inc32_kept ..)
            exact State.endRotation_kept ..
          · refine .trans ?_ (State.nextRetire_kept ..)
            refine .trans ?_ (State.adcReport_kept ..)
            refine .trans ?_ (State.trimReport_kept ..)
            exact State.setRole_kept ..
      · refine .trans ?_ (State.nextRetire_kept ..)
        refine .trans ?_ (State.adcReport_kept ..)
        refine .trans ?_ (State.trimReport_kept ..)
        exact State.setRole_kept ..
  · dsimp only
    split
    · split
      · refine .ite ?_ ?_
        · exact .upd (.refl _) rfl rfl rfl rfl rfl rfl rfl rfl rfl rfl
        · exact .upd (.refl _) rfl rfl rfl rfl rfl rfl rfl rfl rfl rfl
      · exact .upd (.refl _) rfl rfl rfl rfl rfl rfl rfl rfl rfl rfl
    · refine .trans ?_ (State.nextRetire_kept ..)
      refine .trans ?_ (State.adcReport_kept ..)
      refine .trans ?_ (State.trimReport_kept ..)
      refine .trans ?_ (State.setRole_kept ..)
      exact State.abandon_kept ..
    · exact .refl _
    · exact .refl _
    · split
      · refine .ite ?_ ?_
        · refine .trans ?_ (State.nextRetire_kept ..)
          refine .trans ?_ (State.adcReport_kept ..)
          refine .trans ?_ (State.trimReport_kept ..)
          refine .trans ?_ (State.setRole_kept ..)
          exact State.abandon_kept ..
        · refine .ite ?_ ?_
          · refine .trans ?_ (State.nextRetire_kept ..)
            refine .trans ?_ (State.adcReport_kept ..)
            refine .trans ?_ (State.trimReport_kept ..)
            refine .trans ?_ (State.setRole_kept ..)
            refine .trans ?_ (State.count_kept ..)
            refine .trans ?_ (State.inc32_kept ..)
            exact State.endRotation_kept ..
          · refine .trans ?_ (State.nextRetire_kept ..)
            refine .trans ?_ (State.adcReport_kept ..)
            refine .trans ?_ (State.trimReport_kept ..)
            exact State.setRole_kept ..
      · refine .trans ?_ (State.nextRetire_kept ..)
        refine .trans ?_ (State.adcReport_kept ..)
        refine .trans ?_ (State.trimReport_kept ..)
        exact State.setRole_kept ..

theorem State.sliceReadmitEffect_kept (s : State) (m : SliceMeasure) : EffKept s (State.sliceReadmitEffect s m) := by
  unfold State.sliceReadmitEffect
  refine .plain ?_ rfl
  refine .ite ?_ ?_
  · exact State.readmitted_kept ..
  · exact .upd (.refl _) rfl rfl rfl rfl rfl rfl rfl rfl rfl rfl

theorem execSliceRetire_kept (s : State) : OutKept s (execSliceRetire s) := by
  unfold execSliceRetire
  refine .next ?_
  refine State.command_kept _ _ _ _ _ ?_
  exact State.sliceRetireEffect_kept ..

theorem execSliceReadmit_kept (m : SliceMeasure) (s : State) : OutKept s (execSliceReadmit m s) := by
  unfold execSliceReadmit
  refine .next ?_
  refine State.command_kept _ _ _ _ _ ?_
  exact State.sliceReadmitEffect_kept ..

theorem execDacTrimStep_kept (d : Fin 4) (timing gain offset : Int) (s : State) :
    OutKept s (execDacTrimStep d timing gain offset s) := by
  unfold execDacTrimStep
  refine .next ?_
  refine .ite ?_ ?_
  · refine .trans ?_ (State.dacRecord_kept ..)
    refine .trans ?_ (State.inc32_kept ..)
    refine .trans ?_ (State.wrI_kept ..)
    refine .trans ?_ (State.wrI_kept ..)
    exact State.wrI_kept ..
  · exact .refl _

theorem execDacImageTimer_kept (d : Fin 4) (level : Int) (s : State) : OutKept s (execDacImageTimer d level s) := by
  unfold execDacImageTimer
  refine .next ?_
  refine .ite ?_ ?_
  · exact .refl _
  · exact State.defect_kept ..

theorem State.spiWrite_kept (s : State) (cs reg value : Nat) : Kept s (State.spiWrite s cs reg value) := by
  unfold State.spiWrite
  refine .trans ?_ (State.inc32_kept ..)
  exact State.emit_kept ..

theorem State.spiRead_kept (s : State) (cs reg : Nat) : Kept s (State.spiRead s cs reg) := by
  unfold State.spiRead
  refine .trans ?_ (State.inc32_kept ..)
  exact State.emit_kept ..

theorem State.writeGain_kept (s : State) (j code readback : Nat) : Kept s (State.writeGain s j code readback) := by
  unfold State.writeGain
  refine .ite ?_ ?_
  · refine .trans ?_ (State.inc32_kept ..)
    refine .trans ?_ (State.wrN_kept ..)
    refine .trans ?_ (State.spiRead_kept ..)
    exact State.spiWrite_kept ..
  · refine .trans ?_ (State.raise_kept ..)
    refine .trans ?_ (State.inc32_kept ..)
    refine .upd ?_ rfl rfl rfl rfl rfl rfl rfl rfl rfl rfl
    refine .trans ?_ (State.inc32_kept ..)
    refine .trans ?_ (State.wrN_kept ..)
    refine .trans ?_ (State.spiRead_kept ..)
    exact State.spiWrite_kept ..

theorem execGainLoopUpdate_kept (j : Fin 8) (measured : Nat) (readback : Nat) (s : State) :
    OutKept s (execGainLoopUpdate j measured readback s) := by
  unfold execGainLoopUpdate
  refine .next ?_
  refine .ite ?_ ?_
  · refine .ite ?_ ?_
    · exact State.wrN_kept ..
    · exact .refl _
  · refine .ite ?_ ?_
    · refine .trans ?_ (State.wrB_kept ..)
      refine .ite ?_ ?_
      · refine .ite ?_ ?_
        · exact State.wrN_kept ..
        · exact .refl _
      · refine .trans ?_ (State.spiRead_kept ..)
        refine .ite ?_ ?_
        · exact State.wrN_kept ..
        · exact .refl _
    · refine .ite ?_ ?_
      · refine .ite ?_ ?_
        · refine .trans ?_ (State.wrB_kept ..)
          refine .ite ?_ ?_
          · refine .ite ?_ ?_
            · exact State.wrN_kept ..
            · exact .refl _
          · refine .trans ?_ (State.spiRead_kept ..)
            refine .ite ?_ ?_
            · exact State.wrN_kept ..
            · exact .refl _
        · refine .trans ?_ (State.writeGain_kept ..)
          refine .trans ?_ (State.wrB_kept ..)
          refine .ite ?_ ?_
          · refine .ite ?_ ?_
            · exact State.wrN_kept ..
            · exact .refl _
          · refine .trans ?_ (State.spiRead_kept ..)
            refine .ite ?_ ?_
            · exact State.wrN_kept ..
            · exact .refl _
      · refine .ite ?_ ?_
        · refine .trans ?_ (State.wrB_kept ..)
          refine .ite ?_ ?_
          · refine .ite ?_ ?_
            · exact State.wrN_kept ..
            · exact .refl _
          · refine .trans ?_ (State.spiRead_kept ..)
            refine .ite ?_ ?_
            · exact State.wrN_kept ..
            · exact .refl _
        · refine .trans ?_ (State.writeGain_kept ..)
          refine .trans ?_ (State.wrB_kept ..)
          refine .ite ?_ ?_
          · refine .ite ?_ ?_
            · exact State.wrN_kept ..
            · exact .refl _
          · refine .trans ?_ (State.spiRead_kept ..)
            refine .ite ?_ ?_
            · exact State.wrN_kept ..
            · exact .refl _

theorem execFespiRetry_kept (j : Fin 8) (readback : Nat) (s : State) : OutKept s (execFespiRetry j readback s) := by
  unfold execFespiRetry
  refine .next ?_
  refine .ite ?_ ?_
  · exact .refl _
  · refine .ite ?_ ?_
    · refine .ite ?_ ?_
      · refine .upd ?_ rfl rfl rfl rfl rfl rfl rfl rfl rfl rfl
        refine .trans ?_ (State.inc32_kept ..)
        refine .trans ?_ (State.spiRead_kept ..)
        exact State.spiWrite_kept ..
      · refine .trans ?_ (State.clear_kept ..)
        refine .upd ?_ rfl rfl rfl rfl rfl rfl rfl rfl rfl rfl
        refine .trans ?_ (State.inc32_kept ..)
        refine .trans ?_ (State.spiRead_kept ..)
        exact State.spiWrite_kept ..
    · refine .trans ?_ (State.inc32_kept ..)
      refine .trans ?_ (State.inc32_kept ..)
      refine .trans ?_ (State.spiRead_kept ..)
      exact State.spiWrite_kept ..

end Sys2Proof.Machine
end

