-- ==== Sys2Proof/Laws/KeptFec.lean ====
section
/-! SUPPORT. `Kept` of the operations of Machine/Fec.lean, one lemma each. -/

namespace Sys2Proof.Machine

theorem State.budgetFollow_kept (s : State) : Kept s (State.budgetFollow s) := by
  unfold State.budgetFollow
  refine .ite ?_ ?_
  · exact .refl _
  · refine .ite ?_ ?_
    · refine .trans ?_ (State.clear_kept ..)
      exact State.wrN_kept ..
    · exact State.wrN_kept ..

theorem State.hostCapInForce_kept (s : State) : Kept s (State.hostCapInForce s) := by
  unfold State.hostCapInForce
  refine .ite ?_ ?_
  · exact .refl _
  · refine .trans ?_ (State.budgetFollow_kept ..)
    exact .upd (.refl _) rfl rfl rfl rfl rfl rfl rfl rfl rfl rfl

theorem State.fecStart_kept (s : State) : Kept s (State.fecStart s) := by
  unfold State.fecStart
  refine .trans ?_ (State.wrBit_kept ..)
  refine .trans ?_ (State.wrN_kept ..)
  refine .trans ?_ (State.hostCapInForce_kept ..)
  exact .upd (.refl _) rfl rfl rfl rfl rfl rfl rfl rfl rfl rfl

theorem State.fecShed_kept (s : State) : Kept s (State.fecShed s) := by
  unfold State.fecShed
  refine .ite ?_ ?_
  · refine .trans ?_ (State.defect_kept ..)
    exact State.hostCapInForce_kept ..
  · exact State.hostCapInForce_kept ..

theorem State.latencyEffect_kept (s : State) (v : Nat) : EffKept s (State.latencyEffect s v) := by
  unfold State.latencyEffect
  refine .plain ?_ rfl
  exact State.wrN_kept ..

theorem State.hostCapEffect_kept (s : State) (v : Nat) : EffKept s (State.hostCapEffect s v) := by
  unfold State.hostCapEffect
  refine .plain ?_ rfl
  refine .trans ?_ (State.hostCapInForce_kept ..)
  exact State.wrN_kept ..

theorem State.budgetEffect_kept (s : State) (v : Nat) : EffKept s (State.budgetEffect s v) := by
  unfold State.budgetEffect
  refine .ok ?_
  refine .ite ?_ ?_
  · refine .trans ?_ (State.wrN_kept ..)
    refine .upd ?_ rfl rfl rfl rfl rfl rfl rfl rfl rfl rfl
    exact State.wrN_kept ..
  · refine .trans ?_ (State.budgetFollow_kept ..)
    refine .upd ?_ rfl rfl rfl rfl rfl rfl rfl rfl rfl rfl
    exact State.wrN_kept ..

theorem State.loopbackEffect_kept (s : State) (v : Nat) : EffKept s (State.loopbackEffect s v) := by
  unfold State.loopbackEffect
  refine .plain ?_ rfl
  exact State.wrN_kept ..

theorem State.injectionEffect_kept (s : State) (v : Nat) : EffKept s (State.injectionEffect s v) := by
  unfold State.injectionEffect
  refine .plain ?_ rfl
  exact State.wrN_kept ..

theorem State.setFec_kept (s : State) (k : Nat) (f : FecThread) : Kept s (State.setFec s k f) := by
  unfold State.setFec
  exact .upd (.refl _) rfl rfl rfl rfl rfl rfl rfl rfl rfl rfl

theorem execBudgetCapUpdate_kept (power : Nat) (s : State) : OutKept s (execBudgetCapUpdate power s) := by
  unfold execBudgetCapUpdate
  refine .next ?_
  refine .ite ?_ ?_
  · refine .ite ?_ ?_
    · refine .trans ?_ (State.budgetFollow_kept ..)
      refine .upd ?_ rfl rfl rfl rfl rfl rfl rfl rfl rfl rfl
      refine .upd ?_ rfl rfl rfl rfl rfl rfl rfl rfl rfl rfl
      exact State.wrN_kept ..
    · refine .ite ?_ ?_
      · refine .ite ?_ ?_
        · refine .upd ?_ rfl rfl rfl rfl rfl rfl rfl rfl rfl rfl
          refine .trans ?_ (State.clear_kept ..)
          refine .upd ?_ rfl rfl rfl rfl rfl rfl rfl rfl rfl rfl
          exact State.wrN_kept ..
        · refine .ite ?_ ?_
          · refine .upd ?_ rfl rfl rfl rfl rfl rfl rfl rfl rfl rfl
            refine .trans ?_ (State.raise_kept ..)
            refine .upd ?_ rfl rfl rfl rfl rfl rfl rfl rfl rfl rfl
            exact State.wrN_kept ..
          · refine .upd ?_ rfl rfl rfl rfl rfl rfl rfl rfl rfl rfl
            refine .trans ?_ (State.wrN_kept ..)
            refine .trans ?_ (State.clear_kept ..)
            refine .upd ?_ rfl rfl rfl rfl rfl rfl rfl rfl rfl rfl
            exact State.wrN_kept ..
      · refine .ite ?_ ?_
        · refine .upd ?_ rfl rfl rfl rfl rfl rfl rfl rfl rfl rfl
          refine .trans ?_ (State.clear_kept ..)
          refine .upd ?_ rfl rfl rfl rfl rfl rfl rfl rfl rfl rfl
          exact State.wrN_kept ..
        · refine .ite ?_ ?_
          · refine .upd ?_ rfl rfl rfl rfl rfl rfl rfl rfl rfl rfl
            refine .trans ?_ (State.wrN_kept ..)
            refine .trans ?_ (State.clear_kept ..)
            refine .upd ?_ rfl rfl rfl rfl rfl rfl rfl rfl rfl rfl
            exact State.wrN_kept ..
          · refine .upd ?_ rfl rfl rfl rfl rfl rfl rfl rfl rfl rfl
            refine .trans ?_ (State.clear_kept ..)
            refine .upd ?_ rfl rfl rfl rfl rfl rfl rfl rfl rfl rfl
            exact State.wrN_kept ..
  · exact .refl _

theorem execCodewordRelease_kept (k : Fin 32) (llrs : List Int) (s : State) : OutKept s (execCodewordRelease k llrs s) := by
  unfold execCodewordRelease
  refine .next ?_
  refine .ite ?_ ?_
  · refine .ite ?_ ?_
    · exact .refl _
    · exact State.setFec_kept ..
  · refine .trans ?_ (State.setFec_kept ..)
    refine .whenB ?_ ?_
    · refine .whenB ?_ ?_
      · refine .trans ?_ (State.bump_kept ..)
        refine .trans ?_ (State.bump_kept ..)
        refine .trans ?_ (State.bump_kept ..)
        refine .trans ?_ (State.bump_kept ..)
        refine .trans ?_ (State.inc64_kept ..)
        exact .upd (.refl _) rfl rfl rfl rfl rfl rfl rfl rfl rfl rfl
      · intro _
        exact State.count_kept ..
    · intro _
      refine .trans ?_ (State.emit_kept ..)
      exact .upd (.refl _) rfl rfl rfl rfl rfl rfl rfl rfl rfl rfl

theorem State.forcedEffect_kept (s : State) (c : Nat) : EffKept s (State.forcedEffect s c) := by
  unfold State.forcedEffect
  refine .plain ?_ rfl
  refine .each ?_ ?_
  · exact .refl _
  · intro _ _
    exact State.setFec_kept ..

theorem execForcedFailure_kept (c : Nat) (s : State) : OutKept s (execForcedFailure c s) := by
  unfold execForcedFailure
  refine .next ?_
  refine State.command_kept _ _ _ _ _ ?_
  exact State.forcedEffect_kept ..

theorem execFecWindowEnd_kept (k : Fin 32) (s : State) : OutKept s (execFecWindowEnd k s) := by
  unfold execFecWindowEnd
  refine .next ?_
  refine .ite ?_ ?_
  · exact .refl _
  · refine .ite ?_ ?_
    · exact State.setFec_kept ..
    · refine .trans ?_ (State.ssf_kept ..)
      refine .trans ?_ (State.setFec_kept ..)
      refine .ite ?_ ?_
      · refine .trans ?_ (State.raise_kept ..)
        refine .ite ?_ ?_
        · refine .trans ?_ (State.raise_kept ..)
          refine .ite ?_ ?_
          · exact State.raise_kept ..
          · refine .ite ?_ ?_
            · exact State.clear_kept ..
            · exact .refl _
        · refine .ite ?_ ?_
          · refine .trans ?_ (State.clear_kept ..)
            refine .ite ?_ ?_
            · exact State.raise_kept ..
            · refine .ite ?_ ?_
              · exact State.clear_kept ..
              · exact .refl _
          · refine .ite ?_ ?_
            · exact State.raise_kept ..
            · refine .ite ?_ ?_
              · exact State.clear_kept ..
              · exact .refl _
      · refine .ite ?_ ?_
        · refine .trans ?_ (State.clear_kept ..)
          refine .ite ?_ ?_
          · refine .trans ?_ (State.raise_kept ..)
            refine .ite ?_ ?_
            · exact State.raise_kept ..
            · refine .ite ?_ ?_
              · exact State.clear_kept ..
              · exact .refl _
          · refine .ite ?_ ?_
            · refine .trans ?_ (State.clear_kept ..)
              refine .ite ?_ ?_
              · exact State.raise_kept ..
              · refine .ite ?_ ?_
                · exact State.clear_kept ..
                · exact .refl _
            · refine .ite ?_ ?_
              · exact State.raise_kept ..
              · refine .ite ?_ ?_
                · exact State.clear_kept ..
                · exact .refl _
        · refine .ite ?_ ?_
          · refine .trans ?_ (State.raise_kept ..)
            refine .ite ?_ ?_
            · exact State.raise_kept ..
            · refine .ite ?_ ?_
              · exact State.clear_kept ..
              · exact .refl _
          · refine .ite ?_ ?_
            · refine .trans ?_ (State.clear_kept ..)
              refine .ite ?_ ?_
              · exact State.raise_kept ..
              · refine .ite ?_ ?_
                · exact State.clear_kept ..
                · exact .refl _
            · refine .ite ?_ ?_
              · exact State.raise_kept ..
              · refine .ite ?_ ?_
                · exact State.clear_kept ..
                · exact .refl _

theorem State.fecSecond_kept (s : State) (k : Nat) : Kept s (State.fecSecond s k) := by
  unfold State.fecSecond
  refine .ite ?_ ?_
  · refine .trans ?_ (State.wrN_kept ..)
    refine .trans ?_ (State.wrN_kept ..)
    refine .trans ?_ (State.wrN_kept ..)
    refine .trans ?_ (State.wrI_kept ..)
    refine .trans ?_ (State.wrN_kept ..)
    refine .trans ?_ (State.wrS_kept ..)
    refine .trans ?_ (State.setFec_kept ..)
    exact .upd (.refl _) rfl rfl rfl rfl rfl rfl rfl rfl rfl rfl
  · refine .trans ?_ (State.wrI_kept ..)
    refine .trans ?_ (State.wrN_kept ..)
    refine .trans ?_ (State.wrN_kept ..)
    refine .trans ?_ (State.wrI_kept ..)
    refine .trans ?_ (State.wrN_kept ..)
    refine .trans ?_ (State.wrS_kept ..)
    refine .trans ?_ (State.setFec_kept ..)
    exact .upd (.refl _) rfl rfl rfl rfl rfl rfl rfl rfl rfl rfl

theorem State.fecSeconds_kept (s : State) : Kept s (State.fecSeconds s) := by
  unfold State.fecSeconds
  refine .ite ?_ ?_
  · refine .each ?_ ?_
    · exact .refl _
    · intro _ _
      exact State.fecSecond_kept ..
  · exact .refl _

end Sys2Proof.Machine
end

