-- ==== Sys2Proof/Laws/KeptFraming.lean ====
section
/-! SUPPORT. `Kept` of the operations of Machine/Framing.lean, one lemma each. -/

namespace Sys2Proof.Machine

theorem State.frameLost_kept (s : State) (k : Nat) : Kept s (State.frameLost s k) := by
  unfold State.frameLost
  refine .trans ?_ (State.withdrawThread_kept ..)
  refine .trans ?_ (State.count_kept ..)
  refine .trans ?_ (State.inc32_kept ..)
  exact State.wrN_kept ..

theorem State.frameFound_kept (s : State) (k : Nat) : Kept s (State.frameFound s k) := by
  unfold State.frameFound
  refine .ite ?_ ?_
  · refine .trans ?_ (State.setRxStatus_kept ..)
    refine .upd ?_ rfl rfl rfl rfl rfl rfl rfl rfl rfl rfl
    exact State.wrN_kept ..
  · refine .upd ?_ rfl rfl rfl rfl rfl rfl rfl rfl rfl rfl
    exact State.wrN_kept ..

theorem State.rxPageFlip_kept (s : State) (k : Nat) : Kept s (State.rxPageFlip s k) := by
  unfold State.rxPageFlip
  refine .trans ?_ (State.wrN_kept ..)
  refine .trans ?_ (State.wrS_kept ..)
  exact State.wrS_kept ..

theorem State.huntStep_kept (s : State) (k w : Nat) : Kept s (State.huntStep s k w) := by
  unfold State.huntStep
  split
  · refine .ite ?_ ?_
    · refine .trans ?_ (State.setHunt_kept ..)
      refine .trans ?_ (State.wrN_kept ..)
      refine .ite ?_ ?_
      · exact State.rxPageFlip_kept ..
      · exact .refl _
    · exact .refl _
  · refine .ite ?_ ?_
    · refine .trans ?_ (State.setHunt_kept ..)
      exact State.wrN_kept ..
    · refine .ite ?_ ?_
      · refine .trans ?_ (State.frameFound_kept ..)
        exact State.setHunt_kept ..
      · exact State.setHunt_kept ..
  · refine .ite ?_ ?_
    · exact State.setHunt_kept ..
    · refine .ite ?_ ?_
      · refine .trans ?_ (State.frameLost_kept ..)
        exact State.setHunt_kept ..
      · exact State.setHunt_kept ..
  · refine .ite ?_ ?_
    · refine .trans ?_ (State.frameFound_kept ..)
      exact State.setHunt_kept ..
    · refine .ite ?_ ?_
      · refine .trans ?_ (State.setHunt_kept ..)
        exact State.wrN_kept ..
      · exact State.setHunt_kept ..
  · exact .refl _

theorem State.swapThread_kept (s : State) (p : Propose) (k : Nat) : Kept s (State.swapThread s p k) := by
  unfold State.swapThread
  refine .ite ?_ ?_
  · refine .trans ?_ (State.setHunt_kept ..)
    refine .trans ?_ (State.rxPageFlip_kept ..)
    refine .ite ?_ ?_
    · exact State.setHunt_kept ..
    · exact .refl _
  · refine .ite ?_ ?_
    · exact State.setHunt_kept ..
    · exact .refl _

theorem State.swapStates_kept (s : State) (p : Propose) (m : Nat) : Kept s (State.swapStates s p m) := by
  unfold State.swapStates
  refine .each ?_ ?_
  · exact .refl _
  · intro _ _
    refine .ite ?_ ?_
    · refine .upd ?_ rfl rfl rfl rfl rfl rfl rfl rfl rfl rfl
      exact State.setRxStatus_kept ..
    · refine .upd ?_ rfl rfl rfl rfl rfl rfl rfl rfl rfl rfl
      exact State.setRxStatus_kept ..

theorem State.receiveSwap_kept (s : State) (k m : Nat) : Kept s (State.receiveSwap s k m) := by
  unfold State.receiveSwap
  refine .foldl ?_ ?_
  · refine .trans ?_ (State.ssf_kept ..)
    refine .upd ?_ rfl rfl rfl rfl rfl rfl rfl rfl rfl rfl
    refine .each ?_ ?_
    · exact .refl _
    · intro _ _
      refine .upd ?_ rfl rfl rfl rfl rfl rfl rfl rfl rfl rfl
      refine .each ?_ ?_
      · refine .ite ?_ ?_
        · exact State.swapStates_kept ..
        · exact .refl _
      · intro _ _
        exact State.swapThread_kept ..
  · intro _ _
    refine .upd ?_ rfl rfl rfl rfl rfl rfl rfl rfl rfl rfl
    exact State.setRxStatus_kept ..

theorem State.adopt_kept (s : State) (k : Nat) : Kept s (State.adopt s k) := by
  unfold State.adopt
  split
  · refine .trans ?_ (State.ssf_kept ..)
    refine .each ?_ ?_
    · refine .trans ?_ (State.setHunt_kept ..)
      refine .trans ?_ (State.inc32_kept ..)
      exact State.wrS_kept ..
    · intro _ _
      refine .trans ?_ (State.answer_kept ..)
      exact State.dropPart_kept ..
  · exact .refl _

theorem State.setSealTen_kept (s : State) (n : Nat) (x : SealTen) : Kept s (State.setSealTen s n x) := by
  unfold State.setSealTen
  exact .upd (.refl _) rfl rfl rfl rfl rfl rfl rfl rfl rfl rfl

theorem State.delinEvent_kept (s : State) (n : Nat) (e : DelinEvent) : Kept s (State.delinEvent s n e) := by
  unfold State.delinEvent
  split
  · exact State.inc32_kept ..
  · exact State.inc32_kept ..
  · exact State.setTen_kept ..
  · refine .trans ?_ (State.inc64_kept ..)
    exact State.setTen_kept ..
  · refine .ite ?_ ?_
    · exact .refl _
    · exact State.emit_kept ..

theorem State.delinByte_kept (s : State) (n : Nat) (bad : Bool) (b : Byte) : Kept s (State.delinByte s n bad b) := by
  unfold State.delinByte
  refine .each ?_ ?_
  · exact State.setTen_kept ..
  · intro _ _
    exact State.delinEvent_kept ..

theorem State.clientOut_kept (s : State) (n p c : Nat) (b : List Byte) : Kept s (State.clientOut s n p c b) := by
  unfold State.clientOut
  exact State.emit_kept ..

theorem State.jcIn_kept (s : State) (n p : Nat) (b : List Byte) : Kept s (State.jcIn s n p b) := by
  unfold State.jcIn
  refine .ite ?_ ?_
  · refine .trans ?_ (State.clientOut_kept ..)
    exact State.setTen_kept ..
  · refine .trans ?_ (State.clientOut_kept ..)
    exact State.setTen_kept ..

theorem State.delinGap_kept (s : State) (n : Nat) : Kept s (State.delinGap s n) := by
  unfold State.delinGap
  refine .trans ?_ (State.setTen_kept ..)
  refine .whenB ?_ ?_
  · exact .refl _
  · intro _
    exact State.delinEvent_kept ..

theorem State.sealedIn_kept (s : State) (n : Nat) (gap : Bool) (line : List Byte) :
    Kept s (State.sealedIn s n gap line) := by
  unfold State.sealedIn
  refine .ite ?_ ?_
  · refine .trans ?_ (State.setTen_kept ..)
    exact State.setTen_kept ..
  · split
    · refine .each ?_ ?_
      · exact State.setTen_kept ..
      · intro _ _
        exact State.delinByte_kept ..
    · refine .trans ?_ (State.delinGap_kept ..)
      exact State.setTen_kept ..

theorem State.containerIn_kept (s : State) (n : Nat) : Kept s (State.containerIn s n) := by
  unfold State.containerIn
  refine .ite ?_ ?_
  · refine .trans ?_ (State.sealedIn_kept ..)
    exact State.setTen_kept ..
  · refine .ite ?_ ?_
    · refine .trans ?_ (State.jcIn_kept ..)
      exact State.setTen_kept ..
    · refine .each ?_ ?_
      · refine .ite ?_ ?_
        · refine .trans ?_ (State.delinGap_kept ..)
          exact State.setTen_kept ..
        · exact State.setTen_kept ..
      · intro _ _
        refine .each ?_ ?_
        · exact .refl _
        · intro _ _
          exact State.delinByte_kept ..

theorem State.deliver_kept (s : State) (k i h : Nat) (accepted : Bool) (lf : LfIn) (info : Option (List Bool)) :
    Kept s (State.deliver s k i h accepted lf info) := by
  unfold State.deliver
  refine .ite ?_ ?_
  · refine .each ?_ ?_
    · exact State.bump_kept ..
    · intro _ _
      exact State.setTen_kept ..
  · refine .each ?_ ?_
    · refine .each ?_ ?_
      · exact State.bump_kept ..
      · intro _ _
        exact State.setTen_kept ..
    · intro _ _
      exact State.badStitches_kept ..

theorem State.runDefect_kept (s : State) (idx sub b n set clr : Nat) : Kept s (State.runDefect s idx sub b n set clr) := by
  unfold State.runDefect
  refine .ite ?_ ?_
  · exact State.raise_kept ..
  · refine .ite ?_ ?_
    · exact State.clear_kept ..
    · exact .refl _

theorem State.sealCounted_kept (s : State) (n : Nat) (bad : Bool) : Kept s (State.sealCounted s n bad) := by
  unfold State.sealCounted
  dsimp only
  split
  · exact State.setTen_kept ..
  · exact .refl _

theorem State.tenantMultiframe_kept (s : State) (n : Nat) : Kept s (State.tenantMultiframe s n) := by
  unfold State.tenantMultiframe
  refine .trans ?_ (State.setTen_kept ..)
  refine .trans ?_ (State.runDefect_kept ..)
  refine .trans ?_ (State.runDefect_kept ..)
  refine .trans ?_ (State.runDefect_kept ..)
  refine .whenB ?_ ?_
  · refine .trans ?_ (State.containerIn_kept ..)
    exact State.sealCounted_kept ..
  · intro _
    exact State.inc32_kept ..

theorem State.tenantsMultiframe_kept (s : State) (m : Nat) : Kept s (State.tenantsMultiframe s m) := by
  unfold State.tenantsMultiframe
  refine .ite ?_ ?_
  · exact .refl _
  · refine .upd ?_ rfl rfl rfl rfl rfl rfl rfl rfl rfl rfl
    refine .each ?_ ?_
    · exact .refl _
    · intro _ _
      exact State.tenantMultiframe_kept ..

theorem State.counterIn_kept (s : State) (k c : Nat) : Kept s (State.counterIn s k c) := by
  unfold State.counterIn
  refine .ite ?_ ?_
  · refine .ite ?_ ?_
    · refine .trans ?_ (State.ssf_kept ..)
      refine .upd ?_ rfl rfl rfl rfl rfl rfl rfl rfl rfl rfl
      refine .trans ?_ (State.clear_kept ..)
      exact State.setHunt_kept ..
    · exact State.setHunt_kept ..
  · split
    · refine .trans ?_ (State.ssf_kept ..)
      refine .upd ?_ rfl rfl rfl rfl rfl rfl rfl rfl rfl rfl
      refine .trans ?_ (State.clear_kept ..)
      exact State.setHunt_kept ..
    · refine .ite ?_ ?_
      · exact State.setHunt_kept ..
      · refine .ite ?_ ?_
        · refine .trans ?_ (State.ssf_kept ..)
          refine .trans ?_ (State.raise_kept ..)
          exact State.setHunt_kept ..
        · exact State.setHunt_kept ..

theorem State.digestIn_kept (s : State) (k d : Nat) : Kept s (State.digestIn s k d) := by
  unfold State.digestIn
  refine .ite ?_ ?_
  · exact .refl _
  · refine .trans ?_ (State.runDefect_kept ..)
    exact State.setHunt_kept ..

theorem State.shedMutedIn_kept (s : State) (v : Nat) : Kept s (State.shedMutedIn s v) := by
  unfold State.shedMutedIn
  refine .each ?_ ?_
  · refine .each ?_ ?_
    · exact .upd (.refl _) rfl rfl rfl rfl rfl rfl rfl rfl rfl rfl
    · intro _ _
      exact State.beginMask_kept ..
  · intro _ _
    refine .ite ?_ ?_
    · refine .trans ?_ (State.setLock_kept ..)
      exact .upd (.refl _) rfl rfl rfl rfl rfl rfl rfl rfl rfl rfl
    · exact .upd (.refl _) rfl rfl rfl rfl rfl rfl rfl rfl rfl rfl

theorem State.remoteDefectIn_kept (s : State) (v : Nat) : Kept s (State.remoteDefectIn s v) := by
  unfold State.remoteDefectIn
  refine .each ?_ ?_
  · exact .upd (.refl _) rfl rfl rfl rfl rfl rfl rfl rfl rfl rfl
  · intro _ _
    split
    · dsimp only
      split
      · refine .upd ?_ rfl rfl rfl rfl rfl rfl rfl rfl rfl rfl
        refine .ite ?_ ?_
        · refine .trans ?_ (State.runDefect_kept ..)
          exact State.setHunt_kept ..
        · exact State.setHunt_kept ..
      · refine .ite ?_ ?_
        · refine .trans ?_ (State.runDefect_kept ..)
          exact State.setHunt_kept ..
        · exact State.setHunt_kept ..
    · dsimp only
      split
      · refine .ite ?_ ?_
        · refine .trans ?_ (State.wrN_kept ..)
          refine .upd ?_ rfl rfl rfl rfl rfl rfl rfl rfl rfl rfl
          refine .ite ?_ ?_
          · refine .trans ?_ (State.runDefect_kept ..)
            exact State.setHunt_kept ..
          · exact State.setHunt_kept ..
        · refine .ite ?_ ?_
          · refine .trans ?_ (State.runDefect_kept ..)
            exact State.setHunt_kept ..
          · exact State.setHunt_kept ..
      · refine .ite ?_ ?_
        · refine .trans ?_ (State.runDefect_kept ..)
          exact State.setHunt_kept ..
        · exact State.setHunt_kept ..

theorem State.tenantRdiIn_kept (s : State) (i : Nat) (bits : List Byte) : Kept s (State.tenantRdiIn s i bits) := by
  unfold State.tenantRdiIn
  refine .each ?_ ?_
  · exact .refl _
  · intro _ _
    refine .trans ?_ (State.runDefect_kept ..)
    exact State.setTen_kept ..

theorem State.traceIn_kept (s : State) (i : Nat) (b : List Byte) : Kept s (State.traceIn s i b) := by
  unfold State.traceIn
  refine .ite ?_ ?_
  · refine .ite ?_ ?_
    · refine .ite ?_ ?_
      · refine .trans ?_ (State.runDefect_kept ..)
        refine .upd ?_ rfl rfl rfl rfl rfl rfl rfl rfl rfl rfl
        refine .trans ?_ (State.wrS_kept ..)
        exact .upd (.refl _) rfl rfl rfl rfl rfl rfl rfl rfl rfl rfl
      · refine .trans ?_ (State.clear_kept ..)
        refine .upd ?_ rfl rfl rfl rfl rfl rfl rfl rfl rfl rfl
        refine .trans ?_ (State.wrS_kept ..)
        exact .upd (.refl _) rfl rfl rfl rfl rfl rfl rfl rfl rfl rfl
    · refine .trans ?_ (State.ssf_kept ..)
      refine .ite ?_ ?_
      · refine .trans ?_ (State.runDefect_kept ..)
        refine .upd ?_ rfl rfl rfl rfl rfl rfl rfl rfl rfl rfl
        refine .trans ?_ (State.wrS_kept ..)
        exact .upd (.refl _) rfl rfl rfl rfl rfl rfl rfl rfl rfl rfl
      · refine .trans ?_ (State.clear_kept ..)
        refine .upd ?_ rfl rfl rfl rfl rfl rfl rfl rfl rfl rfl
        refine .trans ?_ (State.wrS_kept ..)
        exact .upd (.refl _) rfl rfl rfl rfl rfl rfl rfl rfl rfl rfl
  · exact .upd (.refl _) rfl rfl rfl rfl rfl rfl rfl rfl rfl rfl

theorem State.carrierValues_kept (s : State) (k m i arrival : Nat) (b : List Byte) :
    Kept s (State.carrierValues s k m i arrival b) := by
  unfold State.carrierValues
  refine .ite ?_ ?_
  · refine .upd ?_ rfl rfl rfl rfl rfl rfl rfl rfl rfl rfl
    refine .ite ?_ ?_
    · refine .trans ?_ (State.shedMutedIn_kept ..)
      refine .trans ?_ (State.wrN_kept ..)
      refine .trans ?_ (State.wrN_kept ..)
      refine .trans ?_ (State.wrN_kept ..)
      exact .upd (.refl _) rfl rfl rfl rfl rfl rfl rfl rfl rfl rfl
    · refine .trans ?_ (State.wrN_kept ..)
      refine .trans ?_ (State.wrN_kept ..)
      refine .trans ?_ (State.wrN_kept ..)
      exact .upd (.refl _) rfl rfl rfl rfl rfl rfl rfl rfl rfl rfl
  · refine .ite ?_ ?_
    · refine .trans ?_ (State.shedMutedIn_kept ..)
      refine .trans ?_ (State.wrN_kept ..)
      refine .trans ?_ (State.wrN_kept ..)
      refine .trans ?_ (State.wrN_kept ..)
      exact .upd (.refl _) rfl rfl rfl rfl rfl rfl rfl rfl rfl rfl
    · refine .trans ?_ (State.wrN_kept ..)
      refine .trans ?_ (State.wrN_kept ..)
      refine .trans ?_ (State.wrN_kept ..)
      exact .upd (.refl _) rfl rfl rfl rfl rfl rfl rfl rfl rfl rfl

theorem State.carrierJudge_kept (s : State) : Kept s (State.carrierJudge s) := by
  unfold State.carrierJudge
  split
  · refine .trans ?_ (State.traceIn_kept ..)
    refine .ite ?_ ?_
    · refine .trans ?_ (State.tenantRdiIn_kept ..)
      refine .ite ?_ ?_
      · exact .upd (.refl _) rfl rfl rfl rfl rfl rfl rfl rfl rfl rfl
      · refine .trans ?_ (State.remoteDefectIn_kept ..)
        refine .upd ?_ rfl rfl rfl rfl rfl rfl rfl rfl rfl rfl
        exact .upd (.refl _) rfl rfl rfl rfl rfl rfl rfl rfl rfl rfl
    · refine .ite ?_ ?_
      · exact .upd (.refl _) rfl rfl rfl rfl rfl rfl rfl rfl rfl rfl
      · refine .trans ?_ (State.remoteDefectIn_kept ..)
        refine .upd ?_ rfl rfl rfl rfl rfl rfl rfl rfl rfl rfl
        exact .upd (.refl _) rfl rfl rfl rfl rfl rfl rfl rfl rfl rfl
  · exact .refl _

theorem State.overheadIn_kept (s : State) (k i arrival : Nat) (b : List Byte) :
    Kept s (State.overheadIn s k i arrival b) := by
  unfold State.overheadIn
  split
  · dsimp only
    split
    · refine .ite ?_ ?_
      · refine .trans ?_ (State.clear_kept ..)
        refine .trans ?_ (State.digestIn_kept ..)
        exact State.counterIn_kept ..
      · refine .trans ?_ (State.digestIn_kept ..)
        exact State.counterIn_kept ..
    · split
      · refine .trans ?_ (State.carrierValues_kept ..)
        refine .ite ?_ ?_
        · refine .trans ?_ (State.clear_kept ..)
          refine .trans ?_ (State.digestIn_kept ..)
          exact State.counterIn_kept ..
        · refine .trans ?_ (State.digestIn_kept ..)
          exact State.counterIn_kept ..
      · refine .ite ?_ ?_
        · refine .trans ?_ (State.carrierValues_kept ..)
          refine .trans ?_ (State.carrierJudge_kept ..)
          refine .ite ?_ ?_
          · refine .trans ?_ (State.clear_kept ..)
            refine .trans ?_ (State.digestIn_kept ..)
            exact State.counterIn_kept ..
          · refine .trans ?_ (State.digestIn_kept ..)
            exact State.counterIn_kept ..
        · refine .ite ?_ ?_
          · refine .trans ?_ (State.carrierValues_kept ..)
            refine .ite ?_ ?_
            · refine .trans ?_ (State.clear_kept ..)
              refine .trans ?_ (State.digestIn_kept ..)
              exact State.counterIn_kept ..
            · refine .trans ?_ (State.digestIn_kept ..)
              exact State.counterIn_kept ..
          · refine .ite ?_ ?_
            · refine .trans ?_ (State.clear_kept ..)
              refine .trans ?_ (State.digestIn_kept ..)
              exact State.counterIn_kept ..
            · refine .trans ?_ (State.digestIn_kept ..)
              exact State.counterIn_kept ..
  · dsimp only
    split
    · refine .ite ?_ ?_
      · refine .trans ?_ (State.clear_kept ..)
        exact State.counterIn_kept ..
      · exact State.counterIn_kept ..
    · split
      · refine .trans ?_ (State.carrierValues_kept ..)
        refine .ite ?_ ?_
        · refine .trans ?_ (State.clear_kept ..)
          exact State.counterIn_kept ..
        · exact State.counterIn_kept ..
      · refine .ite ?_ ?_
        · refine .trans ?_ (State.carrierValues_kept ..)
          refine .trans ?_ (State.carrierJudge_kept ..)
          refine .ite ?_ ?_
          · refine .trans ?_ (State.clear_kept ..)
            exact State.counterIn_kept ..
          · exact State.counterIn_kept ..
        · refine .ite ?_ ?_
          · refine .trans ?_ (State.carrierValues_kept ..)
            refine .ite ?_ ?_
            · refine .trans ?_ (State.clear_kept ..)
              exact State.counterIn_kept ..
            · exact State.counterIn_kept ..
          · refine .ite ?_ ?_
            · refine .trans ?_ (State.clear_kept ..)
              exact State.counterIn_kept ..
            · exact State.counterIn_kept ..

theorem State.threadMultiframe_kept (s : State) (k : Nat) : Kept s (State.threadMultiframe s k) := by
  unfold State.threadMultiframe
  dsimp only
  split
  · refine .trans ?_ (State.rxBoundary_kept ..)
    refine .trans ?_ (State.reserveHolds_kept ..)
    refine .trans ?_ (State.adopt_kept ..)
    refine .trans ?_ (State.receiveSwap_kept ..)
    refine .trans ?_ (State.tenantsMultiframe_kept ..)
    exact State.setHunt_kept ..
  · refine .trans ?_ (State.rxBoundary_kept ..)
    refine .trans ?_ (State.reserveHolds_kept ..)
    refine .trans ?_ (State.adopt_kept ..)
    exact State.setHunt_kept ..

theorem State.takeLf_kept (s : State) (k : Nat) : Kept s (s.takeLf k).2.2 := by
  unfold State.takeLf
  split
  · exact .trans (State.setFec_kept ..) (.refl _)
  · exact .refl _

theorem State.lostWhole_kept (s : State) (k : Nat) : Kept s (State.lostWhole s k) := by
  unfold State.lostWhole
  refine .each ?_ ?_
  · exact State.countLf_kept ..
  · intro _ _
    refine .whenB ?_ ?_
    · exact .refl _
    · intro _
      exact State.setTen_kept ..

theorem State.lfDecoded_kept (s : State) (k : Nat) (lf : LfIn) (failed : Bool) (info : Option (List Bool)) :
    Kept s (State.lfDecoded s k lf failed info) := by
  unfold State.lfDecoded
  refine .ite ?_ ?_
  · refine .ite ?_ ?_
    · refine .trans ?_ (State.wrN_kept ..)
      refine .trans ?_ (State.wrN_kept ..)
      refine .whenB ?_ ?_
      · exact State.huntStep_kept ..
      · intro _
        exact State.lostWhole_kept ..
    · refine .whenB ?_ ?_
      · exact State.huntStep_kept ..
      · intro _
        exact State.lostWhole_kept ..
  · refine .ite ?_ ?_
    · refine .trans ?_ (State.overheadIn_kept ..)
      refine .trans ?_ (State.inc64_kept ..)
      refine .trans ?_ (State.countLf_kept ..)
      refine .trans ?_ (State.deliver_kept ..)
      refine .ite ?_ ?_
      · refine .trans ?_ (State.inc32_kept ..)
        refine .trans ?_ (State.setHunt_kept ..)
        refine .trans ?_ (State.huntStep_kept ..)
        refine .ite ?_ ?_
        · refine .trans ?_ (State.wrN_kept ..)
          refine .trans ?_ (State.wrN_kept ..)
          refine .whenB ?_ ?_
          · refine .trans ?_ (State.inc64_kept ..)
            refine .ite ?_ ?_
            · refine .trans ?_ (State.setHunt_kept ..)
              exact State.rxPageFlip_kept ..
            · exact .refl _
          · intro _
            exact State.inc32_kept ..
        · refine .whenB ?_ ?_
          · refine .trans ?_ (State.inc64_kept ..)
            refine .ite ?_ ?_
            · refine .trans ?_ (State.setHunt_kept ..)
              exact State.rxPageFlip_kept ..
            · exact .refl _
          · intro _
            exact State.inc32_kept ..
      · refine .trans ?_ (State.huntStep_kept ..)
        refine .ite ?_ ?_
        · refine .trans ?_ (State.wrN_kept ..)
          refine .trans ?_ (State.wrN_kept ..)
          refine .whenB ?_ ?_
          · refine .trans ?_ (State.inc64_kept ..)
            refine .ite ?_ ?_
            · refine .trans ?_ (State.setHunt_kept ..)
              exact State.rxPageFlip_kept ..
            · exact .refl _
          · intro _
            exact State.inc32_kept ..
        · refine .whenB ?_ ?_
          · refine .trans ?_ (State.inc64_kept ..)
            refine .ite ?_ ?_
            · refine .trans ?_ (State.setHunt_kept ..)
              exact State.rxPageFlip_kept ..
            · exact .refl _
          · intro _
            exact State.inc32_kept ..
    · refine .trans ?_ (State.countLf_kept ..)
      refine .trans ?_ (State.deliver_kept ..)
      refine .ite ?_ ?_
      · refine .trans ?_ (State.inc32_kept ..)
        refine .trans ?_ (State.setHunt_kept ..)
        refine .trans ?_ (State.huntStep_kept ..)
        refine .ite ?_ ?_
        · refine .trans ?_ (State.wrN_kept ..)
          refine .trans ?_ (State.wrN_kept ..)
          refine .whenB ?_ ?_
          · refine .trans ?_ (State.inc64_kept ..)
            refine .ite ?_ ?_
            · refine .trans ?_ (State.setHunt_kept ..)
              exact State.rxPageFlip_kept ..
            · exact .refl _
          · intro _
            exact State.inc32_kept ..
        · refine .whenB ?_ ?_
          · refine .trans ?_ (State.inc64_kept ..)
            refine .ite ?_ ?_
            · refine .trans ?_ (State.setHunt_kept ..)
              exact State.rxPageFlip_kept ..
            · exact .refl _
          · intro _
            exact State.inc32_kept ..
      · refine .trans ?_ (State.huntStep_kept ..)
        refine .ite ?_ ?_
        · refine .trans ?_ (State.wrN_kept ..)
          refine .trans ?_ (State.wrN_kept ..)
          refine .whenB ?_ ?_
          · refine .trans ?_ (State.inc64_kept ..)
            refine .ite ?_ ?_
            · refine .trans ?_ (State.setHunt_kept ..)
              exact State.rxPageFlip_kept ..
            · exact .refl _
          · intro _
            exact State.inc32_kept ..
        · refine .whenB ?_ ?_
          · refine .trans ?_ (State.inc64_kept ..)
            refine .ite ?_ ?_
            · refine .trans ?_ (State.setHunt_kept ..)
              exact State.rxPageFlip_kept ..
            · exact .refl _
          · intro _
            exact State.inc32_kept ..

theorem State.lfIn_kept (s : State) (k : Nat) (lf : LfIn) : Kept s (s.lfIn k lf) :=
  ((Kept.whenB (.refl _) fun _ => State.threadMultiframe_kept ..).trans (State.takeLf_kept ..)).trans (State.lfDecoded_kept ..)

theorem execLfLofTimer_kept (k : Fin 32) (oof : Bool) (s : State) : OutKept s (execLfLofTimer k oof s) := by
  unfold execLfLofTimer
  refine .next ?_
  refine .ite ?_ ?_
  · refine .trans ?_ (State.ssf_kept ..)
    exact State.raise_kept ..
  · refine .ite ?_ ?_
    · refine .trans ?_ (State.ssf_kept ..)
      exact State.clear_kept ..
    · exact .refl _

theorem execLfOhlTimer_kept (s : State) : OutKept s (execLfOhlTimer s) := by
  unfold execLfOhlTimer
  refine .next ?_
  refine .ite ?_ ?_
  · exact State.raise_kept ..
  · exact .refl _

theorem execPageAdopt_kept (k : Fin 32) (page : List Byte) (s : State) : OutKept s (execPageAdopt k page s) := by
  unfold execPageAdopt
  refine .next ?_
  refine .ite ?_ ?_
  · exact State.setHunt_kept ..
  · exact .refl _

theorem execShedMaskTimeout_kept (k : Fin 32) (s : State) : OutKept s (execShedMaskTimeout k s) := by
  unfold execShedMaskTimeout
  refine .next ?_
  refine .ite ?_ ?_
  · refine .trans ?_ (State.ssf_kept ..)
    exact .upd (.refl _) rfl rfl rfl rfl rfl rfl rfl rfl rfl rfl
  · exact .refl _

theorem execTenOvfClear_kept (n : Fin 4096) (s : State) : OutKept s (execTenOvfClear n s) := by
  unfold execTenOvfClear
  refine .next ?_
  refine .ite ?_ ?_
  · exact State.clear_kept ..
  · exact .refl _

theorem State.traceEffect_kept (s : State) (sub : Nat) (v : DVal) : Kept s (State.traceEffect s sub v) := by
  unfold State.traceEffect
  refine .trans ?_ (State.ssf_kept ..)
  refine .ite ?_ ?_
  · exact State.wr_kept ..
  · refine .trans ?_ (State.clear_kept ..)
    exact State.wr_kept ..

theorem State.mapCbr_kept (s : State) (n : Nat) (arrived : List Bool) (csf : Bool) :
    Kept s (State.mapCbr s n arrived csf) := by
  unfold State.mapCbr
  refine .ite ?_ ?_
  · refine .trans ?_ (State.raise_kept ..)
    exact State.setTen_kept ..
  · exact State.setTen_kept ..

theorem State.pmRun_kept (s : State) (x : Verdict) : Kept s (State.pmRun s x) := by
  unfold State.pmRun
  refine .ite ?_ ?_
  · exact .refl _
  · exact .upd (.refl _) rfl rfl rfl rfl rfl rfl rfl rfl rfl rfl

theorem State.pmSecond_kept (s : State) : Kept s (State.pmSecond s) := by
  unfold State.pmSecond
  refine .ite ?_ ?_
  · exact .refl _
  · refine .upd ?_ rfl rfl rfl rfl rfl rfl rfl rfl rfl rfl
    refine .each ?_ ?_
    · refine .each ?_ ?_
      · exact .upd (.refl _) rfl rfl rfl rfl rfl rfl rfl rfl rfl rfl
      · intro _ _
        exact State.pmRun_kept ..
    · intro _ _
      exact State.setHunt_kept ..

theorem State.pmCommit_kept (s : State) (x : Verdict) : Kept s (State.pmCommit s x) := by
  unfold State.pmCommit
  refine .ite ?_ ?_
  · exact State.inc32_kept ..
  · refine .ite ?_ ?_
    · refine .trans ?_ (State.inc32_kept ..)
      refine .trans ?_ (State.wrB_kept ..)
      exact State.inc32_kept ..
    · refine .ite ?_ ?_
      · refine .trans ?_ (State.inc32_kept ..)
        refine .whenB ?_ ?_
        · refine .trans ?_ (State.wrB_kept ..)
          exact State.inc32_kept ..
        · intro _
          exact State.inc32_kept ..
      · refine .trans ?_ (State.bump_kept ..)
        refine .whenB ?_ ?_
        · refine .trans ?_ (State.wrB_kept ..)
          exact State.inc32_kept ..
        · intro _
          exact State.inc32_kept ..

theorem execPmVerdictCommit_kept (s : State) : OutKept s (execPmVerdictCommit s) := by
  unfold execPmVerdictCommit
  refine .next ?_
  split
  · refine .ite ?_ ?_
    · refine .each ?_ ?_
      · exact .upd (.refl _) rfl rfl rfl rfl rfl rfl rfl rfl rfl rfl
      · intro _ _
        exact State.pmCommit_kept ..
    · exact .refl _
  · exact .refl _

end Sys2Proof.Machine
end

