-- ==== Sys2Proof/Laws/KeptTenants.lean ====
section
/-! SUPPORT. `Kept` of the operations of Machine/Tenants.lean, one lemma each. -/

namespace Sys2Proof.Machine

theorem State.placeTenants_kept (s : State) : Kept s (State.placeTenants s) := by
  unfold State.placeTenants
  refine .each ?_ ?_
  · exact .refl _
  · intro _ _
    refine .each ?_ ?_
    · exact .refl _
    · intro _ _
      exact State.wrN_kept ..

theorem State.setQueue_kept (s : State) (q : Nat) (x : Queue) : Kept s (State.setQueue s q x) := by
  unfold State.setQueue
  exact .upd (.refl _) rfl rfl rfl rfl rfl rfl rfl rfl rfl rfl

theorem State.setFlow_kept (s : State) (p : Nat) (x : Flow) : Kept s (State.setFlow s p x) := by
  unfold State.setFlow
  exact .upd (.refl _) rfl rfl rfl rfl rfl rfl rfl rfl rfl rfl

theorem State.pauseSend_kept (s : State) (p : Nat) : Kept s (State.pauseSend s p) := by
  unfold State.pauseSend
  refine .ite ?_ ?_
  · exact .refl _
  · refine .ite ?_ ?_
    · exact State.setFlow_kept ..
    · refine .trans ?_ (State.emit_kept ..)
      refine .trans ?_ (State.inc64_kept ..)
      exact State.setFlow_kept ..

theorem State.pauseAll_kept (s : State) : Kept s (State.pauseAll s) := by
  unfold State.pauseAll
  refine .each ?_ ?_
  · exact .refl _
  · intro _ _
    exact State.pauseSend_kept ..

theorem State.cutShapers_kept (s : State) (q : Nat) : Kept s (State.cutShapers s q) := by
  unfold State.cutShapers
  exact .upd (.refl _) rfl rfl rfl rfl rfl rfl rfl rfl rfl rfl

theorem State.signalLost_kept (s : State) (p : Nat) : Kept s (State.signalLost s p) := by
  unfold State.signalLost
  refine .whenB ?_ ?_
  · exact State.raise_kept ..
  · intro _
    exact State.raise_kept ..

theorem State.hostLanesStart_kept (s : State) : Kept s (State.hostLanesStart s) := by
  unfold State.hostLanesStart
  refine .each ?_ ?_
  · exact .refl _
  · intro _ _
    refine .ite ?_ ?_
    · refine .ite ?_ ?_
      · dsimp only
        split
        · refine .trans ?_ (State.signalLost_kept ..)
          exact State.wrN_kept ..
        · exact State.wrN_kept ..
      · exact .refl _
    · refine .ite ?_ ?_
      · exact .refl _
      · exact State.wrN_kept ..

theorem State.allocate_kept (s : State) (n : Nat) : Kept s (State.allocate s n) := by
  unfold State.allocate
  refine .ite ?_ ?_
  · exact State.wrN_kept ..
  · refine .each ?_ ?_
    · refine .trans ?_ (State.wrN_kept ..)
      refine .upd ?_ rfl rfl rfl rfl rfl rfl rfl rfl rfl rfl
      exact State.wrN_kept ..
    · intro _ _
      exact State.setQueue_kept ..

theorem State.release_kept (s : State) (n : Nat) : Kept s (State.release s n) := by
  unfold State.release
  refine .trans ?_ (State.pauseAll_kept ..)
  refine .upd ?_ rfl rfl rfl rfl rfl rfl rfl rfl rfl rfl
  refine .trans ?_ (State.wrN_kept ..)
  refine .trans ?_ (State.wrN_kept ..)
  refine .trans ?_ (State.bump_kept ..)
  exact State.bump_kept ..

theorem State.tenantStateEffect_kept (s : State) (n v : Nat) : EffKept s (State.tenantStateEffect s n v) := by
  unfold State.tenantStateEffect
  refine .ite ?_ ?_
  · refine .ite ?_ ?_
    · exact .ok (.refl _)
    · refine .plain ?_ rfl
      refine .trans ?_ (State.hostLanesStart_kept ..)
      exact State.allocate_kept ..
  · refine .ite ?_ ?_
    · exact .ok (.refl _)
    · refine .plain ?_ rfl
      refine .trans ?_ (State.hostLanesStart_kept ..)
      exact State.release_kept ..

theorem State.tenantEffect_kept (s : State) (n sub : Nat) (v : DVal) : EffKept s (State.tenantEffect s n sub v) := by
  unfold State.tenantEffect
  split
  · exact State.tenantStateEffect_kept ..
  · refine .plain ?_ rfl
    exact State.wr_kept ..
  · refine .plain ?_ rfl
    exact State.wr_kept ..
  · refine .plain ?_ rfl
    refine .trans ?_ (State.hostLanesStart_kept ..)
    exact State.wr_kept ..
  · refine .plain ?_ rfl
    exact State.wr_kept ..
  · refine .plain ?_ rfl
    exact State.wr_kept ..
  · refine .plain ?_ rfl
    exact State.wr_kept ..
  · exact .ok (State.wr_kept ..)

theorem State.poolEffect_kept (t : State) : EffKept t (State.poolEffect t) := by
  unfold State.poolEffect
  refine .plain ?_ rfl
  exact .refl _

theorem State.judgeFrame_kept (s : State) (n c p : Nat) (egress taken : Bool) (f : QFrame) :
    Kept s (State.judgeFrame s n c p egress taken f) := by
  unfold State.judgeFrame
  split
  · dsimp only
    split
    · refine .trans ?_ (State.inc64_kept ..)
      exact State.setQueue_kept ..
    · refine .ite ?_ ?_
      · refine .trans ?_ (State.inc64_kept ..)
        exact State.setQueue_kept ..
      · refine .trans ?_ (State.inc64_kept ..)
        exact State.setQueue_kept ..
    · refine .ite ?_ ?_
      · refine .trans ?_ (State.inc64_kept ..)
        exact State.setQueue_kept ..
      · refine .trans ?_ (State.inc64_kept ..)
        refine .trans ?_ (State.inc64_kept ..)
        exact State.setQueue_kept ..
  · dsimp only
    split
    · refine .trans ?_ (State.inc64_kept ..)
      exact State.setQueue_kept ..
    · refine .ite ?_ ?_
      · refine .trans ?_ (State.inc64_kept ..)
        exact State.setQueue_kept ..
      · refine .trans ?_ (State.inc64_kept ..)
        exact State.setQueue_kept ..
    · refine .ite ?_ ?_
      · refine .trans ?_ (State.inc64_kept ..)
        exact State.setQueue_kept ..
      · refine .trans ?_ (State.inc64_kept ..)
        refine .trans ?_ (State.inc64_kept ..)
        exact State.setQueue_kept ..

theorem State.setProt_kept (s : State) (j : Nat) (x : Prot) : Kept s (State.setProt s j x) := by
  unfold State.setProt
  exact .upd (.refl _) rfl rfl rfl rfl rfl rfl rfl rfl rfl rfl

theorem State.toInbox_kept (s : State) (p n c : Nat) (f : Frame) : Kept s (State.toInbox s p n c f) := by
  unfold State.toInbox
  split
  · refine .upd ?_ rfl rfl rfl rfl rfl rfl rfl rfl rfl rfl
    exact State.setProt_kept ..
  · refine .ite ?_ ?_
    · refine .upd ?_ rfl rfl rfl rfl rfl rfl rfl rfl rfl rfl
      exact State.drawn_kept ..
    · refine .upd ?_ rfl rfl rfl rfl rfl rfl rfl rfl rfl rfl
      refine .ite ?_ ?_
      · exact State.drawn_kept ..
      · exact .refl _

theorem execIngressFrame_kept (p : Fin 16) (id : Nat) (b : List Byte) (s : State) :
    OutKept s (execIngressFrame p id b s) := by
  unfold execIngressFrame
  refine .next ?_
  refine .ite ?_ ?_
  · exact .refl _
  · refine .ite ?_ ?_
    · refine .trans ?_ (State.inc64_kept ..)
      exact State.inc64_kept ..
    · refine .ite ?_ ?_
      · refine .trans ?_ (State.toInbox_kept ..)
        split
        · refine .trans ?_ (State.inc64_kept ..)
          exact State.inc64_kept ..
        · exact State.inc64_kept ..
      · refine .trans ?_ (State.inc64_kept ..)
        split
        · refine .trans ?_ (State.inc64_kept ..)
          exact State.inc64_kept ..
        · exact State.inc64_kept ..

theorem execPauseRepeat_kept (p : Fin 16) (s : State) : OutKept s (execPauseRepeat p s) := by
  unfold execPauseRepeat
  refine .next ?_
  refine .ite ?_ ?_
  · exact .refl _
  · refine .ite ?_ ?_
    · refine .trans ?_ (State.emit_kept ..)
      exact State.inc64_kept ..
    · refine .trans ?_ (State.emit_kept ..)
      exact State.inc64_kept ..

theorem State.resequence_kept (s : State) (n c : Nat) : Kept s (State.resequence s n c) := by
  unfold State.resequence
  refine .ite ?_ ?_
  · exact State.setQueue_kept ..
  · exact .refl _

theorem State.cellRequest_kept (s : State) (taken : Bool) (r : CellReq) : Kept s (State.cellRequest s taken r) := by
  unfold State.cellRequest
  refine .ite ?_ ?_
  · refine .ite ?_ ?_
    · exact .refl _
    · refine .trans ?_ (State.resequence_kept ..)
      exact State.judgeFrame_kept ..
  · refine .ite ?_ ?_
    · split
      · refine .ite ?_ ?_
        · refine .trans ?_ (State.judgeFrame_kept ..)
          exact .upd (.refl _) rfl rfl rfl rfl rfl rfl rfl rfl rfl rfl
        · refine .ite ?_ ?_
          · refine .trans ?_ (State.inc64_kept ..)
            exact .upd (.refl _) rfl rfl rfl rfl rfl rfl rfl rfl rfl rfl
          · exact .upd (.refl _) rfl rfl rfl rfl rfl rfl rfl rfl rfl rfl
      · exact .refl _
    · refine .ite ?_ ?_
      · exact State.judgeFrame_kept ..
      · exact .refl _

theorem execCellRequest_kept (cycle : Nat) (rs : List CellReq) (s : State) : OutKept s (execCellRequest cycle rs s) := by
  unfold execCellRequest
  refine .next ?_
  refine .ite ?_ ?_
  · refine .trans ?_ (State.pauseAll_kept ..)
    refine .each ?_ ?_
    · exact .refl _
    · intro _ _
      exact State.cellRequest_kept ..
  · exact .refl _

theorem State.classPick_kept (s : State) (n : Nat) (egress : Bool) (r : Nat × QFrame × State)
    (h : s.classPick n egress = some r) : Kept s r.2.2 := by
  unfold State.classPick at h
  dsimp only at h
  split at h
  · cases h
  · split at h
    · split at h
      · cases h
        refine .upd ?_ rfl rfl rfl rfl rfl rfl rfl rfl rfl rfl
        exact .each (.refl _) fun _ _ => State.setQueue_kept ..
      · cases h
    · cases h

theorem State.dequeue_kept (s : State) (q : Nat) : Kept s (State.dequeue s q) := by
  unfold State.dequeue
  exact State.setQueue_kept ..

theorem State.dropStale_kept (s : State) (n d : Nat) : Kept s (State.dropStale s n d) := by
  unfold State.dropStale
  refine .each ?_ ?_
  · exact .refl _
  · intro _ _
    exact State.setQueue_kept ..

theorem State.selectorSent_kept (s : State) (n : Nat) (q : Option Nat) : Kept s (State.selectorSent s n q) := by
  unfold State.selectorSent
  split
  · refine .trans ?_ (State.dropStale_kept ..)
    split
    · refine .trans ?_ (State.bump_kept ..)
      exact State.setProt_kept ..
    · exact State.setProt_kept ..
  · refine .ite ?_ ?_
    · exact .upd (.refl _) rfl rfl rfl rfl rfl rfl rfl rfl rfl rfl
    · exact .refl _
  · exact .refl _

theorem State.egressDone_kept (s : State) (p : Nat) : Kept s (State.egressDone s p) := by
  unfold State.egressDone
  split
  · dsimp only
    split
    · refine .ite ?_ ?_
      · refine .trans ?_ (State.dequeue_kept ..)
        exact State.setFlow_kept ..
      · exact State.setFlow_kept ..
    · exact State.setFlow_kept ..
  · exact .refl _

theorem lget_filterMap_picks {α : Type} (f : Nat → Option α) (l : List Nat) (n : Nat) (r : α)
    (h : lget n (l.filterMap fun n => (f n).map fun r => (n, r)) = some r) : f n = some r := by
  induction l with
  | nil => cases h
  | cons a l ih =>
    cases ha : f a with
    | none => simp only [List.filterMap_cons, ha, Option.map_none] at h; exact ih h
    | some x =>
      simp only [List.filterMap_cons, ha, Option.map_some, lget] at h
      split at h
      · rename_i e; cases h; rw [← e]; exact ha
      · exact ih h

theorem State.egressStart_kept (s : State) (p : Nat) (fcsOk : Bool) : Kept s (s.egressStart p fcsOk) := by
  unfold State.egressStart
  refine .ite (.refl _) ?_
  dsimp only
  split
  · split
    · rename_i h
      have hk := State.classPick_kept _ _ _ _ (lget_filterMap_picks _ _ _ _ h)
      refine .ite (.trans (.trans ?_ (State.inc64_kept ..)) (State.emit_kept ..)) (.trans ?_ (State.inc64_kept ..))
      all_goals
        exact ((hk.trans (.ite (.refl _) (State.dequeue_kept ..))).trans (State.setFlow_kept ..)).trans (State.selectorSent_kept ..)
    · exact .refl _
  · exact .refl _

theorem execEgressFrameStart_kept (p : Fin 16) (fcsOk : Bool) (s : State) : OutKept s (execEgressFrameStart p fcsOk s) := by
  unfold execEgressFrameStart
  refine .next ?_
  refine .trans ?_ (State.egressStart_kept ..)
  exact State.egressDone_kept ..

theorem State.setShaper_kept (s : State) (n : Nat) (x : Shaper) : Kept s (State.setShaper s n x) := by
  unfold State.setShaper
  exact .upd (.refl _) rfl rfl rfl rfl rfl rfl rfl rfl rfl rfl

theorem State.pickFrame_kept (s : State) (n : Nat) : Kept s (s.pickFrame n) := by
  unfold State.pickFrame
  split
  · rename_i h
    split at h
    · exact (State.classPick_kept _ _ _ _ h).trans (State.setShaper_kept ..)
    · cases h
  · exact .refl _

theorem State.drawnWhole_kept (s : State) (q : Option Nat) : Kept s (State.drawnWhole s q) := by
  unfold State.drawnWhole
  split
  · refine .whenB ?_ ?_
    · exact State.dequeue_kept ..
    · intro _
      exact State.pauseSend_kept ..
  · exact .refl _

theorem State.drawBytes_kept (s : State) (n fuel wanted : Nat) : Kept s (s.drawBytes n fuel wanted) := by
  induction fuel generalizing s wanted with
  | zero => exact .refl _
  | succ fuel ih =>
    unfold State.drawBytes
    dsimp only
    split
    · refine .ite (State.setShaper_kept ..) (.trans ?_ (ih ..))
      exact (((State.setShaper_kept ..).trans (State.drawnWhole_kept ..)).trans (State.pickFrame_kept ..))
    · refine .ite (.refl _) (.ite ((State.setShaper_kept ..).trans (ih ..)) (.trans (State.pickFrame_kept s n) ?_))
      exact .ite (ih ..) (State.setShaper_kept ..)

theorem State.shapePosition_kept (s : State) (n : Nat) (first : Bool) : Kept s ((State.shapePosition s n first).2) := by
  unfold State.shapePosition
  refine .trans ?_ (State.setShaper_kept ..)
  refine .trans ?_ (State.drawBytes_kept ..)
  refine .whenB ?_ ?_
  · exact .refl _
  · intro _
    exact State.setShaper_kept ..

theorem State.mapPosition_kept (s : State) (n : Nat) (first : Bool) : Kept s ((State.mapPosition s n first).2) := by
  unfold State.mapPosition
  exact State.setShaper_kept ..

theorem State.takePosition_kept (s : State) (n : Nat) (first : Bool) : Kept s ((State.takePosition s n first).2) := by
  unfold State.takePosition
  split
  · exact State.mapPosition_kept ..
  · exact State.shapePosition_kept ..

theorem State.setStopped_kept (s : State) (p : Nat) (l : List Nat) : Kept s (State.setStopped s p l) := by
  unfold State.setStopped
  refine .trans ?_ (State.defect_kept ..)
  exact State.setFlow_kept ..

theorem execPauseReceive_kept (p : Fin 16) (quanta : Nat) (s : State) : OutKept s (execPauseReceive p quanta s) := by
  unfold execPauseReceive
  refine .next ?_
  refine .ite ?_ ?_
  · exact .refl _
  · refine .ite ?_ ?_
    · exact State.inc64_kept ..
    · refine .trans ?_ (State.setStopped_kept ..)
      exact State.inc64_kept ..

theorem execPfcReceive_kept (p : Fin 16) (cls : List (Fin 8 × Nat)) (s : State) : OutKept s (execPfcReceive p cls s) := by
  unfold execPfcReceive
  refine .next ?_
  refine .ite ?_ ?_
  · exact .refl _
  · refine .ite ?_ ?_
    · exact State.inc64_kept ..
    · refine .trans ?_ (State.setStopped_kept ..)
      exact State.inc64_kept ..

theorem execPauseExpiry_kept (p : Fin 16) (cls : Option (Fin 8)) (s : State) : OutKept s (execPauseExpiry p cls s) := by
  unfold execPauseExpiry
  refine .next ?_
  refine .ite ?_ ?_
  · exact State.setStopped_kept ..
  · exact .refl _

theorem execLocalFaultTimer_kept (p : Fin 16) (clear : Bool) (s : State) : OutKept s (execLocalFaultTimer p clear s) := by
  unfold execLocalFaultTimer
  refine .next ?_
  refine .ite ?_ ?_
  · exact .refl _
  · refine .ite ?_ ?_
    · refine .trans ?_ (State.emit_kept ..)
      refine .trans ?_ (State.raise_kept ..)
      refine .trans ?_ (State.bump_kept ..)
      refine .each ?_ ?_
      · exact .refl _
      · intro _ _
        exact State.setQueue_kept ..
    · refine .ite ?_ ?_
      · refine .trans ?_ (State.emit_kept ..)
        exact State.clear_kept ..
      · exact .refl _

theorem State.exactEffect_kept (s : State) (v : Nat) : EffKept s (State.exactEffect s v) := by
  unfold State.exactEffect
  split
  · refine .plain ?_ rfl
    exact .upd (.refl _) rfl rfl rfl rfl rfl rfl rfl rfl rfl rfl
  · refine .plain ?_ rfl
    exact .upd (.refl _) rfl rfl rfl rfl rfl rfl rfl rfl rfl rfl
  · refine .plain ?_ rfl
    exact State.wrN_kept ..

theorem execExactAdd_kept (s : State) : OutKept s (execExactAdd s) := by
  unfold execExactAdd
  refine .next ?_
  refine State.command_kept _ _ _ _ _ ?_
  exact State.exactEffect_kept ..

theorem execExactDelete_kept (s : State) : OutKept s (execExactDelete s) := by
  unfold execExactDelete
  refine .next ?_
  refine State.command_kept _ _ _ _ _ ?_
  exact State.exactEffect_kept ..

theorem execExactLookUp_kept (s : State) : OutKept s (execExactLookUp s) := by
  unfold execExactLookUp
  refine .next ?_
  refine State.command_kept _ _ _ _ _ ?_
  exact State.exactEffect_kept ..

theorem State.portEffect_kept (s : State) (p sub : Nat) (v : DVal) : EffKept s (State.portEffect s p sub v) := by
  unfold State.portEffect
  split
  · refine .plain ?_ rfl
    refine .trans ?_ (State.pauseSend_kept ..)
    exact State.wr_kept ..
  · refine .plain ?_ rfl
    refine .trans ?_ (State.pauseSend_kept ..)
    exact State.wr_kept ..
  · refine .ok ?_
    refine .trans ?_ (State.pauseSend_kept ..)
    exact State.wr_kept ..
  · refine .plain ?_ rfl
    refine .trans ?_ (State.pauseSend_kept ..)
    exact State.wr_kept ..
  · refine .plain ?_ rfl
    refine .trans ?_ (State.pauseSend_kept ..)
    exact State.wr_kept ..
  · refine .after ?_ (State.poolEffect_kept ..)
    exact State.wr_kept ..
  · refine .ok ?_
    refine .ite ?_ ?_
    · refine .trans ?_ (State.emit_kept ..)
      refine .trans ?_ (State.clear_kept ..)
      exact State.wr_kept ..
    · exact State.wr_kept ..
  · exact .ok (State.wr_kept ..)

theorem State.queueEffect_kept (s : State) (sub v : Nat) : EffKept s (State.queueEffect s sub v) := by
  unfold State.queueEffect
  refine .plain ?_ rfl
  exact State.setQueue_kept ..

theorem State.peakRead_kept (s : State) : Kept s (State.peakRead s) := by
  unfold State.peakRead
  exact State.setQueue_kept ..

theorem execResizeCalendarBuild_kept (num : Nat) (s : State) : OutKept s (execResizeCalendarBuild num s) := by
  unfold execResizeCalendarBuild
  exact .next (.upd (.refl _) rfl rfl rfl rfl rfl rfl rfl rfl rfl rfl)

theorem State.groomClear_kept (s : State) : Kept s (State.groomClear s) := by
  unfold State.groomClear
  exact .upd (.refl _) rfl rfl rfl rfl rfl rfl rfl rfl rfl rfl

end Sys2Proof.Machine
end

