-- ==== Sys2Proof/Laws/KeptSealing.lean ====
section
/-! SUPPORT. `Kept` of the operations of Machine/Sealing.lean, one lemma each. -/

namespace Sys2Proof.Machine

theorem State.writeSlot_kept (s : State) (q : Nat) (k : KeySlot) : Kept s (State.writeSlot s q k) := by
  unfold State.writeSlot
  refine .trans ?_ (State.inc64_kept ..)
  exact .upd (.refl _) rfl rfl rfl rfl rfl rfl rfl rfl rfl rfl

theorem State.eraseSlot_kept (s : State) (q : Nat) : Kept s (State.eraseSlot s q) := by
  unfold State.eraseSlot
  exact .upd (.refl _) rfl rfl rfl rfl rfl rfl rfl rfl rfl rfl

theorem State.eraseTenantSlots_kept (s : State) : Kept s (State.eraseTenantSlots s) := by
  unfold State.eraseTenantSlots
  exact .upd (.refl _) rfl rfl rfl rfl rfl rfl rfl rfl rfl rfl

theorem State.setMgmt_kept (s : State) (m : Nat) (x : MgmtSlot) : Kept s (State.setMgmt s m x) := by
  unfold State.setMgmt
  refine .trans ?_ (State.wrS_kept ..)
  refine .trans ?_ (State.wrN_kept ..)
  refine .trans ?_ (State.wrN_kept ..)
  exact .upd (.refl _) rfl rfl rfl rfl rfl rfl rfl rfl rfl rfl

theorem State.eraseMgmt_kept (s : State) (m : Nat) : Kept s (State.eraseMgmt s m) := by
  unfold State.eraseMgmt
  exact State.setMgmt_kept ..

theorem State.sealDefects_kept (s : State) : Kept s (State.sealDefects s) := by
  unfold State.sealDefects
  refine .ite ?_ ?_
  · exact .refl _
  · refine .each ?_ ?_
    · exact .refl _
    · intro _ _
      refine .trans ?_ (State.defect_kept ..)
      exact State.defect_kept ..

theorem State.tenantRule_kept (s : State) (n sub : Nat) (v : DVal) : EffKept s (s.tenantRule n sub v) :=
  EffKept.then (State.tenantEffect_kept ..) fun _ => State.sealDefects_kept ..

theorem execTenantAllocate_kept (n : Fin 4096) (s : State) : OutKept s (execTenantAllocate n s) := by
  unfold execTenantAllocate
  refine .next ?_
  refine State.command_kept _ _ _ _ _ ?_
  exact State.tenantRule_kept ..

theorem execTenantFree_kept (n : Fin 4096) (s : State) : OutKept s (execTenantFree n s) := by
  unfold execTenantFree
  refine .next ?_
  refine State.command_kept _ _ _ _ _ ?_
  exact State.tenantRule_kept ..

theorem State.slotError_kept (s : State) (q : Nat) : Kept s (State.slotError s q) := by
  unfold State.slotError
  refine .trans ?_ (State.sealDefects_kept ..)
  refine .trans ?_ (State.inc32_kept ..)
  exact State.eraseSlot_kept ..

theorem State.foundryWrite_kept (s : State) (n h e : Nat) (k : List Byte) : Kept s (State.foundryWrite s n h e k) := by
  unfold State.foundryWrite
  refine .trans ?_ (State.sealDefects_kept ..)
  refine .trans ?_ (State.writeSlot_kept ..)
  exact State.inc32_kept ..

theorem State.keyLatch_kept (s : State) (n : Nat) : Kept s (State.keyLatch s n) := by
  unfold State.keyLatch
  refine .ite ?_ ?_
  · refine .trans ?_ (State.setSealTen_kept ..)
    refine .whenB ?_ ?_
    · exact .refl _
    · intro _
      exact State.inc64_kept ..
  · refine .trans ?_ (State.wrN_kept ..)
    refine .trans ?_ (State.setSealTen_kept ..)
    refine .whenB ?_ ?_
    · exact .refl _
    · intro _
      exact State.inc64_kept ..

theorem State.sealPosition_kept (s : State) (n : Nat) (first : Bool) : Kept s ((State.sealPosition s n first).2) := by
  unfold State.sealPosition
  split
  · dsimp only
    split
    · exact .refl _
    · refine .trans ?_ (State.setSealTen_kept ..)
      exact State.takePosition_kept ..
  · dsimp only
    split
    · exact .refl _
    · refine .trans ?_ (State.setSealTen_kept ..)
      exact State.takePosition_kept ..

theorem execShaperPosition_kept (n : Fin 4096) (first : Bool) (s : State) : OutKept s (execShaperPosition n first s) := by
  unfold execShaperPosition
  refine .next ?_
  refine .ite ?_ ?_
  · exact .refl _
  · refine .trans ?_ (State.emit_kept ..)
    split
    · refine .trans ?_ (State.sealPosition_kept ..)
      refine .ite ?_ ?_
      · exact State.keyLatch_kept ..
      · exact .refl _
    · exact State.takePosition_kept ..

theorem execSealHeaderReceive_kept (n : Fin 4096) (h : BitVec 64) (m : Nat) (s : State) :
    OutKept s (execSealHeaderReceive n h m s) := by
  unfold execSealHeaderReceive
  refine .next ?_
  refine .ite ?_ ?_
  · exact .refl _
  · split
    · dsimp only
      split
      · refine .trans ?_ (State.foundryWrite_kept ..)
        exact State.setSealTen_kept ..
      · exact State.setSealTen_kept ..
    · dsimp only
      split
      · refine .trans ?_ (State.foundryWrite_kept ..)
        exact State.setSealTen_kept ..
      · exact State.setSealTen_kept ..

theorem State.releaseFrames_kept (s : State) (n : Nat) (ids : List Nat) : Kept s (State.releaseFrames s n ids) := by
  unfold State.releaseFrames
  refine .each ?_ ?_
  · exact .refl _
  · intro _ _
    exact State.setQueue_kept ..

theorem State.dropFrames_kept (s : State) (n : Nat) (ids : List Nat) : Kept s (State.dropFrames s n ids) := by
  unfold State.dropFrames
  refine .each ?_ ?_
  · exact .refl _
  · intro _ _
    exact State.setQueue_kept ..

theorem State.dropBad_kept (s : State) (frames : List (Nat × List Nat)) : Kept s (State.dropBad s frames) := by
  unfold State.dropBad
  refine .each ?_ ?_
  · exact .refl _
  · intro _ _
    exact State.dropFrames_kept ..

theorem State.tagRuns_kept (s : State) (n : Nat) (v : TagVerdict) (hadKey accepted : Bool) :
    Kept s (State.tagRuns s n v hadKey accepted) := by
  unfold State.tagRuns
  refine .trans ?_ (State.runDefect_kept ..)
  refine .trans ?_ (State.runDefect_kept ..)
  exact State.setSealTen_kept ..

theorem execTagReceive_kept (n : Fin 4096) (tag : List Byte) (lfsAccepted : Bool) (frames : List Nat) (s : State) :
    OutKept s (execTagReceive n tag lfsAccepted frames s) := by
  unfold execTagReceive
  refine .next ?_
  refine .ite ?_ ?_
  · exact .refl _
  · split
    · exact .refl _
    · refine .ite ?_ ?_
      · split
        · refine .trans ?_ (State.jcIn_kept ..)
          refine .trans ?_ (State.sealCounted_kept ..)
          refine .trans ?_ (State.releaseFrames_kept ..)
          refine .trans ?_ (State.wrN_kept ..)
          refine .trans ?_ (State.inc64_kept ..)
          refine .trans ?_ (State.setTen_kept ..)
          exact State.tagRuns_kept ..
        · refine .trans ?_ (State.sealCounted_kept ..)
          refine .trans ?_ (State.releaseFrames_kept ..)
          refine .trans ?_ (State.wrN_kept ..)
          refine .trans ?_ (State.inc64_kept ..)
          refine .trans ?_ (State.setTen_kept ..)
          exact State.tagRuns_kept ..
      · refine .ite ?_ ?_
        · refine .trans ?_ (State.emit_kept ..)
          refine .trans ?_ (State.sealCounted_kept ..)
          refine .trans ?_ (State.inc64_kept ..)
          refine .trans ?_ (State.setTen_kept ..)
          exact State.tagRuns_kept ..
        · refine .trans ?_ (State.dropFrames_kept ..)
          refine .trans ?_ (State.bump_kept ..)
          refine .trans ?_ (State.sealCounted_kept ..)
          refine .trans ?_ (State.inc64_kept ..)
          refine .trans ?_ (State.setTen_kept ..)
          exact State.tagRuns_kept ..

theorem State.sealGone_kept (s : State) : Kept s (State.sealGone s) := by
  unfold State.sealGone
  refine .each ?_ ?_
  · exact .refl _
  · intro _ _
    refine .ite ?_ ?_
    · refine .trans ?_ (State.emit_kept ..)
      refine .trans ?_ (State.sealCounted_kept ..)
      refine .trans ?_ (State.setTen_kept ..)
      refine .trans ?_ (State.inc64_kept ..)
      exact State.setSealTen_kept ..
    · refine .trans ?_ (State.dropFrames_kept ..)
      refine .trans ?_ (State.bump_kept ..)
      refine .trans ?_ (State.sealCounted_kept ..)
      refine .trans ?_ (State.setTen_kept ..)
      refine .trans ?_ (State.inc64_kept ..)
      exact State.setSealTen_kept ..

theorem State.wrappedKeyEffect_kept (s : State) (n : Nat) (data : List Byte) :
    EffKept s (State.wrappedKeyEffect s n data) := by
  unfold State.wrappedKeyEffect
  refine .plain ?_ rfl
  refine .trans ?_ (State.sealDefects_kept ..)
  refine .trans ?_ (State.writeSlot_kept ..)
  refine .trans ?_ (State.inc32_kept ..)
  refine .ite ?_ ?_
  · exact .upd (.refl _) rfl rfl rfl rfl rfl rfl rfl rfl rfl rfl
  · exact .refl _

theorem State.epochsDue_kept (s : State) : Kept s (State.epochsDue s) := by
  unfold State.epochsDue
  refine .upd ?_ rfl rfl rfl rfl rfl rfl rfl rfl rfl rfl
  refine .each ?_ ?_
  · exact .refl _
  · intro _ _
    refine .ite ?_ ?_
    · exact State.wrN_kept ..
    · exact .refl _

theorem execWrappedKeyLoad_kept (n : Fin 4096) (data : List Byte) (s : State) : OutKept s (execWrappedKeyLoad n data s) := by
  unfold execWrappedKeyLoad
  refine .next ?_
  refine State.command_kept _ _ _ _ _ ?_
  exact State.wrappedKeyEffect_kept ..

theorem State.slotEraseEffect_kept (s : State) (n c : Nat) : EffKept s (State.slotEraseEffect s n c) := by
  unfold State.slotEraseEffect
  refine .plain ?_ rfl
  refine .trans ?_ (State.sealDefects_kept ..)
  exact State.eraseSlot_kept ..

theorem execEraseEvenSlot_kept (n : Fin 4096) (s : State) : OutKept s (execEraseEvenSlot n s) := by
  unfold execEraseEvenSlot
  refine .next ?_
  refine State.command_kept _ _ _ _ _ ?_
  exact State.slotEraseEffect_kept ..

theorem execEraseOddSlot_kept (n : Fin 4096) (s : State) : OutKept s (execEraseOddSlot n s) := by
  unfold execEraseOddSlot
  refine .next ?_
  refine State.command_kept _ _ _ _ _ ?_
  exact State.slotEraseEffect_kept ..

theorem State.keyModeEffect_kept (s : State) (n : Nat) (v : DVal) : EffKept s (State.keyModeEffect s n v) := by
  unfold State.keyModeEffect
  refine .plain ?_ rfl
  refine .trans ?_ (State.sealDefects_kept ..)
  refine .trans ?_ (State.eraseSlot_kept ..)
  refine .trans ?_ (State.eraseSlot_kept ..)
  exact State.wr_kept ..

theorem State.newRoot_kept (s : State) : Kept s (State.newRoot s) := by
  unfold State.newRoot
  refine .trans ?_ (State.sealDefects_kept ..)
  refine .upd ?_ rfl rfl rfl rfl rfl rfl rfl rfl rfl rfl
  refine .each ?_ ?_
  · exact .refl _
  · intro _ _
    refine .trans ?_ (State.setSealTen_kept ..)
    refine .trans ?_ (State.wrN_kept ..)
    refine .trans ?_ (State.wrN_kept ..)
    refine .trans ?_ (State.eraseSlot_kept ..)
    exact State.eraseSlot_kept ..

theorem execDerivedKeyWrite_kept (n : Fin 4096) (s : State) : OutKept s (execDerivedKeyWrite n s) := by
  unfold execDerivedKeyWrite
  refine .next ?_
  split
  · exact .refl _
  · refine .ite ?_ ?_
    · exact .refl _
    · refine .ite ?_ ?_
      · refine .trans ?_ (State.foundryWrite_kept ..)
        exact .upd (.refl _) rfl rfl rfl rfl rfl rfl rfl rfl rfl rfl
      · refine .ite ?_ ?_
        · exact State.foundryWrite_kept ..
        · exact .refl _

theorem execReceiveKeyDerive_kept (n : Fin 4096) (s : State) : OutKept s (execReceiveKeyDerive n s) := by
  unfold execReceiveKeyDerive
  refine .next ?_
  split
  · dsimp only
    split
    · exact .refl _
    · exact .refl _
  · dsimp only
    split
    · refine .ite ?_ ?_
      · exact State.setSealTen_kept ..
      · refine .trans ?_ (State.foundryWrite_kept ..)
        exact State.setSealTen_kept ..
    · exact .refl _

theorem State.rootEffect_kept (s : State) (sub : Nat) (v : DVal) : EffKept s (State.rootEffect s sub v) := by
  unfold State.rootEffect
  refine .ok ?_
  refine .trans ?_ (State.newRoot_kept ..)
  exact State.wr_kept ..

theorem State.progress_kept (s : State) (i : Nat) (v : Bool) : Kept s (State.progress s i v) := by
  unfold State.progress
  exact State.wrBit_kept ..

theorem State.picotDue_kept (s : State) (kind : Nat) (payload : List Byte) : Kept s (State.picotDue s kind payload) := by
  unfold State.picotDue
  exact .upd (.refl _) rfl rfl rfl rfl rfl rfl rfl rfl rfl rfl

theorem State.picotCancel_kept (s : State) (kind : Nat) : Kept s (State.picotCancel s kind) := by
  unfold State.picotCancel
  exact .upd (.refl _) rfl rfl rfl rfl rfl rfl rfl rfl rfl rfl

theorem State.exchangeFails_kept (s : State) (cause : Nat) : Kept s (State.exchangeFails s cause) := by
  unfold State.exchangeFails
  refine .trans ?_ (State.picotCancel_kept ..)
  refine .trans ?_ (State.inc32_kept ..)
  refine .trans ?_ (State.wrN_kept ..)
  refine .trans ?_ (State.wrN_kept ..)
  exact .upd (.refl _) rfl rfl rfl rfl rfl rfl rfl rfl rfl rfl

theorem State.exchangeStart_kept (s : State) : Kept s (State.exchangeStart s) := by
  unfold State.exchangeStart
  refine .ite ?_ ?_
  · refine .trans ?_ (State.exchangeFails_kept ..)
    refine .trans ?_ (State.wrN_kept ..)
    refine .trans ?_ (State.inc32_kept ..)
    exact .upd (.refl _) rfl rfl rfl rfl rfl rfl rfl rfl rfl rfl
  · refine .ite ?_ ?_
    · refine .trans ?_ (State.exchangeFails_kept ..)
      refine .trans ?_ (State.wrN_kept ..)
      refine .trans ?_ (State.inc32_kept ..)
      exact .upd (.refl _) rfl rfl rfl rfl rfl rfl rfl rfl rfl rfl
    · refine .trans ?_ (State.wrN_kept ..)
      refine .trans ?_ (State.inc32_kept ..)
      exact .upd (.refl _) rfl rfl rfl rfl rfl rfl rfl rfl rfl rfl

theorem State.sealDecide_kept (s : State) (agreed : Bool) : Kept s (State.sealDecide s agreed) := by
  unfold State.sealDecide
  refine .trans ?_ (State.sealDefects_kept ..)
  refine .ite ?_ ?_
  · refine .trans ?_ (State.exchangeStart_kept ..)
    refine .trans ?_ (State.progress_kept ..)
    exact State.wrB_kept ..
  · refine .trans ?_ (State.progress_kept ..)
    refine .trans ?_ (State.wrN_kept ..)
    exact State.wrB_kept ..

theorem State.drbgDraw_kept (s : State) : Kept s (State.drbgDraw s) := by
  unfold State.drbgDraw
  refine .ite ?_ ?_
  · refine .upd ?_ rfl rfl rfl rfl rfl rfl rfl rfl rfl rfl
    exact State.drawn_kept ..
  · refine .trans ?_ (State.inc32_kept ..)
    refine .upd ?_ rfl rfl rfl rfl rfl rfl rfl rfl rfl rfl
    exact State.drawn_kept ..

theorem State.shareTaken_kept (s : State) (b : List Byte) : Kept s (State.shareTaken s b) := by
  unfold State.shareTaken
  split
  · refine .trans ?_ (State.wrN_kept ..)
    exact .upd (.refl _) rfl rfl rfl rfl rfl rfl rfl rfl rfl rfl
  · exact State.exchangeFails_kept ..

theorem State.shareIn_kept (s : State) (b : List Byte) : Kept s (State.shareIn s b) := by
  unfold State.shareIn
  refine .ite ?_ ?_
  · exact .refl _
  · refine .ite ?_ ?_
    · exact State.shareTaken_kept ..
    · refine .ite ?_ ?_
      · refine .ite ?_ ?_
        · exact .refl _
        · exact State.picotDue_kept ..
      · refine .ite ?_ ?_
        · refine .ite ?_ ?_
          · refine .trans ?_ (State.shareTaken_kept ..)
            exact State.exchangeStart_kept ..
          · exact State.exchangeStart_kept ..
        · exact State.shareTaken_kept ..

theorem State.confirmIn_kept (s : State) (b : List Byte) : Kept s (State.confirmIn s b) := by
  unfold State.confirmIn
  refine .ite ?_ ?_
  · refine .trans ?_ (State.newRoot_kept ..)
    refine .trans ?_ (State.progress_kept ..)
    refine .trans ?_ (State.bump_kept ..)
    refine .trans ?_ (State.wrN_kept ..)
    refine .trans ?_ (State.wrN_kept ..)
    refine .trans ?_ (State.setMgmt_kept ..)
    refine .trans ?_ (State.picotCancel_kept ..)
    exact .upd (.refl _) rfl rfl rfl rfl rfl rfl rfl rfl rfl rfl
  · exact State.exchangeFails_kept ..

theorem State.loadMgmt_kept (s : State) (m : Nat) (p : List Byte) : Kept s (State.loadMgmt s m p) := by
  unfold State.loadMgmt
  refine .trans ?_ (State.sealDefects_kept ..)
  refine .trans ?_ (State.inc32_kept ..)
  refine .trans ?_ (State.setMgmt_kept ..)
  exact .upd (.refl _) rfl rfl rfl rfl rfl rfl rfl rfl rfl rfl

theorem State.deviceLoadEffect_kept (s : State) (m : Nat) (data : List Byte) : EffKept s (s.deviceLoadEffect m data) := by
  unfold State.deviceLoadEffect
  refine ⟨?_, ?_⟩
  · exact .trans (State.inc32_kept ..) (State.loadMgmt_kept ..)
  · exact EffKept.failed_ite (State.inc32_kept ..)
      (((State.inc32_kept ..).trans (State.inc32_kept ..)).trans (State.wrN_kept ..))

theorem execLoadByDeviceKey_kept (m : Fin 64) (data : List Byte) (s : State) : OutKept s (execLoadByDeviceKey m data s) := by
  unfold execLoadByDeviceKey
  refine .next ?_
  refine State.command_kept _ _ _ _ _ ?_
  exact State.deviceLoadEffect_kept ..

theorem State.kekLoadEffect_kept (s : State) (m : Nat) (data : List Byte) : EffKept s (State.kekLoadEffect s m data) := by
  unfold State.kekLoadEffect
  refine .plain ?_ rfl
  exact State.loadMgmt_kept ..

theorem execLoadByKek_kept (m : Fin 64) (data : List Byte) (s : State) : OutKept s (execLoadByKek m data s) := by
  unfold execLoadByKek
  refine .next ?_
  refine State.command_kept _ _ _ _ _ ?_
  exact State.kekLoadEffect_kept ..

theorem State.mgmtEraseEffect_kept (s : State) (m : Nat) : EffKept s (State.mgmtEraseEffect s m) := by
  unfold State.mgmtEraseEffect
  refine .plain ?_ rfl
  refine .trans ?_ (State.sealDefects_kept ..)
  exact State.eraseMgmt_kept ..

theorem execManagementSlotErase_kept (m : Fin 64) (s : State) : OutKept s (execManagementSlotErase m s) := by
  unfold execManagementSlotErase
  refine .next ?_
  refine State.command_kept _ _ _ _ _ ?_
  exact State.mgmtEraseEffect_kept ..

theorem State.persistEffect_kept (s : State) (m : Nat) (v : DVal) : EffKept s (State.persistEffect s m v) := by
  unfold State.persistEffect
  refine .plain ?_ rfl
  exact State.wr_kept ..

theorem execEntropyTestFail_kept (bits : List Bool) (s : State) : OutKept s (execEntropyTestFail bits s) := by
  unfold execEntropyTestFail
  refine .next ?_
  refine .ite ?_ ?_
  · exact .refl _
  · refine .ite ?_ ?_
    · refine .trans ?_ (State.exchangeFails_kept ..)
      refine .trans ?_ (State.inc32_kept ..)
      refine .trans ?_ (State.wrN_kept ..)
      exact .upd (.refl _) rfl rfl rfl rfl rfl rfl rfl rfl rfl rfl
    · refine .trans ?_ (State.inc32_kept ..)
      refine .trans ?_ (State.wrN_kept ..)
      exact .upd (.refl _) rfl rfl rfl rfl rfl rfl rfl rfl rfl rfl

theorem State.entropyUp_kept (s : State) : Kept s (State.entropyUp s) := by
  unfold State.entropyUp
  refine .trans ?_ (State.wrN_kept ..)
  exact .upd (.refl _) rfl rfl rfl rfl rfl rfl rfl rfl rfl rfl

theorem execDrbgReseed_kept (s : State) : OutKept s (execDrbgReseed s) := by
  unfold execDrbgReseed
  refine .next ?_
  refine .ite ?_ ?_
  · refine .trans ?_ (State.inc32_kept ..)
    exact .upd (.refl _) rfl rfl rfl rfl rfl rfl rfl rfl rfl rfl
  · exact .refl _

end Sys2Proof.Machine
end

