-- ==== Sys2Proof/Laws/KeptPicot.lean ====
section
/-! SUPPORT. `Kept` of the operations of Machine/Picot.lean, one lemma each. -/

namespace Sys2Proof.Machine

theorem State.picotSend_kept (s : State) (kind : Nat) (payload : List Byte) : Kept s (State.picotSend s kind payload) := by
  unfold State.picotSend
  refine .trans ?_ (State.picotKick_kept ..)
  exact State.picotDue_kept ..

theorem State.picotClear_kept (s : State) : Kept s (State.picotClear s) := by
  unfold State.picotClear
  refine .trans ?_ (State.progress_kept ..)
  refine .trans ?_ (State.progress_kept ..)
  refine .trans ?_ (State.progress_kept ..)
  refine .trans ?_ (State.picotCancel_kept ..)
  refine .trans ?_ (State.picotCancel_kept ..)
  exact .upd (.refl _) rfl rfl rfl rfl rfl rfl rfl rfl rfl rfl

theorem State.picotRestart_kept (s : State) : Kept s (State.picotRestart s) := by
  unfold State.picotRestart
  refine .ite ?_ ?_
  · refine .trans ?_ (State.picotSend_kept ..)
    refine .trans ?_ (State.picotClear_kept ..)
    exact .upd (.refl _) rfl rfl rfl rfl rfl rfl rfl rfl rfl rfl
  · refine .trans ?_ (State.sealDefects_kept ..)
    refine .trans ?_ (State.wrN_kept ..)
    refine .trans ?_ (State.wrB_kept ..)
    refine .trans ?_ (State.progress_kept ..)
    refine .trans ?_ (State.progress_kept ..)
    refine .trans ?_ (State.progress_kept ..)
    exact .upd (.refl _) rfl rfl rfl rfl rfl rfl rfl rfl rfl rfl

theorem State.picotEntry_kept (s : State) : Kept s (State.picotEntry s) := by
  unfold State.picotEntry
  refine .trans ?_ (State.picotRestart_kept ..)
  refine .trans ?_ (State.clear_kept ..)
  refine .trans ?_ (State.clear_kept ..)
  refine .upd ?_ rfl rfl rfl rfl rfl rfl rfl rfl rfl rfl
  exact .upd (.refl _) rfl rfl rfl rfl rfl rfl rfl rfl rfl rfl

theorem State.picotCond1_kept (s : State) : Kept s (State.picotCond1 s) := by
  unfold State.picotCond1
  refine .ite ?_ ?_
  · exact .refl _
  · refine .trans ?_ (State.picotSend_kept ..)
    refine .trans ?_ (State.progress_kept ..)
    exact .upd (.refl _) rfl rfl rfl rfl rfl rfl rfl rfl rfl rfl

theorem State.picotHeard_kept (s : State) : Kept s (State.picotHeard s) := by
  unfold State.picotHeard
  refine .ite ?_ ?_
  · exact .refl _
  · refine .trans ?_ (State.picotSend_kept ..)
    exact .upd (.refl _) rfl rfl rfl rfl rfl rfl rfl rfl rfl rfl

theorem State.followOffer_kept (s : State) : Kept s (State.followOffer s) := by
  unfold State.followOffer
  refine .each ?_ ?_
  · exact .refl _
  · intro _ _
    refine .ite ?_ ?_
    · refine .trans ?_ (State.gateThread_kept ..)
      exact State.setRxStatus_kept ..
    · refine .ite ?_ ?_
      · refine .trans ?_ (State.setRxStatus_kept ..)
        exact State.ungateThread_kept ..
      · exact .refl _

theorem State.picotAgree_kept (s : State) : Kept s (State.picotAgree s) := by
  unfold State.picotAgree
  refine .ite ?_ ?_
  · refine .ite ?_ ?_
    · refine .trans ?_ (State.picotKick_kept ..)
      refine .trans ?_ (State.sealDecide_kept ..)
      refine .trans ?_ (State.followOffer_kept ..)
      exact State.progress_kept ..
    · refine .ite ?_ ?_
      · refine .trans ?_ (State.picotKick_kept ..)
        exact State.sealDecide_kept ..
      · exact .refl _
  · exact .refl _

theorem State.discoverAgain_kept (s : State) : Kept s (State.discoverAgain s) := by
  unfold State.discoverAgain
  refine .whenB ?_ ?_
  · refine .ite ?_ ?_
    · exact .refl _
    · refine .whenB ?_ ?_
      · exact .upd (.refl _) rfl rfl rfl rfl rfl rfl rfl rfl rfl rfl
      · intro _
        exact State.picotSend_kept ..
  · intro _
    exact State.exchangeStart_kept ..

theorem State.picotIn_kept {s t : State} {rx : PicotRx} {good : Bool} {f : State → State} (h : Kept s t)
    (hf : ∀ v, Kept v (f v)) : Kept s (t.picotIn rx good f) := by
  unfold State.picotIn
  have hd : Kept s (t.wrI 0x8801 7 rx.afc) := h.trans (State.wrI_kept ..)
  refine .ite h (.ite ?_ (hd.trans (State.inc32_kept ..)))
  exact (hd.trans ((State.inc32_kept ..).trans (State.clear_kept ..))).trans (hf _)

theorem execDpdFeedbackReceive_kept (rx : PicotRx) (m : DpdMsg) (s : State) : OutKept s (execDpdFeedbackReceive rx m s) := by
  unfold execDpdFeedbackReceive
  refine .next ?_
  refine State.picotIn_kept ?_ ?_
  · exact .refl _
  · intro _
    exact State.dpdFeedback_kept ..

theorem State.helloIn_kept (s : State) (b : List Byte) : Kept s (State.helloIn s b) := by
  unfold State.helloIn
  refine .ite ?_ ?_
  · refine .trans ?_ (State.picotCond1_kept ..)
    refine .trans ?_ (State.picotHeard_kept ..)
    refine .trans ?_ (State.wrN_kept ..)
    refine .trans ?_ (State.wrS_kept ..)
    refine .trans ?_ (State.wrN_kept ..)
    exact State.wrS_kept ..
  · refine .ite ?_ ?_
    · refine .trans ?_ (State.picotClear_kept ..)
      refine .trans ?_ (State.picotHeard_kept ..)
      refine .trans ?_ (State.wrN_kept ..)
      refine .trans ?_ (State.wrS_kept ..)
      refine .trans ?_ (State.wrN_kept ..)
      exact State.wrS_kept ..
    · refine .ite ?_ ?_
      · refine .upd ?_ rfl rfl rfl rfl rfl rfl rfl rfl rfl rfl
        refine .trans ?_ (State.picotHeard_kept ..)
        refine .trans ?_ (State.wrN_kept ..)
        refine .trans ?_ (State.wrS_kept ..)
        refine .trans ?_ (State.wrN_kept ..)
        exact State.wrS_kept ..
      · refine .trans ?_ (State.picotHeard_kept ..)
        refine .trans ?_ (State.wrN_kept ..)
        refine .trans ?_ (State.wrS_kept ..)
        refine .trans ?_ (State.wrN_kept ..)
        exact State.wrS_kept ..

theorem execHelloReceive_kept (rx : PicotRx) (payload : List Byte) (s : State) :
    OutKept s (execHelloReceive rx payload s) := by
  unfold execHelloReceive
  refine .next ?_
  refine State.picotIn_kept ?_ ?_
  · exact .refl _
  · intro _
    exact State.helloIn_kept ..

theorem State.offerIn_kept (s : State) (b : List Byte) : Kept s (State.offerIn s b) := by
  unfold State.offerIn
  refine .trans ?_ (State.picotSend_kept ..)
  refine .whenB ?_ ?_
  · refine .upd ?_ rfl rfl rfl rfl rfl rfl rfl rfl rfl rfl
    refine .trans ?_ (State.picotCond1_kept ..)
    exact State.picotHeard_kept ..
  · intro _
    exact State.progress_kept ..

theorem execOfferReceive_kept (rx : PicotRx) (payload : List Byte) (s : State) :
    OutKept s (execOfferReceive rx payload s) := by
  unfold execOfferReceive
  refine .next ?_
  refine State.picotIn_kept ?_ ?_
  · exact .refl _
  · intro _
    exact State.offerIn_kept ..

theorem State.acceptIn_kept (s : State) (b : List Byte) : Kept s (State.acceptIn s b) := by
  unfold State.acceptIn
  refine .ite ?_ ?_
  · refine .trans ?_ (State.raise_kept ..)
    refine .trans ?_ (State.wrN_kept ..)
    refine .trans ?_ (State.picotCond1_kept ..)
    exact State.picotHeard_kept ..
  · refine .ite ?_ ?_
    · refine .trans ?_ (State.picotAgree_kept ..)
      refine .trans ?_ (State.clear_kept ..)
      refine .trans ?_ (State.picotCancel_kept ..)
      refine .upd ?_ rfl rfl rfl rfl rfl rfl rfl rfl rfl rfl
      refine .trans ?_ (State.picotCond1_kept ..)
      exact State.picotHeard_kept ..
    · refine .trans ?_ (State.picotCond1_kept ..)
      exact State.picotHeard_kept ..

theorem execAcceptReceive_kept (rx : PicotRx) (payload : List Byte) (s : State) :
    OutKept s (execAcceptReceive rx payload s) := by
  unfold execAcceptReceive
  refine .next ?_
  refine State.picotIn_kept ?_ ?_
  · exact .refl _
  · intro _
    exact State.acceptIn_kept ..

theorem execFaultReceive_kept (rx : PicotRx) (payload : List Byte) (s : State) :
    OutKept s (execFaultReceive rx payload s) := by
  unfold execFaultReceive
  refine .next ?_
  refine State.picotIn_kept ?_ ?_
  · exact .refl _
  · intro _
    exact State.wrS_kept ..

theorem execKeyPairGenerated_kept (s : State) : OutKept s (execKeyPairGenerated s) := by
  unfold execKeyPairGenerated
  refine .next ?_
  refine .ite ?_ ?_
  · exact .refl _
  · refine .trans ?_ (State.picotSend_kept ..)
    refine .upd ?_ rfl rfl rfl rfl rfl rfl rfl rfl rfl rfl
    exact State.drbgDraw_kept ..

theorem execEcdhDone_kept (s : State) : OutKept s (execEcdhDone s) := by
  unfold execEcdhDone
  refine .next ?_
  refine .ite ?_ ?_
  · exact .refl _
  · split
    · dsimp only
      split
      · refine .trans ?_ (State.exchangeFails_kept ..)
        refine .trans ?_ (State.wrN_kept ..)
        refine .trans ?_ (State.inc32_kept ..)
        exact State.inc32_kept ..
      · refine .trans ?_ (State.picotSend_kept ..)
        refine .upd ?_ rfl rfl rfl rfl rfl rfl rfl rfl rfl rfl
        exact State.inc32_kept ..
    · dsimp only
      split
      · refine .trans ?_ (State.exchangeFails_kept ..)
        refine .trans ?_ (State.wrN_kept ..)
        refine .trans ?_ (State.inc32_kept ..)
        exact State.inc32_kept ..
      · refine .trans ?_ (State.confirmIn_kept ..)
        refine .trans ?_ (State.picotSend_kept ..)
        refine .upd ?_ rfl rfl rfl rfl rfl rfl rfl rfl rfl rfl
        exact State.inc32_kept ..

theorem execKeyshareShareReceive_kept (rx : PicotRx) (payload : List Byte) (s : State) :
    OutKept s (execKeyshareShareReceive rx payload s) := by
  unfold execKeyshareShareReceive
  refine .next ?_
  refine State.picotIn_kept ?_ ?_
  · exact .refl _
  · intro _
    refine .ite ?_ ?_
    · refine .trans ?_ (State.picotKick_kept ..)
      exact State.shareIn_kept ..
    · exact .refl _

theorem execKeyshareConfirmReceive_kept (rx : PicotRx) (payload : List Byte) (s : State) :
    OutKept s (execKeyshareConfirmReceive rx payload s) := by
  unfold execKeyshareConfirmReceive
  refine .next ?_
  refine State.picotIn_kept ?_ ?_
  · exact .refl _
  · intro _
    refine .ite ?_ ?_
    · exact .refl _
    · refine .ite ?_ ?_
      · exact State.confirmIn_kept ..
      · refine .ite ?_ ?_
        · exact .upd (.refl _) rfl rfl rfl rfl rfl rfl rfl rfl rfl rfl
        · exact .refl _

theorem execPicotBadPacket_kept (rx : PicotRx) (body : List Int) (s : State) : OutKept s (execPicotBadPacket rx body s) := by
  unfold execPicotBadPacket
  refine .next ?_
  refine .ite ?_ ?_
  · exact .refl _
  · refine .ite ?_ ?_
    · refine .trans ?_ (State.inc32_kept ..)
      exact State.wrI_kept ..
    · refine .ite ?_ ?_
      · refine .trans ?_ (State.inc32_kept ..)
        exact State.wrI_kept ..
      · exact State.wrI_kept ..

theorem execPicotPacketSent_kept (s : State) : OutKept s (execPicotPacketSent s) := by
  unfold execPicotPacketSent
  refine .next ?_
  split
  · exact State.picotKick_kept ..
  · refine .ite ?_ ?_
    · exact .upd (.refl _) rfl rfl rfl rfl rfl rfl rfl rfl rfl rfl
    · refine .trans ?_ (State.picotKick_kept ..)
      refine .ite ?_ ?_
      · refine .trans ?_ (State.picotAgree_kept ..)
        refine .upd ?_ rfl rfl rfl rfl rfl rfl rfl rfl rfl rfl
        refine .trans ?_ (State.inc32_kept ..)
        exact .upd (.refl _) rfl rfl rfl rfl rfl rfl rfl rfl rfl rfl
      · refine .trans ?_ (State.inc32_kept ..)
        exact .upd (.refl _) rfl rfl rfl rfl rfl rfl rfl rfl rfl rfl

theorem execHelloTimer_kept (s : State) : OutKept s (execHelloTimer s) := by
  unfold execHelloTimer
  refine .next ?_
  refine .ite ?_ ?_
  · exact State.picotSend_kept ..
  · exact .refl _

theorem execOfferRepeat_kept (s : State) : OutKept s (execOfferRepeat s) := by
  unfold execOfferRepeat
  refine .next ?_
  refine .ite ?_ ?_
  · exact State.picotSend_kept ..
  · exact .refl _

theorem execShareRepeat_kept (s : State) : OutKept s (execShareRepeat s) := by
  unfold execShareRepeat
  refine .next ?_
  refine .ite ?_ ?_
  · exact State.picotSend_kept ..
  · exact .refl _

theorem State.faultCheck_kept (s : State) : Kept s (State.faultCheck s) := by
  unfold State.faultCheck
  refine .ite ?_ ?_
  · refine .trans ?_ (State.picotSend_kept ..)
    exact .upd (.refl _) rfl rfl rfl rfl rfl rfl rfl rfl rfl rfl
  · exact .refl _

theorem execFaultPeriodic_kept (s : State) : OutKept s (execFaultPeriodic s) := by
  unfold execFaultPeriodic
  refine .next ?_
  refine .ite ?_ ?_
  · refine .trans ?_ (State.picotSend_kept ..)
    exact .upd (.refl _) rfl rfl rfl rfl rfl rfl rfl rfl rfl rfl
  · exact .refl _

theorem execTimePeriod_kept (s : State) : OutKept s (execTimePeriod s) := by
  unfold execTimePeriod
  refine .next ?_
  refine .ite ?_ ?_
  · refine .trans ?_ (State.picotSend_kept ..)
    exact .upd (.refl _) rfl rfl rfl rfl rfl rfl rfl rfl rfl rfl
  · exact .refl _

theorem execDpdWindowComplete_kept (x y : List Byte × Int) (s : State) : OutKept s (execDpdWindowComplete x y s) := by
  unfold execDpdWindowComplete
  refine .next ?_
  refine .ite ?_ ?_
  · exact .refl _
  · refine .trans ?_ (State.picotKick_kept ..)
    refine .upd ?_ rfl rfl rfl rfl rfl rfl rfl rfl rfl rfl
    refine .whenB ?_ ?_
    · exact State.drawn_kept ..
    · intro _
      exact State.inc32_kept ..

theorem execPicotLosTimer_kept (s : State) : OutKept s (execPicotLosTimer s) := by
  unfold execPicotLosTimer
  refine .next ?_
  refine .ite ?_ ?_
  · exact State.raise_kept ..
  · exact .refl _

end Sys2Proof.Machine
end

