-- ==== Sys2Proof/Laws/KeptTiming.lean ====
section
/-! SUPPORT. `Kept` of the operations of Machine/Timing.lean, one lemma each. -/

namespace Sys2Proof.Machine

theorem State.setCand_kept (s : State) (r : Nat) (c : Cand) : Kept s (State.setCand s r c) := by
  unfold State.setCand
  exact .upd (.refl _) rfl rfl rfl rfl rfl rfl rfl rfl rfl rfl

theorem State.setOutput_kept (s : State) (v : Int) : Kept s (State.setOutput s v) := by
  unfold State.setOutput
  refine .trans ?_ (State.wrI_kept ..)
  exact .upd (.refl _) rfl rfl rfl rfl rfl rfl rfl rfl rfl rfl

theorem State.dpllTo_kept (s : State) (v : Nat) : Kept s (State.dpllTo s v) := by
  unfold State.dpllTo
  refine .ite ?_ ?_
  · exact .refl _
  · refine .trans ?_ (State.setOutput_kept ..)
    refine .trans ?_ (State.wrN_kept ..)
    refine .upd ?_ rfl rfl rfl rfl rfl rfl rfl rfl rfl rfl
    refine .ite ?_ ?_
    · refine .trans ?_ (State.wrN_kept ..)
      refine .trans ?_ (State.wrN_kept ..)
      refine .trans ?_ (State.wrI_kept ..)
      exact State.drawn_kept ..
    · exact State.clear_kept ..

theorem State.dpllLost_kept (s : State) : Kept s (State.dpllLost s) := by
  unfold State.dpllLost
  refine .ite ?_ ?_
  · exact State.dpllTo_kept ..
  · exact State.dpllTo_kept ..

theorem State.dpllJudge_kept (s : State) (changed : Bool) : Kept s (State.dpllJudge s changed) := by
  unfold State.dpllJudge
  refine .ite ?_ ?_
  · exact State.dpllTo_kept ..
  · split
    · exact State.dpllTo_kept ..
    · exact State.dpllLost_kept ..
    · exact State.dpllTo_kept ..
    · split
      · exact State.dpllLost_kept ..
      · refine .ite ?_ ?_
        · exact .refl _
        · exact State.dpllTo_kept ..

theorem State.timeReport_kept (s : State) : Kept s (State.timeReport s) := by
  unfold State.timeReport
  refine .trans ?_ (State.defect_kept ..)
  refine .trans ?_ (State.wrN_kept ..)
  exact .upd (.refl _) rfl rfl rfl rfl rfl rfl rfl rfl rfl rfl

theorem State.timingReport_kept (s : State) : Kept s (State.timingReport s) := by
  unfold State.timingReport
  refine .each ?_ ?_
  · refine .trans ?_ (State.wrN_kept ..)
    refine .trans ?_ (State.wrN_kept ..)
    refine .trans ?_ (State.wrN_kept ..)
    exact State.timeReport_kept ..
  · intro _ _
    refine .trans ?_ (State.wrN_kept ..)
    exact State.wrN_kept ..

theorem State.stopSlew_kept (s : State) : Kept s (State.stopSlew s) := by
  unfold State.stopSlew
  refine .ite ?_ ?_
  · exact .upd (.refl _) rfl rfl rfl rfl rfl rfl rfl rfl rfl rfl
  · refine .trans ?_ (State.setOutput_kept ..)
    exact .upd (.refl _) rfl rfl rfl rfl rfl rfl rfl rfl rfl rfl

theorem State.reselect_kept (s : State) : Kept s (State.reselect s) := by
  unfold State.reselect
  refine .trans ?_ (State.timingReport_kept ..)
  refine .trans ?_ (State.dpllJudge_kept ..)
  refine .whenB ?_ ?_
  · refine .whenB ?_ ?_
    · refine .whenB ?_ ?_
      · refine .whenB ?_ ?_
        · exact .upd (.refl _) rfl rfl rfl rfl rfl rfl rfl rfl rfl rfl
        · intro _
          exact State.stopSlew_kept ..
      · intro _
        refine .trans ?_ (State.count_kept ..)
        exact State.inc32_kept ..
    · intro _
      exact State.wrN_kept ..
  · intro _
    exact State.clear_kept ..

theorem State.candFail_kept (s : State) (r cause : Nat) : Kept s (State.candFail s r cause) := by
  unfold State.candFail
  refine .ite ?_ ?_
  · exact .refl _
  · refine .trans ?_ (State.reselect_kept ..)
    refine .whenB ?_ ?_
    · refine .trans ?_ (State.wrN_kept ..)
      refine .whenB ?_ ?_
      · exact State.setCand_kept ..
      · intro _
        refine .trans ?_ (State.count_kept ..)
        exact State.inc32_kept ..
    · intro _
      exact State.wrN_kept ..

theorem State.freqMeasured_kept (s : State) (r : Nat) (offset : Int) : Kept s (State.freqMeasured s r offset) := by
  unfold State.freqMeasured
  refine .whenB ?_ ?_
  · exact State.wrI_kept ..
  · intro _
    exact State.setOutput_kept ..

theorem execCandidateFail_kept (r : Fin 9) (cause : RefFail) (s : State) : OutKept s (execCandidateFail r cause s) := by
  unfold execCandidateFail
  refine .next ?_
  split
  · refine .ite ?_ ?_
    · exact State.candFail_kept ..
    · exact .refl _
  · refine .ite ?_ ?_
    · exact .refl _
    · refine .ite ?_ ?_
      · refine .trans ?_ (State.candFail_kept ..)
        exact State.wrI_kept ..
      · refine .trans ?_ (State.timingReport_kept ..)
        refine .whenB ?_ ?_
        · exact State.freqMeasured_kept ..
        · intro _
          exact State.setCand_kept ..
  · refine .ite ?_ ?_
    · exact State.candFail_kept ..
    · exact .refl _
  · refine .ite ?_ ?_
    · exact State.candFail_kept ..
    · exact .refl _
  · refine .ite ?_ ?_
    · exact State.candFail_kept ..
    · exact .refl _

theorem State.candJudge_kept (s : State) (r : Nat) : Kept s (State.candJudge s r) := by
  unfold State.candJudge
  refine .ite ?_ ?_
  · exact .refl _
  · refine .ite ?_ ?_
    · refine .ite ?_ ?_
      · exact State.setCand_kept ..
      · exact .refl _
    · refine .ite ?_ ?_
      · exact State.candFail_kept ..
      · exact State.setCand_kept ..

theorem State.timingReturn_kept (s : State) : Kept s (State.timingReturn s) := by
  unfold State.timingReturn
  refine .trans ?_ (State.reselect_kept ..)
  refine .each ?_ ?_
  · exact .refl _
  · intro _ _
    exact State.candJudge_kept ..

theorem execWaitToRestoreExpiry_kept (r : Fin 9) (offset : Int) (s : State) :
    OutKept s (execWaitToRestoreExpiry r offset s) := by
  unfold execWaitToRestoreExpiry
  refine .next ?_
  refine .ite ?_ ?_
  · exact .refl _
  · refine .trans ?_ (State.reselect_kept ..)
    refine .trans ?_ (State.wrN_kept ..)
    refine .trans ?_ (State.setCand_kept ..)
    exact State.freqMeasured_kept ..

theorem execDpllLock_kept (s : State) : OutKept s (execDpllLock s) := by
  unfold execDpllLock
  refine .next ?_
  refine .ite ?_ ?_
  · refine .trans ?_ (State.timingReport_kept ..)
    exact State.dpllTo_kept ..
  · exact .refl _

theorem execHoldoverUpdate_kept (u : Nat) (s : State) : OutKept s (execHoldoverUpdate u s) := by
  unfold execHoldoverUpdate
  refine .next ?_
  refine .ite ?_ ?_
  · refine .trans ?_ (State.defect_kept ..)
    refine .trans ?_ (State.wrN_kept ..)
    refine .trans ?_ (State.drawn_kept ..)
    exact State.inc32_kept ..
  · exact .refl _

theorem execXoFailDetect_kept (s : State) : OutKept s (execXoFailDetect s) := by
  unfold execXoFailDetect
  refine .next ?_
  refine .ite ?_ ?_
  · exact .refl _
  · refine .trans ?_ (State.timingReport_kept ..)
    refine .trans ?_ (State.dpllJudge_kept ..)
    refine .trans ?_ (State.raise_kept ..)
    exact .upd (.refl _) rfl rfl rfl rfl rfl rfl rfl rfl rfl rfl

theorem execXoRecovery_kept (s : State) : OutKept s (execXoRecovery s) := by
  unfold execXoRecovery
  refine .next ?_
  refine .ite ?_ ?_
  · refine .trans ?_ (State.timingReport_kept ..)
    refine .trans ?_ (State.dpllJudge_kept ..)
    refine .trans ?_ (State.clear_kept ..)
    exact .upd (.refl _) rfl rfl rfl rfl rfl rfl rfl rfl rfl rfl
  · exact .refl _

theorem execTimeExchange_kept (s : State) : OutKept s (execTimeExchange s) := by
  unfold execTimeExchange
  refine .next ?_
  split
  · exact .refl _
  · refine .ite ?_ ?_
    · exact .refl _
    · refine .ite ?_ ?_
      · exact State.inc32_kept ..
      · refine .trans ?_ (State.inc32_kept ..)
        exact .upd (.refl _) rfl rfl rfl rfl rfl rfl rfl rfl rfl rfl

theorem State.transferRestart_kept (s : State) : Kept s (State.transferRestart s) := by
  unfold State.transferRestart
  refine .trans ?_ (State.wrN_kept ..)
  exact .upd (.refl _) rfl rfl rfl rfl rfl rfl rfl rfl rfl rfl

theorem State.departure_kept (s : State) : Kept s (State.departure s) := by
  unfold State.departure
  exact .upd (.refl _) rfl rfl rfl rfl rfl rfl rfl rfl rfl rfl

theorem State.moveTime_kept (s : State) (ps : Int) : Kept s (State.moveTime s ps) := by
  unfold State.moveTime
  exact .upd (.refl _) rfl rfl rfl rfl rfl rfl rfl rfl rfl rfl

theorem State.removeOffset_kept (s : State) (ps : Int) : Kept s (State.removeOffset s ps) := by
  unfold State.removeOffset
  exact .upd (.refl _) rfl rfl rfl rfl rfl rfl rfl rfl rfl rfl

theorem State.slewSecond_kept (s : State) : Kept s (State.slewSecond s) := by
  unfold State.slewSecond
  split
  · refine .ite ?_ ?_
    · exact .refl _
    · refine .trans ?_ (State.setOutput_kept ..)
      exact .upd (.refl _) rfl rfl rfl rfl rfl rfl rfl rfl rfl rfl
  · refine .trans ?_ (State.setOutput_kept ..)
    refine .trans ?_ (State.moveTime_kept ..)
    exact .upd (.refl _) rfl rfl rfl rfl rfl rfl rfl rfl rfl rfl

theorem State.lockSecond_kept (s : State) : Kept s (State.lockSecond s) := by
  unfold State.lockSecond
  refine .ite ?_ ?_
  · refine .ite ?_ ?_
    · exact .refl _
    · exact State.setOutput_kept ..
  · exact .refl _

theorem execTransferSecond_kept (s : State) : OutKept s (execTransferSecond s) := by
  unfold execTransferSecond
  refine .next ?_
  refine .ite ?_ ?_
  · exact .refl _
  · refine .ite ?_ ?_
    · refine .trans ?_ (State.timingReport_kept ..)
      refine .trans ?_ (State.wrN_kept ..)
      refine .upd ?_ rfl rfl rfl rfl rfl rfl rfl rfl rfl rfl
      refine .trans ?_ (State.removeOffset_kept ..)
      refine .trans ?_ (State.lockSecond_kept ..)
      refine .trans ?_ (State.slewSecond_kept ..)
      refine .each ?_ ?_
      · refine .ite ?_ ?_
        · refine .whenB ?_ ?_
          · refine .trans ?_ (State.wrN_kept ..)
            exact .upd (.refl _) rfl rfl rfl rfl rfl rfl rfl rfl rfl rfl
          · intro _
            exact State.candFail_kept ..
        · refine .trans ?_ (State.wrN_kept ..)
          refine .ite ?_ ?_
          · refine .trans ?_ (State.wrN_kept ..)
            refine .trans ?_ (State.wrN_kept ..)
            refine .trans ?_ (State.wrI_kept ..)
            refine .trans ?_ (State.wrI_kept ..)
            exact .upd (.refl _) rfl rfl rfl rfl rfl rfl rfl rfl rfl rfl
          · refine .trans ?_ (State.wrN_kept ..)
            refine .trans ?_ (State.wrI_kept ..)
            refine .trans ?_ (State.wrI_kept ..)
            exact .upd (.refl _) rfl rfl rfl rfl rfl rfl rfl rfl rfl rfl
      · intro _ _
        refine .ite ?_ ?_
        · exact State.wrI_kept ..
        · exact .refl _
    · refine .trans ?_ (State.timingReport_kept ..)
      refine .trans ?_ (State.lockSecond_kept ..)
      refine .trans ?_ (State.slewSecond_kept ..)
      refine .each ?_ ?_
      · refine .ite ?_ ?_
        · refine .whenB ?_ ?_
          · refine .trans ?_ (State.wrN_kept ..)
            exact .upd (.refl _) rfl rfl rfl rfl rfl rfl rfl rfl rfl rfl
          · intro _
            exact State.candFail_kept ..
        · refine .trans ?_ (State.wrN_kept ..)
          refine .ite ?_ ?_
          · refine .trans ?_ (State.wrN_kept ..)
            refine .trans ?_ (State.wrN_kept ..)
            refine .trans ?_ (State.wrI_kept ..)
            refine .trans ?_ (State.wrI_kept ..)
            exact .upd (.refl _) rfl rfl rfl rfl rfl rfl rfl rfl rfl rfl
          · refine .trans ?_ (State.wrN_kept ..)
            refine .trans ?_ (State.wrI_kept ..)
            refine .trans ?_ (State.wrI_kept ..)
            exact .upd (.refl _) rfl rfl rfl rfl rfl rfl rfl rfl rfl rfl
      · intro _ _
        refine .ite ?_ ?_
        · exact State.wrI_kept ..
        · exact .refl _

theorem execCrossingCalibration_kept (ps : Int) (s : State) : OutKept s (execCrossingCalibration ps s) := by
  unfold execCrossingCalibration
  refine .next ?_
  refine .ite ?_ ?_
  · exact State.wrI_kept ..
  · exact .refl _

theorem execTimeStep_kept (s : State) : OutKept s (execTimeStep s) := by
  unfold execTimeStep
  refine .next ?_
  split
  · exact .refl _
  · refine .trans ?_ (State.count_kept ..)
    refine .trans ?_ (State.inc32_kept ..)
    refine .trans ?_ (State.moveTime_kept ..)
    exact .upd (.refl _) rfl rfl rfl rfl rfl rfl rfl rfl rfl rfl

theorem execTimeReceive_kept (rx : PicotRx) (payload : List Byte) (arrival : Nat) (s : State) :
    OutKept s (execTimeReceive rx payload arrival s) := by
  unfold execTimeReceive
  refine .next ?_
  refine State.picotIn_kept ?_ ?_
  · exact .refl _
  · intro _
    split
    · refine .ite ?_ ?_
      · refine .trans ?_ (State.wrI_kept ..)
        refine .trans ?_ (State.drawn_kept ..)
        exact .upd (.refl _) rfl rfl rfl rfl rfl rfl rfl rfl rfl rfl
      · exact .upd (.refl _) rfl rfl rfl rfl rfl rfl rfl rfl rfl rfl
    · exact .upd (.refl _) rfl rfl rfl rfl rfl rfl rfl rfl rfl rfl

theorem State.setTimeEffect_kept (s : State) (v : Int) : EffKept s (State.setTimeEffect s v) := by
  unfold State.setTimeEffect
  refine .plain ?_ rfl
  refine .trans ?_ (State.timingReport_kept ..)
  refine .trans ?_ (State.clear_kept ..)
  exact .upd (.refl _) rfl rfl rfl rfl rfl rfl rfl rfl rfl rfl

theorem execSetTime_kept (t : Nat) (s : State) : OutKept s (execSetTime t s) := by
  unfold execSetTime
  refine .next ?_
  refine State.command_kept _ _ _ _ _ ?_
  exact State.setTimeEffect_kept ..

theorem State.phaseAdjustEffect_kept (s : State) (ns : Int) : EffKept s (State.phaseAdjustEffect s ns) := by
  unfold State.phaseAdjustEffect
  refine .plain ?_ rfl
  exact State.removeOffset_kept ..

theorem execPhaseAdjust_kept (ns : Int) (s : State) : OutKept s (execPhaseAdjust ns s) := by
  unfold execPhaseAdjust
  refine .next ?_
  refine State.command_kept _ _ _ _ _ ?_
  exact State.phaseAdjustEffect_kept ..

theorem execPpsOutEdge_kept (s : State) : OutKept s (execPpsOutEdge s) := by
  unfold execPpsOutEdge
  refine .next ?_
  refine .ite ?_ ?_
  · exact .refl _
  · refine .trans ?_ (State.emit_kept ..)
    exact .upd (.refl _) rfl rfl rfl rfl rfl rfl rfl rfl rfl rfl

theorem execTimeOfDayUpdate_kept (s : State) : OutKept s (execTimeOfDayUpdate s) := by
  unfold execTimeOfDayUpdate
  refine .next ?_
  refine .ite ?_ ?_
  · exact .refl _
  · exact State.wr_kept ..

theorem State.selectEffect_kept (s : State) (sub : Nat) (v : DVal) : EffKept s (State.selectEffect s sub v) := by
  unfold State.selectEffect
  split
  · refine .plain ?_ rfl
    refine .trans ?_ (State.reselect_kept ..)
    exact State.wr_kept ..
  · refine .plain ?_ rfl
    refine .trans ?_ (State.reselect_kept ..)
    exact State.wr_kept ..
  · refine .ok ?_
    refine .trans ?_ (State.reselect_kept ..)
    exact State.wr_kept ..

theorem State.candEffect_kept (s : State) (r sub : Nat) (v : DVal) : EffKept s (State.candEffect s r sub v) := by
  unfold State.candEffect
  split
  · refine .ok ?_
    refine .ite ?_ ?_
    · refine .trans ?_ (State.reselect_kept ..)
      refine .trans ?_ (State.wrN_kept ..)
      refine .trans ?_ (State.setCand_kept ..)
      exact State.wr_kept ..
    · refine .ite ?_ ?_
      · refine .trans ?_ (State.reselect_kept ..)
        refine .trans ?_ (State.setCand_kept ..)
        exact State.wr_kept ..
      · exact State.wr_kept ..
  · refine .plain ?_ rfl
    exact State.wr_kept ..
  · refine .ok ?_
    refine .ite ?_ ?_
    · refine .trans ?_ (State.candFail_kept ..)
      exact State.wr_kept ..
    · refine .trans ?_ (State.reselect_kept ..)
      exact State.wr_kept ..
  · refine .ok ?_
    refine .trans ?_ (State.reselect_kept ..)
    exact State.wr_kept ..
  · exact .ok (State.wr_kept ..)

theorem State.transferEffect_kept (s : State) (v : DVal) : EffKept s (State.transferEffect s v) := by
  unfold State.transferEffect
  refine .ok ?_
  refine .ite ?_ ?_
  · refine .trans ?_ (State.wrN_kept ..)
    exact State.wr_kept ..
  · refine .ite ?_ ?_
    · exact State.wr_kept ..
    · refine .trans ?_ (State.wrN_kept ..)
      exact State.wr_kept ..

theorem State.dpllEffect_kept (s : State) (sub : Nat) (v : DVal) : EffKept s (State.dpllEffect s sub v) := by
  unfold State.dpllEffect
  split
  · refine .ok ?_
    refine .trans ?_ (State.reselect_kept ..)
    refine .trans ?_ (State.dpllJudge_kept ..)
    refine .whenB ?_ ?_
    · exact State.wr_kept ..
    · intro _
      exact State.wrI_kept ..
  · refine .plain ?_ rfl
    refine .ite ?_ ?_
    · refine .trans ?_ (State.setOutput_kept ..)
      exact State.wr_kept ..
    · exact State.wr_kept ..
  · exact .ok (State.wr_kept ..)

theorem State.timingQuiet_kept (s : State) : Kept s (State.timingQuiet s) := by
  unfold State.timingQuiet
  refine .trans ?_ (State.candFail_kept ..)
  refine .trans ?_ (State.candFail_kept ..)
  exact State.candFail_kept ..

end Sys2Proof.Machine
end

