-- ==== Sys2Proof/Laws/KeptLanes.lean ====
section
/-! SUPPORT. `Kept` of the operations of Machine/Lanes.lean, one lemma each. -/

namespace Sys2Proof.Machine

theorem execLaneSignalDetect_kept (l : Fin 16) (s : State) : OutKept s (execLaneSignalDetect l s) := by
  unfold execLaneSignalDetect
  refine .next ?_
  split
  · exact .refl _
  · refine .ite ?_ ?_
    · exact .refl _
    · refine .upd ?_ rfl rfl rfl rfl rfl rfl rfl rfl rfl rfl
      exact State.wrN_kept ..

theorem execLaneAdaptationDone_kept (l : Fin 16) (ok : Bool) (state : List Byte) (s : State) :
    OutKept s (execLaneAdaptationDone l ok state s) := by
  unfold execLaneAdaptationDone
  refine .next ?_
  split
  · exact .refl _
  · refine .ite ?_ ?_
    · exact .refl _
    · refine .ite ?_ ?_
      · refine .ite ?_ ?_
        · refine .trans ?_ (State.clear_kept ..)
          refine .trans ?_ (State.wrI_kept ..)
          refine .trans ?_ (State.drawn_kept ..)
          refine .whenB ?_ ?_
          · exact State.wrN_kept ..
          · intro _
            exact State.wrS_kept ..
        · refine .trans ?_ (State.wrI_kept ..)
          refine .trans ?_ (State.drawn_kept ..)
          refine .whenB ?_ ?_
          · exact State.wrN_kept ..
          · intro _
            exact State.wrS_kept ..
      · refine .ite ?_ ?_
        · refine .upd ?_ rfl rfl rfl rfl rfl rfl rfl rfl rfl rfl
          exact State.inc32_kept ..
        · refine .trans ?_ (State.wrN_kept ..)
          exact State.inc32_kept ..

theorem execLaneRetryTimer_kept (l : Fin 16) (s : State) : OutKept s (execLaneRetryTimer l s) := by
  unfold execLaneRetryTimer
  refine .next ?_
  refine .ite ?_ ?_
  · exact State.wrN_kept ..
  · exact .refl _

theorem execLaneSignalLoss_kept (l : Fin 16) (s : State) : OutKept s (execLaneSignalLoss l s) := by
  unfold execLaneSignalLoss
  refine .next ?_
  split
  · exact .refl _
  · refine .ite ?_ ?_
    · exact .refl _
    · refine .trans ?_ (State.signalLost_kept ..)
      refine .upd ?_ rfl rfl rfl rfl rfl rfl rfl rfl rfl rfl
      refine .trans ?_ (State.countRaise_kept ..)
      exact State.wrN_kept ..

theorem execPcsAligned_kept (p : Fin 16) (s : State) : OutKept s (execPcsAligned p s) := by
  unfold execPcsAligned
  refine .next ?_
  refine .ite ?_ ?_
  · refine .trans ?_ (State.clear_kept ..)
    refine .trans ?_ (State.clear_kept ..)
    refine .trans ?_ (State.wrN_kept ..)
    refine .trans ?_ (State.drawn_kept ..)
    exact .upd (.refl _) rfl rfl rfl rfl rfl rfl rfl rfl rfl rfl
  · exact .refl _

theorem State.laneEffect_kept (s : State) (l sub : Nat) (v : DVal) : EffKept s (State.laneEffect s l sub v) := by
  unfold State.laneEffect
  split
  · refine .plain ?_ rfl
    exact State.wr_kept ..
  · refine .plain ?_ rfl
    exact State.wr_kept ..
  · refine .plain ?_ rfl
    refine .ite ?_ ?_
    · refine .trans ?_ (State.wrN_kept ..)
      exact State.wr_kept ..
    · refine .ite ?_ ?_
      · refine .trans ?_ (State.wrN_kept ..)
        exact State.wr_kept ..
      · exact State.wr_kept ..
  · refine .plain ?_ rfl
    refine .ite ?_ ?_
    · refine .trans ?_ (State.wrN_kept ..)
      exact State.wr_kept ..
    · refine .ite ?_ ?_
      · refine .trans ?_ (State.wrN_kept ..)
        exact State.wr_kept ..
      · exact State.wr_kept ..
  · refine .plain ?_ rfl
    refine .ite ?_ ?_
    · exact State.wr_kept ..
    · refine .trans ?_ (State.emit_kept ..)
      exact State.wr_kept ..
  · exact .ok (State.wr_kept ..)

theorem execInjectSingle_kept (l : Fin 32) (s : State) : OutKept s (execInjectSingle l s) := by
  unfold execInjectSingle
  refine .next ?_
  refine State.command_kept _ _ _ _ _ ?_
  exact State.laneEffect_kept ..

theorem execInjectContinuous_kept (l : Fin 32) (s : State) : OutKept s (execInjectContinuous l s) := by
  unfold execInjectContinuous
  refine .next ?_
  refine State.command_kept _ _ _ _ _ ?_
  exact State.laneEffect_kept ..

theorem State.lanesLeaveTest_kept (s : State) : Kept s (State.lanesLeaveTest s) := by
  unfold State.lanesLeaveTest
  refine .each ?_ ?_
  · exact .refl _
  · intro _ _
    refine .ite ?_ ?_
    · refine .trans ?_ (State.wrN_kept ..)
      refine .trans ?_ (State.wrN_kept ..)
      exact State.wrN_kept ..
    · refine .trans ?_ (State.wrN_kept ..)
      exact State.wrN_kept ..

theorem State.setBobLane_kept (s : State) (b : Nat) (x : BobLane) : Kept s (State.setBobLane s b x) := by
  unfold State.setBobLane
  exact .upd (.refl _) rfl rfl rfl rfl rfl rfl rfl rfl rfl rfl

theorem State.setBobPort_kept (s : State) (q : Nat) (x : BobPort) : Kept s (State.setBobPort s q x) := by
  unfold State.setBobPort
  exact .upd (.refl _) rfl rfl rfl rfl rfl rfl rfl rfl rfl rfl

theorem State.bobPortStart_kept (s : State) (q : Nat) : Kept s (State.bobPortStart s q) := by
  unfold State.bobPortStart
  refine .trans ?_ (State.wrN_kept ..)
  refine .trans ?_ (State.wrN_kept ..)
  refine .trans ?_ (State.wrN_kept ..)
  refine .trans ?_ (State.wrN_kept ..)
  refine .trans ?_ (State.wrN_kept ..)
  refine .trans ?_ (State.setBobPort_kept ..)
  refine .each ?_ ?_
  · exact .refl _
  · intro _ _
    refine .trans ?_ (State.wrN_kept ..)
    refine .trans ?_ (State.wrN_kept ..)
    exact State.setBobLane_kept ..

theorem State.retireBob_kept (s : State) (b cause : Nat) : Kept s (State.retireBob s b cause) := by
  unfold State.retireBob
  refine .ite ?_ ?_
  · exact .refl _
  · refine .trans ?_ (State.count_kept ..)
    refine .trans ?_ (State.wrBit_kept ..)
    refine .trans ?_ (State.wrN_kept ..)
    refine .trans ?_ (State.wrN_kept ..)
    exact State.setBobLane_kept ..

theorem State.rxAnnounce_kept (s : State) (q : Nat) (m : Marker) : Kept s (State.rxAnnounce s q m) := by
  unfold State.rxAnnounce
  split
  · dsimp only
    split
    · refine .ite ?_ ?_
      · refine .trans ?_ (State.wrN_kept ..)
        exact State.setBobPort_kept ..
      · refine .ite ?_ ?_
        · exact State.setBobPort_kept ..
        · refine .ite ?_ ?_
          · exact State.setBobPort_kept ..
          · exact State.setBobPort_kept ..
    · exact State.setBobPort_kept ..
  · dsimp only
    split
    · refine .ite ?_ ?_
      · refine .trans ?_ (State.wrN_kept ..)
        exact State.setBobPort_kept ..
      · refine .ite ?_ ?_
        · exact State.setBobPort_kept ..
        · refine .ite ?_ ?_
          · exact State.setBobPort_kept ..
          · exact State.setBobPort_kept ..
    · exact State.setBobPort_kept ..

theorem State.markerIn_kept (s : State) (b : Nat) (m : Marker) : Kept s (State.markerIn s b m) := by
  unfold State.markerIn
  refine .ite ?_ ?_
  · exact .refl _
  · refine .ite ?_ ?_
    · refine .trans ?_ (State.retireBob_kept ..)
      refine .ite ?_ ?_
      · refine .trans ?_ (State.wrN_kept ..)
        refine .trans ?_ (State.rxAnnounce_kept ..)
        refine .ite ?_ ?_
        · refine .trans ?_ (State.wrN_kept ..)
          refine .trans ?_ (State.wrB_kept ..)
          refine .trans ?_ (State.bump_kept ..)
          refine .trans ?_ (State.bump_kept ..)
          refine .trans ?_ (State.bump_kept ..)
          refine .trans ?_ (State.bump_kept ..)
          exact State.setBobLane_kept ..
        · refine .trans ?_ (State.wrB_kept ..)
          refine .trans ?_ (State.bump_kept ..)
          refine .trans ?_ (State.bump_kept ..)
          refine .trans ?_ (State.bump_kept ..)
          refine .trans ?_ (State.bump_kept ..)
          exact State.setBobLane_kept ..
      · refine .ite ?_ ?_
        · refine .trans ?_ (State.wrN_kept ..)
          refine .trans ?_ (State.wrB_kept ..)
          refine .trans ?_ (State.bump_kept ..)
          refine .trans ?_ (State.bump_kept ..)
          refine .trans ?_ (State.bump_kept ..)
          refine .trans ?_ (State.bump_kept ..)
          exact State.setBobLane_kept ..
        · refine .trans ?_ (State.wrB_kept ..)
          refine .trans ?_ (State.bump_kept ..)
          refine .trans ?_ (State.bump_kept ..)
          refine .trans ?_ (State.bump_kept ..)
          refine .trans ?_ (State.bump_kept ..)
          exact State.setBobLane_kept ..
    · refine .ite ?_ ?_
      · refine .trans ?_ (State.retireBob_kept ..)
        refine .ite ?_ ?_
        · refine .trans ?_ (State.wrN_kept ..)
          refine .trans ?_ (State.rxAnnounce_kept ..)
          refine .ite ?_ ?_
          · refine .trans ?_ (State.wrN_kept ..)
            refine .trans ?_ (State.wrB_kept ..)
            refine .trans ?_ (State.bump_kept ..)
            refine .trans ?_ (State.bump_kept ..)
            refine .trans ?_ (State.bump_kept ..)
            refine .trans ?_ (State.bump_kept ..)
            exact State.setBobLane_kept ..
          · refine .trans ?_ (State.wrB_kept ..)
            refine .trans ?_ (State.bump_kept ..)
            refine .trans ?_ (State.bump_kept ..)
            refine .trans ?_ (State.bump_kept ..)
            refine .trans ?_ (State.bump_kept ..)
            exact State.setBobLane_kept ..
        · refine .ite ?_ ?_
          · refine .trans ?_ (State.wrN_kept ..)
            refine .trans ?_ (State.wrB_kept ..)
            refine .trans ?_ (State.bump_kept ..)
            refine .trans ?_ (State.bump_kept ..)
            refine .trans ?_ (State.bump_kept ..)
            refine .trans ?_ (State.bump_kept ..)
            exact State.setBobLane_kept ..
          · refine .trans ?_ (State.wrB_kept ..)
            refine .trans ?_ (State.bump_kept ..)
            refine .trans ?_ (State.bump_kept ..)
            refine .trans ?_ (State.bump_kept ..)
            refine .trans ?_ (State.bump_kept ..)
            exact State.setBobLane_kept ..
      · refine .ite ?_ ?_
        · refine .trans ?_ (State.retireBob_kept ..)
          refine .ite ?_ ?_
          · refine .trans ?_ (State.wrN_kept ..)
            refine .trans ?_ (State.rxAnnounce_kept ..)
            refine .ite ?_ ?_
            · refine .trans ?_ (State.wrN_kept ..)
              refine .trans ?_ (State.wrB_kept ..)
              refine .trans ?_ (State.bump_kept ..)
              refine .trans ?_ (State.bump_kept ..)
              refine .trans ?_ (State.bump_kept ..)
              refine .trans ?_ (State.bump_kept ..)
              exact State.setBobLane_kept ..
            · refine .trans ?_ (State.wrB_kept ..)
              refine .trans ?_ (State.bump_kept ..)
              refine .trans ?_ (State.bump_kept ..)
              refine .trans ?_ (State.bump_kept ..)
              refine .trans ?_ (State.bump_kept ..)
              exact State.setBobLane_kept ..
          · refine .ite ?_ ?_
            · refine .trans ?_ (State.wrN_kept ..)
              refine .trans ?_ (State.wrB_kept ..)
              refine .trans ?_ (State.bump_kept ..)
              refine .trans ?_ (State.bump_kept ..)
              refine .trans ?_ (State.bump_kept ..)
              refine .trans ?_ (State.bump_kept ..)
              exact State.setBobLane_kept ..
            · refine .trans ?_ (State.wrB_kept ..)
              refine .trans ?_ (State.bump_kept ..)
              refine .trans ?_ (State.bump_kept ..)
              refine .trans ?_ (State.bump_kept ..)
              refine .trans ?_ (State.bump_kept ..)
              exact State.setBobLane_kept ..
        · refine .ite ?_ ?_
          · refine .trans ?_ (State.wrN_kept ..)
            refine .trans ?_ (State.rxAnnounce_kept ..)
            refine .ite ?_ ?_
            · refine .trans ?_ (State.wrN_kept ..)
              refine .trans ?_ (State.wrB_kept ..)
              refine .trans ?_ (State.bump_kept ..)
              refine .trans ?_ (State.bump_kept ..)
              refine .trans ?_ (State.bump_kept ..)
              refine .trans ?_ (State.bump_kept ..)
              exact State.setBobLane_kept ..
            · refine .trans ?_ (State.wrB_kept ..)
              refine .trans ?_ (State.bump_kept ..)
              refine .trans ?_ (State.bump_kept ..)
              refine .trans ?_ (State.bump_kept ..)
              refine .trans ?_ (State.bump_kept ..)
              exact State.setBobLane_kept ..
          · refine .ite ?_ ?_
            · refine .trans ?_ (State.wrN_kept ..)
              refine .trans ?_ (State.wrB_kept ..)
              refine .trans ?_ (State.bump_kept ..)
              refine .trans ?_ (State.bump_kept ..)
              refine .trans ?_ (State.bump_kept ..)
              refine .trans ?_ (State.bump_kept ..)
              exact State.setBobLane_kept ..
            · refine .trans ?_ (State.wrB_kept ..)
              refine .trans ?_ (State.bump_kept ..)
              refine .trans ?_ (State.bump_kept ..)
              refine .trans ?_ (State.bump_kept ..)
              refine .trans ?_ (State.bump_kept ..)
              exact State.setBobLane_kept ..

theorem State.sendMarkers_kept (s : State) (q : Nat) (idle : Bool) : Kept s (State.sendMarkers s q idle) := by
  unfold State.sendMarkers
  refine .each ?_ ?_
  · exact .refl _
  · intro _ _
    exact State.emit_kept ..

theorem State.idleRun_kept (s : State) (q : Nat) : Kept s (State.idleRun s q) := by
  unfold State.idleRun
  refine .each ?_ ?_
  · exact .refl _
  · intro _ _
    exact State.setBobLane_kept ..

theorem State.markerOut_kept (s : State) (q : Nat) (idle : Bool) : Kept s (State.markerOut s q idle) := by
  unfold State.markerOut
  refine .ite ?_ ?_
  · refine .trans ?_ (State.idleRun_kept ..)
    exact State.wrN_kept ..
  · refine .trans ?_ (State.sendMarkers_kept ..)
    refine .ite ?_ ?_
    · refine .trans ?_ (State.setBobPort_kept ..)
      split
      · refine .ite ?_ ?_
        · refine .trans ?_ (State.wrN_kept ..)
          refine .trans ?_ (State.wrN_kept ..)
          refine .trans ?_ (State.setBobPort_kept ..)
          exact State.wrN_kept ..
        · refine .trans ?_ (State.setBobPort_kept ..)
          exact State.wrN_kept ..
      · exact State.wrN_kept ..
    · split
      · refine .ite ?_ ?_
        · refine .trans ?_ (State.wrN_kept ..)
          refine .trans ?_ (State.wrN_kept ..)
          refine .trans ?_ (State.setBobPort_kept ..)
          exact State.wrN_kept ..
        · refine .trans ?_ (State.setBobPort_kept ..)
          exact State.wrN_kept ..
      · exact State.wrN_kept ..

theorem State.readmitEffect_kept (s : State) (b : Nat) : EffKept s (State.readmitEffect s b) := by
  unfold State.readmitEffect
  refine .ok ?_
  refine .ite ?_ ?_
  · exact State.setBobLane_kept ..
  · exact .refl _

theorem execLaneReadmitCommand_kept (b : Fin 16) (s : State) : OutKept s (execLaneReadmitCommand b s) := by
  unfold execLaneReadmitCommand
  refine .next ?_
  refine State.command_kept _ _ _ _ _ ?_
  exact State.readmitEffect_kept ..

theorem execLaneReadmitTimer_kept (b : Fin 16) (s : State) : OutKept s (execLaneReadmitTimer b s) := by
  unfold execLaneReadmitTimer
  refine .next ?_
  refine .ite ?_ ?_
  · refine .trans ?_ (State.wrBit_kept ..)
    refine .trans ?_ (State.wrN_kept ..)
    refine .trans ?_ (State.wrN_kept ..)
    exact State.setBobLane_kept ..
  · exact .refl _

theorem State.bobIdleEnter_kept (s : State) (q : Nat) : Kept s (State.bobIdleEnter s q) := by
  unfold State.bobIdleEnter
  refine .ite ?_ ?_
  · exact .refl _
  · refine .each ?_ ?_
    · refine .trans ?_ (State.wrN_kept ..)
      exact State.markerOut_kept ..
    · intro _ _
      refine .ite ?_ ?_
      · exact State.setBobLane_kept ..
      · refine .trans ?_ (State.wrN_kept ..)
        exact State.setBobLane_kept ..

theorem State.bobIdleExit_kept (s : State) (q : Nat) : Kept s (State.bobIdleExit s q) := by
  unfold State.bobIdleExit
  refine .ite ?_ ?_
  · refine .each ?_ ?_
    · refine .trans ?_ (State.sendMarkers_kept ..)
      refine .trans ?_ (State.emit_kept ..)
      exact State.wrN_kept ..
    · intro _ _
      refine .ite ?_ ?_
      · exact State.setBobLane_kept ..
      · refine .trans ?_ (State.wrN_kept ..)
        exact State.setBobLane_kept ..
  · exact .refl _

theorem State.wakeMark_kept (s : State) (path : Nat) (cs : List Nat) : Kept s (State.wakeMark s path cs) := by
  unfold State.wakeMark
  exact .upd (.refl _) rfl rfl rfl rfl rfl rfl rfl rfl rfl rfl

theorem State.wakeN_kept (s : State) (low : Bool) : Kept s (State.wakeN s low) := by
  unfold State.wakeN
  refine .ite ?_ ?_
  · exact .refl _
  · refine .trans ?_ (State.emit_kept ..)
    refine .whenB ?_ ?_
    · exact .upd (.refl _) rfl rfl rfl rfl rfl rfl rfl rfl rfl rfl
    · intro _
      exact State.inc32_kept ..

theorem State.wakeSignal_kept (s : State) : Kept s (State.wakeSignal s) := by
  unfold State.wakeSignal
  refine .ite ?_ ?_
  · refine .ite ?_ ?_
    · exact .refl _
    · split
      · exact .refl _
      · refine .trans ?_ (State.wakeN_kept ..)
        exact State.wakeMark_kept ..
  · refine .ite ?_ ?_
    · exact .refl _
    · refine .ite ?_ ?_
      · split
        · exact .refl _
        · refine .trans ?_ (State.emit_kept ..)
          refine .trans ?_ (State.inc32_kept ..)
          refine .trans ?_ (State.wrN_kept ..)
          refine .upd ?_ rfl rfl rfl rfl rfl rfl rfl rfl rfl rfl
          exact State.wakeMark_kept ..
      · refine .ite ?_ ?_
        · split
          · exact .refl _
          · refine .trans ?_ (State.vector_kept ..)
            exact State.wakeMark_kept ..
        · exact .refl _

theorem State.wakeRaise_kept (s : State) (c : Nat) : Kept s (State.wakeRaise s c) := by
  unfold State.wakeRaise
  refine .ite ?_ ?_
  · refine .trans ?_ (State.wakeSignal_kept ..)
    exact State.wrBit_kept ..
  · exact .refl _

theorem execWakeCause_kept (c : WakeCause) (s : State) : OutKept s (execWakeCause c s) := by
  unfold execWakeCause
  exact .next (State.wakeRaise_kept ..)

theorem State.pcieDown_kept (s : State) : Kept s (State.pcieDown s) := by
  unfold State.pcieDown
  refine .trans ?_ (State.wrN_kept ..)
  refine .trans ?_ (State.wrN_kept ..)
  refine .trans ?_ (State.wrN_kept ..)
  refine .trans ?_ (State.wrN_kept ..)
  refine .upd ?_ rfl rfl rfl rfl rfl rfl rfl rfl rfl rfl
  refine .whenB ?_ ?_
  · exact .refl _
  · intro _
    exact State.countRaise_kept ..

theorem execPerstAssert_kept (s : State) : OutKept s (execPerstAssert s) := by
  unfold execPerstAssert
  refine .next ?_
  refine .upd ?_ rfl rfl rfl rfl rfl rfl rfl rfl rfl rfl
  exact State.pcieDown_kept ..

theorem State.pcieTrain_kept (s : State) : Kept s (State.pcieTrain s) := by
  unfold State.pcieTrain
  refine .ite ?_ ?_
  · refine .trans ?_ (State.wrN_kept ..)
    exact .upd (.refl _) rfl rfl rfl rfl rfl rfl rfl rfl rfl rfl
  · exact .refl _

theorem execPerstDeassert_kept (s : State) : OutKept s (execPerstDeassert s) := by
  unfold execPerstDeassert
  refine .next ?_
  refine .trans ?_ (State.pcieTrain_kept ..)
  refine .upd ?_ rfl rfl rfl rfl rfl rfl rfl rfl rfl rfl
  exact State.wakeN_kept ..

theorem execPcieLinkTrained_kept (width speed : Nat) (s : State) : OutKept s (execPcieLinkTrained width speed s) := by
  unfold execPcieLinkTrained
  refine .next ?_
  refine .ite ?_ ?_
  · refine .trans ?_ (State.wakeSignal_kept ..)
    refine .trans ?_ (State.wrN_kept ..)
    refine .trans ?_ (State.wrN_kept ..)
    refine .trans ?_ (State.wrN_kept ..)
    exact .upd (.refl _) rfl rfl rfl rfl rfl rfl rfl rfl rfl rfl
  · exact .refl _

theorem execDeviceStateWrite_kept (d3 msix : Bool) (table : List (Nat × Byte)) (s : State) :
    OutKept s (execDeviceStateWrite d3 msix table s) := by
  unfold execDeviceStateWrite
  refine .next ?_
  refine .ite ?_ ?_
  · exact .refl _
  · refine .trans ?_ (State.wakeSignal_kept ..)
    refine .trans ?_ (State.msixFlush_kept ..)
    refine .trans ?_ (State.wrN_kept ..)
    refine .trans ?_ (State.wrN_kept ..)
    exact .upd (.refl _) rfl rfl rfl rfl rfl rfl rfl rfl rfl rfl

theorem execPmeStatusClear_kept (s : State) : OutKept s (execPmeStatusClear s) := by
  unfold execPmeStatusClear
  refine .next ?_
  refine .ite ?_ ?_
  · exact .refl _
  · refine .trans ?_ (State.wrN_kept ..)
    exact .upd (.refl _) rfl rfl rfl rfl rfl rfl rfl rfl rfl rfl

theorem execPmeTurnOff_kept (s : State) : OutKept s (execPmeTurnOff s) := by
  unfold execPmeTurnOff
  refine .next ?_
  refine .ite ?_ ?_
  · exact .refl _
  · refine .trans ?_ (State.wrN_kept ..)
    refine .upd ?_ rfl rfl rfl rfl rfl rfl rfl rfl rfl rfl
    exact State.emit_kept ..

theorem State.wakeTick_kept (s : State) : Kept s (State.wakeTick s) := by
  unfold State.wakeTick
  split
  · refine .ite ?_ ?_
    · refine .trans ?_ (State.wakeSignal_kept ..)
      exact .upd (.refl _) rfl rfl rfl rfl rfl rfl rfl rfl rfl rfl
    · exact .refl _
  · exact .refl _

end Sys2Proof.Machine
end

