-- ==== Sys2Proof/Laws/KeptEngines.lean ====
section
/-! SUPPORT. `Kept` of the operations of Machine/Engines.lean, one lemma each. -/

namespace Sys2Proof.Machine

theorem State.setCl_kept (s : State) (n v : Nat) : Kept s (State.setCl s n v) := by
  unfold State.setCl
  refine .trans ?_ (State.wrN_kept ..)
  refine .whenB ?_ ?_
  · exact .refl _
  · intro _
    exact State.inc32_kept ..

theorem State.updateReport_kept (s : State) : Kept s (State.updateReport s) := by
  unfold State.updateReport
  split
  · exact State.wrN_kept ..
  · exact .refl _

theorem State.engReport_kept (s : State) : Kept s (State.engReport s) := by
  unfold State.engReport
  refine .trans ?_ (State.convJudge_kept ..)
  refine .trans ?_ (State.defect_kept ..)
  refine .trans ?_ (State.defect_kept ..)
  refine .trans ?_ (State.wrN_kept ..)
  refine .trans ?_ (State.wrN_kept ..)
  exact State.updateReport_kept ..

theorem State.islandReset_kept (s : State) (n cause : Nat) : Kept s (State.islandReset s n cause) := by
  unfold State.islandReset
  refine .trans ?_ (State.count_kept ..)
  refine .trans ?_ (State.wrN_kept ..)
  refine .trans ?_ (State.wrN_kept ..)
  refine .trans ?_ (State.wrN_kept ..)
  refine .trans ?_ (State.inc32_kept ..)
  refine .trans ?_ (State.clearIdx_kept ..)
  exact .upd (.refl _) rfl rfl rfl rfl rfl rfl rfl rfl rfl rfl

theorem State.suspend_kept (s : State) (w : Nat) : Kept s (State.suspend s w) := by
  unfold State.suspend
  refine .whenB ?_ ?_
  · refine .trans ?_ (State.wrN_kept ..)
    exact State.wrN_kept ..
  · intro _
    exact State.acqAfresh_kept ..

theorem State.beginMove_kept (s : State) (m : Move) : Kept s (State.beginMove s m) := by
  unfold State.beginMove
  refine .trans ?_ (State.engReport_kept ..)
  refine .whenB ?_ ?_
  · refine .whenB ?_ ?_
    · refine .trans ?_ (State.inc32_kept ..)
      refine .trans ?_ (State.wrN_kept ..)
      refine .trans ?_ (State.setCl_kept ..)
      refine .ite ?_ ?_
      · refine .trans ?_ (State.setCl_kept ..)
        exact .upd (.refl _) rfl rfl rfl rfl rfl rfl rfl rfl rfl rfl
      · exact .upd (.refl _) rfl rfl rfl rfl rfl rfl rfl rfl rfl rfl
    · intro _
      exact State.count_kept ..
  · intro _
    exact State.acqAfresh_kept ..

theorem State.clusterLeft_kept (s : State) (n : Nat) : Kept s (State.clusterLeft s n) := by
  unfold State.clusterLeft
  refine .whenB ?_ ?_
  · exact .refl _
  · intro _
    exact State.islandReset_kept ..

theorem State.faultTo_kept (s : State) (w src dst : Nat) : Kept s (State.faultTo s w src dst) := by
  unfold State.faultTo
  exact State.beginMove_kept ..

theorem State.faultMove_kept (s : State) (w src : Nat) : Kept s (State.faultMove s w src) := by
  unfold State.faultMove
  split
  · exact State.faultTo_kept ..
  · split
    · refine .trans ?_ (State.beginMove_kept ..)
      exact State.wrN_kept ..
    · split
      · refine .trans ?_ (State.faultTo_kept ..)
        refine .trans ?_ (State.wrN_kept ..)
        refine .trans ?_ (State.inc32_kept ..)
        exact State.suspend_kept ..
      · refine .trans ?_ (State.engReport_kept ..)
        refine .whenB ?_ ?_
        · exact State.suspend_kept ..
        · intro _
          refine .trans ?_ (State.clusterLeft_kept ..)
          exact State.wrN_kept ..

theorem State.moveLater_kept (s : State) (w src : Nat) : Kept s (State.moveLater s w src) := by
  unfold State.moveLater
  exact .upd (.refl _) rfl rfl rfl rfl rfl rfl rfl rfl rfl rfl

theorem State.placeSuspended_kept (s : State) : Kept s (State.placeSuspended s) := by
  unfold State.placeSuspended
  split
  · split
    · exact State.faultTo_kept ..
    · exact .refl _
  · exact .refl _

theorem State.serveWaiting_kept (s : State) (l : List (Nat × Nat)) : Kept s (s.serveWaiting l) := by
  induction l generalizing s with
  | nil => exact State.placeSuspended_kept ..
  | cons x r ih =>
    unfold State.serveWaiting
    have h : Kept s (({ s with eng := { s.eng with waiting := r } } : State).faultMove x.1 x.2) :=
      .trans (.upd (.refl _) rfl rfl rfl rfl rfl rfl rfl rfl rfl rfl) (State.faultMove_kept ..)
    exact .ite h (h.trans (ih _))

theorem State.nextMove_kept (s : State) : Kept s (State.nextMove s) := by
  unfold State.nextMove
  refine .ite ?_ ?_
  · exact .refl _
  · exact State.serveWaiting_kept ..

theorem State.dropMove_kept (s : State) (m : Move) : Kept s (State.dropMove s m) := by
  unfold State.dropMove
  split
  · refine .trans ?_ (State.moveLater_kept ..)
    exact .upd (.refl _) rfl rfl rfl rfl rfl rfl rfl rfl rfl rfl
  · exact .upd (.refl _) rfl rfl rfl rfl rfl rfl rfl rfl rfl rfl

theorem State.abandonMove_kept (s : State) (m : Move) : Kept s (State.abandonMove s m) := by
  unfold State.abandonMove
  refine .trans ?_ (State.wrN_kept ..)
  refine .whenB ?_ ?_
  · exact State.dropMove_kept ..
  · intro _
    exact State.setCl_kept ..

theorem State.faultCluster_kept (s : State) (n cause : Nat) : Kept s (State.faultCluster s n cause) := by
  unfold State.faultCluster
  refine .ite ?_ ?_
  · exact .refl _
  · dsimp only
    split
    · refine .ite ?_ ?_
      · refine .ite ?_ ?_
        · refine .upd ?_ rfl rfl rfl rfl rfl rfl rfl rfl rfl rfl
          refine .trans ?_ (State.wrN_kept ..)
          exact State.inc32_kept ..
        · refine .trans ?_ (State.count_kept ..)
          refine .trans ?_ (State.inc32_kept ..)
          refine .upd ?_ rfl rfl rfl rfl rfl rfl rfl rfl rfl rfl
          refine .trans ?_ (State.wrN_kept ..)
          exact State.inc32_kept ..
      · refine .ite ?_ ?_
        · refine .ite ?_ ?_
          · refine .trans ?_ (State.nextMove_kept ..)
            refine .trans ?_ (State.faultMove_kept ..)
            refine .trans ?_ (State.dropMove_kept ..)
            refine .trans ?_ (State.setCl_kept ..)
            refine .trans ?_ (State.wrN_kept ..)
            exact State.inc32_kept ..
          · refine .trans ?_ (State.nextMove_kept ..)
            refine .trans ?_ (State.engReport_kept ..)
            refine .trans ?_ (State.abandonMove_kept ..)
            refine .trans ?_ (State.setCl_kept ..)
            refine .trans ?_ (State.wrN_kept ..)
            exact State.inc32_kept ..
        · refine .ite ?_ ?_
          · refine .trans ?_ (State.engReport_kept ..)
            refine .trans ?_ (State.moveLater_kept ..)
            refine .trans ?_ (State.wrN_kept ..)
            refine .trans ?_ (State.setCl_kept ..)
            refine .trans ?_ (State.wrN_kept ..)
            exact State.inc32_kept ..
          · refine .trans ?_ (State.engReport_kept ..)
            refine .trans ?_ (State.setCl_kept ..)
            refine .trans ?_ (State.wrN_kept ..)
            exact State.inc32_kept ..
    · refine .ite ?_ ?_
      · refine .trans ?_ (State.nextMove_kept ..)
        refine .trans ?_ (State.faultMove_kept ..)
        refine .trans ?_ (State.setCl_kept ..)
        refine .trans ?_ (State.wrN_kept ..)
        exact State.inc32_kept ..
      · refine .trans ?_ (State.engReport_kept ..)
        refine .trans ?_ (State.setCl_kept ..)
        refine .trans ?_ (State.wrN_kept ..)
        exact State.inc32_kept ..

theorem execHeartbeatMiss_kept (n : Fin 12) (engine : Fin 8) (s : State) : OutKept s (execHeartbeatMiss n engine s) := by
  unfold execHeartbeatMiss
  refine .next ?_
  refine .ite ?_ ?_
  · exact .refl _
  · refine .ite ?_ ?_
    · refine .trans ?_ (State.faultCluster_kept ..)
      refine .upd ?_ rfl rfl rfl rfl rfl rfl rfl rfl rfl rfl
      exact State.inc32_kept ..
    · refine .upd ?_ rfl rfl rfl rfl rfl rfl rfl rfl rfl rfl
      exact State.inc32_kept ..

theorem execEngineTrap_kept (n : Fin 12) (s : State) : OutKept s (execEngineTrap n s) := by
  unfold execEngineTrap
  exact .next (State.faultCluster_kept ..)

theorem execMoveSourceStopped_kept (s : State) : OutKept s (execMoveSourceStopped s) := by
  unfold execMoveSourceStopped
  refine .next ?_
  split
  · refine .ite ?_ ?_
    · exact .refl _
    · exact .upd (.refl _) rfl rfl rfl rfl rfl rfl rfl rfl rfl rfl
  · exact .refl _

theorem State.moveArrives_kept (s : State) (m : Move) : Kept s (State.moveArrives s m) := by
  unfold State.moveArrives
  refine .whenB ?_ ?_
  · refine .trans ?_ (State.inc32_kept ..)
    refine .trans ?_ (State.wrN_kept ..)
    refine .trans ?_ (State.wrN_kept ..)
    refine .trans ?_ (State.wrN_kept ..)
    refine .trans ?_ (State.setCl_kept ..)
    exact .upd (.refl _) rfl rfl rfl rfl rfl rfl rfl rfl rfl rfl
  · intro _
    exact State.picotKick_kept ..

theorem State.sourceFreed_kept (s : State) (m : Move) : Kept s (State.sourceFreed s m) := by
  unfold State.sourceFreed
  refine .ite ?_ ?_
  · refine .trans ?_ (State.setCl_kept ..)
    refine .whenB ?_ ?_
    · exact State.wrN_kept ..
    · intro _
      exact State.clusterLeft_kept ..
  · split
    · refine .ite ?_ ?_
      · refine .ite ?_ ?_
        · refine .trans ?_ (State.moveLater_kept ..)
          refine .whenB ?_ ?_
          · exact State.wrN_kept ..
          · intro _
            exact State.clusterLeft_kept ..
        · refine .ite ?_ ?_
          · refine .trans ?_ (State.setCl_kept ..)
            refine .trans ?_ (State.moveLater_kept ..)
            refine .whenB ?_ ?_
            · exact State.wrN_kept ..
            · intro _
              exact State.clusterLeft_kept ..
          · refine .upd ?_ rfl rfl rfl rfl rfl rfl rfl rfl rfl rfl
            refine .trans ?_ (State.moveLater_kept ..)
            refine .whenB ?_ ?_
            · exact State.wrN_kept ..
            · intro _
              exact State.clusterLeft_kept ..
      · refine .trans ?_ (State.faultTo_kept ..)
        refine .whenB ?_ ?_
        · exact State.wrN_kept ..
        · intro _
          exact State.clusterLeft_kept ..
    · refine .ite ?_ ?_
      · refine .whenB ?_ ?_
        · exact State.wrN_kept ..
        · intro _
          exact State.clusterLeft_kept ..
      · refine .ite ?_ ?_
        · refine .trans ?_ (State.setCl_kept ..)
          refine .whenB ?_ ?_
          · exact State.wrN_kept ..
          · intro _
            exact State.clusterLeft_kept ..
        · refine .upd ?_ rfl rfl rfl rfl rfl rfl rfl rfl rfl rfl
          refine .whenB ?_ ?_
          · exact State.wrN_kept ..
          · intro _
            exact State.clusterLeft_kept ..

theorem execMoveDestinationRunning_kept (s : State) : OutKept s (execMoveDestinationRunning s) := by
  unfold execMoveDestinationRunning
  refine .next ?_
  split
  · exact .refl _
  · refine .ite ?_ ?_
    · exact .refl _
    · refine .trans ?_ (State.nextMove_kept ..)
      refine .trans ?_ (State.engReport_kept ..)
      refine .whenB ?_ ?_
      · refine .ite ?_ ?_
        · refine .trans ?_ (State.sourceFreed_kept ..)
          exact State.moveArrives_kept ..
        · exact State.moveArrives_kept ..
      · intro _
        exact State.timingReturn_kept ..

theorem execClusterCheckDone_kept (n : Fin 12) (pass : Bool) (s : State) : OutKept s (execClusterCheckDone n pass s) := by
  unfold execClusterCheckDone
  refine .next ?_
  refine .ite ?_ ?_
  · exact .refl _
  · refine .ite ?_ ?_
    · refine .trans ?_ (State.nextMove_kept ..)
      refine .trans ?_ (State.engReport_kept ..)
      exact State.setCl_kept ..
    · refine .trans ?_ (State.engReport_kept ..)
      refine .trans ?_ (State.inc32_kept ..)
      refine .trans ?_ (State.wrN_kept ..)
      exact State.setCl_kept ..

theorem execHistoryWrite_kept (w : Fin 11) (s : State) : OutKept s (execHistoryWrite w s) := by
  unfold execHistoryWrite
  refine .next ?_
  refine .ite ?_ ?_
  · exact State.wr_kept ..
  · exact .refl _

theorem State.enginesUnshed_kept (s : State) : Kept s (State.enginesUnshed s) := by
  unfold State.enginesUnshed
  refine .upd ?_ rfl rfl rfl rfl rfl rfl rfl rfl rfl rfl
  refine .each ?_ ?_
  · exact .refl _
  · intro _ _
    exact State.setCl_kept ..

theorem State.plannedMove_kept (s : State) (n : Nat) (retire : Bool) : EffKept s (State.plannedMove s n retire) := by
  unfold State.plannedMove
  refine .plain ?_ rfl
  dsimp only
  split
  · exact State.beginMove_kept ..
  · exact .refl _

theorem State.orphan_kept (s : State) (n : Nat) : Kept s (State.orphan s n) := by
  unfold State.orphan
  refine .ite ?_ ?_
  · refine .trans ?_ (State.wrN_kept ..)
    exact State.suspend_kept ..
  · exact .refl _

theorem State.clusterEffect_kept (s : State) (n v : Nat) : EffKept s (s.clusterEffect n v) := by
  unfold State.clusterEffect
  refine EffKept.fails ?_
  split
  · split
    · exact State.plannedMove_kept ..
    · exact .plain (.refl _) rfl
  · split
    · exact EffKept.then (State.plannedMove_kept ..) fun _ => State.wrBit_kept ..
    · split
      · exact .plain (.refl _) rfl
      · exact .ok ((((Kept.trans (State.setCl_kept ..) (State.wrBit_kept ..)).whenB fun _ => State.orphan_kept ..).trans
          (State.engReport_kept ..)).trans (State.nextMove_kept ..))
  · split
    · exact .ok (((State.wrBit_kept ..).trans (State.setCl_kept ..)).trans (State.engReport_kept ..))
    · exact .plain (.refl _) rfl

theorem execClusterMoveOff_kept (n : Fin 12) (s : State) : OutKept s (execClusterMoveOff n s) := by
  unfold execClusterMoveOff
  refine .next ?_
  refine State.command_kept _ _ _ _ _ ?_
  exact State.clusterEffect_kept ..

theorem execClusterRetire_kept (n : Fin 12) (s : State) : OutKept s (execClusterRetire n s) := by
  unfold execClusterRetire
  refine .next ?_
  refine State.command_kept _ _ _ _ _ ?_
  exact State.clusterEffect_kept ..

theorem execClusterReadmit_kept (n : Fin 12) (s : State) : OutKept s (execClusterReadmit n s) := by
  unfold execClusterReadmit
  refine .next ?_
  refine State.command_kept _ _ _ _ _ ?_
  exact State.clusterEffect_kept ..

theorem State.enginesPlace_kept (s : State) (failed : Nat) : Kept s (State.enginesPlace s failed) := by
  unfold State.enginesPlace
  refine .trans ?_ (State.nextMove_kept ..)
  refine .trans ?_ (State.engReport_kept ..)
  refine .each ?_ ?_
  · refine .each ?_ ?_
    · refine .each ?_ ?_
      · exact .upd (.refl _) rfl rfl rfl rfl rfl rfl rfl rfl rfl rfl
      · intro _ _
        refine .ite ?_ ?_
        · refine .whenB ?_ ?_
          · refine .trans ?_ (State.wrN_kept ..)
            exact State.setCl_kept ..
          · intro _
            exact State.wrN_kept ..
        · refine .trans ?_ (State.wrN_kept ..)
          exact State.setCl_kept ..
    · intro _ _
      refine .trans ?_ (State.wrN_kept ..)
      exact State.wrN_kept ..
  · intro _ _
    refine .trans ?_ (State.moveLater_kept ..)
    exact State.wrN_kept ..

theorem State.enginesGate_kept (s : State) : Kept s (State.enginesGate s) := by
  unfold State.enginesGate
  dsimp only
  split
  · refine .trans ?_ (State.engReport_kept ..)
    refine .each ?_ ?_
    · exact .refl _
    · intro _ _
      refine .ite ?_ ?_
      · exact .refl _
      · exact State.setCl_kept ..
  · refine .ite ?_ ?_
    · refine .trans ?_ (State.engReport_kept ..)
      refine .each ?_ ?_
      · exact .refl _
      · intro _ _
        refine .ite ?_ ?_
        · exact .refl _
        · exact State.setCl_kept ..
    · refine .ite ?_ ?_
      · refine .trans ?_ (State.nextMove_kept ..)
        refine .trans ?_ (State.faultMove_kept ..)
        refine .whenB ?_ ?_
        · refine .trans ?_ (State.dropMove_kept ..)
          refine .each ?_ ?_
          · exact .refl _
          · intro _ _
            refine .ite ?_ ?_
            · exact .refl _
            · exact State.setCl_kept ..
        · intro _
          exact State.setCl_kept ..
      · refine .trans ?_ (State.nextMove_kept ..)
        refine .trans ?_ (State.engReport_kept ..)
        refine .whenB ?_ ?_
        · refine .trans ?_ (State.abandonMove_kept ..)
          refine .each ?_ ?_
          · exact .refl _
          · intro _ _
            refine .ite ?_ ?_
            · exact .refl _
            · exact State.setCl_kept ..
        · intro _
          exact State.setCl_kept ..

theorem State.enginesUngate_kept (s : State) : Kept s (State.enginesUngate s) := by
  unfold State.enginesUngate
  refine .trans ?_ (State.engReport_kept ..)
  refine .each ?_ ?_
  · exact .refl _
  · intro _ _
    refine .ite ?_ ?_
    · exact State.setCl_kept ..
    · exact .refl _

end Sys2Proof.Machine
end

