-- ==== Sys2Proof/Laws/KeptMatrix.lean ====
section
/-! SUPPORT. `Kept` of the operations of Machine/Matrix.lean, one lemma each. -/

namespace Sys2Proof.Machine

theorem State.windowHit_kept (s : State) (a : Nat) : Kept s (State.windowHit s a) := by
  unfold State.windowHit
  split
  · exact State.inc64_kept ..
  · exact .refl _

theorem State.windowEffect_kept (s : State) (i sub : Nat) (v : DVal) : EffKept s (State.windowEffect s i sub v) := by
  unfold State.windowEffect
  refine .ite ?_ ?_
  · refine .plain ?_ rfl
    exact State.wr_kept ..
  · refine .plain ?_ rfl
    exact State.wr_kept ..

theorem State.matrixWrite_kept (s t : State) (a : Nat) (b : List Byte) (h : s.matrixWrite a b = some t) : Kept s t := by
  unfold State.matrixWrite at h
  split at h
  · dsimp only at h
    split at h
    · cases h
    · cases h
      refine .ite ?_ (.trans ?_ (State.wrN_kept ..))
      all_goals
        refine .upd ?_ rfl rfl rfl rfl rfl rfl rfl rfl rfl rfl
        exact State.memWrite_kept ..
  · cases h
    exact .refl _

theorem State.matrixWrite_getD_kept (s : State) (a : Nat) (b : List Byte) : Kept s ((s.matrixWrite a b).getD s) := by
  cases h : s.matrixWrite a b with
  | none => exact .refl _
  | some t => exact State.matrixWrite_kept _ _ _ _ h

theorem State.masterWrite_kept (s : State) (a : Nat) (b : List Byte) : Kept s (s.masterWrite a b) := by
  unfold State.masterWrite
  generalize matrixPieces a b.length = l
  suffices h : ∀ t, Kept s t → Kept s (l.foldl (fun t p =>
      let u := t.windowHit p.1
      (u.matrixWrite (u.redirect p.1) (slice b (p.1 - a) p.2)).getD u) t) from h s (.refl _)
  induction l with
  | nil => exact fun _ h => h
  | cons p l ih => exact fun t h => ih _ ((h.trans (State.windowHit_kept ..)).trans (State.matrixWrite_getD_kept ..))

theorem State.matrixLog_kept (s : State) (master a action : Nat) : Kept s (State.matrixLog s master a action) := by
  unfold State.matrixLog
  refine .trans ?_ (State.wrN_kept ..)
  refine .trans ?_ (State.wrN_kept ..)
  refine .trans ?_ (State.wrN_kept ..)
  exact State.inc32_kept ..

end Sys2Proof.Machine
end

