-- ==== Sys2Proof/Laws/KeptPersist.lean ====
section
/-! SUPPORT. `Kept` of the operations of Machine/Persist.lean, one lemma each. -/

namespace Sys2Proof.Machine

theorem State.rebuildQueues_kept (s : State) : Kept s (State.rebuildQueues s) := by
  unfold State.rebuildQueues
  refine .each ?_ ?_
  · exact .upd (.refl _) rfl rfl rfl rfl rfl rfl rfl rfl rfl rfl
  · intro _ _
    refine .ite ?_ ?_
    · exact .refl _
    · refine .each ?_ ?_
      · exact .upd (.refl _) rfl rfl rfl rfl rfl rfl rfl rfl rfl rfl
      · intro _ _
        exact State.setQueue_kept ..

theorem State.applyRaw_kept (s : State) (e : RawEntry) : Kept s (State.applyRaw s e) := by
  unfold State.applyRaw
  refine .ite ?_ ?_
  · refine .ite ?_ ?_
    · refine .ite ?_ ?_
      · exact .refl _
      · exact State.setQueue_kept ..
    · refine .ite ?_ ?_
      · exact .upd (.refl _) rfl rfl rfl rfl rfl rfl rfl rfl rfl rfl
      · exact .refl _
  · split
    · exact State.setK_kept ..
    · exact State.inc32_kept ..

theorem State.applyImage_kept (s : State) : Kept s (State.applyImage s) := by
  unfold State.applyImage
  split
  · refine .trans ?_ (State.wrN_kept ..)
    refine .trans ?_ (State.wrN_kept ..)
    refine .trans ?_ (State.wrN_kept ..)
    refine .trans ?_ (State.defect_kept ..)
    refine .each ?_ ?_
    · refine .trans ?_ (State.rebuildQueues_kept ..)
      refine .each ?_ ?_
      · refine .upd ?_ rfl rfl rfl rfl rfl rfl rfl rfl rfl rfl
        exact State.clearIdx_kept ..
      · intro _ _
        exact State.applyRaw_kept ..
    · intro _ _
      exact State.applyRaw_kept ..
  · refine .trans ?_ (State.raise_kept ..)
    refine .trans ?_ (State.rebuildQueues_kept ..)
    refine .upd ?_ rfl rfl rfl rfl rfl rfl rfl rfl rfl rfl
    exact State.clearIdx_kept ..

theorem State.restoreSlots_kept (s : State) : Kept s (State.restoreSlots s) := by
  unfold State.restoreSlots
  split
  · refine .each ?_ ?_
    · exact .refl _
    · intro _ _
      split
      · refine .ite ?_ ?_
        · exact State.setMgmt_kept ..
        · exact .refl _
      · exact .refl _
  · exact .refl _

end Sys2Proof.Machine
end

