-- ==== Sys2Proof/Laws/KeptMemories.lean ====
section
/-! SUPPORT. `Kept` of the operations of Machine/Memories.lean, one lemma each. -/

namespace Sys2Proof.Machine

theorem State.setLog_kept (s : State) (l : List LogEntry) : Kept s (State.setLog s l) := by
  unfold State.setLog
  refine .trans ?_ (State.wrS_kept ..)
  refine .trans ?_ (State.wrN_kept ..)
  exact .upd (.refl _) rfl rfl rfl rfl rfl rfl rfl rfl rfl rfl

theorem State.logAdd_kept (s : State) (id kind action syn addr inst : Nat) :
    Kept s (State.logAdd s id kind action syn addr inst) := by
  unfold State.logAdd
  refine .upd ?_ rfl rfl rfl rfl rfl rfl rfl rfl rfl rfl
  exact State.setLog_kept ..

theorem State.logCorrected_kept (s : State) (id syn addr inst : Nat) : Kept s (State.logCorrected s id syn addr inst) := by
  unfold State.logCorrected
  split
  · refine .ite ?_ ?_
    · exact State.setLog_kept ..
    · exact State.logAdd_kept ..
  · exact State.logAdd_kept ..

theorem State.corrected_kept (s : State) (id syn addr inst : Nat) : Kept s (State.corrected s id syn addr inst) := by
  unfold State.corrected
  refine .ite ?_ ?_
  · refine .trans ?_ (State.logAdd_kept ..)
    refine .trans ?_ (State.raise_kept ..)
    refine .upd ?_ rfl rfl rfl rfl rfl rfl rfl rfl rfl rfl
    refine .upd ?_ rfl rfl rfl rfl rfl rfl rfl rfl rfl rfl
    refine .trans ?_ (State.logCorrected_kept ..)
    exact State.inc64_kept ..
  · refine .upd ?_ rfl rfl rfl rfl rfl rfl rfl rfl rfl rfl
    refine .trans ?_ (State.logCorrected_kept ..)
    exact State.inc64_kept ..

theorem execCorrectedError_kept (mem : Fin 18) (addr syndrome inst : Nat) (s : State) :
    OutKept s (execCorrectedError mem addr syndrome inst s) := by
  unfold execCorrectedError
  refine .next ?_
  refine .ite ?_ ?_
  · exact State.corrected_kept ..
  · exact .refl _

theorem State.cellDrops_kept (s : State) (q n : Nat) : Kept s (State.cellDrops s q n) := by
  unfold State.cellDrops
  refine .ite ?_ ?_
  · exact State.bump_kept ..
  · exact .refl _

theorem State.flushQueue_kept (s : State) (q : Nat) : Kept s (State.flushQueue s q) := by
  unfold State.flushQueue
  refine .ite ?_ ?_
  · exact .refl _
  · refine .trans ?_ (State.pauseAll_kept ..)
    refine .trans ?_ (State.cutShapers_kept ..)
    refine .trans ?_ (State.setQueue_kept ..)
    exact State.cellDrops_kept ..

theorem State.discardCell_kept (s : State) : Kept s (State.discardCell s) := by
  unfold State.discardCell
  dsimp only
  split
  · exact .refl _
  · refine .trans ?_ (State.pauseAll_kept ..)
    refine .trans ?_ (State.cutShapers_kept ..)
    refine .trans ?_ (State.dequeue_kept ..)
    refine .trans ?_ (State.cellDrops_kept ..)
    exact State.drawn_kept ..

theorem State.restartFor_kept (s : State) (cause : RestartCause) : Kept s (State.restartFor s cause) := by
  unfold State.restartFor
  exact .upd (.refl _) rfl rfl rfl rfl rfl rfl rfl rfl rfl rfl

theorem State.memAction_kept (s : State) (row addr inst master : Nat) (scrub both : Bool) :
    Kept s (State.memAction s row addr inst master scrub both) := by
  unfold State.memAction
  split
  · exact State.discardCell_kept ..
  · exact State.flushQueue_kept ..
  · refine .ite ?_ ?_
    · exact State.restartFor_kept ..
    · exact .refl _
  · exact State.restartFor_kept ..
  · exact State.setK_kept ..
  · refine .whenB ?_ ?_
    · exact State.faultCluster_kept ..
    · intro _
      exact State.islandReset_kept ..
  · exact State.slotError_kept ..
  · exact State.eraseMgmt_kept ..
  · exact State.setFec_kept ..
  · refine .trans ?_ (State.loseThread_kept ..)
    exact State.islandReset_kept ..
  · refine .whenB ?_ ?_
    · exact .refl _
    · intro _
      exact State.islandReset_kept ..
  · refine .trans ?_ (State.sliceFault_kept ..)
    exact State.drawn_kept ..
  · refine .ite ?_ ?_
    · refine .upd ?_ rfl rfl rfl rfl rfl rfl rfl rfl rfl rfl
      exact State.wrN_kept ..
    · exact .refl _
  · exact .refl _

theorem State.uncorrectable_kept (s : State) (id addr syn inst master : Nat) (scrub both : Bool) :
    Kept s (State.uncorrectable s id addr syn inst master scrub both) := by
  unfold State.uncorrectable
  refine .trans ?_ (State.memAction_kept ..)
  refine .ite ?_ ?_
  · refine .trans ?_ (State.inc32_kept ..)
    refine .upd ?_ rfl rfl rfl rfl rfl rfl rfl rfl rfl rfl
    refine .trans ?_ (State.logAdd_kept ..)
    refine .trans ?_ (State.count_kept ..)
    exact State.inc64_kept ..
  · refine .trans ?_ (State.logAdd_kept ..)
    refine .trans ?_ (State.count_kept ..)
    exact State.inc64_kept ..

theorem State.poisonRead_kept (s : State) (a n master : Nat) : Kept s (State.poisonRead s a n master) := by
  unfold State.poisonRead
  split
  · split
    · exact State.uncorrectable_kept ..
    · exact .refl _
  · exact .refl _

theorem execUncorrectableRead_kept (mem : Fin 18) (addr syndrome inst : Nat) (master : Fin 18) (both : Bool) (s : State) :
    OutKept s (execUncorrectableRead mem addr syndrome inst master both s) := by
  unfold execUncorrectableRead
  refine .next ?_
  refine .ite ?_ ?_
  · exact State.uncorrectable_kept ..
  · exact .refl _

theorem execScrubRead_kept (mem : Fin 18) (word stored inst : Nat) (s : State) :
    OutKept s (execScrubRead mem word stored inst s) := by
  unfold execScrubRead
  refine .next ?_
  refine .ite ?_ ?_
  · exact .refl _
  · split
    · exact .refl _
    · exact State.corrected_kept ..
    · exact State.uncorrectable_kept ..

theorem execMarchTestLine_kept (mem : Fin 18) (line inst : Nat) (mismatch : Bool) (s : State) :
    OutKept s (execMarchTestLine mem line inst mismatch s) := by
  unfold execMarchTestLine
  refine .next ?_
  refine .ite ?_ ?_
  · exact .refl _
  · split
    · split
      · refine .ite ?_ ?_
        · refine .trans ?_ (State.inc32_kept ..)
          refine .trans ?_ (State.logAdd_kept ..)
          exact State.inc32_kept ..
        · refine .trans ?_ (State.logAdd_kept ..)
          exact State.inc32_kept ..
      · refine .ite ?_ ?_
        · refine .trans ?_ (State.inc32_kept ..)
          refine .trans ?_ (State.drawn_kept ..)
          refine .trans ?_ (State.logAdd_kept ..)
          exact State.inc32_kept ..
        · refine .trans ?_ (State.drawn_kept ..)
          refine .trans ?_ (State.logAdd_kept ..)
          exact State.inc32_kept ..
    · split
      · refine .ite ?_ ?_
        · exact State.inc32_kept ..
        · exact .refl _
      · refine .ite ?_ ?_
        · refine .trans ?_ (State.inc32_kept ..)
          exact State.drawn_kept ..
        · exact State.drawn_kept ..

theorem State.unitRetired_kept (s : State) (id unit : Nat) : Kept s (State.unitRetired s id unit) := by
  unfold State.unitRetired
  refine .ite ?_ ?_
  · refine .upd ?_ rfl rfl rfl rfl rfl rfl rfl rfl rfl rfl
    exact State.inc32_kept ..
  · refine .trans ?_ (State.clear_kept ..)
    refine .upd ?_ rfl rfl rfl rfl rfl rfl rfl rfl rfl rfl
    exact State.inc32_kept ..

theorem State.retirePage_kept (s : State) (id page spare w : Nat) : Kept s (State.retirePage s id page spare w) := by
  unfold State.retirePage
  split
  · refine .trans ?_ (State.unitRetired_kept ..)
    refine .trans ?_ (State.wrN_kept ..)
    refine .trans ?_ (State.wrN_kept ..)
    refine .trans ?_ (State.wrN_kept ..)
    refine .trans ?_ (State.wrN_kept ..)
    refine .each ?_ ?_
    · refine .upd ?_ rfl rfl rfl rfl rfl rfl rfl rfl rfl rfl
      exact State.memWrite_kept ..
    · intro _ _
      exact State.wrN_kept ..
  · exact .refl _

theorem State.markBank_kept (s : State) (b : Nat) : Kept s (State.markBank s b) := by
  unfold State.markBank
  exact State.wrS_kept ..

theorem State.retireEffect_kept (s : State) (v : Nat) : EffKept s (State.retireEffect s v) := by
  unfold State.retireEffect
  refine ⟨?_, ?_⟩
  · refine .trans ?_ (State.wrN_kept ..)
    refine .ite ?_ ?_
    · split
      · exact State.retirePage_kept ..
      · exact .refl _
    · refine .ite ?_ ?_
      · exact .refl _
      · refine .trans ?_ (State.unitRetired_kept ..)
        exact State.markBank_kept ..
  · rintro _ ⟨⟩
    exact State.wrN_kept ..

theorem State.banksEffect_kept (s : State) (v : List Byte) : EffKept s (State.banksEffect s v) := by
  unfold State.banksEffect
  refine .ok ?_
  refine .trans ?_ (State.wrN_kept ..)
  exact State.wrS_kept ..

theorem execRetirePage_kept (s : State) : OutKept s (execRetirePage s) := by
  unfold execRetirePage
  refine .next ?_
  refine State.command_kept _ _ _ _ _ ?_
  exact State.retireEffect_kept ..

theorem execRetireBank_kept (s : State) : OutKept s (execRetireBank s) := by
  unfold execRetireBank
  refine .next ?_
  refine State.command_kept _ _ _ _ _ ?_
  exact State.retireEffect_kept ..

theorem execClearLog_kept (s : State) : OutKept s (execClearLog s) := by
  unfold execClearLog
  refine .next ?_
  refine State.command_kept _ _ _ _ _ ?_
  exact .ok (State.setLog_kept ..)

end Sys2Proof.Machine
end

