-- ==== Sys2Proof/Laws/KeptBobbin.lean ====
section
/-! SUPPORT. `Kept` of the operations of Machine/Bobbin.lean, one lemma each. -/

namespace Sys2Proof.Machine

theorem State.alertUpdate_kept (s : State) : Kept s (State.alertUpdate s) := by
  unfold State.alertUpdate
  refine .ite ?_ ?_
  · exact .refl _
  · refine .ite ?_ ?_
    · refine .trans ?_ (State.wakeRaise_kept ..)
      refine .trans ?_ (State.vector_kept ..)
      refine .trans ?_ (State.countRaise_kept ..)
      refine .trans ?_ (State.wrB_kept ..)
      exact State.wrN_kept ..
    · refine .trans ?_ (State.wrB_kept ..)
      exact State.wrN_kept ..

theorem State.alertLatch_kept (s : State) (i : Nat) : Kept s (State.alertLatch s i) := by
  unfold State.alertLatch
  refine .trans ?_ (State.alertUpdate_kept ..)
  exact .upd (.refl _) rfl rfl rfl rfl rfl rfl rfl rfl rfl rfl

theorem execAlertReport_kept (causes : List Nat) (low : Bool) (s : State) : OutKept s (execAlertReport causes low s) := by
  unfold execAlertReport
  refine .next ?_
  refine .ite ?_ ?_
  · exact .refl _
  · refine .ite ?_ ?_
    · refine .trans ?_ (State.wrS_kept ..)
      refine .trans ?_ (State.alertUpdate_kept ..)
      exact .upd (.refl _) rfl rfl rfl rfl rfl rfl rfl rfl rfl rfl
    · refine .trans ?_ (State.alertUpdate_kept ..)
      exact .upd (.refl _) rfl rfl rfl rfl rfl rfl rfl rfl rfl rfl

theorem State.clearAlertsEffect_kept (s : State) (mask : Nat) : EffKept s (State.clearAlertsEffect s mask) := by
  unfold State.clearAlertsEffect
  refine .ok ?_
  refine .trans ?_ (State.alertUpdate_kept ..)
  exact .upd (.refl _) rfl rfl rfl rfl rfl rfl rfl rfl rfl rfl

theorem execClearAlerts_kept (mask : BitVec 32) (s : State) : OutKept s (execClearAlerts mask s) := by
  unfold execClearAlerts
  refine .next ?_
  refine State.command_kept _ _ _ _ _ ?_
  exact State.clearAlertsEffect_kept ..

theorem State.setLink_kept (s : State) (q : Nat) (x : Link) : Kept s (State.setLink s q x) := by
  unfold State.setLink
  exact .upd (.refl _) rfl rfl rfl rfl rfl rfl rfl rfl rfl rfl

theorem State.putFlit_kept (s : State) (q : Nat) (f : Flit) : Kept s (State.putFlit s q f) := by
  unfold State.putFlit
  refine .trans ?_ (State.emit_kept ..)
  refine .trans ?_ (State.inc64_kept ..)
  exact State.setLink_kept ..

theorem State.sendNow_kept (s : State) (q : Nat) (f : Flit) : Kept s (State.sendNow s q f) := by
  unfold State.sendNow
  refine .trans ?_ (State.putFlit_kept ..)
  exact State.setLink_kept ..

theorem State.linkSend_kept (s : State) (q : Nat) (f : Flit) : Kept s (State.linkSend s q f) := by
  unfold State.linkSend
  refine .ite ?_ ?_
  · exact State.sendNow_kept ..
  · exact State.setLink_kept ..

theorem State.pump_kept (s : State) (q : Nat) : Kept s (State.pump s q) := by
  unfold State.pump
  refine .each ?_ ?_
  · exact State.setLink_kept ..
  · intro _ _
    exact State.linkSend_kept ..

theorem State.bobSend_kept (s : State) (dest : Nat) (body : FlitBody) : Kept s (State.bobSend s dest body) := by
  unfold State.bobSend
  split
  · exact State.linkSend_kept ..
  · exact .refl _

theorem State.sendNear_kept (s : State) (q : Nat) (body : FlitBody) : Kept s (State.sendNear s q body) := by
  unfold State.sendNear
  exact State.sendNow_kept ..

theorem State.sendBare_kept (s : State) (q : Nat) (body : FlitBody) : Kept s (State.sendBare s q body) := by
  unfold State.sendBare
  exact State.putFlit_kept ..

theorem State.remoteRequests_kept (s : State) (c i : Nat) (write : Bool) (fuel addr : Nat) (data : List Byte) (left : Nat) :
    Kept s (s.remoteRequests c i write fuel addr data left) := by
  induction fuel generalizing s addr data left with
  | zero => exact .refl _
  | succ fuel ih =>
    unfold State.remoteRequests
    refine .ite (.refl _) (.trans ?_ (ih ..))
    split
    · dsimp only
      split
      · exact (State.setLink_kept ..).trans (State.bobSend_kept ..)
      · exact .refl _
    · exact .refl _

theorem State.dmaVector_kept (s : State) (c : Nat) : Kept s (State.dmaVector s c) := by
  unfold State.dmaVector
  refine .whenB ?_ ?_
  · exact .refl _
  · intro _
    exact State.vector_kept ..

theorem State.dmaReport_kept (s : State) : Kept s (State.dmaReport s) := by
  unfold State.dmaReport
  exact State.wrN_kept ..

theorem State.putWriteback_kept (s : State) (c a : Nat) : Kept s (s.putWriteback c a) := by
  unfold State.putWriteback
  refine .ite (State.emit_kept ..) (.trans (State.windowHit_kept s a) ?_)
  dsimp only
  split
  · exact State.remoteRequests_kept ..
  · exact State.matrixWrite_getD_kept ..

theorem State.dmaHeld_kept (s : State) (a : Nat) : Kept s (State.dmaHeld s a) := by
  unfold State.dmaHeld
  refine .ite ?_ ?_
  · exact .refl _
  · refine .trans ?_ (State.clear_kept ..)
    refine .trans ?_ (State.matrixLog_kept ..)
    exact State.raise_kept ..

theorem State.dmaEnd_kept (s : State) (c state err : Nat) : Kept s (State.dmaEnd s c state err) := by
  unfold State.dmaEnd
  refine .trans ?_ (State.dmaReport_kept ..)
  refine .trans ?_ (State.dmaVector_kept ..)
  refine .upd ?_ rfl rfl rfl rfl rfl rfl rfl rfl rfl rfl
  refine .whenB ?_ ?_
  · refine .whenB ?_ ?_
    · refine .trans ?_ (State.wrN_kept ..)
      refine .trans ?_ (State.wrN_kept ..)
      refine .whenB ?_ ?_
      · exact .refl _
      · intro _
        exact State.dmaHeld_kept ..
    · intro _
      exact State.inc32_kept ..
  · intro _
    exact State.putWriteback_kept ..

theorem State.dmaError_kept (s : State) (c n err : Nat) : Kept s (State.dmaError s c n err) := by
  unfold State.dmaError
  refine .trans ?_ (State.dmaEnd_kept ..)
  exact State.wrN_kept ..

theorem State.dmaLate_kept (s : State) (c : Nat) : Kept s (State.dmaLate s c) := by
  unfold State.dmaLate
  refine .ite ?_ ?_
  · exact .refl _
  · refine .trans ?_ (State.dmaVector_kept ..)
    refine .trans ?_ (State.inc32_kept ..)
    refine .trans ?_ (State.inc32_kept ..)
    refine .trans ?_ (State.wrN_kept ..)
    exact State.wrN_kept ..

theorem State.dmaDecode_kept (s : State) (c n a : Nat) : Kept s (State.dmaDecode s c n a) := by
  unfold State.dmaDecode
  refine .trans ?_ (State.dmaError_kept ..)
  exact State.dmaHeld_kept ..

theorem execMatrixDecodeFault_kept (master : Fin 18) (channel : Fin 64) (addr : Nat) (s : State) :
    OutKept s (execMatrixDecodeFault master channel addr s) := by
  unfold execMatrixDecodeFault
  refine .next ?_
  refine .ite ?_ ?_
  · exact .refl _
  · refine .ite ?_ ?_
    · refine .ite ?_ ?_
      · exact State.dmaDecode_kept ..
      · exact .refl _
    · refine .ite ?_ ?_
      · exact State.matrixLog_kept ..
      · refine .ite ?_ ?_
        · refine .trans ?_ (State.clear_kept ..)
          refine .trans ?_ (State.faultCluster_kept ..)
          refine .trans ?_ (State.matrixLog_kept ..)
          exact State.raise_kept ..
        · exact .refl _

theorem State.protSwitch_kept (s : State) (j : Nat) (v : Bool) : Kept s (State.protSwitch s j v) := by
  unfold State.protSwitch
  refine .ite ?_ ?_
  · exact .refl _
  · refine .trans ?_ (State.alertLatch_kept ..)
    refine .trans ?_ (State.wrN_kept ..)
    refine .trans ?_ (State.drawn_kept ..)
    refine .trans ?_ (State.wr_kept ..)
    refine .trans ?_ (State.inc32_kept ..)
    exact State.wrB_kept ..

theorem State.protTell_kept (s : State) (j : Nat) : Kept s (State.protTell s j) := by
  unfold State.protTell
  refine .ite ?_ ?_
  · exact .refl _
  · refine .trans ?_ (State.bobSend_kept ..)
    exact State.setProt_kept ..

theorem State.protHome_kept (s : State) (j : Nat) : Kept s (State.protHome s j) := by
  unfold State.protHome
  refine .trans ?_ (State.protTell_kept ..)
  refine .trans ?_ (State.protSwitch_kept ..)
  refine .trans ?_ (State.wrN_kept ..)
  refine .trans ?_ (State.wrN_kept ..)
  exact State.setProt_kept ..

theorem State.protCarrier_kept (s : State) (j : Nat) : Kept s (State.protCarrier s j) := by
  unfold State.protCarrier
  refine .ite ?_ ?_
  · exact .refl _
  · refine .trans ?_ (State.bobSend_kept ..)
    exact State.setProt_kept ..

theorem State.protRefresh_kept (s : State) (j : Nat) : Kept s (State.protRefresh s j) := by
  unfold State.protRefresh
  refine .ite ?_ ?_
  · exact .refl _
  · refine .ite ?_ ?_
    · exact State.protHome_kept ..
    · exact State.protCarrier_kept ..

theorem State.protAll_kept (s : State) : Kept s (State.protAll s) := by
  unfold State.protAll
  refine .each ?_ ?_
  · exact .refl _
  · intro _ _
    exact State.protRefresh_kept ..

theorem execHoldOffExpiry_kept (j : Fin 256) (protect : Bool) (s : State) : OutKept s (execHoldOffExpiry j protect s) := by
  unfold execHoldOffExpiry
  refine .next ?_
  refine .ite ?_ ?_
  · exact .refl _
  · refine .ite ?_ ?_
    · refine .trans ?_ (State.protRefresh_kept ..)
      exact State.setProt_kept ..
    · refine .trans ?_ (State.protRefresh_kept ..)
      exact State.setProt_kept ..

theorem execProtectionWtrExpiry_kept (j : Fin 256) (s : State) : OutKept s (execProtectionWtrExpiry j s) := by
  unfold execProtectionWtrExpiry
  refine .next ?_
  refine .trans ?_ (State.protRefresh_kept ..)
  exact State.setProt_kept ..

theorem State.protApply_kept (s : State) (j v : Nat) : Kept s (State.protApply s j v) := by
  unfold State.protApply
  refine .trans ?_ (State.protRefresh_kept ..)
  exact State.setProt_kept ..

theorem State.protCommand_kept (s : State) (j v : Nat) : EffKept s (State.protCommand s j v) := by
  unfold State.protCommand
  refine .ite ?_ ?_
  · refine ⟨?_, ?_⟩
    · refine .trans ?_ (State.bobSend_kept ..)
      refine .trans ?_ (State.wrN_kept ..)
      exact .upd (.refl _) rfl rfl rfl rfl rfl rfl rfl rfl rfl rfl
    · rintro _ ⟨⟩
      exact State.wrN_kept ..
  · refine .plain ?_ rfl
    refine .trans ?_ (State.wrN_kept ..)
    exact State.protApply_kept ..

theorem State.deferAnswer_kept (s : State) (o : Out) : Kept s (State.deferAnswer s o) := by
  unfold State.deferAnswer
  exact .upd (.refl _) rfl rfl rfl rfl rfl rfl rfl rfl rfl rfl

theorem State.protRow_kept (s : State) (j v : Nat) : Kept s (s.protRow j v) := by
  unfold State.protRow
  refine .ite ?_ (State.command_kept _ _ _ _ _ (State.protCommand_kept ..))
  exact ((State.judgeWrite_kept _ _ _ _ _ (State.protCommand_kept ..)).trans (State.commandCount_kept ..)).trans
    (State.deferAnswer_kept ..)

theorem execProtectionClear_kept (j : Fin 256) (s : State) : OutKept s (execProtectionClear j s) := by
  unfold execProtectionClear
  exact .next (State.protRow_kept ..)

theorem execProtectionLockout_kept (j : Fin 256) (s : State) : OutKept s (execProtectionLockout j s) := by
  unfold execProtectionLockout
  exact .next (State.protRow_kept ..)

theorem execProtectionForced_kept (j : Fin 256) (s : State) : OutKept s (execProtectionForced j s) := by
  unfold execProtectionForced
  exact .next (State.protRow_kept ..)

theorem execProtectionManual_kept (j : Fin 256) (s : State) : OutKept s (execProtectionManual j s) := by
  unfold execProtectionManual
  exact .next (State.protRow_kept ..)

theorem State.protAnswered_kept (s : State) (c : PendCmd) (applied : Bool) : Kept s (State.protAnswered s c applied) := by
  unfold State.protAnswered
  split
  · split
    · refine .trans ?_ (State.answered_kept ..)
      refine .trans ?_ (State.wrN_kept ..)
      exact .upd (.refl _) rfl rfl rfl rfl rfl rfl rfl rfl rfl rfl
    · refine .trans ?_ (State.wrN_kept ..)
      exact .upd (.refl _) rfl rfl rfl rfl rfl rfl rfl rfl rfl rfl
  · split
    · refine .trans ?_ (State.answered_kept ..)
      refine .trans ?_ (State.wrN_kept ..)
      exact .upd (.refl _) rfl rfl rfl rfl rfl rfl rfl rfl rfl rfl
    · refine .trans ?_ (State.wrN_kept ..)
      exact .upd (.refl _) rfl rfl rfl rfl rfl rfl rfl rfl rfl rfl

theorem State.protResend_kept (s : State) : Kept s (State.protResend s) := by
  unfold State.protResend
  refine .each ?_ ?_
  · exact .refl _
  · intro _ _
    refine .ite ?_ ?_
    · exact State.bobSend_kept ..
    · exact State.protAnswered_kept ..

theorem State.distribute_kept (s : State) : Kept s (State.distribute s) := by
  unfold State.distribute
  refine .ite ?_ ?_
  · exact .refl _
  · refine .ite ?_ ?_
    · refine .trans ?_ (State.alertLatch_kept ..)
      exact .upd (.refl _) rfl rfl rfl rfl rfl rfl rfl rfl rfl rfl
    · exact .upd (.refl _) rfl rfl rfl rfl rfl rfl rfl rfl rfl rfl

theorem State.takeDistribution_kept (s : State) (l : List (Nat × DVal)) : Kept s (State.takeDistribution s l) := by
  unfold State.takeDistribution
  refine .trans ?_ (State.protAll_kept ..)
  refine .each ?_ ?_
  · exact .refl _
  · intro _ _
    exact State.setK_kept ..

theorem State.linksChanged_kept (s : State) : Kept s (State.linksChanged s) := by
  unfold State.linksChanged
  refine .trans ?_ (State.protResend_kept ..)
  refine .trans ?_ (State.protAll_kept ..)
  exact State.wrN_kept ..

theorem State.remoteError_kept (s : State) (c : Nat) (write : Bool) : Kept s (State.remoteError s c write) := by
  unfold State.remoteError
  refine .ite ?_ ?_
  · exact State.dmaError_kept ..
  · refine .ite ?_ ?_
    · exact State.dmaLate_kept ..
    · exact .refl _

theorem State.linkDiscard_kept (s : State) (q : Nat) : Kept s (State.linkDiscard s q) := by
  unfold State.linkDiscard
  refine .each ?_ ?_
  · refine .upd ?_ rfl rfl rfl rfl rfl rfl rfl rfl rfl rfl
    refine .each ?_ ?_
    · exact State.setLink_kept ..
    · intro _ _
      exact State.remoteError_kept ..
  · intro _ _
    split
    · exact State.linkSend_kept ..
    · exact .refl _

theorem State.linkFail_kept (s : State) (q cause : Nat) : Kept s (State.linkFail s q cause) := by
  unfold State.linkFail
  refine .ite ?_ ?_
  · exact .refl _
  · refine .trans ?_ (State.linksChanged_kept ..)
    refine .trans ?_ (State.alertLatch_kept ..)
    refine .trans ?_ (State.count_kept ..)
    refine .trans ?_ (State.candFail_kept ..)
    refine .trans ?_ (State.wrN_kept ..)
    refine .trans ?_ (State.linkDiscard_kept ..)
    refine .trans ?_ (State.inc32_kept ..)
    exact State.wrN_kept ..

theorem State.linkStart_kept (s : State) (q : Nat) : Kept s (State.linkStart s q) := by
  unfold State.linkStart
  refine .trans ?_ (State.wrN_kept ..)
  refine .trans ?_ (State.wrN_kept ..)
  refine .trans ?_ (State.linkDiscard_kept ..)
  refine .trans ?_ (State.wrN_kept ..)
  exact State.bobPortStart_kept ..

theorem execLinkRestartTimer_kept (q : Fin 2) (s : State) : OutKept s (execLinkRestartTimer q s) := by
  unfold execLinkRestartTimer
  refine .next ?_
  refine .ite ?_ ?_
  · refine .trans ?_ (State.linksChanged_kept ..)
    exact State.linkStart_kept ..
  · exact .refl _

theorem State.linkEffect_kept (s : State) (q v : Nat) : EffKept s (State.linkEffect s q v) := by
  unfold State.linkEffect
  refine .ok ?_
  refine .ite ?_ ?_
  · exact .refl _
  · refine .ite ?_ ?_
    · refine .ite ?_ ?_
      · exact State.wrN_kept ..
      · exact State.linkFail_kept ..
    · refine .trans ?_ (State.linksChanged_kept ..)
      exact State.linkStart_kept ..

theorem execLinkTakeDown_kept (q : Fin 2) (s : State) : OutKept s (execLinkTakeDown q s) := by
  unfold execLinkTakeDown
  refine .next ?_
  refine State.command_kept _ _ _ _ _ ?_
  exact State.linkEffect_kept ..

theorem execLinkRestart_kept (q : Fin 2) (s : State) : OutKept s (execLinkRestart q s) := by
  unfold execLinkRestart
  refine .next ?_
  refine State.command_kept _ _ _ _ _ ?_
  exact State.linkEffect_kept ..

theorem State.linkErrors_kept (s : State) (q n : Nat) : Kept s (State.linkErrors s q n) := by
  unfold State.linkErrors
  refine .ite ?_ ?_
  · refine .trans ?_ (State.linkFail_kept ..)
    exact State.addSat_kept ..
  · exact State.addSat_kept ..

theorem State.nak_kept (s : State) (q : Nat) : Kept s ((State.nak s q).2) := by
  unfold State.nak
  dsimp only
  split
  · exact State.drawn_kept ..
  · refine .trans ?_ (State.sendBare_kept ..)
    refine .trans ?_ (State.setLink_kept ..)
    refine .ite ?_ ?_
    · exact State.drawn_kept ..
    · exact .refl _

theorem execFlitCrcFail_kept (q : Fin 2) (s : State) : OutKept s (execFlitCrcFail q s) := by
  unfold execFlitCrcFail
  refine .next ?_
  refine .ite ?_ ?_
  · exact .refl _
  · refine .trans ?_ (State.linkErrors_kept ..)
    refine .trans ?_ (State.nak_kept ..)
    exact State.inc32_kept ..

theorem execNullFlitDue_kept (q : Fin 2) (s : State) : OutKept s (execNullFlitDue q s) := by
  unfold execNullFlitDue
  refine .next ?_
  refine .ite ?_ ?_
  · exact State.sendBare_kept ..
  · exact .refl _

theorem execErrorCounterLeak_kept (q : Fin 2) (s : State) : OutKept s (execErrorCounterLeak q s) := by
  unfold execErrorCounterLeak
  exact .next (State.wrN_kept ..)

theorem execCreditTimeout_kept (q vc : Fin 2) (s : State) : OutKept s (execCreditTimeout q vc s) := by
  unfold execCreditTimeout
  refine .next ?_
  refine .ite ?_ ?_
  · refine .trans ?_ (State.linkFail_kept ..)
    exact State.inc32_kept ..
  · exact .refl _

theorem State.flitIn_kept {s t : State} {q : Nat} {f : Flit} {k : State → State} (h : Kept s t) (hk : ∀ v, Kept v (k v)) :
    Kept s (t.flitIn q f k) := by
  unfold State.flitIn
  refine .ite h (.ite ?_ ?_)
  · exact (((h.trans (State.inc64_kept ..)).trans (State.setLink_kept ..)).trans (State.nak_kept ..)).trans
      (State.linkErrors_kept ..)
  · have hp : ∀ x : Link, Kept s ((((t.inc64 (0x8C10 + q) 8).setLink q (((t.inc64 (0x8C10 + q) 8).link q).header f)).setLink q x).pump q) :=
      fun x => (((h.trans (State.inc64_kept ..)).trans (State.setLink_kept ..)).trans (State.setLink_kept ..)).trans
        (State.pump_kept ..)
    exact .ite ((hp _).trans (hk _)) (.ite ((hp _).trans (State.linkSend_kept ..)) (hp _))

theorem execInitReceive_kept (q : Fin 2) (f : Flit) (distributed : List (Nat × DVal)) (s : State) :
    OutKept s (execInitReceive q f distributed s) := by
  unfold execInitReceive
  refine .next ?_
  split
  · refine .ite ?_ ?_
    · exact .refl _
    · refine .ite ?_ ?_
      · refine .trans ?_ (State.alertUpdate_kept ..)
        refine .trans ?_ (State.linkFail_kept ..)
        refine .trans ?_ (State.defect_kept ..)
        exact State.inc64_kept ..
      · refine .ite ?_ ?_
        · refine .ite ?_ ?_
          · refine .trans ?_ (State.distribute_kept ..)
            refine .trans ?_ (State.linksChanged_kept ..)
            refine .trans ?_ (State.alertUpdate_kept ..)
            refine .trans ?_ (State.wrN_kept ..)
            refine .trans ?_ (State.drawn_kept ..)
            refine .trans ?_ (State.wrN_kept ..)
            refine .trans ?_ (State.wrN_kept ..)
            refine .trans ?_ (State.setLink_kept ..)
            refine .trans ?_ (State.defect_kept ..)
            exact State.inc64_kept ..
          · refine .trans ?_ (State.linksChanged_kept ..)
            refine .trans ?_ (State.alertUpdate_kept ..)
            refine .trans ?_ (State.wrN_kept ..)
            refine .trans ?_ (State.drawn_kept ..)
            refine .trans ?_ (State.wrN_kept ..)
            refine .trans ?_ (State.wrN_kept ..)
            refine .trans ?_ (State.setLink_kept ..)
            refine .trans ?_ (State.defect_kept ..)
            exact State.inc64_kept ..
        · refine .ite ?_ ?_
          · refine .trans ?_ (State.takeDistribution_kept ..)
            refine .upd ?_ rfl rfl rfl rfl rfl rfl rfl rfl rfl rfl
            refine .trans ?_ (State.linksChanged_kept ..)
            refine .trans ?_ (State.alertUpdate_kept ..)
            refine .trans ?_ (State.wrN_kept ..)
            refine .trans ?_ (State.drawn_kept ..)
            refine .trans ?_ (State.wrN_kept ..)
            refine .trans ?_ (State.wrN_kept ..)
            refine .trans ?_ (State.setLink_kept ..)
            refine .trans ?_ (State.defect_kept ..)
            exact State.inc64_kept ..
          · refine .trans ?_ (State.linksChanged_kept ..)
            refine .trans ?_ (State.alertUpdate_kept ..)
            refine .trans ?_ (State.wrN_kept ..)
            refine .trans ?_ (State.drawn_kept ..)
            refine .trans ?_ (State.wrN_kept ..)
            refine .trans ?_ (State.wrN_kept ..)
            refine .trans ?_ (State.setLink_kept ..)
            refine .trans ?_ (State.defect_kept ..)
            exact State.inc64_kept ..
  · exact .refl _

theorem execNakReceive_kept (q : Fin 2) (f : Flit) (s : State) : OutKept s (execNakReceive q f s) := by
  unfold execNakReceive
  refine .next ?_
  split
  · refine .ite ?_ ?_
    · exact .refl _
    · refine .ite ?_ ?_
      · refine .trans ?_ (State.setLink_kept ..)
        exact State.inc64_kept ..
      · refine .ite ?_ ?_
        · refine .trans ?_ (State.linkFail_kept ..)
          refine .trans ?_ (State.bump_kept ..)
          refine .each ?_ ?_
          · refine .trans ?_ (State.setLink_kept ..)
            refine .trans ?_ (State.setLink_kept ..)
            exact State.inc64_kept ..
          · intro _ _
            exact State.putFlit_kept ..
        · refine .trans ?_ (State.pump_kept ..)
          refine .trans ?_ (State.bump_kept ..)
          refine .each ?_ ?_
          · refine .trans ?_ (State.setLink_kept ..)
            refine .trans ?_ (State.setLink_kept ..)
            exact State.inc64_kept ..
          · intro _ _
            exact State.putFlit_kept ..
  · refine .ite ?_ ?_
    · refine .trans ?_ (State.pump_kept ..)
      refine .trans ?_ (State.setLink_kept ..)
      exact State.inc64_kept ..
    · exact .refl _
  · exact .refl _

theorem State.frameArrives_kept (s : State) (n : Nat) (x : Partial) : Kept s (State.frameArrives s n x) := by
  unfold State.frameArrives
  refine .ite ?_ ?_
  · exact .refl _
  · refine .trans ?_ (State.resequence_kept ..)
    exact State.judgeFrame_kept ..

theorem execTenantFlitReceive_kept (q : Fin 2) (f : Flit) (s : State) : OutKept s (execTenantFlitReceive q f s) := by
  unfold execTenantFlitReceive
  refine .next ?_
  split
  · refine State.flitIn_kept ?_ ?_
    · exact .refl _
    · intro _
      split
      · split
        · exact .refl _
        · refine .ite ?_ ?_
          · refine .trans ?_ (State.frameArrives_kept ..)
            exact .upd (.refl _) rfl rfl rfl rfl rfl rfl rfl rfl rfl rfl
          · exact .upd (.refl _) rfl rfl rfl rfl rfl rfl rfl rfl rfl rfl
      · split
        · dsimp only
          split
          · exact .refl _
          · refine .trans ?_ (State.frameArrives_kept ..)
            exact .upd (.refl _) rfl rfl rfl rfl rfl rfl rfl rfl rfl rfl
        · dsimp only
          split
          · exact .refl _
          · exact .upd (.refl _) rfl rfl rfl rfl rfl rfl rfl rfl rfl rfl
  · exact .refl _

theorem execResequenceTimeout_kept (n : Fin 4096) (s : State) : OutKept s (execResequenceTimeout n s) := by
  unfold execResequenceTimeout
  refine .next ?_
  split
  · exact .refl _
  · refine .ite ?_ ?_
    · exact .refl _
    · refine .upd ?_ rfl rfl rfl rfl rfl rfl rfl rfl rfl rfl
      exact State.bump_kept ..

theorem State.sendFrame_kept (s : State) (n dest : Nat) (f : QFrame) : Kept s (State.sendFrame s n dest f) := by
  unfold State.sendFrame
  refine .each ?_ ?_
  · exact .refl _
  · intro _ _
    exact State.bobSend_kept ..

theorem State.dispatchOne_kept (s : State) (n : Nat) : Kept s (s.dispatchOne n) := by
  unfold State.dispatchOne
  refine .ite (.ite (State.drawn_kept ..) ?_) ?_
  · split
    · rename_i h
      exact (((State.drawn_kept ..).trans (State.classPick_kept _ _ _ _ h)).trans (State.dequeue_kept ..)).trans
        (State.sendFrame_kept ..)
    · exact State.drawn_kept ..
  · dsimp only
    split
    · exact .ite ((State.dequeue_kept ..).trans (State.sendFrame_kept ..)) (.refl _)
    · exact .refl _

theorem State.bobDispatch_kept (s : State) : Kept s (State.bobDispatch s) := by
  unfold State.bobDispatch
  refine .ite ?_ ?_
  · refine .each ?_ ?_
    · exact .refl _
    · intro _ _
      exact State.dispatchOne_kept ..
  · exact .refl _

theorem State.serveRequest_kept (s : State) (q : Nat) (write : Bool) (len addr : Nat) (data : List Byte) :
    Kept s (s.serveRequest q write len addr data).2.2 := by
  unfold State.serveRequest
  dsimp only
  split
  · split
    · exact .refl _
    · split
      · split
        · split
          · rename_i h
            exact (State.windowHit_kept ..).trans (State.matrixWrite_kept _ _ _ _ h)
          · exact (State.windowHit_kept ..).trans (State.poisonRead_kept ..)
        · split
          · exact State.windowHit_kept ..
          · exact (State.windowHit_kept ..).trans (State.poisonRead_kept ..)
      · exact State.matrixLog_kept ..
  · exact State.matrixLog_kept ..

theorem execRequestFlitReceive_kept (q : Fin 2) (f : Flit) (s : State) : OutKept s (execRequestFlitReceive q f s) := by
  unfold execRequestFlitReceive
  refine .next ?_
  split
  · refine State.flitIn_kept ?_ ?_
    · exact .refl _
    · intro _
      refine .trans ?_ (State.bobSend_kept ..)
      exact State.serveRequest_kept ..
  · exact .refl _

theorem execRequestAcceptTimeout_kept (q : Fin 2) (f : Flit) (s : State) : OutKept s (execRequestAcceptTimeout q f s) := by
  unfold execRequestAcceptTimeout
  refine .next ?_
  split
  · refine State.flitIn_kept ?_ ?_
    · exact .refl _
    · intro _
      exact State.bobSend_kept ..
  · exact .refl _

theorem execResponseFlitReceive_kept (q : Fin 2) (f : Flit) (s : State) : OutKept s (execResponseFlitReceive q f s) := by
  unfold execResponseFlitReceive
  refine .next ?_
  split
  · refine State.flitIn_kept ?_ ?_
    · exact .refl _
    · intro _
      split
      · dsimp only
        split
        · exact State.setLink_kept ..
        · exact State.setLink_kept ..
      · dsimp only
        split
        · refine .trans ?_ (State.remoteError_kept ..)
          exact State.setLink_kept ..
        · exact State.setLink_kept ..
  · exact .refl _

theorem execTimeFlitReceive_kept (q : Fin 2) (f : Flit) (s : State) : OutKept s (execTimeFlitReceive q f s) := by
  unfold execTimeFlitReceive
  refine .next ?_
  split
  · refine State.flitIn_kept ?_ ?_
    · exact .refl _
    · intro _
      refine .trans ?_ (State.reselect_kept ..)
      refine .trans ?_ (State.setCand_kept ..)
      refine .trans ?_ (State.wrN_kept ..)
      refine .trans ?_ (State.wrI_kept ..)
      exact State.drawn_kept ..
  · exact .refl _

theorem execBobbinTimeExchange_kept (q : Fin 2) (s : State) : OutKept s (execBobbinTimeExchange q s) := by
  unfold execBobbinTimeExchange
  refine .next ?_
  refine .ite ?_ ?_
  · exact .refl _
  · refine .trans ?_ (State.sendNear_kept ..)
    exact .upd (.refl _) rfl rfl rfl rfl rfl rfl rfl rfl rfl rfl

theorem execProtFlitReceive_kept (q : Fin 2) (f : Flit) (s : State) : OutKept s (execProtFlitReceive q f s) := by
  unfold execProtFlitReceive
  refine .next ?_
  split
  · refine State.flitIn_kept ?_ ?_
    · exact .refl _
    · intro _
      refine .ite ?_ ?_
      · refine .trans ?_ (State.protRefresh_kept ..)
        exact State.setProt_kept ..
      · refine .ite ?_ ?_
        · exact State.setProt_kept ..
        · refine .ite ?_ ?_
          · split
            · exact State.protAnswered_kept ..
            · exact .refl _
          · refine .trans ?_ (State.bobSend_kept ..)
            refine .ite ?_ ?_
            · exact .refl _
            · refine .trans ?_ (State.protApply_kept ..)
              exact State.setProt_kept ..
  · exact .refl _

theorem State.lanesJudge_kept (s : State) (q : Nat) : Kept s (State.lanesJudge s q) := by
  unfold State.lanesJudge
  refine .ite ?_ ?_
  · exact .refl _
  · refine .ite ?_ ?_
    · exact State.linkFail_kept ..
    · refine .ite ?_ ?_
      · refine .trans ?_ (State.sendNear_kept ..)
        exact State.wrN_kept ..
      · exact .refl _

theorem execMarkerReceive_kept (b : Fin 16) (m : Marker) (s : State) : OutKept s (execMarkerReceive b m s) := by
  unfold execMarkerReceive
  refine .next ?_
  refine .trans ?_ (State.lanesJudge_kept ..)
  exact State.markerIn_kept ..

theorem execMarkerTransmit_kept (q : Fin 2) (s : State) : OutKept s (execMarkerTransmit q s) := by
  unfold execMarkerTransmit
  refine .next ?_
  refine .ite ?_ ?_
  · refine .trans ?_ (State.lanesJudge_kept ..)
    exact State.markerOut_kept ..
  · exact .refl _

theorem execLaneRetireCommand_kept (b : Fin 16) (s : State) : OutKept s (execLaneRetireCommand b s) := by
  unfold execLaneRetireCommand
  refine .next ?_
  refine State.command_kept _ _ _ _ _ ?_
  refine .ok ?_
  refine .trans ?_ (State.lanesJudge_kept ..)
  exact State.retireBob_kept ..

theorem execPortIdleEnter_kept (q : Fin 2) (s : State) : OutKept s (execPortIdleEnter q s) := by
  unfold execPortIdleEnter
  refine .next ?_
  refine .ite ?_ ?_
  · refine .trans ?_ (State.linksChanged_kept ..)
    refine .trans ?_ (State.wrN_kept ..)
    exact State.bobIdleEnter_kept ..
  · exact .refl _

theorem execPortIdleExit_kept (q : Fin 2) (s : State) : OutKept s (execPortIdleExit q s) := by
  unfold execPortIdleExit
  refine .next ?_
  refine .ite ?_ ?_
  · refine .trans ?_ (State.linksChanged_kept ..)
    refine .trans ?_ (State.wrN_kept ..)
    exact State.bobIdleExit_kept ..
  · exact .refl _

theorem State.protEffect_kept (s : State) (j sub : Nat) (v : DVal) : EffKept s (State.protEffect s j sub v) := by
  unfold State.protEffect
  split
  · refine .plain ?_ rfl
    refine .ite ?_ ?_
    · refine .trans ?_ (State.protRefresh_kept ..)
      refine .trans ?_ (State.setProt_kept ..)
      refine .trans ?_ (State.drawn_kept ..)
      exact State.wr_kept ..
    · exact State.wr_kept ..
  · refine .plain ?_ rfl
    exact State.wr_kept ..
  · refine .plain ?_ rfl
    exact State.wr_kept ..
  · refine .plain ?_ rfl
    exact State.wr_kept ..
  · refine .plain ?_ rfl
    refine .trans ?_ (State.protRefresh_kept ..)
    exact State.wr_kept ..
  · exact State.protCommand_kept ..
  · refine .ok ?_
    refine .trans ?_ (State.protRefresh_kept ..)
    exact State.wr_kept ..

theorem State.groupEffect_kept (s : State) (sub : Nat) (v : DVal) : EffKept s (State.groupEffect s sub v) := by
  unfold State.groupEffect
  split
  · refine .ok ?_
    refine .trans ?_ (State.alertUpdate_kept ..)
    exact State.wr_kept ..
  · exact State.clearAlertsEffect_kept ..
  · exact .ok (State.wr_kept ..)

end Sys2Proof.Machine
end

