-- ==== Sys2Proof/Laws/KeptBoot.lean ====
section
/-! SUPPORT. `Kept` of the operations of Machine/Boot.lean, one lemma each. -/

namespace Sys2Proof.Machine

theorem State.manifestVerified_kept (s : State) (m : Manifest) : Kept s (State.manifestVerified s m) := by
  unfold State.manifestVerified
  refine .ite ?_ ?_
  · exact .refl _
  · refine .ite ?_ ?_
    · exact State.inc32_kept ..
    · refine .trans ?_ (State.wrN_kept ..)
      refine .trans ?_ (State.inc32_kept ..)
      exact State.inc32_kept ..

theorem State.loadSupervisor_kept (s : State) (bank half : Nat) (m : Manifest) :
    Kept s (State.loadSupervisor s bank half m) := by
  unfold State.loadSupervisor
  refine .each ?_ ?_
  · exact .refl _
  · intro _ _
    exact State.memWrite_kept ..

theorem State.loadStaging_kept (s : State) (bank : Nat) (m : Manifest) : Kept s (State.loadStaging s bank m) := by
  unfold State.loadStaging
  exact State.memWrite_kept ..

theorem State.bootHeld_kept (s : State) (h : BootHold) : Kept s (State.bootHeld s h) := by
  unfold State.bootHeld
  exact .upd (.refl _) rfl rfl rfl rfl rfl rfl rfl rfl rfl rfl

theorem State.chooseBank_kept (s : State) : Kept s (State.chooseBank s) := by
  unfold State.chooseBank
  refine .ite ?_ ?_
  · refine .trans ?_ (State.bootHeld_kept ..)
    refine .trans ?_ (State.clear_kept ..)
    refine .trans ?_ (State.wrN_kept ..)
    refine .trans ?_ (State.wrN_kept ..)
    refine .trans ?_ (State.wrN_kept ..)
    exact State.wrN_kept ..
  · refine .ite ?_ ?_
    · refine .trans ?_ (State.wrN_kept ..)
      refine .trans ?_ (State.wrN_kept ..)
      refine .trans ?_ (State.wrN_kept ..)
      refine .trans ?_ (State.wrN_kept ..)
      refine .trans ?_ (State.wrN_kept ..)
      refine .trans ?_ (State.clear_kept ..)
      refine .trans ?_ (State.wrN_kept ..)
      refine .trans ?_ (State.wrN_kept ..)
      refine .trans ?_ (State.wrN_kept ..)
      exact State.wrN_kept ..
    · refine .ite ?_ ?_
      · refine .trans ?_ (State.wrN_kept ..)
        refine .trans ?_ (State.wrN_kept ..)
        refine .trans ?_ (State.wrN_kept ..)
        refine .trans ?_ (State.wrN_kept ..)
        refine .trans ?_ (State.wrN_kept ..)
        refine .trans ?_ (State.clear_kept ..)
        refine .trans ?_ (State.wrN_kept ..)
        refine .trans ?_ (State.wrN_kept ..)
        refine .trans ?_ (State.wrN_kept ..)
        exact State.wrN_kept ..
      · refine .ite ?_ ?_
        · refine .trans ?_ (State.wrN_kept ..)
          refine .trans ?_ (State.wrN_kept ..)
          refine .trans ?_ (State.wrN_kept ..)
          refine .trans ?_ (State.wrN_kept ..)
          refine .trans ?_ (State.wrN_kept ..)
          refine .trans ?_ (State.wrN_kept ..)
          refine .trans ?_ (State.clear_kept ..)
          refine .trans ?_ (State.wrN_kept ..)
          refine .trans ?_ (State.wrN_kept ..)
          refine .trans ?_ (State.wrN_kept ..)
          exact State.wrN_kept ..
        · refine .trans ?_ (State.wrN_kept ..)
          refine .trans ?_ (State.wrN_kept ..)
          refine .trans ?_ (State.wrN_kept ..)
          split
          · refine .trans ?_ (State.flashSet_kept ..)
            refine .trans ?_ (State.wrN_kept ..)
            refine .trans ?_ (State.wrN_kept ..)
            refine .trans ?_ (State.wrN_kept ..)
            refine .trans ?_ (State.wrN_kept ..)
            refine .trans ?_ (State.clear_kept ..)
            refine .trans ?_ (State.wrN_kept ..)
            refine .trans ?_ (State.wrN_kept ..)
            refine .trans ?_ (State.wrN_kept ..)
            exact State.wrN_kept ..
          · refine .trans ?_ (State.wrN_kept ..)
            refine .trans ?_ (State.wrN_kept ..)
            refine .trans ?_ (State.wrN_kept ..)
            refine .trans ?_ (State.wrN_kept ..)
            refine .trans ?_ (State.clear_kept ..)
            refine .trans ?_ (State.wrN_kept ..)
            refine .trans ?_ (State.wrN_kept ..)
            refine .trans ?_ (State.wrN_kept ..)
            exact State.wrN_kept ..

theorem State.bootStart_kept (s : State) (romOk : Bool) : Kept s (State.bootStart s romOk) := by
  unfold State.bootStart
  refine .ite ?_ ?_
  · refine .trans ?_ (State.chooseBank_kept ..)
    refine .upd ?_ rfl rfl rfl rfl rfl rfl rfl rfl rfl rfl
    exact State.wrN_kept ..
  · refine .trans ?_ (State.bootHeld_kept ..)
    refine .upd ?_ rfl rfl rfl rfl rfl rfl rfl rfl rfl rfl
    exact State.wrN_kept ..

theorem State.bankFails_kept (s : State) (cause : Nat) : Kept s (State.bankFails s cause) := by
  unfold State.bankFails
  refine .ite ?_ ?_
  · refine .upd ?_ rfl rfl rfl rfl rfl rfl rfl rfl rfl rfl
    refine .trans ?_ (State.raise_kept ..)
    refine .whenB ?_ ?_
    · refine .trans ?_ (State.wrN_kept ..)
      exact State.wrN_kept ..
    · intro _
      exact State.wrN_kept ..
  · refine .trans ?_ (State.bootHeld_kept ..)
    exact State.wrN_kept ..

theorem execManifestChecked_kept (bank : Fin 2) (answers : Bool) (s : State) :
    OutKept s (execManifestChecked bank answers s) := by
  unfold execManifestChecked
  refine .next ?_
  refine .ite ?_ ?_
  · exact .refl _
  · refine .ite ?_ ?_
    · exact State.bankFails_kept ..
    · refine .ite ?_ ?_
      · exact .refl _
      · refine .ite ?_ ?_
        · refine .upd ?_ rfl rfl rfl rfl rfl rfl rfl rfl rfl rfl
          exact State.manifestVerified_kept ..
        · refine .trans ?_ (State.bankFails_kept ..)
          exact State.manifestVerified_kept ..

theorem State.takeSettings_kept (s : State) : Kept s (State.takeSettings s) := by
  unfold State.takeSettings
  exact .upd (.refl _) rfl rfl rfl rfl rfl rfl rfl rfl rfl rfl

theorem execBootComplete_kept (s : State) : OutKept s (execBootComplete s) := by
  unfold execBootComplete
  refine .next ?_
  refine .ite ?_ ?_
  · exact .refl _
  · refine .ite ?_ ?_
    · exact State.bankFails_kept ..
    · refine .trans ?_ (State.timingReturn_kept ..)
      refine .trans ?_ (State.takeSettings_kept ..)
      refine .trans ?_ (State.applyImage_kept ..)
      refine .upd ?_ rfl rfl rfl rfl rfl rfl rfl rfl rfl rfl
      refine .trans ?_ (State.wrN_kept ..)
      refine .trans ?_ (State.wrN_kept ..)
      refine .trans ?_ (State.wrN_kept ..)
      refine .trans ?_ (State.wrN_kept ..)
      refine .trans ?_ (State.loadStaging_kept ..)
      exact State.loadSupervisor_kept ..

theorem State.restoreIfDue_kept (s : State) : Kept s (State.restoreIfDue s) := by
  unfold State.restoreIfDue
  refine .ite ?_ ?_
  · refine .upd ?_ rfl rfl rfl rfl rfl rfl rfl rfl rfl rfl
    exact State.restoreSlots_kept ..
  · exact .refl _

theorem execEntropyRetest_kept (bits : List Bool) (s : State) : OutKept s (execEntropyRetest bits s) := by
  unfold execEntropyRetest
  refine .next ?_
  refine .ite ?_ ?_
  · exact .refl _
  · refine .ite ?_ ?_
    · refine .trans ?_ (State.restoreIfDue_kept ..)
      exact State.entropyUp_kept ..
    · refine .trans ?_ (State.inc32_kept ..)
      exact State.wrN_kept ..

theorem State.commitEffect_kept (s : State) (v : Nat) : EffKept s (State.commitEffect s v) := by
  unfold State.commitEffect
  refine .ite ?_ ?_
  · refine .plain ?_ rfl
    refine .trans ?_ (State.wrN_kept ..)
    refine .trans ?_ (State.wrN_kept ..)
    refine .upd ?_ rfl rfl rfl rfl rfl rfl rfl rfl rfl rfl
    exact State.flashErase_kept ..
  · refine .plain ?_ rfl
    refine .trans ?_ (State.wrN_kept ..)
    refine .trans ?_ (State.wrN_kept ..)
    refine .trans ?_ (State.wrN_kept ..)
    refine .trans ?_ (State.flashErase_kept ..)
    exact State.flashErase_kept ..

theorem execCommitSettings_kept (s : State) : OutKept s (execCommitSettings s) := by
  unfold execCommitSettings
  refine .next ?_
  refine State.command_kept _ _ _ _ _ ?_
  exact State.commitEffect_kept ..

theorem execErasePersistence_kept (s : State) : OutKept s (execErasePersistence s) := by
  unfold execErasePersistence
  refine .next ?_
  refine State.command_kept _ _ _ _ _ ?_
  exact State.commitEffect_kept ..

theorem execCommitComplete_kept (ok : Bool) (s : State) : OutKept s (execCommitComplete ok s) := by
  unfold execCommitComplete
  refine .next ?_
  split
  · exact .refl _
  · refine .ite ?_ ?_
    · refine .trans ?_ (State.wrN_kept ..)
      refine .trans ?_ (State.wrN_kept ..)
      refine .trans ?_ (State.wr_kept ..)
      refine .trans ?_ (State.wrN_kept ..)
      refine .trans ?_ (State.wrN_kept ..)
      refine .trans ?_ (State.wrN_kept ..)
      refine .trans ?_ (State.flashSet_kept ..)
      exact .upd (.refl _) rfl rfl rfl rfl rfl rfl rfl rfl rfl rfl
    · refine .trans ?_ (State.wrN_kept ..)
      refine .trans ?_ (State.wrN_kept ..)
      exact .upd (.refl _) rfl rfl rfl rfl rfl rfl rfl rfl rfl rfl

theorem State.flashEffect_kept (s : State) (v : Nat) : EffKept s (State.flashEffect s v) := by
  unfold State.flashEffect
  refine .plain ?_ rfl
  refine .trans ?_ (State.wrN_kept ..)
  exact .upd (.refl _) rfl rfl rfl rfl rfl rfl rfl rfl rfl rfl

theorem execFlashEraseSector_kept (s : State) : OutKept s (execFlashEraseSector s) := by
  unfold execFlashEraseSector
  refine .next ?_
  refine State.command_kept _ _ _ _ _ ?_
  exact State.flashEffect_kept ..

theorem execFlashEraseBlock_kept (s : State) : OutKept s (execFlashEraseBlock s) := by
  unfold execFlashEraseBlock
  refine .next ?_
  refine State.command_kept _ _ _ _ _ ?_
  exact State.flashEffect_kept ..

theorem execFlashProgram_kept (s : State) : OutKept s (execFlashProgram s) := by
  unfold execFlashProgram
  refine .next ?_
  refine State.command_kept _ _ _ _ _ ?_
  exact State.flashEffect_kept ..

theorem execFlashRead_kept (s : State) : OutKept s (execFlashRead s) := by
  unfold execFlashRead
  refine .next ?_
  refine State.command_kept _ _ _ _ _ ?_
  exact State.flashEffect_kept ..

theorem execFlashBlankCheck_kept (s : State) : OutKept s (execFlashBlankCheck s) := by
  unfold execFlashBlankCheck
  refine .next ?_
  refine State.command_kept _ _ _ _ _ ?_
  exact State.flashEffect_kept ..

theorem State.flashOutcome_kept (s : State) (st result : Nat) : Kept s (State.flashOutcome s st result) := by
  unfold State.flashOutcome
  refine .trans ?_ (State.vector_kept ..)
  refine .trans ?_ (State.wrN_kept ..)
  refine .trans ?_ (State.wrN_kept ..)
  exact .upd (.refl _) rfl rfl rfl rfl rfl rfl rfl rfl rfl rfl

theorem State.flashScrap_kept (s : State) (a n : Nat) : Kept s (State.flashScrap s a n) := by
  unfold State.flashScrap
  refine .upd ?_ rfl rfl rfl rfl rfl rfl rfl rfl rfl rfl
  exact State.flashSet_kept ..

theorem execFlashCommandDone_kept (ok : Bool) (s : State) : OutKept s (execFlashCommandDone ok s) := by
  unfold execFlashCommandDone
  refine .next ?_
  split
  · exact .refl _
  · refine .ite ?_ ?_
    · refine .trans ?_ (State.flashOutcome_kept ..)
      refine .trans ?_ (State.flashErase_kept ..)
      exact State.inc32_kept ..
    · refine .trans ?_ (State.flashOutcome_kept ..)
      refine .trans ?_ (State.inc32_kept ..)
      refine .trans ?_ (State.flashScrap_kept ..)
      exact State.inc32_kept ..
  · refine .ite ?_ ?_
    · refine .trans ?_ (State.flashOutcome_kept ..)
      exact State.wrN_kept ..
    · refine .ite ?_ ?_
      · refine .trans ?_ (State.flashOutcome_kept ..)
        refine .trans ?_ (State.flashSet_kept ..)
        exact State.inc32_kept ..
      · refine .trans ?_ (State.flashOutcome_kept ..)
        refine .trans ?_ (State.inc32_kept ..)
        refine .trans ?_ (State.flashScrap_kept ..)
        exact State.inc32_kept ..
  · refine .trans ?_ (State.flashOutcome_kept ..)
    exact State.wrS_kept ..
  · refine .trans ?_ (State.flashOutcome_kept ..)
    exact State.wrN_kept ..

theorem execFlashWindowTimeout_kept (s : State) : OutKept s (execFlashWindowTimeout s) := by
  unfold execFlashWindowTimeout
  refine .next ?_
  refine .ite ?_ ?_
  · exact State.inc32_kept ..
  · exact .refl _

theorem State.recordWrite_kept (s : State) (w : RecordWrite) : Kept s (State.recordWrite s w) := by
  unfold State.recordWrite
  refine .upd ?_ rfl rfl rfl rfl rfl rfl rfl rfl rfl rfl
  exact State.flashErase_kept ..

theorem execBootRecordWriteDone_kept (s : State) : OutKept s (execBootRecordWriteDone s) := by
  unfold execBootRecordWriteDone
  refine .next ?_
  split
  · split
    · exact .refl _
    · refine .upd ?_ rfl rfl rfl rfl rfl rfl rfl rfl rfl rfl
      exact State.flashSet_kept ..
    · refine .trans ?_ (State.wrN_kept ..)
      refine .trans ?_ (State.wrN_kept ..)
      refine .upd ?_ rfl rfl rfl rfl rfl rfl rfl rfl rfl rfl
      exact State.flashSet_kept ..
    · refine .ite ?_ ?_
      · refine .trans ?_ (State.vector_kept ..)
        refine .trans ?_ (State.inc32_kept ..)
        refine .trans ?_ (State.wrN_kept ..)
        refine .trans ?_ (State.wrN_kept ..)
        refine .upd ?_ rfl rfl rfl rfl rfl rfl rfl rfl rfl rfl
        refine .trans ?_ (State.wrN_kept ..)
        refine .trans ?_ (State.wrN_kept ..)
        refine .trans ?_ (State.wrN_kept ..)
        refine .trans ?_ (State.wrN_kept ..)
        refine .trans ?_ (State.wrN_kept ..)
        refine .upd ?_ rfl rfl rfl rfl rfl rfl rfl rfl rfl rfl
        exact State.flashSet_kept ..
      · refine .trans ?_ (State.wrN_kept ..)
        refine .upd ?_ rfl rfl rfl rfl rfl rfl rfl rfl rfl rfl
        exact State.flashSet_kept ..
  · split
    · exact .refl _
    · refine .upd ?_ rfl rfl rfl rfl rfl rfl rfl rfl rfl rfl
      exact State.flashSet_kept ..
    · refine .trans ?_ (State.wrN_kept ..)
      refine .trans ?_ (State.wrN_kept ..)
      refine .upd ?_ rfl rfl rfl rfl rfl rfl rfl rfl rfl rfl
      exact State.flashSet_kept ..
    · refine .ite ?_ ?_
      · refine .trans ?_ (State.vector_kept ..)
        refine .trans ?_ (State.inc32_kept ..)
        refine .trans ?_ (State.wrN_kept ..)
        refine .trans ?_ (State.wrN_kept ..)
        refine .upd ?_ rfl rfl rfl rfl rfl rfl rfl rfl rfl rfl
        refine .trans ?_ (State.wrN_kept ..)
        refine .trans ?_ (State.wrN_kept ..)
        refine .trans ?_ (State.wrN_kept ..)
        refine .trans ?_ (State.wrN_kept ..)
        refine .trans ?_ (State.wrN_kept ..)
        refine .upd ?_ rfl rfl rfl rfl rfl rfl rfl rfl rfl rfl
        exact State.flashSet_kept ..
      · refine .trans ?_ (State.wrN_kept ..)
        refine .upd ?_ rfl rfl rfl rfl rfl rfl rfl rfl rfl rfl
        exact State.flashSet_kept ..

theorem State.trialEffect_kept (s : State) (v : Nat) : EffKept s (State.trialEffect s v) := by
  unfold State.trialEffect
  split
  · refine .plain ?_ rfl
    exact State.recordWrite_kept ..
  · refine .plain ?_ rfl
    exact .upd (.refl _) rfl rfl rfl rfl rfl rfl rfl rfl rfl rfl
  · refine .plain ?_ rfl
    exact State.recordWrite_kept ..

theorem execAcceptTrial_kept (s : State) : OutKept s (execAcceptTrial s) := by
  unfold execAcceptTrial
  refine .next ?_
  refine State.command_kept _ _ _ _ _ ?_
  exact State.trialEffect_kept ..

theorem execRaiseSecurityFuse_kept (s : State) : OutKept s (execRaiseSecurityFuse s) := by
  unfold execRaiseSecurityFuse
  refine .next ?_
  refine State.command_kept _ _ _ _ _ ?_
  exact State.trialEffect_kept ..

theorem execRewriteBootRecord_kept (s : State) : OutKept s (execRewriteBootRecord s) := by
  unfold execRewriteBootRecord
  refine .next ?_
  refine State.command_kept _ _ _ _ _ ?_
  exact State.trialEffect_kept ..

theorem State.bankEffect_kept (s : State) (v : Nat) (answers : Bool) : EffKept s (State.bankEffect s v answers) := by
  unfold State.bankEffect
  refine .ite ?_ ?_
  · refine .plain ?_ rfl
    refine .trans ?_ (State.wrN_kept ..)
    refine .whenB ?_ ?_
    · refine .trans ?_ (State.wrN_kept ..)
      refine .ite ?_ ?_
      · exact State.manifestVerified_kept ..
      · exact .refl _
    · intro _
      exact State.wrN_kept ..
  · refine ⟨?_, ?_⟩
    · refine .ite ?_ ?_
      · refine .trans ?_ (State.wrN_kept ..)
        refine .trans ?_ (State.wrN_kept ..)
        refine .upd ?_ rfl rfl rfl rfl rfl rfl rfl rfl rfl rfl
        refine .whenB ?_ ?_
        · refine .trans ?_ (State.wrN_kept ..)
          refine .ite ?_ ?_
          · exact State.manifestVerified_kept ..
          · exact .refl _
        · intro _
          exact State.wrN_kept ..
      · refine .trans ?_ (State.recordWrite_kept ..)
        refine .whenB ?_ ?_
        · refine .trans ?_ (State.wrN_kept ..)
          refine .ite ?_ ?_
          · exact State.manifestVerified_kept ..
          · exact .refl _
        · intro _
          exact State.wrN_kept ..
    · rintro _ ⟨⟩
      refine .trans ?_ (State.wrN_kept ..)
      refine .whenB ?_ ?_
      · refine .trans ?_ (State.wrN_kept ..)
        refine .ite ?_ ?_
        · exact State.manifestVerified_kept ..
        · exact .refl _
      · intro _
        exact State.wrN_kept ..

theorem execBankCheck_kept (answers : Bool) (s : State) : OutKept s (execBankCheck answers s) := by
  unfold execBankCheck
  refine .next ?_
  refine State.command_kept _ _ _ _ _ ?_
  exact State.bankEffect_kept ..

theorem execBankActivateHitless_kept (answers : Bool) (s : State) : OutKept s (execBankActivateHitless answers s) := by
  unfold execBankActivateHitless
  refine .next ?_
  refine State.command_kept _ _ _ _ _ ?_
  exact State.bankEffect_kept ..

theorem execBankActivateAtReset_kept (answers : Bool) (s : State) : OutKept s (execBankActivateAtReset answers s) := by
  unfold execBankActivateAtReset
  refine .next ?_
  refine State.command_kept _ _ _ _ _ ?_
  exact State.bankEffect_kept ..

theorem State.updateMove_kept (s : State) (u : Update) (w d : Nat) : Kept s (State.updateMove s u w d) := by
  unfold State.updateMove
  refine .trans ?_ (State.engReport_kept ..)
  refine .ite ?_ ?_
  · refine .trans ?_ (State.timingReturn_kept ..)
    refine .ite ?_ ?_
    · refine .trans ?_ (State.wrS_kept ..)
      refine .upd ?_ rfl rfl rfl rfl rfl rfl rfl rfl rfl rfl
      refine .upd ?_ rfl rfl rfl rfl rfl rfl rfl rfl rfl rfl
      refine .trans ?_ (State.wrN_kept ..)
      refine .trans ?_ (State.setCl_kept ..)
      refine .trans ?_ (State.moveArrives_kept ..)
      exact State.beginMove_kept ..
    · refine .upd ?_ rfl rfl rfl rfl rfl rfl rfl rfl rfl rfl
      refine .trans ?_ (State.wrN_kept ..)
      refine .trans ?_ (State.setCl_kept ..)
      refine .trans ?_ (State.moveArrives_kept ..)
      exact State.beginMove_kept ..
  · refine .ite ?_ ?_
    · refine .trans ?_ (State.wrS_kept ..)
      refine .upd ?_ rfl rfl rfl rfl rfl rfl rfl rfl rfl rfl
      refine .upd ?_ rfl rfl rfl rfl rfl rfl rfl rfl rfl rfl
      refine .trans ?_ (State.wrN_kept ..)
      refine .trans ?_ (State.setCl_kept ..)
      refine .trans ?_ (State.moveArrives_kept ..)
      exact State.beginMove_kept ..
    · refine .upd ?_ rfl rfl rfl rfl rfl rfl rfl rfl rfl rfl
      refine .trans ?_ (State.wrN_kept ..)
      refine .trans ?_ (State.setCl_kept ..)
      refine .trans ?_ (State.moveArrives_kept ..)
      exact State.beginMove_kept ..

theorem State.updateReverse_kept (s : State) (u : Update) (st : Status) : Kept s (State.updateReverse s u st) := by
  unfold State.updateReverse
  refine .trans ?_ (State.wrN_kept ..)
  refine .trans ?_ (State.wrN_kept ..)
  exact .upd (.refl _) rfl rfl rfl rfl rfl rfl rfl rfl rfl rfl

theorem State.updateEnds_kept (s : State) : Kept s (State.updateEnds s) := by
  unfold State.updateEnds
  refine .trans ?_ (State.wrN_kept ..)
  exact .upd (.refl _) rfl rfl rfl rfl rfl rfl rfl rfl rfl rfl

theorem execUpdateStepDone_kept (ok flashAnswers : Bool) (s : State) : OutKept s (execUpdateStepDone ok flashAnswers s) := by
  unfold execUpdateStepDone
  refine .next ?_
  split
  · exact .refl _
  · refine .ite ?_ ?_
    · exact .refl _
    · split
      · split
        · refine .ite ?_ ?_
          · exact .refl _
          · refine .ite ?_ ?_
            · exact .refl _
            · split
              · exact State.updateMove_kept ..
              · exact .refl _
        · refine .ite ?_ ?_
          · exact State.updateEnds_kept ..
          · exact .refl _
      · split
        · refine .ite ?_ ?_
          · exact State.updateReverse_kept ..
          · refine .ite ?_ ?_
            · exact State.updateReverse_kept ..
            · split
              · exact State.updateMove_kept ..
              · exact .refl _
        · refine .ite ?_ ?_
          · exact .refl _
          · refine .ite ?_ ?_
            · exact State.updateReverse_kept ..
            · refine .ite ?_ ?_
              · exact State.updateReverse_kept ..
              · refine .trans ?_ (State.wrN_kept ..)
                refine .trans ?_ (State.restartFor_kept ..)
                refine .upd ?_ rfl rfl rfl rfl rfl rfl rfl rfl rfl rfl
                exact State.loadSupervisor_kept ..

end Sys2Proof.Machine
end

