-- ==== Sys2Proof/Laws/KeptViews.lean ====
section
/-! SUPPORT. `Kept` of the operations of Machine/Views.lean, one lemma each. -/

namespace Sys2Proof.Machine

theorem State.readEffect_kept (s : State) (idx sub : Nat) : Kept s (State.readEffect s idx sub) := by
  unfold State.readEffect
  split
  · exact State.wr_kept ..
  · exact State.wr_kept ..
  · exact State.wrN_kept ..
  · refine .ite ?_ ?_
    · exact State.peakRead_kept ..
    · exact .refl _
  · exact .refl _

end Sys2Proof.Machine
end

