-- ==== Sys2Proof/Laws/KeptTelemetry.lean ====
section
/-! SUPPORT. `Kept` of the operations of Machine/Telemetry.lean, one lemma each. -/

namespace Sys2Proof.Machine

theorem State.dumpWrite_kept (s : State) (a : Nat) (b : List Byte) : Kept s (State.dumpWrite s a b) := by
  unfold State.dumpWrite
  exact State.masterWrite_kept ..

theorem State.dumpLatch_kept (s : State) (time trigger : Nat) : Kept s (State.dumpLatch s time trigger) := by
  unfold State.dumpLatch
  refine .trans ?_ (State.dumpWrite_kept ..)
  refine .upd ?_ rfl rfl rfl rfl rfl rfl rfl rfl rfl rfl
  refine .whenB ?_ ?_
  · exact .refl _
  · intro _
    exact State.raise_kept ..

theorem State.dumpPeriodic_kept (s : State) (time : Nat) : Kept s (State.dumpPeriodic s time) := by
  unfold State.dumpPeriodic
  refine .ite ?_ ?_
  · exact .refl _
  · refine .ite ?_ ?_
    · exact State.inc32_kept ..
    · exact State.dumpLatch_kept ..

theorem State.dumpEffect_kept (s : State) : EffKept s (State.dumpEffect s) := by
  unfold State.dumpEffect
  refine .plain ?_ rfl
  refine .ite ?_ ?_
  · exact State.inc32_kept ..
  · exact .upd (.refl _) rfl rfl rfl rfl rfl rfl rfl rfl rfl rfl

theorem execDumpNow_kept (s : State) : OutKept s (execDumpNow s) := by
  unfold execDumpNow
  refine .next ?_
  refine State.command_kept _ _ _ _ _ ?_
  exact State.dumpEffect_kept ..

theorem State.dumpTick_kept (s : State) : Kept s (State.dumpTick s) := by
  unfold State.dumpTick
  split
  · refine .ite ?_ ?_
    · exact State.dumpLatch_kept ..
    · exact .refl _
  · exact .refl _

theorem execDumpComplete_kept (s : State) : OutKept s (execDumpComplete s) := by
  unfold execDumpComplete
  refine .next ?_
  split
  · exact .refl _
  · refine .trans ?_ (State.wrN_kept ..)
    refine .upd ?_ rfl rfl rfl rfl rfl rfl rfl rfl rfl rfl
    refine .trans ?_ (State.dumpWrite_kept ..)
    exact State.dumpWrite_kept ..

theorem State.dumpAbandon_kept (s : State) : Kept s (State.dumpAbandon s) := by
  unfold State.dumpAbandon
  split
  · refine .trans ?_ (State.dumpWrite_kept ..)
    refine .whenB ?_ ?_
    · exact .upd (.refl _) rfl rfl rfl rfl rfl rfl rfl rfl rfl rfl
    · intro _
      exact State.inc32_kept ..
  · refine .whenB ?_ ?_
    · exact .upd (.refl _) rfl rfl rfl rfl rfl rfl rfl rfl rfl rfl
    · intro _
      exact State.inc32_kept ..

theorem State.streamJob_kept (s : State) (bytes err : Nat) : Kept s (State.streamJob s bytes err) := by
  unfold State.streamJob
  refine .whenB ?_ ?_
  · refine .trans ?_ (State.bump_kept ..)
    refine .trans ?_ (State.wrB_kept ..)
    refine .trans ?_ (State.wrN_kept ..)
    refine .trans ?_ (State.wrN_kept ..)
    refine .trans ?_ (State.wrN_kept ..)
    exact State.inc32_kept ..
  · intro _
    exact State.inc32_kept ..

theorem execDumpStreamCopy_kept (s : State) : OutKept s (execDumpStreamCopy s) := by
  unfold execDumpStreamCopy
  refine .next ?_
  split
  · exact .refl _
  · refine .ite ?_ ?_
    · exact .refl _
    · refine .ite ?_ ?_
      · refine .trans ?_ (State.inc32_kept ..)
        exact .upd (.refl _) rfl rfl rfl rfl rfl rfl rfl rfl rfl rfl
      · split
        · refine .trans ?_ (State.streamJob_kept ..)
          exact .upd (.refl _) rfl rfl rfl rfl rfl rfl rfl rfl rfl rfl
        · refine .whenB ?_ ?_
          · refine .trans ?_ (State.inc32_kept ..)
            refine .trans ?_ (State.emit_kept ..)
            refine .trans ?_ (State.streamJob_kept ..)
            exact .upd (.refl _) rfl rfl rfl rfl rfl rfl rfl rfl rfl rfl
          · intro _
            exact State.vector_kept ..

theorem State.dumpSettingEffect_kept (s : State) (sub : Nat) (v : DVal) : EffKept s (State.dumpSettingEffect s sub v) := by
  unfold State.dumpSettingEffect
  split
  · exact State.dumpEffect_kept ..
  · refine .plain ?_ rfl
    exact State.wr_kept ..
  · refine .plain ?_ rfl
    exact State.wr_kept ..
  · exact .ok (State.wr_kept ..)

theorem State.pmAt_kept (s : State) (time : Nat) : Kept s (State.pmAt s time) := by
  unfold State.pmAt
  refine .trans ?_ (State.dumpPeriodic_kept ..)
  refine .upd ?_ rfl rfl rfl rfl rfl rfl rfl rfl rfl rfl
  refine .trans ?_ (State.easelEvent_kept ..)
  refine .trans ?_ (State.pmSecond_kept ..)
  refine .trans ?_ (State.fecSeconds_kept ..)
  refine .trans ?_ (State.inc32_kept ..)
  refine .trans ?_ (State.wr_kept ..)
  exact .upd (.refl _) rfl rfl rfl rfl rfl rfl rfl rfl rfl rfl

theorem execPmBoundary_kept (s : State) : OutKept s (execPmBoundary s) := by
  unfold execPmBoundary
  refine .next ?_
  refine .ite ?_ ?_
  · exact State.pmAt_kept ..
  · exact .refl _

theorem execPmSyncEdge_kept (sinceNs : Nat) (s : State) : OutKept s (execPmSyncEdge sinceNs s) := by
  unfold execPmSyncEdge
  refine .next ?_
  refine .ite ?_ ?_
  · exact .refl _
  · refine .ite ?_ ?_
    · exact State.inc32_kept ..
    · refine .trans ?_ (State.pmAt_kept ..)
      refine .whenB ?_ ?_
      · exact .upd (.refl _) rfl rfl rfl rfl rfl rfl rfl rfl rfl rfl
      · intro _
        exact State.clear_kept ..

theorem execPmSyncMissing_kept (s : State) : OutKept s (execPmSyncMissing s) := by
  unfold execPmSyncMissing
  refine .next ?_
  refine .ite ?_ ?_
  · exact .refl _
  · refine .trans ?_ (State.pmAt_kept ..)
    refine .whenB ?_ ?_
    · exact .upd (.refl _) rfl rfl rfl rfl rfl rfl rfl rfl rfl rfl
    · intro _
      exact State.raise_kept ..

theorem State.eventModeEffect_kept (s : State) (e : Nat) (v : DVal) : EffKept s (State.eventModeEffect s e v) := by
  unfold State.eventModeEffect
  refine .plain ?_ rfl
  exact State.wr_kept ..

theorem State.hkRefChange_kept {s t : State} {f : State → State} (h : Kept s t) (hf : ∀ v, Kept v (f v)) :
    Kept s (t.hkRefChange f) := by
  unfold State.hkRefChange
  exact .ite (h.trans (hf _)) (.upd (h.trans (hf _)) rfl rfl rfl rfl rfl rfl rfl rfl rfl rfl)

theorem State.hkPassStart_kept (s : State) : Kept s (State.hkPassStart s) := by
  unfold State.hkPassStart
  refine .ite ?_ ?_
  · refine State.hkRefChange_kept ?_ ?_
    · exact .upd (.refl _) rfl rfl rfl rfl rfl rfl rfl rfl rfl rfl
    · intro _
      refine .whenB ?_ ?_
      · exact .upd (.refl _) rfl rfl rfl rfl rfl rfl rfl rfl rfl rfl
      · intro _
        exact State.clear_kept ..
  · refine .upd ?_ rfl rfl rfl rfl rfl rfl rfl rfl rfl rfl
    refine State.hkRefChange_kept ?_ ?_
    · exact .upd (.refl _) rfl rfl rfl rfl rfl rfl rfl rfl rfl rfl
    · intro _
      refine .whenB ?_ ?_
      · exact .upd (.refl _) rfl rfl rfl rfl rfl rfl rfl rfl rfl rfl
      · intro _
        exact State.clear_kept ..

theorem execHkRegularPass_kept (s : State) : OutKept s (execHkRegularPass s) := by
  unfold execHkRegularPass
  refine .next ?_
  refine .ite ?_ ?_
  · exact .refl _
  · split
    · exact .upd (.refl _) rfl rfl rfl rfl rfl rfl rfl rfl rfl rfl
    · exact State.hkPassStart_kept ..

theorem State.hkConvert_kept (s : State) (l : List (BitVec 16 × Nat)) : Kept s (s.hkConvert l).2 := by
  induction l generalizing s with
  | nil => exact .refl _
  | cons x r ih =>
    unfold State.hkConvert
    exact .trans (State.hkRefChange_kept (.refl _) fun _ => State.defect_kept ..) (ih _)

theorem State.hkResult_kept (s : State) (i : Nat) (x : HkSlot) (conv : List (BitVec 16 × Nat)) :
    Kept s (State.hkResult s i x conv) := by
  unfold State.hkResult
  refine .trans ?_ (State.wr_kept ..)
  refine .trans ?_ (State.wrN_kept ..)
  refine .trans ?_ (State.wrI_kept ..)
  refine .trans ?_ (State.wrN_kept ..)
  refine .trans ?_ (State.drawn_kept ..)
  refine .trans ?_ (State.drawn_kept ..)
  exact State.hkConvert_kept ..

theorem execHkSlotDone_kept (slot : Fin 72) (conversions : List (BitVec 16 × Nat)) (s : State) :
    OutKept s (execHkSlotDone slot conversions s) := by
  unfold execHkSlotDone
  refine .next ?_
  refine .ite ?_ ?_
  · exact .refl _
  · refine .ite ?_ ?_
    · split
      · refine .ite ?_ ?_
        · exact .refl _
        · refine .ite ?_ ?_
          · refine .upd ?_ rfl rfl rfl rfl rfl rfl rfl rfl rfl rfl
            exact State.hkResult_kept ..
          · refine .ite ?_ ?_
            · refine .trans ?_ (State.hkPassStart_kept ..)
              refine .upd ?_ rfl rfl rfl rfl rfl rfl rfl rfl rfl rfl
              refine .trans ?_ (State.inc32_kept ..)
              exact State.hkResult_kept ..
            · refine .upd ?_ rfl rfl rfl rfl rfl rfl rfl rfl rfl rfl
              refine .trans ?_ (State.inc32_kept ..)
              exact State.hkResult_kept ..
      · exact .refl _
    · split
      · refine .ite ?_ ?_
        · exact .refl _
        · refine .ite ?_ ?_
          · refine .upd ?_ rfl rfl rfl rfl rfl rfl rfl rfl rfl rfl
            exact State.hkResult_kept ..
          · refine .upd ?_ rfl rfl rfl rfl rfl rfl rfl rfl rfl rfl
            refine .trans ?_ (State.inc32_kept ..)
            exact State.hkResult_kept ..
      · exact .refl _

theorem State.hkInject_kept (s : State) : Kept s (State.hkInject s) := by
  unfold State.hkInject
  refine .ite ?_ ?_
  · exact .refl _
  · refine .ite ?_ ?_
    · exact State.inc32_kept ..
    · refine .upd ?_ rfl rfl rfl rfl rfl rfl rfl rfl rfl rfl
      refine .trans ?_ (State.wrN_kept ..)
      exact State.drawn_kept ..

theorem execHkInjectTrigger_kept (source : Fin 4) (s : State) : OutKept s (execHkInjectTrigger source s) := by
  unfold execHkInjectTrigger
  refine .next ?_
  refine .ite ?_ ?_
  · exact State.hkInject_kept ..
  · exact .refl _

theorem execHkInjectNow_kept (s : State) : OutKept s (execHkInjectNow s) := by
  unfold execHkInjectNow
  refine .next ?_
  refine State.command_kept _ _ _ _ _ ?_
  exact .ok (State.hkInject_kept ..)

end Sys2Proof.Machine
end

