-- ==== Sys2Proof/Laws/KeptModes.lean ====
section
/-! SUPPORT. `Kept` of the operations of Machine/Modes.lean, one lemma each. -/

namespace Sys2Proof.Machine

theorem State.gateClean_kept (s : State) (d : Nat) : Kept s (State.gateClean s d) := by
  unfold State.gateClean
  split
  · exact .upd (.refl _) rfl rfl rfl rfl rfl rfl rfl rfl rfl rfl
  · exact .upd (.refl _) rfl rfl rfl rfl rfl rfl rfl rfl rfl rfl
  · refine .trans ?_ (State.wrN_kept ..)
    exact .upd (.refl _) rfl rfl rfl rfl rfl rfl rfl rfl rfl rfl
  · exact .upd (.refl _) rfl rfl rfl rfl rfl rfl rfl rfl rfl rfl
  · refine .upd ?_ rfl rfl rfl rfl rfl rfl rfl rfl rfl rfl
    exact State.eraseTenantSlots_kept ..
  · refine .upd ?_ rfl rfl rfl rfl rfl rfl rfl rfl rfl rfl
    refine .trans ?_ (State.wrN_kept ..)
    refine .trans ?_ (State.wrN_kept ..)
    exact State.groomClear_kept ..
  · exact .upd (.refl _) rfl rfl rfl rfl rfl rfl rfl rfl rfl rfl
  · exact .upd (.refl _) rfl rfl rfl rfl rfl rfl rfl rfl rfl rfl
  · exact .upd (.refl _) rfl rfl rfl rfl rfl rfl rfl rfl rfl rfl
  · exact .upd (.refl _) rfl rfl rfl rfl rfl rfl rfl rfl rfl rfl
  · exact State.enginesGate_kept ..
  · exact .refl _

theorem State.gate_kept (s : State) (d : Nat) : Kept s (State.gate s d) := by
  unfold State.gate
  refine .ite ?_ ?_
  · exact .refl _
  · refine .upd ?_ rfl rfl rfl rfl rfl rfl rfl rfl rfl rfl
    refine .trans ?_ (State.forget_kept ..)
    exact State.gateClean_kept ..

theorem State.powerStart_kept (s : State) (d : Nat) : Kept s (State.powerStart s d) := by
  unfold State.powerStart
  split
  · exact State.convStart_kept ..
  · refine .trans ?_ (State.wrN_kept ..)
    exact .upd (.refl _) rfl rfl rfl rfl rfl rfl rfl rfl rfl rfl
  · exact State.fecStart_kept ..
  · refine .trans ?_ (State.drawn_kept ..)
    exact .upd (.refl _) rfl rfl rfl rfl rfl rfl rfl rfl rfl rfl
  · exact State.hostLanesStart_kept ..
  · exact State.hostLanesStart_kept ..
  · exact State.linkStart_kept ..
  · exact State.linkStart_kept ..
  · exact State.enginesUngate_kept ..
  · exact .refl _

theorem State.power_kept (s : State) (d : Nat) : Kept s (State.power s d) := by
  unfold State.power
  refine .ite ?_ ?_
  · exact .refl _
  · refine .trans ?_ (State.powerStart_kept ..)
    exact .upd (.refl _) rfl rfl rfl rfl rfl rfl rfl rfl rfl rfl

theorem State.setDomains_kept (s : State) (mask : Nat) : Kept s (State.setDomains s mask) := by
  unfold State.setDomains
  refine .each ?_ ?_
  · refine .each ?_ ?_
    · exact .refl _
    · intro _ _
      refine .ite ?_ ?_
      · exact .refl _
      · exact State.gate_kept ..
  · intro _ _
    refine .ite ?_ ?_
    · exact State.power_kept ..
    · exact .refl _

theorem State.leaveTest_kept (s : State) : Kept s (State.leaveTest s) := by
  unfold State.leaveTest
  refine .trans ?_ (State.lanesLeaveTest_kept ..)
  exact State.wrN_kept ..

theorem State.modeLeft_kept (s : State) (m : Mode) : Kept s (State.modeLeft s m) := by
  unfold State.modeLeft
  refine .ite ?_ ?_
  · exact .refl _
  · refine .whenB ?_ ?_
    · refine .whenB ?_ ?_
      · exact .refl _
      · intro _
        exact State.leaveTest_kept ..
    · intro _
      exact State.takeSettings_kept ..

theorem State.setMode_kept (s : State) (m : Mode) : Kept s (State.setMode s m) := by
  unfold State.setMode
  refine .whenB ?_ ?_
  · refine .whenB ?_ ?_
    · refine .whenB ?_ ?_
      · refine .whenB ?_ ?_
        · refine .ite ?_ ?_
          · refine .upd ?_ rfl rfl rfl rfl rfl rfl rfl rfl rfl rfl
            refine .whenB ?_ ?_
            · refine .trans ?_ (State.count_kept ..)
              refine .trans ?_ (State.inc32_kept ..)
              refine .trans ?_ (State.wr_kept ..)
              refine .upd ?_ rfl rfl rfl rfl rfl rfl rfl rfl rfl rfl
              exact State.modeLeft_kept ..
            · intro _
              exact State.wrN_kept ..
          · refine .upd ?_ rfl rfl rfl rfl rfl rfl rfl rfl rfl rfl
            refine .upd ?_ rfl rfl rfl rfl rfl rfl rfl rfl rfl rfl
            refine .whenB ?_ ?_
            · refine .trans ?_ (State.count_kept ..)
              refine .trans ?_ (State.inc32_kept ..)
              refine .trans ?_ (State.wr_kept ..)
              refine .upd ?_ rfl rfl rfl rfl rfl rfl rfl rfl rfl rfl
              exact State.modeLeft_kept ..
            · intro _
              exact State.wrN_kept ..
        · intro _
          exact State.picotCancel_kept ..
      · intro _
        exact State.alertUpdate_kept ..
    · intro _
      exact State.vector_kept ..
  · intro _
    exact State.wakeRaise_kept ..

theorem State.modeReport_kept (s : State) : Kept s (State.modeReport s) := by
  unfold State.modeReport
  exact State.wrB_kept ..

theorem State.hostLanesIdle_kept (s : State) : Kept s (State.hostLanesIdle s) := by
  unfold State.hostLanesIdle
  refine .upd ?_ rfl rfl rfl rfl rfl rfl rfl rfl rfl rfl
  refine .each ?_ ?_
  · exact .refl _
  · intro _ _
    exact State.wrN_kept ..

theorem State.updateSafe_kept (s : State) : Kept s (State.updateSafe s) := by
  unfold State.updateSafe
  refine .ite ?_ ?_
  · refine .trans ?_ (State.wrN_kept ..)
    exact State.updateEnds_kept ..
  · exact .refl _

theorem State.toSafe_kept (s : State) (cause : Nat) : Kept s (State.toSafe s cause) := by
  unfold State.toSafe
  refine .ite ?_ ?_
  · exact .refl _
  · refine .ite ?_ ?_
    · refine .ite ?_ ?_
      · refine .trans ?_ (State.wrN_kept ..)
        refine .upd ?_ rfl rfl rfl rfl rfl rfl rfl rfl rfl rfl
        refine .ite ?_ ?_
        · exact .upd (.refl _) rfl rfl rfl rfl rfl rfl rfl rfl rfl rfl
        · exact .refl _
      · refine .ite ?_ ?_
        · exact .upd (.refl _) rfl rfl rfl rfl rfl rfl rfl rfl rfl rfl
        · exact .refl _
    · refine .trans ?_ (State.modeReport_kept ..)
      refine .trans ?_ (State.setMode_kept ..)
      refine .ite ?_ ?_
      · refine .upd ?_ rfl rfl rfl rfl rfl rfl rfl rfl rfl rfl
        refine .upd ?_ rfl rfl rfl rfl rfl rfl rfl rfl rfl rfl
        refine .trans ?_ (State.count_kept ..)
        refine .trans ?_ (State.wrN_kept ..)
        refine .trans ?_ (State.updateSafe_kept ..)
        refine .trans ?_ (State.withdrawAll_kept ..)
        refine .trans ?_ (State.hostLanesIdle_kept ..)
        refine .whenB ?_ ?_
        · exact .refl _
        · intro _
          exact State.muteCause_kept ..
      · refine .upd ?_ rfl rfl rfl rfl rfl rfl rfl rfl rfl rfl
        refine .trans ?_ (State.count_kept ..)
        refine .trans ?_ (State.wrN_kept ..)
        refine .trans ?_ (State.updateSafe_kept ..)
        refine .trans ?_ (State.withdrawAll_kept ..)
        refine .trans ?_ (State.hostLanesIdle_kept ..)
        refine .whenB ?_ ?_
        · exact .refl _
        · intro _
          exact State.muteCause_kept ..

theorem State.lineUp_kept (s : State) (m : Mode) : Kept s (State.lineUp s m) := by
  unfold State.lineUp
  refine .upd ?_ rfl rfl rfl rfl rfl rfl rfl rfl rfl rfl
  exact State.setDomains_kept ..

theorem State.toQuiet_kept (s : State) : Kept s (State.toQuiet s) := by
  unfold State.toQuiet
  split
  · refine .trans ?_ (State.setDomains_kept ..)
    exact .upd (.refl _) rfl rfl rfl rfl rfl rfl rfl rfl rfl rfl
  · exact .upd (.refl _) rfl rfl rfl rfl rfl rfl rfl rfl rfl rfl
  · refine .upd ?_ rfl rfl rfl rfl rfl rfl rfl rfl rfl rfl
    refine .trans ?_ (State.withdrawAll_kept ..)
    refine .whenB ?_ ?_
    · exact .refl _
    · intro _
      exact State.muteCause_kept ..

theorem State.modeEffect_kept (s : State) (v : Nat) : EffKept s (State.modeEffect s v) := by
  unfold State.modeEffect
  refine .plain ?_ rfl
  refine .ite ?_ ?_
  · exact .refl _
  · refine .trans ?_ (State.modeReport_kept ..)
    split
    · refine .trans ?_ (State.toQuiet_kept ..)
      exact State.wrN_kept ..
    · refine .trans ?_ (State.toSafe_kept ..)
      exact State.wrN_kept ..
    · refine .trans ?_ (State.lineUp_kept ..)
      exact State.wrN_kept ..
    · refine .ite ?_ ?_
      · refine .trans ?_ (State.lineUp_kept ..)
        exact State.wrN_kept ..
      · refine .ite ?_ ?_
        · exact State.wrN_kept ..
        · refine .upd ?_ rfl rfl rfl rfl rfl rfl rfl rfl rfl rfl
          exact State.wrN_kept ..

theorem execRequestQuiet_kept (s : State) : OutKept s (execRequestQuiet s) := by
  unfold execRequestQuiet
  refine .next ?_
  refine State.command_kept _ _ _ _ _ ?_
  exact State.modeEffect_kept ..

theorem execRequestDiscover_kept (s : State) : OutKept s (execRequestDiscover s) := by
  unfold execRequestDiscover
  refine .next ?_
  refine State.command_kept _ _ _ _ _ ?_
  exact State.modeEffect_kept ..

theorem execRequestService_kept (s : State) : OutKept s (execRequestService s) := by
  unfold execRequestService
  refine .next ?_
  refine State.command_kept _ _ _ _ _ ?_
  exact State.modeEffect_kept ..

theorem execRequestTest_kept (s : State) : OutKept s (execRequestTest s) := by
  unfold execRequestTest
  refine .next ?_
  refine State.command_kept _ _ _ _ _ ?_
  exact State.modeEffect_kept ..

theorem execRequestSafe_kept (s : State) : OutKept s (execRequestSafe s) := by
  unfold execRequestSafe
  refine .next ?_
  refine State.command_kept _ _ _ _ _ ?_
  exact State.modeEffect_kept ..

theorem State.enterQuiet_kept (s : State) : Kept s (State.enterQuiet s) := by
  unfold State.enterQuiet
  refine .trans ?_ (State.setMode_kept ..)
  refine .upd ?_ rfl rfl rfl rfl rfl rfl rfl rfl rfl rfl
  refine .trans ?_ (State.sealDefects_kept ..)
  refine .trans ?_ (State.eraseMgmt_kept ..)
  refine .trans ?_ (State.timingQuiet_kept ..)
  refine .trans ?_ (State.setDomains_kept ..)
  refine .whenB ?_ ?_
  · exact State.withdrawAll_kept ..
  · intro _
    exact State.saveStartSets_kept ..

theorem State.threadIslands_kept (s : State) : Kept s (State.threadIslands s) := by
  unfold State.threadIslands
  refine .each ?_ ?_
  · exact .refl _
  · intro _ _
    refine .ite ?_ ?_
    · exact State.gateThread_kept ..
    · exact State.ungateThread_kept ..

theorem State.enterLine_kept (s : State) (m : Mode) : Kept s (State.enterLine s m) := by
  unfold State.enterLine
  refine .trans ?_ (State.easelGuard_kept ..)
  refine .trans ?_ (State.startAcquisition_kept ..)
  refine .trans ?_ (State.hostLanesStart_kept ..)
  refine .trans ?_ (State.picotEntry_kept ..)
  refine .trans ?_ (State.unmuteCause_kept ..)
  refine .whenB ?_ ?_
  · refine .trans ?_ (State.setMode_kept ..)
    refine .upd ?_ rfl rfl rfl rfl rfl rfl rfl rfl rfl rfl
    refine .trans ?_ (State.eraseTenantSlots_kept ..)
    refine .trans ?_ (State.transferRestart_kept ..)
    refine .trans ?_ (State.fecStart_kept ..)
    refine .trans ?_ (State.rxConfigure_kept ..)
    refine .trans ?_ (State.loadStartSets_kept ..)
    refine .trans ?_ (State.wrN_kept ..)
    refine .upd ?_ rfl rfl rfl rfl rfl rfl rfl rfl rfl rfl
    refine .each ?_ ?_
    · refine .whenB ?_ ?_
      · refine .trans ?_ (State.threadIslands_kept ..)
        refine .trans ?_ (State.latchCarrier_kept ..)
        exact State.setDomains_kept ..
      · intro _
        exact State.placeTenants_kept ..
    · intro _ _
      refine .trans ?_ (State.wrN_kept ..)
      exact State.setLock_kept ..
  · intro _
    exact State.lowPower_kept ..

theorem State.enterHold_kept (s : State) : Kept s (State.enterHold s) := by
  unfold State.enterHold
  refine .trans ?_ (State.discoverAgain_kept ..)
  refine .trans ?_ (State.loadStartSets_kept ..)
  refine .trans ?_ (State.withdrawTwoEnded_kept ..)
  refine .trans ?_ (State.setMode_kept ..)
  exact .upd (.refl _) rfl rfl rfl rfl rfl rfl rfl rfl rfl rfl

theorem execModeTransitionComplete_kept (s : State) : OutKept s (execModeTransitionComplete s) := by
  unfold execModeTransitionComplete
  refine .next ?_
  refine .ite ?_ ?_
  · exact .refl _
  · split
    · exact .refl _
    · refine .trans ?_ (State.modeReport_kept ..)
      exact State.enterQuiet_kept ..
    · refine .trans ?_ (State.modeReport_kept ..)
      refine .upd ?_ rfl rfl rfl rfl rfl rfl rfl rfl rfl rfl
      exact State.setDomains_kept ..
    · refine .ite ?_ ?_
      · exact .refl _
      · refine .ite ?_ ?_
        · refine .trans ?_ (State.modeReport_kept ..)
          exact State.enterHold_kept ..
        · refine .ite ?_ ?_
          · exact .refl _
          · refine .trans ?_ (State.modeReport_kept ..)
            exact State.enterLine_kept ..

theorem execDiscoverAdvance_kept (s : State) : OutKept s (execDiscoverAdvance s) := by
  unfold execDiscoverAdvance
  refine .next ?_
  refine .ite ?_ ?_
  · refine .trans ?_ (State.modeReport_kept ..)
    exact State.setMode_kept ..
  · exact .refl _

theorem execDiscoverTimeout_kept (s : State) : OutKept s (execDiscoverTimeout s) := by
  unfold execDiscoverTimeout
  refine .next ?_
  refine .ite ?_ ?_
  · refine .trans ?_ (State.lowPower_kept ..)
    refine .trans ?_ (State.picotRestart_kept ..)
    refine .trans ?_ (State.restartAcquisition_kept ..)
    exact State.wrN_kept ..
  · exact .refl _

end Sys2Proof.Machine
end

