-- ==== Sys2Proof/Laws/KeptPower.lean ====
section
/-! SUPPORT. `Kept` of the operations of Machine/Power.lean, one lemma each. -/

namespace Sys2Proof.Machine

theorem State.portIdle_kept (s : State) (q : Nat) : Kept s (State.portIdle s q) := by
  unfold State.portIdle
  refine .ite ?_ ?_
  · refine .trans ?_ (State.wrN_kept ..)
    exact State.bobIdleEnter_kept ..
  · exact .refl _

theorem State.portWake_kept (s : State) (q : Nat) : Kept s (State.portWake s q) := by
  unfold State.portWake
  refine .ite ?_ ?_
  · refine .trans ?_ (State.wrN_kept ..)
    exact State.bobIdleExit_kept ..
  · exact .refl _

theorem State.dmaPause_kept (s : State) : Kept s (State.dmaPause s) := by
  unfold State.dmaPause
  refine .trans ?_ (State.dmaReport_kept ..)
  refine .each ?_ ?_
  · exact .refl _
  · intro _ _
    refine .ite ?_ ?_
    · exact State.wrN_kept ..
    · exact .refl _

theorem State.dmaResume_kept (s : State) : Kept s (State.dmaResume s) := by
  unfold State.dmaResume
  refine .trans ?_ (State.dmaReport_kept ..)
  refine .each ?_ ?_
  · exact .refl _
  · intro _ _
    refine .ite ?_ ?_
    · exact State.wrN_kept ..
    · exact .refl _

theorem State.giveUp_kept (s : State) (n : Nat) : Kept s (State.giveUp s n) := by
  unfold State.giveUp
  split
  · refine .trans ?_ (State.dmaPause_kept ..)
    refine .trans ?_ (State.dumpAbandon_kept ..)
    exact State.convJudge_kept ..
  · exact State.fecShed_kept ..
  · refine .trans ?_ (State.linksChanged_kept ..)
    refine .each ?_ ?_
    · exact .refl _
    · intro _ _
      refine .ite ?_ ?_
      · exact .refl _
      · exact State.portIdle_kept ..
  · exact State.toSafe_kept ..
  · exact .refl _

theorem State.giveBack_kept (s : State) (n : Nat) : Kept s (State.giveBack s n) := by
  unfold State.giveBack
  split
  · refine .trans ?_ (State.enginesUnshed_kept ..)
    refine .trans ?_ (State.dmaResume_kept ..)
    exact State.convJudge_kept ..
  · exact State.fecShed_kept ..
  · refine .trans ?_ (State.linksChanged_kept ..)
    refine .each ?_ ?_
    · exact .refl _
    · intro _ _
      exact State.portWake_kept ..
  · exact .refl _

theorem State.stepUpdate_kept (s : State) : Kept s (State.stepUpdate s) := by
  unfold State.stepUpdate
  refine .ite ?_ ?_
  · refine .trans ?_ (State.count_kept ..)
    refine .upd ?_ rfl rfl rfl rfl rfl rfl rfl rfl rfl rfl
    refine .ite ?_ ?_
    · exact .upd (.refl _) rfl rfl rfl rfl rfl rfl rfl rfl rfl rfl
    · exact .refl _
  · refine .ite ?_ ?_
    · refine .ite ?_ ?_
      · exact .upd (.refl _) rfl rfl rfl rfl rfl rfl rfl rfl rfl rfl
      · exact .refl _
    · refine .trans ?_ (State.modeReport_kept ..)
      refine .trans ?_ (State.wakeRaise_kept ..)
      refine .trans ?_ (State.vector_kept ..)
      refine .ite ?_ ?_
      · refine .each ?_ ?_
        · refine .trans ?_ (State.count_kept ..)
          refine .trans ?_ (State.wrS_kept ..)
          refine .trans ?_ (State.wr_kept ..)
          refine .trans ?_ (State.wrN_kept ..)
          refine .ite ?_ ?_
          · exact .upd (.refl _) rfl rfl rfl rfl rfl rfl rfl rfl rfl rfl
          · exact .refl _
        · intro _ _
          exact State.giveUp_kept ..
      · refine .each ?_ ?_
        · refine .trans ?_ (State.wr_kept ..)
          refine .trans ?_ (State.wrN_kept ..)
          refine .ite ?_ ?_
          · exact .upd (.refl _) rfl rfl rfl rfl rfl rfl rfl rfl rfl rfl
          · exact .refl _
        · intro _ _
          exact State.giveBack_kept ..

theorem State.coreSeen_kept (s : State) (mv : Nat) : Kept s (State.coreSeen s mv) := by
  unfold State.coreSeen
  refine .trans ?_ (State.wrN_kept ..)
  exact State.wrN_kept ..

theorem execVoltageStepRise_kept (step : Fin 4) (mv : Nat) (s : State) : OutKept s (execVoltageStepRise step mv s) := by
  unfold execVoltageStepRise
  refine .next ?_
  refine .ite ?_ ?_
  · refine .trans ?_ (State.stepUpdate_kept ..)
    refine .trans ?_ (State.wrN_kept ..)
    exact State.coreSeen_kept ..
  · exact .refl _

theorem execVoltageStepReturn_kept (mv : Nat) (s : State) : OutKept s (execVoltageStepReturn mv s) := by
  unfold execVoltageStepReturn
  refine .next ?_
  refine .ite ?_ ?_
  · refine .trans ?_ (State.stepUpdate_kept ..)
    refine .trans ?_ (State.wrN_kept ..)
    exact State.coreSeen_kept ..
  · exact .refl _

theorem execPwrWarnAssert_kept (widthNs : Nat) (s : State) : OutKept s (execPwrWarnAssert widthNs s) := by
  unfold execPwrWarnAssert
  refine .next ?_
  refine .ite ?_ ?_
  · exact .refl _
  · refine .ite ?_ ?_
    · refine .whenB ?_ ?_
      · exact .refl _
      · intro _
        exact State.drawn_kept ..
    · refine .ite ?_ ?_
      · refine .trans ?_ (State.stepUpdate_kept ..)
        refine .trans ?_ (State.wrN_kept ..)
        refine .upd ?_ rfl rfl rfl rfl rfl rfl rfl rfl rfl rfl
        refine .whenB ?_ ?_
        · exact .refl _
        · intro _
          exact State.drawn_kept ..
      · refine .upd ?_ rfl rfl rfl rfl rfl rfl rfl rfl rfl rfl
        refine .whenB ?_ ?_
        · exact .refl _
        · intro _
          exact State.drawn_kept ..

theorem execPwrWarnReturn_kept (s : State) : OutKept s (execPwrWarnReturn s) := by
  unfold execPwrWarnReturn
  refine .next ?_
  refine .ite ?_ ?_
  · refine .trans ?_ (State.stepUpdate_kept ..)
    refine .trans ?_ (State.wrN_kept ..)
    exact .upd (.refl _) rfl rfl rfl rfl rfl rfl rfl rfl rfl rfl
  · exact .refl _

theorem execShedEntry_kept (s : State) : OutKept s (execShedEntry s) := by
  unfold execShedEntry
  refine .next ?_
  refine .ite ?_ ?_
  · refine .trans ?_ (State.modeReport_kept ..)
    refine .trans ?_ (State.wrN_kept ..)
    exact State.setMode_kept ..
  · exact .refl _

theorem execShedExit_kept (s : State) : OutKept s (execShedExit s) := by
  unfold execShedExit
  refine .next ?_
  refine .ite ?_ ?_
  · refine .trans ?_ (State.modeReport_kept ..)
    refine .whenB ?_ ?_
    · refine .whenB ?_ ?_
      · refine .trans ?_ (State.setMode_kept ..)
        refine .whenB ?_ ?_
        · exact .refl _
        · intro _
          exact State.saveStartSets_kept ..
      · intro _
        exact State.loadStartSets_kept ..
    · intro _
      exact State.discoverAgain_kept ..
  · exact .refl _

theorem State.darken_kept (s : State) (least sets : Nat) : Kept s (State.darken s least sets) := by
  unfold State.darken
  refine .each ?_ ?_
  · refine .trans ?_ (State.wrN_kept ..)
    exact .upd (.refl _) rfl rfl rfl rfl rfl rfl rfl rfl rfl rfl
  · intro _ _
    exact State.withdrawDark_kept ..

theorem execS3DarkenFirstSet_kept (s : State) : OutKept s (execS3DarkenFirstSet s) := by
  unfold execS3DarkenFirstSet
  refine .next ?_
  refine .ite ?_ ?_
  · exact State.darken_kept ..
  · exact .refl _

theorem execS3DarkenSecondSet_kept (s : State) : OutKept s (execS3DarkenSecondSet s) := by
  unfold execS3DarkenSecondSet
  refine .next ?_
  refine .ite ?_ ?_
  · exact State.darken_kept ..
  · exact .refl _

theorem execS3Relight_kept (s : State) : OutKept s (execS3Relight s) := by
  unfold execS3Relight
  refine .next ?_
  refine .ite ?_ ?_
  · refine .trans ?_ (State.wrN_kept ..)
    exact .upd (.refl _) rfl rfl rfl rfl rfl rfl rfl rfl rfl rfl
  · exact .refl _

theorem State.avsJudge_kept (s : State) : Kept s (State.avsJudge s) := by
  unfold State.avsJudge
  exact State.defect_kept ..

theorem execAvsTargetUpdate_kept (pathMv : Nat) (s : State) : OutKept s (execAvsTargetUpdate pathMv s) := by
  unfold execAvsTargetUpdate
  refine .next ?_
  refine .ite ?_ ?_
  · refine .trans ?_ (State.avsJudge_kept ..)
    exact State.wrN_kept ..
  · exact .refl _

theorem State.setPointEffect_kept (s : State) (mv : Nat) : EffKept s (State.setPointEffect s mv) := by
  unfold State.setPointEffect
  refine .plain ?_ rfl
  refine .trans ?_ (State.avsJudge_kept ..)
  refine .whenB ?_ ?_
  · exact State.wrN_kept ..
  · intro _
    exact State.inc32_kept ..

theorem execSetPointWrite_kept (mv : Nat) (s : State) : OutKept s (execSetPointWrite mv s) := by
  unfold execSetPointWrite
  refine .next ?_
  refine State.command_kept _ _ _ _ _ ?_
  exact State.setPointEffect_kept ..

theorem State.bootAgain_kept (s : State) : Kept s (State.bootAgain s) := by
  unfold State.bootAgain
  refine .trans ?_ (State.bootStart_kept ..)
  refine .upd ?_ rfl rfl rfl rfl rfl rfl rfl rfl rfl rfl
  exact State.setDomains_kept ..

theorem State.bootStops_kept (s : State) (h : BootHold) : Kept s (State.bootStops s h) := by
  unfold State.bootStops
  refine .trans ?_ (State.bootHeld_kept ..)
  refine .trans ?_ (State.gate_kept ..)
  exact State.gate_kept ..

theorem State.enterBoot_kept (s : State) (vddCoreMv : Nat) (romOk : Bool) : Kept s (State.enterBoot s vddCoreMv romOk) := by
  unfold State.enterBoot
  refine .whenB ?_ ?_
  · refine .trans ?_ (State.pcieTrain_kept ..)
    refine .trans ?_ (State.bootStart_kept ..)
    refine .upd ?_ rfl rfl rfl rfl rfl rfl rfl rfl rfl rfl
    refine .whenB ?_ ?_
    · refine .trans ?_ (State.wrN_kept ..)
      refine .trans ?_ (State.wrBit_kept ..)
      refine .trans ?_ (State.setMode_kept ..)
      exact State.setDomains_kept ..
    · intro _
      exact State.raise_kept ..
  · intro _
    exact State.bootStops_kept ..

theorem execCanvasPhaseComplete_kept (failed : BitVec 12) (s : State) : OutKept s (execCanvasPhaseComplete failed s) := by
  unfold execCanvasPhaseComplete
  refine .next ?_
  refine .ite ?_ ?_
  · refine .trans ?_ (State.modeReport_kept ..)
    refine .trans ?_ (State.stepUpdate_kept ..)
    refine .trans ?_ (State.setMode_kept ..)
    refine .trans ?_ (State.setDomains_kept ..)
    refine .trans ?_ (State.restoreIfDue_kept ..)
    refine .ite ?_ ?_
    · refine .trans ?_ (State.entropyUp_kept ..)
      refine .trans ?_ (State.enginesPlace_kept ..)
      exact State.wrN_kept ..
    · refine .trans ?_ (State.enginesPlace_kept ..)
      exact State.wrN_kept ..
  · exact .refl _

theorem execLockstepMismatch_kept (s : State) : OutKept s (execLockstepMismatch s) := by
  unfold execLockstepMismatch
  refine .next ?_
  refine .ite ?_ ?_
  · exact .refl _
  · refine .ite ?_ ?_
    · refine .ite ?_ ?_
      · refine .upd ?_ rfl rfl rfl rfl rfl rfl rfl rfl rfl rfl
        exact State.count_kept ..
      · refine .ite ?_ ?_
        · refine .trans ?_ (State.bootStops_kept ..)
          refine .upd ?_ rfl rfl rfl rfl rfl rfl rfl rfl rfl rfl
          exact State.count_kept ..
        · refine .ite ?_ ?_
          · refine .upd ?_ rfl rfl rfl rfl rfl rfl rfl rfl rfl rfl
            exact State.count_kept ..
          · refine .trans ?_ (State.bootAgain_kept ..)
            refine .upd ?_ rfl rfl rfl rfl rfl rfl rfl rfl rfl rfl
            exact State.count_kept ..
    · refine .ite ?_ ?_
      · refine .trans ?_ (State.toSafe_kept ..)
        refine .upd ?_ rfl rfl rfl rfl rfl rfl rfl rfl rfl rfl
        exact State.count_kept ..
      · dsimp only
        split
        · refine .ite ?_ ?_
          · refine .trans ?_ (State.restartFor_kept ..)
            refine .upd ?_ rfl rfl rfl rfl rfl rfl rfl rfl rfl rfl
            exact State.count_kept ..
          · refine .trans ?_ (State.updateReverse_kept ..)
            refine .trans ?_ (State.restartFor_kept ..)
            refine .upd ?_ rfl rfl rfl rfl rfl rfl rfl rfl rfl rfl
            exact State.count_kept ..
        · refine .trans ?_ (State.restartFor_kept ..)
          refine .upd ?_ rfl rfl rfl rfl rfl rfl rfl rfl rfl rfl
          exact State.count_kept ..

theorem execThermalSample_kept (temps : List Int) (s : State) : OutKept s (execThermalSample temps s) := by
  unfold execThermalSample
  refine .next ?_
  refine .ite ?_ ?_
  · exact .refl _
  · refine .ite ?_ ?_
    · refine .ite ?_ ?_
      · refine .trans ?_ (State.stepUpdate_kept ..)
        refine .trans ?_ (State.wrN_kept ..)
        refine .upd ?_ rfl rfl rfl rfl rfl rfl rfl rfl rfl rfl
        refine .trans ?_ (State.defect_kept ..)
        refine .trans ?_ (State.defect_kept ..)
        refine .trans ?_ (State.defect_kept ..)
        refine .trans ?_ (State.wrI_kept ..)
        refine .trans ?_ (State.wrS_kept ..)
        refine .trans ?_ (State.wrN_kept ..)
        exact State.wrI_kept ..
      · refine .ite ?_ ?_
        · refine .ite ?_ ?_
          · refine .trans ?_ (State.stepUpdate_kept ..)
            refine .trans ?_ (State.wrN_kept ..)
            refine .upd ?_ rfl rfl rfl rfl rfl rfl rfl rfl rfl rfl
            refine .trans ?_ (State.defect_kept ..)
            refine .trans ?_ (State.defect_kept ..)
            refine .trans ?_ (State.defect_kept ..)
            refine .trans ?_ (State.wrI_kept ..)
            refine .trans ?_ (State.wrS_kept ..)
            refine .trans ?_ (State.wrN_kept ..)
            exact State.wrI_kept ..
          · refine .trans ?_ (State.bootStops_kept ..)
            refine .trans ?_ (State.stepUpdate_kept ..)
            refine .trans ?_ (State.wrN_kept ..)
            refine .upd ?_ rfl rfl rfl rfl rfl rfl rfl rfl rfl rfl
            refine .trans ?_ (State.defect_kept ..)
            refine .trans ?_ (State.defect_kept ..)
            refine .trans ?_ (State.defect_kept ..)
            refine .trans ?_ (State.wrI_kept ..)
            refine .trans ?_ (State.wrS_kept ..)
            refine .trans ?_ (State.wrN_kept ..)
            exact State.wrI_kept ..
        · refine .trans ?_ (State.toSafe_kept ..)
          refine .trans ?_ (State.stepUpdate_kept ..)
          refine .trans ?_ (State.wrN_kept ..)
          refine .upd ?_ rfl rfl rfl rfl rfl rfl rfl rfl rfl rfl
          refine .trans ?_ (State.defect_kept ..)
          refine .trans ?_ (State.defect_kept ..)
          refine .trans ?_ (State.defect_kept ..)
          refine .trans ?_ (State.wrI_kept ..)
          refine .trans ?_ (State.wrS_kept ..)
          refine .trans ?_ (State.wrN_kept ..)
          exact State.wrI_kept ..
    · refine .ite ?_ ?_
      · refine .ite ?_ ?_
        · refine .trans ?_ (State.bootAgain_kept ..)
          refine .upd ?_ rfl rfl rfl rfl rfl rfl rfl rfl rfl rfl
          refine .trans ?_ (State.stepUpdate_kept ..)
          refine .trans ?_ (State.wrN_kept ..)
          refine .upd ?_ rfl rfl rfl rfl rfl rfl rfl rfl rfl rfl
          refine .trans ?_ (State.defect_kept ..)
          refine .trans ?_ (State.defect_kept ..)
          refine .trans ?_ (State.defect_kept ..)
          refine .trans ?_ (State.wrI_kept ..)
          refine .trans ?_ (State.wrS_kept ..)
          refine .trans ?_ (State.wrN_kept ..)
          exact State.wrI_kept ..
        · refine .upd ?_ rfl rfl rfl rfl rfl rfl rfl rfl rfl rfl
          refine .trans ?_ (State.stepUpdate_kept ..)
          refine .trans ?_ (State.wrN_kept ..)
          refine .upd ?_ rfl rfl rfl rfl rfl rfl rfl rfl rfl rfl
          refine .trans ?_ (State.defect_kept ..)
          refine .trans ?_ (State.defect_kept ..)
          refine .trans ?_ (State.defect_kept ..)
          refine .trans ?_ (State.wrI_kept ..)
          refine .trans ?_ (State.wrS_kept ..)
          refine .trans ?_ (State.wrN_kept ..)
          exact State.wrI_kept ..
      · refine .trans ?_ (State.stepUpdate_kept ..)
        refine .trans ?_ (State.wrN_kept ..)
        refine .upd ?_ rfl rfl rfl rfl rfl rfl rfl rfl rfl rfl
        refine .trans ?_ (State.defect_kept ..)
        refine .trans ?_ (State.defect_kept ..)
        refine .trans ?_ (State.defect_kept ..)
        refine .trans ?_ (State.wrI_kept ..)
        refine .trans ?_ (State.wrS_kept ..)
        refine .trans ?_ (State.wrN_kept ..)
        exact State.wrI_kept ..

theorem State.thermalEffect_kept (s : State) (sub : Nat) (v : DVal) : EffKept s (State.thermalEffect s sub v) := by
  unfold State.thermalEffect
  refine .plain ?_ rfl
  exact State.wr_kept ..

theorem State.flashCut_kept (s : State) : Kept s (State.flashCut s) := by
  unfold State.flashCut
  refine .ite ?_ ?_
  · split
    · refine .trans ?_ (State.flashScrap_kept ..)
      split
      · exact State.flashScrap_kept ..
      · exact State.flashScrap_kept ..
      · exact .refl _
    · split
      · exact State.flashScrap_kept ..
      · exact State.flashScrap_kept ..
      · exact .refl _
  · refine .trans ?_ (State.flashScrap_kept ..)
    split
    · refine .trans ?_ (State.flashScrap_kept ..)
      split
      · exact State.flashScrap_kept ..
      · exact State.flashScrap_kept ..
      · exact .refl _
    · split
      · exact State.flashScrap_kept ..
      · exact State.flashScrap_kept ..
      · exact .refl _

theorem State.porState_sound (s : State) : Sound s s.porState :=
  let h := State.flashCut_kept s
  ⟨h.pending, h.fuse, h.uptime, fun _ => rfl, fun _ => rfl, h.flash⟩

theorem execPor_sound (s : State) : OutSound s (execPor s) := .next (State.porState_sound s)

theorem State.resetCommon_kept (s : State) (kind : Nat) (keepA : Bool) : Kept s (s.resetCommon kind keepA) := by
  have h : Kept s ((s.whenB (s.on 14) fun u => u.muteCause 5).withdrawAll.timingQuiet.pcieDown.flashCut.eraseTenantSlots) :=
    ((((((Kept.whenB (.refl _) fun _ => State.muteCause_kept ..).trans (State.withdrawAll_kept ..)).trans
      (State.timingQuiet_kept ..)).trans (State.pcieDown_kept ..)).trans (State.flashCut_kept ..)).trans
      (State.eraseTenantSlots_kept ..))
  unfold State.resetCommon
  refine .trans ?_ (State.wr_kept ..)
  refine .trans ?_ (State.wrN_kept ..)
  refine .trans ?_ (State.wrN_kept ..)
  refine .trans ?_ (State.setMode_kept ..)
  refine .trans ?_ (State.wakeN_kept ..)
  refine .trans ?_ (State.eraseMgmt_kept ..)
  refine .each ?_ fun _ _ => State.setMgmt_kept ..
  refine .updMem ?_ rfl rfl rfl rfl rfl rfl rfl rfl rfl
  have hf := (h.trans (State.transferRestart_kept ..)).trans (State.forget_kept _ (fun i => !keptTiming i) Cls.volatile)
  exact .ite (hf.trans (State.wrN_kept ..)) (hf.trans (State.forget_kept ..))

theorem execPinReset_sound (lowNs : Nat) (s : State) : OutSound s (execPinReset lowNs s) := by
  have hl : Sound s { s with pow := { s.pow with pinLow := true } } := ⟨rfl, rfl, rfl, id, id, id⟩
  unfold execPinReset
  split
  · exact .next (Kept.refl _).sound
  · split
    · intro t ht
      cases ht
    · refine .next ?_
      split
      · exact hl
      · refine hl.trans (Kept.sound (.ite (.trans ?_ (State.emit_kept ..)) ?_))
        all_goals exact (State.resetCommon_kept ..).trans (State.count_kept ..)

theorem execPinResetRelease_sound (straps : BitVec 16) (vddCoreMv : Nat) (romOk : Bool) (s : State) :
    OutSound s (execPinResetRelease straps vddCoreMv romOk s) := by
  unfold execPinResetRelease
  refine .next ?_
  split
  · exact (Kept.refl _).sound
  · dsimp only
    split
    · exact ⟨rfl, rfl, rfl, id, id, id⟩
    · refine Sound.trans ?_ (State.enterBoot_kept ..).sound
      exact ⟨rfl, rfl, rfl, id, id, id⟩

theorem execMainSupplyLoss_sound (rail : Fin 9) (s : State) : OutSound s (execMainSupplyLoss rail s) := by
  have h : Kept s (if s.pow.released then (s.resetCommon 6 false).count (.reset 6) else s) :=
    .ite ((State.resetCommon_kept ..).trans (State.count_kept ..)) (.refl _)
  unfold execMainSupplyLoss
  refine .next ?_
  split
  · exact State.porState_sound s
  · split
    · exact (Kept.refl _).sound
    · refine h.sound.trans (Sound.trans ?_ (State.wrN_kept ..).sound)
      exact ⟨rfl, rfl, rfl, id, id, id⟩

theorem execRailGroupGood_sound (group : Fin 3) (s : State) : OutSound s (execRailGroupGood group s) := by
  unfold execRailGroupGood
  refine .next ?_
  split
  · exact (Kept.refl _).sound
  · have h : Sound s { s with pow := { s.pow with groups := group.val + 1 } } := ⟨rfl, rfl, rfl, id, id, id⟩
    refine h.trans (Sound.trans ?_ (State.wrN_kept ..).sound)
    refine Kept.sound (.ite (.trans (.trans ?_ (State.wrN_kept ..)) (State.count_kept ..)) (.refl _))
    exact .upd (.refl _) rfl rfl rfl rfl rfl rfl rfl rfl rfl rfl

theorem execPorRelease_sound (straps : BitVec 16) (vddCoreMv : Nat) (romOk : Bool) (s : State) :
    OutSound s (execPorRelease straps vddCoreMv romOk s) := by
  unfold execPorRelease
  refine .next ?_
  split
  · exact (Kept.refl _).sound
  · have h : Sound s { s with pow := { s.pow with released := true, straps := straps.toNat } } := ⟨rfl, rfl, rfl, id, id, id⟩
    refine h.trans (Kept.sound (.trans (.ite ?_ (State.emit_kept ..)) (State.enterBoot_kept ..)))
    exact .upd (.refl _) rfl rfl rfl rfl rfl rfl rfl rfl rfl rfl

theorem State.warmEffect_kept (s : State) : EffKept s (State.warmEffect s) := by
  unfold State.warmEffect
  exact .ok (.upd (.refl _) rfl rfl rfl rfl rfl rfl rfl rfl rfl rfl)

theorem execWarmRequest_kept (s : State) : OutKept s (execWarmRequest s) := by
  unfold execWarmRequest
  refine .next ?_
  refine State.command_kept _ _ _ _ _ ?_
  exact State.warmEffect_kept ..

theorem execWarmReset_kept (vddCoreMv : Nat) (romOk : Bool) (s : State) : OutKept s (execWarmReset vddCoreMv romOk s) := by
  unfold execWarmReset
  refine .next ?_
  refine .ite ?_ ?_
  · exact .refl _
  · refine .trans ?_ (State.enterBoot_kept ..)
    refine .upd ?_ rfl rfl rfl rfl rfl rfl rfl rfl rfl rfl
    refine .trans ?_ (State.count_kept ..)
    refine .trans ?_ (State.inc32_kept ..)
    exact State.resetCommon_kept ..

theorem State.restartEffect_kept (s : State) : EffKept s (State.restartEffect s) := by
  unfold State.restartEffect
  refine .plain ?_ rfl
  exact State.restartFor_kept ..

theorem execRestartRequest_kept (s : State) : OutKept s (execRestartRequest s) := by
  unfold execRestartRequest
  refine .next ?_
  refine State.command_kept _ _ _ _ _ ?_
  exact State.restartEffect_kept ..

theorem execHitlessRestart_kept (s : State) : OutKept s (execHitlessRestart s) := by
  unfold execHitlessRestart
  refine .next ?_
  split
  · exact .refl _
  · refine .ite ?_ ?_
    · exact .refl _
    · refine .trans ?_ (State.convJudge_kept ..)
      refine .trans ?_ (State.count_kept ..)
      refine .trans ?_ (State.wrN_kept ..)
      refine .trans ?_ (State.wrN_kept ..)
      refine .trans ?_ (State.inc32_kept ..)
      exact .upd (.refl _) rfl rfl rfl rfl rfl rfl rfl rfl rfl rfl

theorem execHitlessRestartComplete_kept (s : State) : OutKept s (execHitlessRestartComplete s) := by
  unfold execHitlessRestartComplete
  refine .next ?_
  refine .ite ?_ ?_
  · exact .refl _
  · dsimp only
    split
    · refine .ite ?_ ?_
      · refine .trans ?_ (State.recordWrite_kept ..)
        refine .upd ?_ rfl rfl rfl rfl rfl rfl rfl rfl rfl rfl
        refine .trans ?_ (State.picotKick_kept ..)
        refine .trans ?_ (State.timingReturn_kept ..)
        refine .trans ?_ (State.convJudge_kept ..)
        refine .trans ?_ (State.acqAfresh_kept ..)
        exact .upd (.refl _) rfl rfl rfl rfl rfl rfl rfl rfl rfl rfl
      · refine .trans ?_ (State.picotKick_kept ..)
        refine .trans ?_ (State.timingReturn_kept ..)
        refine .trans ?_ (State.convJudge_kept ..)
        refine .trans ?_ (State.acqAfresh_kept ..)
        exact .upd (.refl _) rfl rfl rfl rfl rfl rfl rfl rfl rfl rfl
    · refine .trans ?_ (State.picotKick_kept ..)
      refine .trans ?_ (State.timingReturn_kept ..)
      refine .trans ?_ (State.convJudge_kept ..)
      refine .trans ?_ (State.acqAfresh_kept ..)
      exact .upd (.refl _) rfl rfl rfl rfl rfl rfl rfl rfl rfl rfl

theorem execTargetTimeout_kept (target : Nat) (s : State) : OutKept s (execTargetTimeout target s) := by
  unfold execTargetTimeout
  refine .next ?_
  refine .ite ?_ ?_
  · exact .refl _
  · refine .ite ?_ ?_
    · refine .trans ?_ (State.toSafe_kept ..)
      refine .trans ?_ (State.raise_kept ..)
      refine .trans ?_ (State.inc32_kept ..)
      exact .upd (.refl _) rfl rfl rfl rfl rfl rfl rfl rfl rfl rfl
    · refine .trans ?_ (State.raise_kept ..)
      refine .trans ?_ (State.inc32_kept ..)
      exact .upd (.refl _) rfl rfl rfl rfl rfl rfl rfl rfl rfl rfl

end Sys2Proof.Machine
end

