-- ==== Sys2Proof/Laws/KeptStaging.lean ====
section
/-! SUPPORT. `Kept` of the operations of Machine/Staging.lean, one lemma each. -/

namespace Sys2Proof.Machine

theorem State.stagePage_kept (s : State) (target : Nat) (items : List (Nat × DVal)) (k : Nat) :
    Kept s (State.stagePage s target items k) := by
  unfold State.stagePage
  exact State.wrS_kept ..

theorem State.stage_kept (s : State) (x : Staged) : Kept s (State.stage s x) := by
  unfold State.stage
  refine .trans ?_ (State.mapReport_kept ..)
  refine .trans ?_ (State.stagedReport_kept ..)
  refine .upd ?_ rfl rfl rfl rfl rfl rfl rfl rfl rfl rfl
  refine .each ?_ ?_
  · exact .refl _
  · intro _ _
    exact State.stagePage_kept ..

theorem State.commitThread_kept (s : State) (k was now : Nat) : Kept s (State.commitThread s k was now) := by
  unfold State.commitThread
  refine .ite ?_ ?_
  · exact .refl _
  · refine .ite ?_ ?_
    · refine .trans ?_ (State.wrN_kept ..)
      exact .upd (.refl _) rfl rfl rfl rfl rfl rfl rfl rfl rfl rfl
    · refine .trans ?_ (State.wrN_kept ..)
      exact .upd (.refl _) rfl rfl rfl rfl rfl rfl rfl rfl rfl rfl

theorem State.setNumber_kept (s : State) (items : List (Nat × DVal)) (old : List Byte × List Byte) :
    Kept s (State.setNumber s items old) := by
  unfold State.setNumber
  refine .whenB ?_ ?_
  · refine .whenB ?_ ?_
    · exact .refl _
    · intro _
      exact State.swapped_kept ..
  · intro _
    exact State.newSet_kept ..

theorem State.commitItem_kept (s : State) (k : Nat) (v : DVal) : Kept s (State.commitItem s k v) := by
  unfold State.commitItem
  split
  · refine .upd ?_ rfl rfl rfl rfl rfl rfl rfl rfl rfl rfl
    refine .trans ?_ (State.noteWrite_kept ..)
    exact State.setK_kept ..
  · refine .trans ?_ (State.commitThread_kept ..)
    refine .upd ?_ rfl rfl rfl rfl rfl rfl rfl rfl rfl rfl
    refine .trans ?_ (State.noteWrite_kept ..)
    exact State.setK_kept ..
  · refine .ite ?_ ?_
    · refine .trans ?_ (State.putSets_kept ..)
      refine .trans ?_ (State.noteWrite_kept ..)
      exact State.setK_kept ..
    · refine .ite ?_ ?_
      · refine .trans ?_ (State.putSets_kept ..)
        refine .trans ?_ (State.noteWrite_kept ..)
        exact State.setK_kept ..
      · refine .trans ?_ (State.noteWrite_kept ..)
        exact State.setK_kept ..

theorem State.pageFlip_kept (s : State) (k : Nat) : Kept s (State.pageFlip s k) := by
  unfold State.pageFlip
  refine .trans ?_ (State.wrN_kept ..)
  refine .trans ?_ (State.wrS_kept ..)
  exact State.wrS_kept ..

theorem State.commitStaged_kept (s : State) (x : Staged) : Kept s (State.commitStaged s x) := by
  unfold State.commitStaged
  refine .trans ?_ (State.finish_kept ..)
  refine .each ?_ ?_
  · refine .trans ?_ (State.setNumber_kept ..)
    refine .each ?_ ?_
    · exact .refl _
    · intro _ _
      exact State.commitItem_kept ..
  · intro _ _
    exact State.pageFlip_kept ..

theorem State.commitDue_kept (s : State) : Kept s (State.commitDue s) := by
  unfold State.commitDue
  refine .each ?_ ?_
  · refine .each ?_ ?_
    · exact .refl _
    · intro _ _
      exact State.withdrawOne_kept ..
  · intro _ _
    exact State.commitStaged_kept ..

theorem execProposeReceive_kept (p : Propose) (pages : List (Nat × List Byte)) (s : State) :
    OutKept s (execProposeReceive p pages s) := by
  unfold execProposeReceive
  refine .next ?_
  refine .ite ?_ ?_
  · exact .refl _
  · split
    · refine .trans ?_ (State.answer_kept ..)
      refine .each ?_ ?_
      · refine .upd ?_ rfl rfl rfl rfl rfl rfl rfl rfl rfl rfl
        refine .each ?_ ?_
        · exact State.inc32_kept ..
        · intro _ _
          exact State.wrS_kept ..
      · intro _ _
        exact State.ungateThread_kept ..
    · refine .trans ?_ (State.answer_kept ..)
      exact State.inc32_kept ..

end Sys2Proof.Machine
end

