-- ==== Sys2Proof/Laws/KeptWrites.lean ====
section
/-! SUPPORT. `Kept` of the operations of Machine/Writes.lean, one lemma each. -/

namespace Sys2Proof.Machine

theorem State.dmaStartEffect_kept (s : State) (c : Nat) : EffKept s (State.dmaStartEffect s c) := by
  unfold State.dmaStartEffect
  refine .plain ?_ rfl
  refine .trans ?_ (State.dmaReport_kept ..)
  refine .trans ?_ (State.wrN_kept ..)
  refine .trans ?_ (State.wrN_kept ..)
  refine .trans ?_ (State.wrN_kept ..)
  refine .trans ?_ (State.inc32_kept ..)
  refine .trans ?_ (State.wrN_kept ..)
  refine .trans ?_ (State.wrN_kept ..)
  refine .trans ?_ (State.wrN_kept ..)
  exact .upd (.refl _) rfl rfl rfl rfl rfl rfl rfl rfl rfl rfl

theorem State.dmaStopEffect_kept (s : State) (c : Nat) : EffKept s (State.dmaStopEffect s c) := by
  unfold State.dmaStopEffect
  refine .plain ?_ rfl
  refine .ite ?_ ?_
  · exact State.dmaError_kept ..
  · exact .refl _

theorem State.dmaEffect_kept (s : State) (c sub : Nat) (v : DVal) : EffKept s (State.dmaEffect s c sub v) := by
  unfold State.dmaEffect
  refine .ite ?_ ?_
  · refine .ite ?_ ?_
    · exact State.dmaStartEffect_kept ..
    · exact State.dmaStopEffect_kept ..
  · refine .plain ?_ rfl
    exact State.wr_kept ..

theorem execDmaStart_kept (c : Fin 64) (s : State) : OutKept s (execDmaStart c s) := by
  unfold execDmaStart
  refine .next ?_
  refine State.command_kept _ _ _ _ _ ?_
  exact State.dmaStartEffect_kept ..

theorem execDmaStop_kept (c : Fin 64) (s : State) : OutKept s (execDmaStop c s) := by
  unfold execDmaStop
  refine .next ?_
  refine State.command_kept _ _ _ _ _ ?_
  exact State.dmaStopEffect_kept ..

theorem State.sliceEffect_kept (s : State) (v : Nat) : EffKept s (s.sliceEffect v) := by
  unfold State.sliceEffect
  split
  · exact State.sliceRetireEffect_kept ..
  · exact .then (f := fun u => { u with free := u.free + 19 }) (State.sliceReadmitEffect_kept ..) fun v =>
      .upd (.refl _) rfl rfl rfl rfl rfl rfl rfl rfl rfl rfl

theorem State.converterEffect_kept (s : State) (idx sub : Nat) (v : DVal) :
    EffKept s (State.converterEffect s idx sub v) := by
  unfold State.converterEffect
  refine .ite ?_ ?_
  · refine .plain ?_ rfl
    exact State.wr_kept ..
  · refine .ite ?_ ?_
    · refine .plain ?_ rfl
      exact State.wr_kept ..
    · exact .ok (State.wr_kept ..)

theorem State.bobLaneEffect_kept (s : State) (b sub : Nat) (v : DVal) : EffKept s (State.bobLaneEffect s b sub v) := by
  unfold State.bobLaneEffect
  refine .ite ?_ ?_
  · refine .ite ?_ ?_
    · refine .ok ?_
      refine .trans ?_ (State.lanesJudge_kept ..)
      exact State.retireBob_kept ..
    · exact State.readmitEffect_kept ..
  · exact State.laneEffect_kept ..

theorem State.effectLow_kept (s : State) (idx sub : Nat) (v : DVal) : EffKept s (State.effectLow s idx sub v) := by
  unfold State.effectLow
  refine .ite ?_ ?_
  · refine .ite ?_ ?_
    · exact State.warmEffect_kept ..
    · exact State.restartEffect_kept ..
  · refine .ite ?_ ?_
    · exact State.modeEffect_kept ..
    · refine .ite ?_ ?_
      · exact State.setPointEffect_kept ..
      · refine .ite ?_ ?_
        · exact State.thermalEffect_kept ..
        · refine .ite ?_ ?_
          · split
            · exact State.deviceLoadEffect_kept ..
            · exact State.kekLoadEffect_kept ..
            · exact State.persistEffect_kept ..
            · exact State.mgmtEraseEffect_kept ..
          · refine .ite ?_ ?_
            · exact State.rotationIntervalEffect_kept ..
            · refine .ite ?_ ?_
              · exact State.converterEffect_kept ..
              · refine .ite ?_ ?_
                · exact State.sliceEffect_kept ..
                · refine .ite ?_ ?_
                  · exact State.hostMuteEffect_kept ..
                  · refine .ite ?_ ?_
                    · refine .ok ?_
                      refine .trans ?_ (State.picotFollow_kept ..)
                      exact State.wr_kept ..
                    · refine .ite ?_ ?_
                      · refine .plain ?_ rfl
                        exact State.wr_kept ..
                      · refine .ite ?_ ?_
                        · refine .ite ?_ ?_
                          · refine .ite ?_ ?_
                            · exact State.easelArmEffect_kept ..
                            · exact State.easelAbortEffect_kept ..
                          · refine .plain ?_ rfl
                            exact State.wr_kept ..
                        · exact .ok (State.wr_kept ..)

theorem State.effectMid_kept (s : State) (idx sub : Nat) (v : DVal) : EffKept s (State.effectMid s idx sub v) := by
  unfold State.effectMid
  refine .ite ?_ ?_
  · split
    · exact State.latencyEffect_kept ..
    · exact State.hostCapEffect_kept ..
    · exact State.budgetEffect_kept ..
    · exact State.loopbackEffect_kept ..
    · exact State.injectionEffect_kept ..
    · exact State.forcedEffect_kept ..
    · exact .ok (State.wr_kept ..)
  · refine .ite ?_ ?_
    · exact State.referenceEffect_kept ..
    · refine .ite ?_ ?_
      · exact .ok (State.traceEffect_kept ..)
      · refine .ite ?_ ?_
        · exact State.rootEffect_kept ..
        · refine .ite ?_ ?_
          · exact State.tenantRule_kept ..
          · refine .ite ?_ ?_
            · split
              · exact State.keyModeEffect_kept ..
              · exact State.wrappedKeyEffect_kept ..
              · exact State.slotEraseEffect_kept ..
              · exact .ok (State.wr_kept ..)
            · refine .ite ?_ ?_
              · exact State.portEffect_kept ..
              · refine .ite ?_ ?_
                · exact State.exactEffect_kept ..
                · refine .ite ?_ ?_
                  · exact State.queueEffect_kept ..
                  · exact .ok (State.wr_kept ..)

theorem State.effectHigh_kept (s : State) (idx sub : Nat) (v : DVal) : EffKept s (State.effectHigh s idx sub v) := by
  unfold State.effectHigh
  refine .ite ?_ ?_
  · exact State.selectEffect_kept ..
  · refine .ite ?_ ?_
    · exact State.candEffect_kept ..
    · refine .ite ?_ ?_
      · exact State.dpllEffect_kept ..
      · refine .ite ?_ ?_
        · refine .ite ?_ ?_
          · exact State.setTimeEffect_kept ..
          · exact State.phaseAdjustEffect_kept ..
        · refine .ite ?_ ?_
          · exact State.transferEffect_kept ..
          · refine .ite ?_ ?_
            · exact State.groupEffect_kept ..
            · refine .ite ?_ ?_
              · refine .ok ?_
                refine .trans ?_ (State.wakeSignal_kept ..)
                exact State.wr_kept ..
              · refine .ite ?_ ?_
                · exact State.linkEffect_kept ..
                · refine .ite ?_ ?_
                  · exact State.protEffect_kept ..
                  · refine .ite ?_ ?_
                    · exact State.laneEffect_kept ..
                    · refine .ite ?_ ?_
                      · exact State.bobLaneEffect_kept ..
                      · exact .ok (State.wr_kept ..)

theorem State.effectTop_kept (s : State) (idx sub : Nat) (v : DVal) : EffKept s (s.effectTop idx sub v) := by
  unfold State.effectTop
  refine .ite (State.clusterEffect_kept ..) (.ite (State.windowEffect_kept ..) (.ite (State.dmaEffect_kept ..)
    (.ite (.ok (State.setLog_kept ..)) (.ite (State.retireEffect_kept ..) (.ite (State.banksEffect_kept ..) (.ite (State.trialEffect_kept ..)
    (.ite ?_ (.ite (State.flashEffect_kept ..) (.ite (State.commitEffect_kept ..) (.ite (State.dumpSettingEffect_kept ..)
    (.ite (.ok (State.hkInject_kept ..)) (.ite (State.eventModeEffect_kept ..) (.ok (State.wr_kept ..))))))))))))))
  exact .then (State.bankEffect_kept ..) fun _ => State.drawn_kept ..

theorem State.entryEffect_kept (s : State) (idx sub : Nat) (v : DVal) : EffKept s (State.entryEffect s idx sub v) := by
  unfold State.entryEffect
  refine .ite ?_ ?_
  · exact State.effectLow_kept ..
  · refine .ite ?_ ?_
    · exact State.effectMid_kept ..
    · refine .ite ?_ ?_
      · exact State.effectHigh_kept ..
      · exact State.effectTop_kept ..

theorem State.writeEffect_kept (s : State) (e : Entry) (idx sub : Nat) (v : DVal) : EffKept s (s.writeEffect e idx sub v) := by
  unfold State.writeEffect
  exact .fails (.then (f := fun u => u.whenB _ State.distribute) (State.entryEffect_kept ..) fun v =>
    .whenB (.refl _) fun _ => State.distribute_kept ..)

theorem State.writeItem_kept (s : State) (src : Source) (x : WrItem) : Kept s (s.writeItem src x).2.2 := by
  unfold State.writeItem
  split
  · exact .refl _
  · dsimp only
    split
    · exact .refl _
    · exact State.judgeWrite_kept _ _ _ _ _ (State.writeEffect_kept ..)

theorem State.writeItemOf_kept (s : State) (src : Source) (l : List WrItem) (x : WrItem) :
    Kept s ((State.writeItemOf s src l x).2.2) := by
  unfold State.writeItemOf
  dsimp only
  split
  · exact .refl _
  · exact State.writeItem_kept ..

theorem State.dropCopy_kept (s : State) (k : Nat) : Kept s (State.dropCopy s k) := by
  unfold State.dropCopy
  exact .upd (.refl _) rfl rfl rfl rfl rfl rfl rfl rfl rfl rfl

theorem State.putCopy_kept (s : State) (c : Copy) : Kept s (State.putCopy s c) := by
  unfold State.putCopy
  refine .upd ?_ rfl rfl rfl rfl rfl rfl rfl rfl rfl rfl
  exact State.dropCopy_kept ..

theorem State.copyBlock_kept (s : State) (src : Source) (e : Entry) (idx sub off : Nat) (b : List Byte) (lengths : List Nat)
    (fails : List Status) : Kept s (s.copyBlock src e idx sub off b lengths fails).2 := by
  have h : ∀ (c : Bool) (x : WrItem) (y : Copy), Kept s (if c then ((s.writeItem src x).1, (s.writeItem src x).2.2.dropCopy (key idx sub))
      else (Status.done, s.putCopy y)).2 := fun c x y => by
    cases c
    · exact State.putCopy_kept ..
    · exact (State.writeItem_kept ..).trans (State.dropCopy_kept ..)
  unfold State.copyBlock
  dsimp only
  split
  · exact h _ _ _
  · exact .refl _

theorem State.writeBlockItem_kept (s : State) (src : Source) (idx sub off : Nat) (b : List Byte) :
    Kept s (s.writeBlockItem src idx sub off b).2 := by
  unfold State.writeBlockItem
  split
  · exact .refl _
  · split
    · exact .refl _
    · dsimp only
      split
      · split
        · split
          · exact State.writeItem_kept ..
          · exact .refl _
        · exact State.copyBlock_kept ..
      · split
        · exact State.writeItem_kept ..
        · exact .refl _

theorem execPendingCopyExpiry_kept (entry : Nat) (s : State) : OutKept s (execPendingCopyExpiry entry s) := by
  unfold execPendingCopyExpiry
  exact .next (State.dropCopy_kept ..)

end Sys2Proof.Machine
end

