-- ==== Sys2Proof/Laws/KeptServer.lean ====
section
/-! SUPPORT. `Kept` of the operations of Machine/Server.lean, one lemma each. -/

namespace Sys2Proof.Machine

theorem State.acceptCounter_kept (s : State) (r : Req) : Kept s (State.acceptCounter s r) := by
  unfold State.acceptCounter
  split
  · exact .upd (.refl _) rfl rfl rfl rfl rfl rfl rfl rfl rfl rfl
  · exact .refl _

theorem State.refuse_kept (s : State) (r : Req) (op : Nat) (slot : Option Nat) (st : Status) (retry : Nat) :
    Kept s (State.refuse s r op slot st retry) := by
  unfold State.refuse
  refine .trans ?_ (State.sendAnswer_kept ..)
  refine .whenB ?_ ?_
  · exact State.makeResponse_kept ..
  · intro _
    exact State.keepAnswer_kept ..

theorem State.noteBusy_kept (s : State) (src : Source) : Kept s (State.noteBusy s src) := by
  unfold State.noteBusy
  refine .trans ?_ (State.inc32_kept ..)
  refine .trans ?_ (State.drawn_kept ..)
  exact .upd (.refl _) rfl rfl rfl rfl rfl rfl rfl rfl rfl rfl

theorem State.busyWhole_kept (s : State) (r : Req) (b : Body) : Kept s (State.busyWhole s r b) := by
  unfold State.busyWhole
  refine .ite ?_ ?_
  · exact State.inc32_kept ..
  · refine .trans ?_ (State.refuse_kept ..)
    exact State.noteBusy_kept ..

theorem State.readItems_kept (s : State) (src : Source) (room : Nat) (l : List RdItem) : Kept s (s.readItems src room l).2 := by
  induction l generalizing s room with
  | nil => exact .refl _
  | cons x r ih =>
    unfold State.readItems
    dsimp only
    split
    · exact .trans (.whenB (.refl _) fun _ => State.readEffect_kept ..) (ih _ _)
    · exact ih _ _

theorem State.writeItems_kept (s : State) (src : Source) (l : List WrItem) : Kept s (s.writeItems src l).state := by
  unfold State.writeItems
  suffices h : ∀ (m : List WrItem) (a : Reply), Kept s a.state → Kept s (m.foldl (fun a x =>
      let w := a.state.writeItemOf src l x
      { state := w.2.2, status := .done
        retry := max a.retry (if w.1 = .busy then w.2.1.getD s.retryMs else 0)
        items := a.items ++ [statusItem x.idx x.sub w.1]
        waits := a.waits || (decide (w.1 = .done) && a.state.waitsHome x) }) a).state from h l _ (.refl _)
  intro m
  induction m with
  | nil => exact fun a h => h
  | cons x r ih => exact fun a h => ih _ (h.trans (State.writeItemOf_kept ..))

theorem State.subscribeItem_kept (s : State) (src : Source) (idx sub period : Nat) :
    Kept s (s.subscribeItem src idx sub period).2.2 := by
  unfold State.subscribeItem
  dsimp only
  split
  · exact .upd (.refl _) rfl rfl rfl rfl rfl rfl rfl rfl rfl rfl
  · split
    · exact .refl _
    · split
      · exact .refl _
      · exact .upd (State.drawn_kept ..) rfl rfl rfl rfl rfl rfl rfl rfl rfl rfl
  · exact .refl _

theorem State.subscribeItems_kept (s : State) (src : Source) (l : List (RdItem × Nat)) :
    Kept s (s.subscribeItems src l).state := by
  unfold State.subscribeItems
  suffices h : ∀ (l : List (RdItem × Nat)) (a : Reply), Kept s a.state → Kept s (l.foldl (fun a x =>
      let w := a.state.subscribeItem src x.1.idx x.1.sub x.2
      { state := w.2.2, tag := if w.2.1 = 0 then a.tag else w.2.1
        items := a.items ++ [statusItem x.1.idx x.1.sub w.1] }) a).state from h l _ (.refl _)
  intro l
  induction l with
  | nil => exact fun a h => h
  | cons x r ih => exact fun a h => ih _ (h.trans (State.subscribeItem_kept ..))

theorem State.serveWriteBlock_kept (s : State) (src : Source) (idx sub off : Nat) (d : List Byte) :
    Kept s (s.serveWriteBlock src idx sub off d).state :=
  State.writeBlockItem_kept ..

theorem State.serveTransaction_kept (s : State) (r : Req) (target : Nat) (l : List WrItem) :
    Kept s (s.serveTransaction r target l).state := by
  have h : Kept s { s.drawn with tra := { s.tra with nextNum := s.tra.nextNum % 0xFFFFFFFF + 1 } } :=
    .upd (State.drawn_kept ..) rfl rfl rfl rfl rfl rfl rfl rfl rfl rfl
  unfold State.serveTransaction
  dsimp only
  split
  · exact h.trans (State.stage_kept ..)
  · exact ((h.trans (State.wrN_kept ..)).trans (State.wrN_kept ..)).trans (State.wrN_kept ..)

theorem State.serve_kept (s : State) (r : Req) (b : Body) : Kept s (s.serve r b).state := by
  cases b with
  | read l => exact State.readItems_kept ..
  | write l => exact State.writeItems_kept ..
  | readBlock i j off len => exact .refl _
  | writeBlock i j off d => exact State.serveWriteBlock_kept ..
  | transaction target l => exact State.serveTransaction_kept ..
  | subscribe l => exact State.subscribeItems_kept ..

theorem State.hold_kept (s : State) (r : Req) : Kept s (State.hold s r) := by
  unfold State.hold
  refine .ite ?_ ?_
  · refine .upd ?_ rfl rfl rfl rfl rfl rfl rfl rfl rfl rfl
    exact .upd (.refl _) rfl rfl rfl rfl rfl rfl rfl rfl rfl rfl
  · exact .upd (.refl _) rfl rfl rfl rfl rfl rfl rfl rfl rfl rfl

theorem State.holdQueued_kept (s : State) (r : Req) : Kept s (State.holdQueued s r) := by
  unfold State.holdQueued
  refine .ite ?_ ?_
  · refine .upd ?_ rfl rfl rfl rfl rfl rfl rfl rfl rfl rfl
    exact State.hold_kept ..
  · exact State.hold_kept ..

theorem State.takeUp_kept (s : State) (r : Req) : Kept s (State.takeUp s r) := by
  unfold State.takeUp
  refine .ite ?_ ?_
  · refine .upd ?_ rfl rfl rfl rfl rfl rfl rfl rfl rfl rfl
    exact .upd (.refl _) rfl rfl rfl rfl rfl rfl rfl rfl rfl rfl
  · exact .upd (.refl _) rfl rfl rfl rfl rfl rfl rfl rfl rfl rfl

theorem State.serveMessage_kept (s : State) (r : Req) (b : Body) : Kept s (s.serveMessage r b) := by
  have h : Kept s ((s.serve r b).state.whenB (decide (0 < (s.serve r b).retry)) State.drawn) :=
    .whenB (State.serve_kept ..) fun _ => State.drawn_kept ..
  unfold State.serveMessage
  dsimp only
  split
  · split
    · exact h.trans (State.hold_kept ..)
    · exact ((h.trans (State.hold_kept ..)).trans (State.makeResponse_kept ..)).trans (State.deferAnswer_kept ..)
  · split
    · exact ((h.trans (State.makeResponse_kept ..)).trans (State.sendAnswer_kept ..)).trans (State.inc32_kept ..)
    · split
      · exact ((h.trans (State.makeResponse_kept ..)).trans (State.sendAnswer_kept ..)).trans (State.inc32_kept ..)
      · exact (h.trans (State.makeResponse_kept ..)).trans (State.respond_kept ..)

theorem State.enqueue_kept (s : State) : Kept s (State.enqueue s) := by
  unfold State.enqueue
  exact State.atLeast_kept ..

theorem State.join_kept (s : State) (w : Waiting) : Kept s (State.join s w) := by
  unfold State.join
  exact .upd (.refl _) rfl rfl rfl rfl rfl rfl rfl rfl rfl rfl

theorem State.engage_kept (s : State) (src : Source) : Kept s (State.engage s src) := by
  unfold State.engage
  refine .upd ?_ rfl rfl rfl rfl rfl rfl rfl rfl rfl rfl
  exact State.drawn_kept ..

theorem State.serveTaken_kept (s : State) (r : Req) (b : Body) : Kept s (State.serveTaken s r b) := by
  unfold State.serveTaken
  refine .ite ?_ ?_
  · exact State.busyWhole_kept ..
  · exact State.serveMessage_kept ..

theorem State.dispatch_kept (s : State) (r : Req) (b : Body) : Kept s (State.dispatch s r b) := by
  unfold State.dispatch
  refine .ite ?_ ?_
  · refine .trans ?_ (State.refuse_kept ..)
    exact State.inc32_kept ..
  · refine .ite ?_ ?_
    · refine .trans ?_ (State.busyWhole_kept ..)
      exact State.acceptCounter_kept ..
    · refine .ite ?_ ?_
      · refine .trans ?_ (State.refuse_kept ..)
        refine .trans ?_ (State.inc32_kept ..)
        exact State.acceptCounter_kept ..
      · refine .ite ?_ ?_
        · refine .trans ?_ (State.refuse_kept ..)
          exact State.acceptCounter_kept ..
        · refine .ite ?_ ?_
          · refine .trans ?_ (State.holdQueued_kept ..)
            refine .trans ?_ (State.join_kept ..)
            refine .trans ?_ (State.enqueue_kept ..)
            exact State.acceptCounter_kept ..
          · refine .trans ?_ (State.engage_kept ..)
            refine .trans ?_ (State.serveMessage_kept ..)
            refine .trans ?_ (State.enqueue_kept ..)
            exact State.acceptCounter_kept ..

theorem State.unlessRepeat_kept {s t : State} {src : Source} {seq : Nat} {f : State → State} (h : Kept s t)
    (hf : ∀ v, Kept v (f v)) : Kept s (t.unlessRepeat src seq f) := by
  unfold State.unlessRepeat
  refine .ite h ?_
  split
  · exact h.trans (State.sendAnswer_kept ..)
  · exact h.trans (hf _)

theorem State.request_kept (s : State) (r : Req) (b : Body) : Kept s (State.request s r b) := by
  unfold State.request
  exact .ite (.refl _) (.ite (State.inc32_kept ..) (State.unlessRepeat_kept (.refl _) fun _ => State.dispatch_kept ..))

theorem execRead_kept (r : Req) (items : List RdItem) (s : State) : OutKept s (execRead r items s) := by
  unfold execRead
  exact .next (State.request_kept ..)

theorem execWrite_kept (r : Req) (items : List WrItem) (s : State) : OutKept s (execWrite r items s) := by
  unfold execWrite
  exact .next (State.request_kept ..)

theorem execReadBlock_kept (r : Req) (idx sub off len : Nat) (s : State) :
    OutKept s (execReadBlock r idx sub off len s) := by
  unfold execReadBlock
  exact .next (State.request_kept ..)

theorem execWriteBlock_kept (r : Req) (idx sub off : Nat) (data : List Byte) (s : State) :
    OutKept s (execWriteBlock r idx sub off data s) := by
  unfold execWriteBlock
  exact .next (State.request_kept ..)

theorem execTransaction_kept (r : Req) (target : Nat) (items : List WrItem) (s : State) :
    OutKept s (execTransaction r target items s) := by
  unfold execTransaction
  exact .next (State.request_kept ..)

theorem execSubscribe_kept (r : Req) (items : List (RdItem × Nat)) (s : State) : OutKept s (execSubscribe r items s) := by
  unfold execSubscribe
  exact .next (State.request_kept ..)

theorem State.sendNotification_kept (s : State) (o : Out) (src : Source) : Kept s (State.sendNotification s o src) := by
  unfold State.sendNotification
  split
  · refine .ite ?_ ?_
    · exact .refl _
    · refine .ite ?_ ?_
      · exact .upd (.refl _) rfl rfl rfl rfl rfl rfl rfl rfl rfl rfl
      · refine .whenB ?_ ?_
        · refine .trans ?_ (State.emit_kept ..)
          exact .upd (.refl _) rfl rfl rfl rfl rfl rfl rfl rfl rfl rfl
        · intro _
          exact State.vector_kept ..
  · refine .whenB ?_ ?_
    · exact .refl _
    · intro _
      exact State.emit_kept ..

theorem execNotify_kept (number : Nat) (s : State) : OutKept s (execNotify number s) := by
  unfold execNotify
  refine .next ?_
  split
  · refine .ite ?_ ?_
    · exact .refl _
    · dsimp only
      split
      · refine .trans ?_ (State.sendNotification_kept ..)
        refine .upd ?_ rfl rfl rfl rfl rfl rfl rfl rfl rfl rfl
        exact State.readItems_kept ..
      · refine .upd ?_ rfl rfl rfl rfl rfl rfl rfl rfl rfl rfl
        exact State.readItems_kept ..
  · exact .refl _

theorem execNeighbourSolicitation_kept (target : Nat) (s : State) : OutKept s (execNeighbourSolicitation target s) := by
  unfold execNeighbourSolicitation
  refine .next ?_
  refine .whenB ?_ ?_
  · exact .refl _
  · intro _
    exact State.emit_kept ..

theorem execIcmpEcho_kept (dst ident seqNo : Nat) (data : List Byte) (s : State) :
    OutKept s (execIcmpEcho dst ident seqNo data s) := by
  unfold execIcmpEcho
  refine .next ?_
  refine .whenB ?_ ?_
  · exact .refl _
  · intro _
    exact State.emit_kept ..

theorem execDadComplete_kept (duplicate : Bool) (s : State) : OutKept s (execDadComplete duplicate s) := by
  unfold execDadComplete
  refine .next ?_
  refine .ite ?_ ?_
  · exact .refl _
  · refine .whenB ?_ ?_
    · exact .upd (.refl _) rfl rfl rfl rfl rfl rfl rfl rfl rfl rfl
    · intro _
      exact State.raise_kept ..

theorem execPlcaBeacon_kept (s : State) : OutKept s (execPlcaBeacon s) := by
  unfold execPlcaBeacon
  refine .next ?_
  refine .whenB ?_ ?_
  · exact .refl _
  · intro _
    refine .whenB ?_ ?_
    · exact .upd (.refl _) rfl rfl rfl rfl rfl rfl rfl rfl rfl rfl
    · intro _
      exact State.emit_kept ..

theorem State.windowGo_kept (s : State) (op : MdioOp) (opcode : Nat) : Kept s (State.windowGo s op opcode) := by
  unfold State.windowGo
  exact .upd (.refl _) rfl rfl rfl rfl rfl rfl rfl rfl rfl rfl

theorem State.windowDone_kept (s : State) (st : Status) (retry : Nat) (val : List Byte) :
    Kept s (State.windowDone s st retry val) := by
  unfold State.windowDone
  refine .trans ?_ (State.sendAnswer_kept ..)
  exact .upd (.refl _) rfl rfl rfl rfl rfl rfl rfl rfl rfl rfl

theorem State.windowValue_kept (s : State) (ty : Option Nat) (val : List Byte) : Kept s (State.windowValue s ty val) := by
  unfold State.windowValue
  exact .upd (.refl _) rfl rfl rfl rfl rfl rfl rfl rfl rfl rfl

theorem State.windowItem_kept (s : State) (opcode : Nat) : Kept s (s.windowItem opcode).state := by
  unfold State.windowItem
  dsimp only
  split
  · exact .whenB (.refl _) fun _ => State.readEffect_kept ..
  · exact State.writeItemOf_kept ..
  · exact .refl _
  · exact State.writeBlockItem_kept ..

theorem State.windowServe_kept (s : State) (opcode : Nat) : Kept s (s.windowServe opcode) := by
  have h := State.windowItem_kept s opcode
  unfold State.windowServe
  dsimp only
  refine .ite ((State.inc32_kept ..).trans (State.windowDone_kept ..)) (.ite ?_ ?_)
  · exact (h.trans (State.inc32_kept ..)).trans (State.deferAnswer_kept ..)
  · refine .trans (.whenB (.whenB (h.trans (State.inc32_kept ..)) fun _ => ?_) fun _ => State.drawn_kept ..)
      (State.windowDone_kept ..)
    exact State.windowValue_kept ..

theorem State.windowBusy_kept (s : State) : Kept s (State.windowBusy s) := by
  unfold State.windowBusy
  refine .ite ?_ ?_
  · refine .trans ?_ (State.inc32_kept ..)
    exact .upd (.refl _) rfl rfl rfl rfl rfl rfl rfl rfl rfl rfl
  · refine .trans ?_ (State.windowDone_kept ..)
    exact State.noteBusy_kept ..

theorem State.windowStart_kept (s : State) (opcode : Nat) : Kept s (State.windowStart s opcode) := by
  unfold State.windowStart
  refine .ite ?_ ?_
  · refine .trans ?_ (State.windowDone_kept ..)
    exact State.inc32_kept ..
  · refine .ite ?_ ?_
    · exact State.windowBusy_kept ..
    · refine .ite ?_ ?_
      · refine .trans ?_ (State.windowDone_kept ..)
        exact State.inc32_kept ..
      · refine .ite ?_ ?_
        · exact State.windowDone_kept ..
        · refine .ite ?_ ?_
          · refine .trans ?_ (State.join_kept ..)
            exact State.enqueue_kept ..
          · refine .trans ?_ (State.engage_kept ..)
            refine .trans ?_ (State.windowServe_kept ..)
            exact State.enqueue_kept ..

theorem State.window_kept (s : State) (op : MdioOp) (opcode : Nat) : Kept s (State.window s op opcode) := by
  unfold State.window
  refine .ite ?_ ?_
  · exact .refl _
  · refine .trans ?_ (State.windowStart_kept ..)
    exact State.windowGo_kept ..

theorem execMdioRead_kept (op : MdioOp) (s : State) : OutKept s (execMdioRead op s) := by
  unfold execMdioRead
  exact .next (State.window_kept ..)

theorem execMdioWrite_kept (op : MdioOp) (s : State) : OutKept s (execMdioWrite op s) := by
  unfold execMdioWrite
  exact .next (State.window_kept ..)

theorem execMdioReadBlock_kept (op : MdioOp) (s : State) : OutKept s (execMdioReadBlock op s) := by
  unfold execMdioReadBlock
  exact .next (State.window_kept ..)

theorem execMdioWriteBlock_kept (op : MdioOp) (s : State) : OutKept s (execMdioWriteBlock op s) := by
  unfold execMdioWriteBlock
  exact .next (State.window_kept ..)

theorem execMdioBadOpcode_kept (op : MdioOp) (opcode : Nat) (s : State) : OutKept s (execMdioBadOpcode op opcode s) := by
  unfold execMdioBadOpcode
  refine .next ?_
  refine .ite ?_ ?_
  · refine .trans ?_ (State.windowDone_kept ..)
    exact State.windowGo_kept ..
  · exact .refl _

theorem State.serveQueue_kept (s : State) (n : Nat) : Kept s (s.serveQueue n) := by
  induction n generalizing s with
  | zero => exact .refl _
  | succ n ih =>
    unfold State.serveQueue
    split
    · exact .refl _
    · split
      · exact .trans (.upd (.refl _) rfl rfl rfl rfl rfl rfl rfl rfl rfl rfl) (ih _)
      · dsimp only
        have hu : ∀ x : Server, Kept s { s with srv := x } := fun x => .upd (.refl _) rfl rfl rfl rfl rfl rfl rfl rfl rfl rfl
        refine .trans ?_ (ih _)
        split
        · exact ((hu _).trans (State.takeUp_kept ..)).trans (State.serveTaken_kept ..)
        · exact .ite ((hu _).trans (State.windowBusy_kept ..)) ((hu _).trans (State.windowServe_kept ..))

theorem State.serverTick_kept (s : State) : Kept s (State.serverTick s) := by
  unfold State.serverTick
  refine .ite ?_ ?_
  · exact .refl _
  · refine .trans ?_ (State.serveQueue_kept ..)
    exact .upd (.refl _) rfl rfl rfl rfl rfl rfl rfl rfl rfl rfl

theorem State.windowData_kept (s : State) (write : Option (BitVec 16)) : Kept s (State.windowData s write) := by
  unfold State.windowData
  split
  · refine .ite ?_ ?_
    · refine .trans ?_ (State.emit_kept ..)
      exact .upd (.refl _) rfl rfl rfl rfl rfl rfl rfl rfl rfl rfl
    · refine .trans ?_ (State.emit_kept ..)
      refine .trans ?_ (State.drawn_kept ..)
      exact .upd (.refl _) rfl rfl rfl rfl rfl rfl rfl rfl rfl rfl
  · refine .ite ?_ ?_
    · refine .upd ?_ rfl rfl rfl rfl rfl rfl rfl rfl rfl rfl
      exact .upd (.refl _) rfl rfl rfl rfl rfl rfl rfl rfl rfl rfl
    · refine .whenB ?_ ?_
      · refine .trans ?_ (State.drawn_kept ..)
        exact .upd (.refl _) rfl rfl rfl rfl rfl rfl rfl rfl rfl rfl
      · intro _
        exact .upd (.refl _) rfl rfl rfl rfl rfl rfl rfl rfl rfl rfl

theorem State.mdioWriteRegister_kept (s : State) (reg v : Nat) : Kept s (State.mdioWriteRegister s reg v) := by
  unfold State.mdioWriteRegister
  split
  · refine .ite ?_ ?_
    · exact .refl _
    · refine .ite ?_ ?_
      · exact .upd (.refl _) rfl rfl rfl rfl rfl rfl rfl rfl rfl rfl
      · refine .ite ?_ ?_
        · refine .trans ?_ (State.windowStart_kept ..)
          refine .upd ?_ rfl rfl rfl rfl rfl rfl rfl rfl rfl rfl
          exact .upd (.refl _) rfl rfl rfl rfl rfl rfl rfl rfl rfl rfl
        · refine .trans ?_ (State.windowDone_kept ..)
          refine .upd ?_ rfl rfl rfl rfl rfl rfl rfl rfl rfl rfl
          exact .upd (.refl _) rfl rfl rfl rfl rfl rfl rfl rfl rfl rfl
  · exact .upd (.refl _) rfl rfl rfl rfl rfl rfl rfl rfl rfl rfl
  · exact .upd (.refl _) rfl rfl rfl rfl rfl rfl rfl rfl rfl rfl
  · exact .upd (.refl _) rfl rfl rfl rfl rfl rfl rfl rfl rfl rfl
  · exact .upd (.refl _) rfl rfl rfl rfl rfl rfl rfl rfl rfl rfl
  · exact .upd (.refl _) rfl rfl rfl rfl rfl rfl rfl rfl rfl rfl
  · exact .upd (.refl _) rfl rfl rfl rfl rfl rfl rfl rfl rfl rfl
  · exact .refl _

theorem execWinDataAccess_kept (a : RegAccess) (s : State) : OutKept s (execWinDataAccess a s) := by
  unfold execWinDataAccess
  refine .next ?_
  refine .ite ?_ ?_
  · exact .refl _
  · refine .ite ?_ ?_
    · exact State.windowData_kept ..
    · split
      · exact State.emit_kept ..
      · exact State.mdioWriteRegister_kept ..

theorem State.refuseMalformed_kept (s : State) (r : Req) (op : Nat) (msg : List Byte) :
    Kept s (State.refuseMalformed s r op msg) := by
  unfold State.refuseMalformed
  refine .ite (.refl _) (.ite (State.inc32_kept ..) (State.unlessRepeat_kept (.refl _) fun _ => .ite ?_ ?_))
  · exact (State.acceptCounter_kept ..).trans (State.refuse_kept ..)
  · exact (State.inc32_kept ..).trans (State.refuse_kept ..)

theorem execMailboxDoorbell_kept (ctrl : BitVec 32) (len : Nat) (msg : List Byte) (s : State) :
    OutKept s (execMailboxDoorbell ctrl len msg s) := by
  unfold execMailboxDoorbell
  refine .next ?_
  refine .ite ?_ ?_
  · exact .refl _
  · refine .ite ?_ ?_
    · exact .upd (.refl _) rfl rfl rfl rfl rfl rfl rfl rfl rfl rfl
    · refine .ite ?_ ?_
      · exact .upd (.refl _) rfl rfl rfl rfl rfl rfl rfl rfl rfl rfl
      · refine .ite ?_ ?_
        · refine .trans ?_ (State.inc32_kept ..)
          exact .upd (.refl _) rfl rfl rfl rfl rfl rfl rfl rfl rfl rfl
        · dsimp only
          split
          · refine .trans ?_ (State.request_kept ..)
            exact .upd (.refl _) rfl rfl rfl rfl rfl rfl rfl rfl rfl rfl
          · refine .trans ?_ (State.refuseMalformed_kept ..)
            exact .upd (.refl _) rfl rfl rfl rfl rfl rfl rfl rfl rfl rfl

theorem execMailboxStatusClear_kept (mask : BitVec 32) (s : State) : OutKept s (execMailboxStatusClear mask s) := by
  unfold execMailboxStatusClear
  refine .next ?_
  refine .ite ?_ ?_
  · exact .refl _
  · exact .upd (.refl _) rfl rfl rfl rfl rfl rfl rfl rfl rfl rfl

theorem execDridaWriteGroupWide_kept (item : WrItem) (fromMaster : Bool) (s : State) :
    OutKept s (execDridaWriteGroupWide item fromMaster s) := by
  unfold execDridaWriteGroupWide
  refine .next ?_
  split
  · refine .ite ?_ ?_
    · exact .refl _
    · refine .ite ?_ ?_
      · refine .ite ?_ ?_
        · exact .refl _
        · split
          · exact State.takeDistribution_kept ..
          · exact .refl _
      · refine .ite ?_ ?_
        · exact .refl _
        · refine .ite ?_ ?_
          · refine .trans ?_ (State.deferAnswer_kept ..)
            refine .whenB ?_ ?_
            · refine .whenB ?_ ?_
              · exact State.writeItemOf_kept ..
              · intro _
                exact State.inc32_kept ..
            · intro _
              refine .trans ?_ (State.drawn_kept ..)
              exact State.inc32_kept ..
          · refine .trans ?_ (State.emit_kept ..)
            refine .whenB ?_ ?_
            · refine .whenB ?_ ?_
              · exact State.writeItemOf_kept ..
              · intro _
                exact State.inc32_kept ..
            · intro _
              refine .trans ?_ (State.drawn_kept ..)
              exact State.inc32_kept ..
  · exact .refl _

end Sys2Proof.Machine
end

