-- ==== Sys2Proof/Laws/KeptDma.lean ====
section
/-! SUPPORT. `Kept` of the operations of Machine/Dma.lean, one lemma each. -/

namespace Sys2Proof.Machine

/-- A part of a burst keeps what every operation keeps. -/
def PartKept {α : Type} (s : State) : Part α → Prop
  | .ok b _ => Kept s b.s
  | .stop t => Kept s t

theorem PartKept.andThen {α β : Type} {s : State} {p : Part α} {f : Burst → α → Part β} (h : PartKept s p)
    (hf : ∀ b v, Kept s b.s → PartKept s (f b v)) : PartKept s (p.andThen f) := by
  cases p with
  | ok b v => exact hf b v h
  | stop t => exact h

theorem PartKept.out {s : State} (p : Part Unit) :
    PartKept s p → Kept s (match p with | .ok b _ => b.s | .stop t => t) := by
  cases p <;> exact fun h => h

theorem PartKept.ite {α : Type} {c : Prop} [Decidable c] {s : State} {p q : Part α} (h : PartKept s p) (k : PartKept s q) :
    PartKept s (if c then p else q) := by
  split <;> assumption

theorem Burst.fail_kept {α : Type} {s : State} {b : Burst} {c n err : Nat} (h : Kept s b.s) :
    PartKept (α := α) s (b.fail c n err) :=
  h.trans (State.dmaError_kept ..)

theorem Burst.takeHost_kept {s : State} {b : Burst} {c n : Nat} {ok : Bool} {len err : Nat} (h : Kept s b.s) :
    PartKept s (b.takeHost c n ok len err) := by
  unfold Burst.takeHost
  exact .ite h (Burst.fail_kept h)

theorem Burst.readPiece_kept {s : State} {b : Burst} {x : Answers} {c n a len : Nat} (h : Kept s b.s) :
    PartKept s (b.readPiece x c n a len) := by
  have hw := h.trans (State.windowHit_kept b.s a)
  unfold Burst.readPiece
  dsimp only
  split
  · exact h.trans (State.dmaDecode_kept ..)
  · refine .ite (h.trans (State.dmaDecode_kept ..)) (.ite (Burst.fail_kept h) ?_)
    split
    · exact .ite (Burst.fail_kept hw) (Burst.takeHost_kept (hw.trans (State.remoteRequests_kept ..)))
    · exact .ite (Burst.fail_kept (hw.trans (State.inc32_kept ..))) hw
    · split
      · exact .ite hw (Burst.fail_kept hw)
      · exact Burst.fail_kept (hw.trans (State.poisonRead_kept ..))

theorem Burst.matrixRead_kept {s : State} {b : Burst} {x : Answers} {c n a len : Nat} (h : Kept s b.s) :
    PartKept s (b.matrixRead x c n a len) := by
  unfold Burst.matrixRead
  exact .andThen (Burst.readPiece_kept h) fun b v h => .ite h (.andThen (Burst.readPiece_kept h) fun b w h => h)

theorem Burst.writePiece_kept {s : State} {b : Burst} {x : Answers} {c n a : Nat} {v : List Byte} (h : Kept s b.s) :
    PartKept s (b.writePiece x c n a v) := by
  have hh := h.trans (State.windowHit_kept b.s a)
  unfold Burst.writePiece
  dsimp only
  split
  · exact h.trans (State.dmaDecode_kept ..)
  · refine .ite (h.trans (State.dmaDecode_kept ..)) (.ite (Burst.fail_kept h) ?_)
    split
    · exact hh.trans (State.remoteRequests_kept ..)
    · split
      · rename_i hw
        exact hh.trans (State.matrixWrite_kept _ _ _ _ hw)
      · exact Burst.fail_kept (hh.trans (State.poisonRead_kept ..))

theorem Burst.matrixWrite_kept {s : State} {b : Burst} {x : Answers} {c n a : Nat} {v : List Byte} (h : Kept s b.s) :
    PartKept s (b.matrixWrite x c n a v) := by
  unfold Burst.matrixWrite
  exact .andThen (Burst.writePiece_kept h) fun b _ h => .ite h (Burst.writePiece_kept h)

theorem Burst.fetch_kept {s : State} {b : Burst} {x : Answers} {c : Nat} {write : Bool} {u : Cursor} (h : Kept s b.s) :
    PartKept s (b.fetch x c write u) := by
  unfold Burst.fetch
  refine .ite h (.andThen (.ite (Burst.takeHost_kept h) (Burst.matrixRead_kept h)) fun b v h => ?_)
  refine .ite (Burst.fail_kept h) (.ite (.ite (Burst.fail_kept h) (.ite (Burst.fail_kept h) h)) (.ite (Burst.fail_kept h)
    (.ite h (.ite (.ite (Burst.fail_kept h) ?_) h))))
  split
  · exact h
  · exact Burst.fail_kept (h.trans (State.wrN_kept ..))

theorem State.putChan_kept (s : State) (c : Nat) (x : Chan) : Kept s (State.putChan s c x) := by
  unfold State.putChan
  exact .upd (.refl _) rfl rfl rfl rfl rfl rfl rfl rfl rfl rfl

theorem Burst.move_kept {s : State} {b : Burst} {x : Answers} {c : Nat} {ch : Chan} {n : Nat} (h : Kept s b.s) :
    PartKept s (b.move x c ch n) := by
  unfold Burst.move
  refine .andThen ?_ fun b v h => .andThen ?_ fun b ch h => ?_
  · split
    · exact Burst.matrixRead_kept h
    · exact Burst.takeHost_kept h
    · exact h
  · split
    · exact .andThen (Burst.matrixWrite_kept h) fun _ _ h => h
    · exact h.trans (State.emit_kept ..)
    · exact h
  · exact ((h.trans (State.bump_kept ..)).trans (State.bump_kept ..)).trans (State.putChan_kept ..)

theorem execDmaBurst_kept (c : Fin 64) (host : List Byte) (pcieOk matrixOk memoryOk : Bool) (s : State) :
    OutKept s (execDmaBurst c host pcieOk matrixOk memoryOk s) := by
  unfold execDmaBurst
  refine .next ?_
  split
  · exact .refl _
  · refine .ite (.refl _) (.ite (.refl _) ?_)
    refine PartKept.out _ (.andThen (Burst.fetch_kept (.refl _)) fun b src h => .andThen (Burst.fetch_kept h) fun b dst h => ?_)
    have hp := fun y => h.trans (State.putChan_kept b.s c.val y)
    exact .ite (Burst.fail_kept (hp _)) (.ite (Burst.fail_kept (hp _)) (.ite (hp _) (Burst.move_kept (hp _))))

theorem State.applyGathered_kept (s : State) (c : Nat) (l : List (Nat × List Byte)) : Kept s (s.applyGathered c l).2 := by
  induction l generalizing s with
  | nil => exact .refl _
  | cons g r ih =>
    unfold State.applyGathered
    dsimp only
    split
    · exact (State.writeBlockItem_kept ..).trans (ih _)
    · exact .refl _

theorem execDmaComplete_kept (c : Fin 64) (s : State) : OutKept s (execDmaComplete c s) := by
  unfold execDmaComplete
  refine .next ?_
  split
  · exact .refl _
  · refine .ite ?_ ?_
    · exact .refl _
    · dsimp only
      split
      · refine .trans ?_ (State.dmaEnd_kept ..)
        refine .trans ?_ (State.wrB_kept ..)
        exact State.applyGathered_kept ..
      · refine .trans ?_ (State.dmaError_kept ..)
        refine .trans ?_ (State.wrN_kept ..)
        exact State.applyGathered_kept ..

theorem execDmaSettled_kept (c : Fin 64) (s : State) : OutKept s (execDmaSettled c s) := by
  unfold execDmaSettled
  refine .next ?_
  refine .whenB ?_ ?_
  · exact .refl _
  · intro _
    exact State.wrB_kept ..

theorem execDmaLateError_kept (c : Fin 64) (s : State) : OutKept s (execDmaLateError c s) := by
  unfold execDmaLateError
  exact .next (State.dmaLate_kept ..)

end Sys2Proof.Machine
end

