-- ==== Sys2Proof/Laws/KeptBoundary.lean ====
section
/-! SUPPORT. `Kept` of the operations of Machine/Boundary.lean, one lemma each. -/

namespace Sys2Proof.Machine

theorem execLfReceive_kept (k : Fin 32) (lf : LfIn) (s : State) : OutKept s (execLfReceive k lf s) := by
  unfold execLfReceive
  refine .next ?_
  refine .trans ?_ (State.protAll_kept ..)
  refine .trans ?_ (State.sealGone_kept ..)
  refine .ite ?_ ?_
  · exact State.lfIn_kept ..
  · refine .trans ?_ (State.dropBad_kept ..)
    exact State.lfIn_kept ..

theorem State.mapAll_kept (s : State) (arrived : List (Nat × List Bool)) : Kept s (State.mapAll s arrived) := by
  unfold State.mapAll
  refine .each ?_ ?_
  · exact .refl _
  · intro _ _
    exact State.mapCbr_kept ..

theorem execMultiframeBoundary_kept (arrived : List (Nat × List Bool)) (s : State) :
    OutKept s (execMultiframeBoundary arrived s) := by
  unfold execMultiframeBoundary
  refine .next ?_
  refine .ite ?_ ?_
  · exact .refl _
  · refine .trans ?_ (State.protAll_kept ..)
    refine .trans ?_ (State.faultCheck_kept ..)
    refine .trans ?_ (State.sealDefects_kept ..)
    refine .trans ?_ (State.mapAll_kept ..)
    refine .trans ?_ (State.txBoundary_kept ..)
    refine .trans ?_ (State.channelMessages_kept ..)
    refine .trans ?_ (State.epochsDue_kept ..)
    refine .trans ?_ (State.commitDue_kept ..)
    refine .upd ?_ rfl rfl rfl rfl rfl rfl rfl rfl rfl rfl
    refine .trans ?_ (State.departure_kept ..)
    exact State.inc64_kept ..

theorem State.timeTick_kept (s : State) : Kept s (State.timeTick s) := by
  unfold State.timeTick
  refine .ite ?_ ?_
  · exact .refl _
  · split
    · refine .ite ?_ ?_
      · exact .upd (.refl _) rfl rfl rfl rfl rfl rfl rfl rfl rfl rfl
      · exact .upd (.refl _) rfl rfl rfl rfl rfl rfl rfl rfl rfl rfl
    · exact .upd (.refl _) rfl rfl rfl rfl rfl rfl rfl rfl rfl rfl

theorem State.isolationTick_kept (s : State) : Kept s (State.isolationTick s) := by
  unfold State.isolationTick
  refine .ite ?_ ?_
  · exact .refl _
  · refine .whenB ?_ ?_
    · refine .upd ?_ rfl rfl rfl rfl rfl rfl rfl rfl rfl rfl
      refine .each ?_ ?_
      · exact .refl _
      · intro _ _
        exact State.islandReset_kept ..
    · intro _
      exact State.clear_kept ..

theorem State.tick_kept (s : State) : Kept { s with uptime := s.uptime + 1 } s.tick := by
  unfold State.tick
  refine .whenB (.whenB ?_ fun _ => State.timingReturn_kept ..) fun _ => State.inc32_kept ..
  refine .trans ?_ (State.wakeTick_kept ..)
  refine .trans ?_ (State.isolationTick_kept ..)
  refine .trans ?_ (State.bobDispatch_kept ..)
  refine .trans ?_ (State.dumpTick_kept ..)
  refine .trans ?_ (State.serverTick_kept ..)
  exact .whenB (State.timeTick_kept ..) fun _ => State.countLevels_kept ..

end Sys2Proof.Machine
end

