-- ==== Sys2Proof/Laws/Matrix.lean ====
section
/-! SUPPORT. What a read through the control matrix answers: bytes where no word is poisoned, none where a piece meets a poisoned
word (R464, R466, R482). -/

namespace Sys2Proof.Machine

/-- With no poisoned word every redirected address reads. -/
theorem State.matrixRead_of_no_poison (s : State) (h : s.mms.poison = []) (a n : Nat) : ∃ b, s.matrixRead a n = some b := by
  unfold State.matrixRead
  have hp : ∀ id w, s.poisoned id w = false := fun id w => by simp [State.poisoned, h]
  split
  · exact ⟨_, by rw [if_neg]; simp [hp]⟩
  · split <;> exact ⟨_, rfl⟩

/-- A master reads a whole range where no word is poisoned. -/
theorem State.masterRead_of_no_poison (s : State) (h : s.mms.poison = []) (a n : Nat) : ∃ b, s.masterRead a n = some b := by
  unfold State.masterRead
  induction matrixPieces a n with
  | nil => exact ⟨[], rfl⟩
  | cons p l ih =>
    obtain ⟨b, hb⟩ := s.matrixRead_of_no_poison h (s.redirect p.1) p.2
    obtain ⟨c, hc⟩ := ih
    exact ⟨b ++ c, by simp only [List.foldr_cons, hb, hc]⟩

/-- A piece that does not read leaves the whole read without bytes. -/
theorem State.masterRead_of_poison (s : State) {a n : Nat} {p : Nat × Nat} (hp : p ∈ matrixPieces a n)
    (h : s.matrixRead (s.redirect p.1) p.2 = none) : s.masterRead a n = none := by
  unfold State.masterRead
  generalize matrixPieces a n = l at hp
  induction l with
  | nil => cases hp
  | cons q l ih =>
    simp only [List.foldr_cons]
    rcases List.mem_cons.mp hp with rfl | hq
    · rw [h]
    · rw [ih hq]; split <;> simp_all

end Sys2Proof.Machine
end

