-- ==== Sys2Proof/Machine/Overhead.lean ====
section
/-! DEFINITION. The information bits that the framer sends in the multiframe in progress: the overhead with the channels it
carries, and the tenants' containers (spec/08_line_frame.md R229, R237 to R243, R248). -/

namespace Sys2Proof.Machine

/-- The overhead of LF `i` of thread k in the multiframe in progress. The carrier-scope fields do not depend on k; the map
channel goes on from segment to segment without end (R237, R238, R249). -/
def State.overheadOf (s : State) (k i : Nat) : List Byte :=
  s.overheadSent k i (s.rdN 0x8000 9) (16 * s.mf + i) (s.apsSent i) s.tim.sentStamps (s.transactionSent i) (s.ackSent i)

/-- Whether the sender puts LFs on thread k: transmit status ACTIVE, RETIRING or READMITTING (R238). -/
def State.sendsThread (s : State) (k : Nat) : Bool := s.txStatus k == 1 || s.txStatus k == 2 || s.txStatus k == 3

/-! ### The frame -/

/-- The information bits of LF `i` of each thread that is sent, in the multiframe in progress. `container n` is what tenant n's stitches
carry in it, as SHAPER_POSITION has put them together (R145, R229, R238, R248). -/
def State.frameSent (s : State) (container : Nat → List Byte) (k i : Nat) : Option (List Bool) :=
  if s.sendsThread k then some (s.infoSent s.overheadOf (fun n => byteBits (container n)) k i) else none

end Sys2Proof.Machine
end

