-- ==== Sys2Proof/Machine/Pins.lean ====
section
/-! DEFINITION. The board's side of the device: supply rails and power (spec/18_power_reset.md R518, R519, R524), what every output
does (R538), and the package, its balls and the electrical figures of its pins (spec/20_pins.md R560 to R576). Nothing here changes
state. -/

namespace Sys2Proof.Machine

/-! ### Rails (R518, R567) -/

/-- A rail: its group of R519, nominal in mV (none for VDD_CORE, whose nominal is the set point), tolerances below and above in
tenths of a percent, maximum current in mA, and absolute maximum in mV. -/
structure Rail where
  name : String
  group : Nat
  nominal : Option Nat
  below : Nat
  above : Nat
  current : Nat
  absolute : Nat
  deriving DecidableEq, Repr

/-- The nine rails, in the order of R518. -/
def rails : List Rail := [
  ⟨"VDD_CORE", 2, none, 15, 30, 200000, 900⟩, ⟨"VDD_SRAM", 2, some 750, 30, 30, 20000, 950⟩,
  ⟨"VDDA_CNV", 2, some 900, 20, 20, 18000, 1050⟩, ⟨"VDDH_CNV", 3, some 1200, 20, 20, 8000, 1400⟩,
  ⟨"VDD_SER", 2, some 800, 20, 20, 30000, 950⟩, ⟨"VDDH_SER", 3, some 1200, 30, 30, 6000, 1400⟩,
  ⟨"VDD_IO", 3, some 1800, 50, 50, 1000, 2100⟩, ⟨"VDD_AON", 1, some 800, 30, 30, 1000, 900⟩,
  ⟨"VDDIO_AON", 1, some 3300, 50, 50, 200, 3900⟩]

/-- Whether a rail at `mv` is within its tolerance (R518). -/
def Rail.good (r : Rail) (setPoint mv : Nat) : Bool :=
  let n := r.nominal.getD setPoint
  decide ((1000 - r.below) * n ≤ 1000 * mv) && decide (1000 * mv ≤ (1000 + r.above) * n)

/-- Whether a rail at `mv` is lost: below 90 % of its nominal (R521). -/
def Rail.lost (r : Rail) (setPoint mv : Nat) : Bool := decide (10 * mv < 9 * r.nominal.getD setPoint)

/-- The next set point a host may declare on its way to a target: at most 10 mV away (R523). -/
def nextSetPoint (setPoint target : Int) : Int := setPoint + max (-10) (min 10 (target - setPoint))

/-- The typical power of the blocks in 0.1 W, in L3200 service at 85 °C with the default cap of 10 and bobbin ports idle, and what 16
iterations and bobbin ports in use add (R524). -/
def typicalPower : List (String × Nat) := [
  ("ADCs", 120), ("DACs", 80), ("Receive DSP", 280), ("Transmit DSP", 60), ("FEC", 160), ("Framer and sealing", 50),
  ("Grooming and buffer", 90), ("Host lanes", 160), ("Engines", 80), ("Matrix and memories", 50), ("PCIe", 15),
  ("Always-on and timing", 6)]
def sixteenIterationsAdd : Nat := 60
def bobbinPortsAdd : Nat := 160
def maximumPower : Nat := 1500

/-! ### Pin states (R538) -/

/-- The outputs of R538. -/
inductive OutPin where
  | t1s | mdio | xspi | pcieTx | wakeN | txEnable | dac | hostTx (l : Fin 16) | bobbinTx (b : Fin 16) | grpAlertN | ppsOut
  | clkOut (i : Fin 2) | feSclk (c : Fin 4) | feMosi | feCsN (c : Fin 4)
  deriving DecidableEq, Repr

/-- What an output does: high-impedance, released, silent or in electrical idle, at a level, or carrying what its function sends. -/
inductive PinState where
  | highZ | released | idle | low | high | driven
  deriving DecidableEq, Repr

/-- A level as a pin state. -/
def PinState.level (b : Bool) : PinState := if b then .high else .low

/-- The state of an output between its transfers, by the supplies, the mode, the configuration of the outputs and its own block
(R3, R165, R166, R385, R398, R420, R444, R538). -/
def State.pin (s : State) (p : OutPin) : PinState :=
  let reset := s.inMode .reset
  match p with
  | .t1s => if !s.on 0 then .highZ else if (!s.pow.released && !s.srv.addrValid) || s.srv.silent then .idle else .driven
  | .mdio => if reset || !s.srv.mdioOn then .highZ else .driven
  | .xspi => if reset || s.bootSrc == 3 then .highZ else .driven
  | .pcieTx => if reset then .highZ else .driven
  | .wakeN => if s.lan.wakeLow then .low else .released
  | .txEnable => match s.txEnablePin with | some v => .level v | none => .highZ
  | .dac =>
    if !s.pow.configured then .highZ
    else match s.dacDrive with | .highZ => .highZ | .zero => .idle | _ => .driven
  | .hostTx l =>
    if !s.pow.configured then .highZ
    else if s.inMode .quiet || s.inMode .safe || !bit s.lanesPowered l.val then .idle else .driven
  | .bobbinTx b =>
    if !s.pow.configured || s.is1608 then .highZ
    else if s.linkState (b.val / 8) == 0 || s.rdB (0x9060 + b.val / 8) 8 then .idle else .driven
  | .grpAlertN =>
    if s.is1608 then .highZ
    else if s.pow.configured && decide (s.alertCauses &&& s.rdN 0x8C00 6 ≠ 0) then .low else .released
  | .ppsOut =>
    if !s.pow.configured then .highZ else if !s.rdB 0x8050 1 || s.squelched then .low else .driven
  | .clkOut i => if !s.pow.configured then .highZ else match s.clockOut i.val with | some _ => .driven | none => .low
  | .feSclk c => if !s.pow.configured then .highZ else .level (decide (2 ≤ s.rdN (0x2041 + c.val) 2))
  | .feMosi => if !s.pow.configured then .highZ else .low
  | .feCsN _ => if !s.pow.configured then .highZ else .high

/-! ### The package (R560 to R563) -/

/-- Body side, height, and pitch and ball diameter in µm; rows and columns of the ball array (R560). -/
def bodyUm : Nat := 70000
def heightUm : Nat := 4200
def pitchUm : Nat := 1000
def ballUm : Nat := 600
def ballRows : Nat := 69

/-- A block of balls: rows and columns, first and last (R561). -/
structure BallBlock where
  name : String
  rows : Nat × Nat
  columns : Nat × Nat
  signals : List String
  deriving DecidableEq, Repr

/-- The two lines of a differential pair, _P before _N. -/
def pair (n : String) : List String := [n ++ "_P", n ++ "_N"]

/-- The names of a numbered signal from `lo` for `n`. -/
def numbered (n : String) (count : Nat) : List String := (List.range count).map fun i => n ++ toString i

/-- The bits of a bus from the highest down, as the table writes them. -/
def busDown (n : String) (count : Nat) : List String := (List.range count).reverse.map fun i => n ++ toString i

/-- The lanes of an interface, each with its transmit pair and its receive pair. -/
def lanePairs (n : String) (count : Nat) : List String :=
  (numbered n count).flatMap fun l => pair (l ++ "_TX") ++ pair (l ++ "_RX")

/-- The signal blocks with their signals in the order of R563; a bus is taken from its highest bit down, and a lane's pairs together
(DEDUCED, log entry 174). -/
def ballBlocks : List BallBlock := [
  ⟨"Front end", (1, 4), (1, 24),
    ["FE_SCLK", "FE_MOSI", "FE_MISO", "FE_CS0_N", "FE_CS1_N", "FE_CS2_N", "FE_CS3_N", "TX_ENABLE", "CALREF_V"] ++ pair "SYNTH_REF"⟩,
  ⟨"Converter", (1, 4), (25, 44),
    ["ADC_XI", "ADC_XQ", "ADC_YI", "ADC_YQ", "DAC_XI", "DAC_XQ", "DAC_YI", "DAC_YQ"].flatMap pair⟩,
  ⟨"Housekeeping", (1, 4), (45, 69), numbered "HK_IN" 32 ++ ["HK_VREF", "HK_IEXC0", "HK_IEXC1"]⟩,
  ⟨"Bobbin W", (5, 60), (1, 4), lanePairs "BW" 8⟩,
  ⟨"Bobbin E", (5, 60), (66, 69), lanePairs "BE" 8⟩,
  ⟨"Control and timing", (61, 63), (1, 69),
    (numbered "PCIE_TX" 4).flatMap pair ++ (numbered "PCIE_RX" 4).flatMap pair ++ pair "PCIE_REFCLK"
      ++ ["PERST_N", "WAKE_N", "T1S_P", "T1S_N", "MDC", "MDIO", "XSPI_SCLK", "XSPI_CS_N"] ++ numbered "XSPI_DQ" 8
      ++ ["XSPI_DQS", "XSPI_RESET_N"] ++ (numbered "REFIN" 4).flatMap pair
      ++ ["PPS_IN0", "PPS_IN1", "PM_SYNC", "XO_IN", "PPS_OUT"] ++ (numbered "CLK_OUT" 2).flatMap pair
      ++ ["GRP_ALERT_N", "PWR_WARN_N", "RESET_N"] ++ busDown "GRP_POS" 2 ++ ["MASTER"] ++ busDown "PLCA_ID" 6
      ++ busDown "PRTAD" 5 ++ busDown "BOOT_SRC" 2 ++ pair "VSENSE_CORE" ++ numbered "TEST" 24⟩,
  ⟨"Host lanes", (64, 69), (1, 69), lanePairs "HL" 16⟩]

/-- Whether ball (r, c) lies in a block. -/
def BallBlock.has (b : BallBlock) (r c : Nat) : Bool :=
  decide (b.rows.1 ≤ r ∧ r ≤ b.rows.2) && decide (b.columns.1 ≤ c ∧ c ≤ b.columns.2)

/-- The balls of a block. -/
def BallBlock.balls (b : BallBlock) : Nat := (b.rows.2 - b.rows.1 + 1) * (b.columns.2 - b.columns.1 + 1)

/-- What a ball carries (R561, R562). Which rail an interior ball carries is given by regions only. -/
inductive Ball where
  | signal (name : String) | vss | rail | none
  deriving DecidableEq, Repr

/-- Ball (r, c): in a signal block the signals fill the first balls row by row, and the rest are VSS; in the interior an odd r + c is
VSS and an even one a rail (R561, R562). -/
def ballAt (r c : Nat) : Ball :=
  if r < 1 ∨ ballRows < r ∨ c < 1 ∨ ballRows < c then .none
  else match ballBlocks.find? fun b => b.has r c with
    | some b =>
      match b.signals[(r - b.rows.1) * (b.columns.2 - b.columns.1 + 1) + (c - b.columns.1)]? with
      | some n => .signal n
      | none => .vss
    | none => if (r + c) % 2 = 1 then .vss else .rail

/-- The interior balls of each rail, in the order of `railBalls`' names (R562). -/
def railBalls : List (String × Nat) := [
  ("VDD_CORE", 1100), ("VDD_SRAM", 120), ("VDDA_CNV", 96), ("VDDH_CNV", 40), ("VDD_SER", 240), ("VDDH_SER", 48), ("VDD_IO", 24),
  ("VDD_AON", 20), ("VDDIO_AON", 20)]

/-! ### Electrical figures (R567 to R575) -/

/-- The logic input classes of R568. -/
inductive InClass where
  | a18 | a33 | md | od33
  deriving DecidableEq, Repr

/-- VIL max and VIH min in mV (R568). -/
def InClass.thresholds (c : InClass) : Nat × Nat :=
  match c with | .a18 => (630, 1170) | .a33 => (800, 2000) | .md => (360, 840) | .od33 => (800, 2000)

/-- The level an input reads at a voltage: none between the thresholds (R568). -/
def InClass.reads (c : InClass) (mv : Nat) : Option Bool :=
  if mv ≤ c.thresholds.1 then some false else if c.thresholds.2 ≤ mv then some true else none

/-- The voltage in mV that a pin may see at most: powered or not, and for A18 by its rail (R567). -/
def InClass.most (c : InClass) (powered : Bool) (vddIo : Nat) : Nat :=
  match c with | .a18 => if powered then min (vddIo + 300) 2100 else 1980 | _ => 3600

/-- A strap as it is latched: high where the board ties it high; open or tied to VSS it reads 0 (R564). -/
def strapLatched (tied : Option Bool) : Bool := tied.getD false

/-- The settling time in 0.1 µs that a housekeeping source of `ohm` needs: none up to 2 kΩ, else 12 × R × 10 pF (R570). -/
def settlingNeeded (ohm : Nat) : Nat := if ohm ≤ 2000 then 0 else ceilDiv (12 * ohm) 10000

/-- Insertion loss in dB that a bobbin lane may have at 53.125 GHz, and skew between the lanes of a port in ns (R571). -/
def bobbinLoss : Nat := 28
def bobbinSkew : Nat := 40

/-- Whether an MDC cycle is one that the device follows, in ns (R573). -/
def mdcOk (high low : Nat) : Bool := decide (100 ≤ high) && decide (100 ≤ low) && decide (250 ≤ high + low)
/-- Whether MDIO, stable from `before` ns before MDC rises until `after` ns after it, is sampled as it stands; and the latest at which
the device's own output is valid after it (R573). -/
def mdioSampled (before after : Nat) : Bool := decide (10 ≤ before) && decide (10 ≤ after)
def mdioValidNs : Nat := 300

/-- The same of FE_MISO at the sampling edge (R574). -/
def misoSampled (before after : Nat) : Bool := decide (6 ≤ before) && decide (1 ≤ after)

/-- Whether a reference of `hz` with a duty in percent is one that REFIN takes, and whether a pulse of PPS_IN or PM_SYNC that stays
high for `ns` is (R575). -/
def refinOk (hz duty : Nat) : Bool := decide (1000 ≤ hz ∧ hz ≤ 800000000) && decide (40 ≤ duty ∧ duty ≤ 60)
def pulseOk (ns : Nat) : Bool := decide (100 ≤ ns)

/-- Whether a clock of `hz` is within 50 ppm of its nominal: XO_IN of 8020:0E, SYNTH_REF of 2000:06 (R575). -/
def within50ppm (nominal hz : Nat) : Bool :=
  decide (1000000 * (hz - nominal) ≤ 50 * nominal) && decide (1000000 * (nominal - hz) ≤ 50 * nominal)

/-- The shortest an FE-SPI transfer of `bits` bits takes in ns at f Hz, select to select (R574). -/
def feTransferNs (f bits : Nat) : Nat := ceilDiv ((bits + 2) * 1000000000) f + 100

end Sys2Proof.Machine
end

