-- ==== Sys2Proof/Tests/Slice0.lean ====
section
/-! SUPPORT. Tests of the model, and for each statement a concrete state and operands that meet its premises. -/

set_option maxRecDepth 100000

open Sys2Proof Sys2Proof.Machine

namespace Sys2Proof.Tests

/-- A device that serves its host in mode `m`. -/
def up (m : Mode) : State := { State.reset with
  ctl := { State.reset.ctl with mode := m }
  srv := { State.reset.srv with identityOn := true }
  pow := { State.reset.pow with
    groups := 3, released := true, configured := true
    domains := match m with | .quiet => 0x800003 | .safe => 0x800003 | .boot => 0xC00003 | .reset => 1 | _ => 0xC3FFFF } }

/-! ### Stored words by their syndrome (R480) -/

theorem judgeSyndrome_stored (a : Nat) (x : BitVec 8) :
    judgeSyndrome (syndrome ((checkByte 0 a ^^^ x).toNat * 2 ^ 64) a) = judgeSyndrome x := by
  congr 1
  unfold syndrome
  rw [Nat.mul_div_cancel _ (by decide), Nat.mul_mod_left, BitVec.ofNat_toNat, BitVec.setWidth_eq, BitVec.xor_comm,
    ← BitVec.xor_assoc, BitVec.xor_self, BitVec.zero_xor]

theorem judgeSyndrome_check : judgeSyndrome 4 = .corrected := by
  unfold judgeSyndrome
  rw [if_neg (by decide), if_pos]
  rw [Bool.or_eq_true]
  exact Or.inr (by decide)

/-- Some syndrome names no bit: 64 data columns and 8 check columns leave some of the 255 others. -/
theorem exists_uncorrectable : ∃ x : BitVec 8, judgeSyndrome x = .uncorrectable := by
  by_contra h
  let l : List (BitVec 8) :=
    0 :: ((List.range 64).map dataColumn ++ (List.range 8).map fun i => BitVec.ofNat 8 (2 ^ i))
  have hl : ∀ x, x ∈ l := by
    intro x
    by_contra hx
    refine h ⟨x, ?_⟩
    simp only [l, List.mem_cons, List.mem_append, List.mem_map, List.mem_range, not_or, not_exists, not_and] at hx
    unfold judgeSyndrome
    rw [if_neg hx.1, if_neg]
    simp only [Bool.or_eq_true, List.any_eq_true, List.mem_range, beq_iff_eq, not_or, not_exists, not_and]
    exact ⟨hx.2.1, fun i hi e => hx.2.2 i hi e.symm⟩
  have hc := Finset.card_le_card (s := Finset.univ) (t := (l.map BitVec.toFin).toFinset)
    (fun x _ => by simpa using ⟨BitVec.ofFin x, hl _, rfl⟩)
  have := hc.trans (List.toFinset_card_le _)
  simp [l] at this


/-- The security version the factory gave is at most 64, so an erased manifest (255) does not stand below it. -/
theorem securityVersion_small :
    (up .service).rdN 0x9C00 6 ≤ ((up .service).manifest (1 - (up .service).bank)).security := by
  have h : (up .service).rdN 0x9C00 6 = (0 + (Config.factory (key 0x9C00 6)).int % (64 - 0 + 1)).toNat := rfl
  have g : ((up .service).manifest (1 - (up .service).bank)).security = 255 := by decide
  omega

/-! ### Samples for the entropy tests (R338) -/

/-- Bits that change at each place. -/
def altBits : Nat → List Bool
  | 0 => []
  | n + 1 => true :: false :: altBits n

theorem altBits_run (n k : Nat) : longestRun false (k + 1) (altBits n) ≤ k + 1 := by
  induction n generalizing k with
  | zero => simp [altBits, longestRun]
  | succ n ih =>
    have := ih 0
    simp [altBits, longestRun] at this ⊢
    omega

theorem altBits_pass : repetitionFails (altBits 2048) = false := by
  have := altBits_run 2047 0
  rw [show altBits 2048 = true :: false :: altBits 2047 from rfl]
  simp [repetitionFails, longestRun] at this ⊢
  omega

theorem longestRun_replicate (b : Bool) (n k : Nat) : k + n ≤ longestRun b k (List.replicate n b) := by
  induction n generalizing k with
  | zero => simp [longestRun]
  | succ n ih =>
    have := ih (k + 1)
    simp [List.replicate_succ, longestRun]
    omega

theorem ones_fail (n : Nat) (h : 40 ≤ n) : repetitionFails (List.replicate (n + 1) true) = true := by
  have := longestRun_replicate true n 1
  rw [List.replicate_succ]
  simp [repetitionFails, longestRun] at this ⊢
  omega


/-! ### States of the witnesses -/

def Ad : State := {up .service with pow := {(up .service).pow with restartDue := some .host}}
def Btg (m m' : Mode) : State := { up m with ctl := { (up m).ctl with target := some m' } }
def Cbs : State := {up .boot with pow := {(up .boot).pow with configured := false}}
def CwithBoot (s : State) (f : Boot → Boot) : State := {s with boot := f s.boot}
def CbadMan : List Byte := List.replicate 7 0 ++ 1 :: List.replicate 300 0
def Csvc := (up .service)
def Ccm := CwithBoot Csvc fun b => {b with commit := some (1, [1,2,0xFF,4])}
def Cg := ((((up .service).wrN 0x9C20 1 0xA00000).wrN 0x9C20 2 3).wrS 0x9C20 3 [1,2,3,4]).wrN 0x9C20 8 26
def Ch := (up .service).wrN 0x9C20 1 0xFF000000
def Cpj := CwithBoot (up .service) fun b => {b with job := .program 4 [1,2,0xFF]}
def Cbz := CwithBoot Csvc fun b => {b with write := .rewrite}
def Crec1 : BootRecord := {seq := 7, bank := 0, profile := 1, dummy := 2, size := 26, trial := false, trialField := 2^64-1}
def Cwr : List Byte → State → State := fun b s => {s with flash := cellWrite 0xFF s.flash 4096 b}
def Cu : Update := { manifest := [], fresh := [], supervisor := false, restarted := false, reversing := false }
def Cus := CwithBoot Csvc fun b => {b with update := some Cu}
def Cu3 : Update := { manifest := [], fresh := List.range 12, supervisor := false, restarted := false, reversing := false }
def Cus3 := CwithBoot Csvc fun b => {b with update := some Cu3}
def Cu4 := {Cu3 with reversing := true, fresh := []}
def Cus4 := CwithBoot Csvc fun b => {b with update := some Cu4}
def Dmb : State := {up .service with lan := {(up .service).lan with pcieUp := true}}
def Drq : Req := {src := .mailbox, dst := .own, port := 0, version := 1, seq := 5, auth := none}
def Den (i j : Nat) : Entry := (entryOf i j).getD ⟨0, .u8, .ro, .v, .n 0, .any, 0, ""⟩
def Dud : State := {up .service with srv := {(up .service).srv with addrValid := true, mdioOn := true}}
def Dop : MdioOp := { prtad := 0, dev := 30, index := 0x1012, sub := 3, ty := 6, len := 2, off := 0}
def Dopb : MdioOp := { prtad := 0, dev := 30, index := 0x0001, sub := 2, ty := 0, len := 5, off := 3}
def Dsv : Served := ⟨.mailbox, 5, .beacon 3⟩
def Dsb : Machine.Sub := {number := 3, src := .udp 9 9, idx := 0x1001, sub := 1, period := 20, seq := 65535}
def Dwd := {Dud with srv := {Dud.srv with winData := List.replicate 256 1}}
def Dau : State := {Dwd with srv := {Dwd.srv with settings := Dwd.srv.settings.set 1 1}}
def Dmsg := requestBytes Drq (.read [⟨0x1001, 1⟩])
def Dmsg2 := requestBytes Drq (.write [⟨0x1012, 3, 6, [1, 4]⟩])
def Dau2 : Auth := ⟨7, 0x123456789ABC, List.replicate 16 9⟩
def Dra := {Drq with auth := some Dau2}
def Dst := fun (r : Nat) => ({up .service with pow := {(up .service).pow with straps := r}} : State)
def Ecf (f : LineCfg → LineCfg) (s : State) : State := {s with cfg := f s.cfg}
def Esx : Staged :=
  { num := 3, target := 50, twoEnded := true, acked := false, src := .mailbox, seq := 5, slot := none, items := [], built := false }
def Epp : Propose :=
  { num := 3, target := 50, entMask := 0, stateMask := 2, newStates := 2, mapMask := 1, codes := List.replicate 32 0, digests := [pageDigest emptyPage] }
def Er := (Ecf (fun c => {c with retireAt := [(3, 7)]}) (up .service))
def Era := (((Ecf (fun c => {c with readmitAt := [(3, 7)], rxReadmitAt := [(3,7)]}) (up .service)).latchCarrier |> Ecf (fun c
  => {c with readmitAt := [(3, 7)], rxReadmitAt := [(3,7)]})).wrN 0x1020 1 100000000).wrN 0x3440 0xD 100000000
def Eq : State := {up .service with tra := {(up .service).tra with staged := [Esx]}}
def Els : State := (up .service).latchCarrier
def Efp : FarPart := {prop := Epp, confirmed := false, pages := []}
def Eq2 : State := {up .service with tra := {(up .service).tra with far := [Efp]}}
def Fcorr0 : SliceCorr := SliceCorr.nominal
def FwithCnv (f : Conv → Conv) (s : State) : State := {s with cnv := f s.cnv}
def FwithTx (f : Transmit → Transmit) (s : State) : State := {s with tx := f s.tx}
def Fslc (role pos : Nat) (at_ : Nat) : Slice := { Slice.off with role := role, position := pos, measuredAt := at_ }
def Fsv := up .service
def Fok : Residual := {offset := 1, gain := -1, skew := 1, bandwidth := 1}
def Fno : Residual := {offset := 1000, gain := 9000, skew := 4000, bandwidth := 1000}
def Fc1 : SliceCorr := {Fcorr0 with offset := 3, trim := 2^64-1}
def Fmo : SliceMeasure := {found := Fno, left := Fok, corr := Fc1}
def Fmn : SliceMeasure := {found := Fno, left := Fno, corr := Fc1}
def Fr0 := ((Fsv.wrN 0x2000 9 2).setSlice 1 7 (Fslc 0 0 4)).setSlice 1 20 (Fslc 1 255 3) |>.setSlice 1 21 (Fslc 1 255 5)
def Frt : Rotation :=
  { spare := 20, position := 0, live := 7, windows := 0, shadowing := false, swapped := false, retire := false, prev := Fcorr0 }
def Frs := FwithCnv (fun c => {c with rotations := [(1, Frt)]}) (Fr0.setSlice 1 20 (Fslc 2 255 3))
def Frs2 := FwithCnv (fun c => {c with rotations := [(1, {Frt with shadowing := true})]}) (Fr0.setSlice 1 20 (Fslc 3 0 3))
def Frt3 := {Frt with shadowing := true, windows := 3}
def Frt4 := {Frt with shadowing := true, swapped := true}
def Frs3 := FwithCnv (fun c => {c with rotations := [(1, Frt4)]}) (Fr0.setSlice 1 20 (Fslc 0 0 3))
def Fcs := (Fr0.wrN 0x2020 1 1).wrN 0x2020 2 20
def Fg := (((((Fsv.wrN 0x2052 1 1).wrN 0x2041 1 1).wrN 0x2052 2 0).wrN 0x2000 9 2).wrN 0x2052 5 40).wrN 0x2052 8 1000 |>.wrN
  0x2052 9 9
def Fst := FwithTx (fun t => {t with settling := true}) (Fsv.wrN 0x2400 6 0)
def Fd1 := FwithTx (fun t => {t with dpdMode := 1}) Fsv
def Fst2 := (List.range 192).map fun i => BitVec.ofNat 8 (i * 37)
def Fm : DpdMsg := { pol := 0, first := 10, last := 20, corr := Fst2, residual := -30, cd := 4 }
def Frxs : PicotRx := {correlation := 900, afc := 5, sync := 0x2E4BD1A7}
def HwithRx (f : Receive → Receive) (s : State) : State := {s with rx := f s.rx}
def Hsv : State := up .service
def Hlocked (n : Nat) (s : State) : State := s.each (List.range 16) fun u k => u.wrN (0x2810 + k) 1 n
def Ha (x : AcqStep) := HwithRx (fun r => {r with step := x}) Hsv
def Hco := Ha .cold
def Hp0 := (Hco.sweepPlace).getD 0
def Hlast := HwithRx (fun r => {r with best := some (3, 4), candidate := (Hco.coarse.2 - Hco.coarse.1).toNat}) Hco
def Hfine := HwithRx (fun r => {r with best := some (3, 4), fine := some 16, candidate := 5, metrics := [1,2,3]}) Hco
def Hwhole := HwithRx (fun r => {r with best := some (3, 4), fine := some 16, candidate := 33, metrics := [1,2,900]}) Hco
def Hbad := HwithRx (fun r => {r with metrics := [1,2,3]}) Hwhole
def Hd := HwithRx (fun r => {r with step := .threads, cdDone := true}) Hsv
def Hlo := (Hlocked 4 Hd).wrN 0x2800 3 50
def Hhi := (((Hlo.wrN 0x2010 9 9000).wrN 0x2011 9 9000).wrN 0x2012 9 9000).wrN 0x2013 9 9000
def Hfo := (HwithRx (fun r => {r with step := .signal}) Hsv).wrI 0x2800 9 (-2000)
def Isv : State := up .service
def IwithRx (f : Receive → Receive) (s : State) : State := {s with rx := f s.rx}
def IwithFrm (f : Framing → Framing) (s : State) : State := {s with frm := f s.frm}
def Ifs (f : FecThread) : State := (Isv.setFec 3 f).wrN 0x2813 1 4
def Ihd (k i low : Nat) : BitVec 64 := BitVec.ofNat 64 (nativeHeader
  { thread := k, index := i, code := 55, state := 1, bits := 8, page := 0, low := low })
def Ilf (h : BitVec 64) : LfIn :=
  { header := h, overhead := List.replicate 2048 0, stamp := 5, index := 3, payload := [], frames := [] }
def Ihs (n : Nat) (u : HuntState) : State := ((Isv.latchCarrier).wrN 0x3453 1 n).setHunt 3 u
def Iu0 : HuntState := { HuntState.start with expIdx := 5, expLow := 9, entropy := 55 }
def Ivd : Verdict := {level := key 0x3491 0, es := true, ses := false, excluded := false, bbe := 5, unavailable := false}
def IF := FecThread.start
def Iw := {IF with winAll := 10, winOk := 9, winUnc := 1, winLf := 1, winBits := 9000, sdRun := 2}
def Ib := ((Isv.wrN 0x3000 5 100).wrN 0x3000 7 9)
def Iq : List (List Verdict) := List.replicate 9 []
def Jsv : State := up .service
def JwithGrm (f : Groom → Groom) (s : State) : State := {s with grm := f s.grm}
def Jeth (s : State) : State := (s.wrN 0x7010 1 1).wrN 0x7011 1 1
def Jpq (s : State) : State := ((Jeth s).wrN 0x4009 5 1)
def Jten (s : State) : State := (execTenantAllocate 9 {Jpq s with ctl := {s.ctl with mode := .quiet}}) |> fun o => match o
  with | .next t => {t with ctl := s.ctl} | _ => s
def Jeb0 : List Byte := List.replicate 12 7 ++ [9, 0] ++ List.replicate 50 3
def Jeb (ok : Bool) : List Byte := Jeb0 ++ (if ok then (beBytes 4 (crc32 Jeb0)).reverse else [0, 0, 0, 0])
def Jfr (n : Nat) : Frame := Frame.ofBytes n (Jeb true)
def Jqf (n : Nat) : QFrame :=
  {id := n, len := 9000, bytes := [], cells := 37, port := 1, cls := 0, headroom := false, seqNo := none, ready := true}
def Jrq (w : Fin 22) (e : Bool) : CellReq :=
  {writer := w, egress := e, tenant := 9, cls := 0, port := 0, id := 5, len := 300, seqNo := none, bytes := []}
def Jq := up .quiet
def Jtq := Jten Jq
def Jt := Jten Jsv
def Jib : Inboxed := {port := 1, frame := Jfr 5, tenant := 9, cls := 0, seqNo := none}
def Je0 : State := Jt.setQueue 1 {Jt.queue 1 with limit := 1}
def Je1 : State := Jt.setQueue 1 {Jt.queue 1 with frames := [Jqf 7, Jqf 8]}
def Jtx := Jt.wrN 0x4009 0x20 3
def Jst := Jt.setFlow 0 {Jt.flow 0 with stopped := [8, 3], xoff := [8]}
def Jrx := ((Je1.wrS 0x34C0 3 (pageBytes [{cbr := false, sealed := false, tenant := 9, count := 4}])).wrN 0x7010 0xC 1).wrN
  0x6009 0xD 1
def Ksv : State := up .service
def KwithSls (f : Seal → Seal) (s : State) : State := {s with sls := f s.sls}
def KwithPic (f : Picot → Picot) (s : State) : State := {s with pic := f s.pic}
def Kk32 (n : Nat) : List Byte := (List.range 32).map fun i => BitVec.ofNat 8 (i * n + 3)
def KsealT (s : State) : State := (((((s.wrN 0x4009 1 1).wrN 0x4009 3 1).wrS 0x34C0 3 (pageBytes
  [{cbr := false, sealed := true, tenant := 9, count := 4}])).wrN 0x3800 2 1).setMgmt 2
  {role := 2, id := 3, key := Kk32 7}).wrN 0x3800 4 2
def Krx : PicotRx := {correlation := 900, afc := -77, sync := 0x2E4BD1A7}
def KrxBad : PicotRx := {Krx with sync := 0}
def Kb0 (n : Nat) : List Byte := (1 : Byte) :: (List.range (n - 1)).map fun i => BitVec.ofNat 8 (i * 7)
def Ks0 := KsealT Ksv
def Klk (f : LinkKey → LinkKey) : State := KwithSls (fun x => {x with link := f x.link}) Ks0
def Ksl := KwithSls (fun x => {x with slots := [(18, ⟨false, 4, Kk32 5⟩), (19, ⟨false, 5, Kk32 6⟩)]}) Ks0
def Kh := sealWord 0 1 false true 0 false 4
def Km : SealMf := {word := Kh, mf := 66, bits := containerBits 4 true, key := some (Kk32 5), reflect := false}
def Kc := List.replicate 512 (3 : Byte)
def Kpv := (Ksl.setTen 9 {Ksl.ten 9 with cipher := Kc}).setSealTen 9
  {SealTen.start with prev := some Km, check := true, fails := 2}
def Kdv := KwithSls (fun x => {x with derive := [9, 10]}) ((((Ks0.setMgmt 63 {role := 5, id := 0, key := Kk32 9}).wrN 0x5009 1
  1).wrN 0x3800 5 0).wrN 0x3800 0xA 1 |>.wrN 0x5009 2 1)
def Ksh : List Byte := [1, 0] ++ [1,2,3,4,5,6] ++ beBytes 4 0 ++ pointBytes (some g384)
def Kl4 := Klk (fun l =>
  {l with step := 4, root := Kk32 4, key := Kk32 5, far := pointBytes (some g384), own := pointBytes (some g384)})
def Kon := Ksv.wrN 0x2400 6 0
def Ko2 := KwithPic (fun p => {p with offerOn := true, shareOn := true, offer := Kb0 82}) Kon
def Msv : State := up .service
def MwithTim (f : Timing → Timing) (s : State) : State := {s with tim := f s.tim}
def MwithFrm (f : Framing → Framing) (s : State) : State := {s with frm := f s.frm}
def MwithLan (f : Lanes → Lanes) (s : State) : State := {s with lan := f s.lan}
def Mmk : Marker :=
  { lane := 1, port := 0, position := 0, idle := false, maskNow := 255, maskNext := 255, retire := 0, switchAt := 0, counter := 5, crcOk := true, skewPs := 3, uncorrectable := 0, corrected := 1, symbols := 1 }
def Mc := (Msv.wrN 0x8012 1 1).wrN 0x8012 3 2
def Mc2 := MwithTim (fun t => {t with freqSel := some 2}) (Mc.setCand 2 {Cand.start with freq := true})
def Ml6 := (Mc2.wrN 0x8016 1 1).setCand 6 {Cand.start with freq := true, time := true}
def Me := (Msv.wrN 0x8040 1 1)
def Mex := MwithFrm (fun x => {x with farStamps := beBytes 12 (2000) ++ beBytes 8 64 ++ beBytes 12 1000 ++ beBytes 4 3})
  (MwithTim (fun t => {t with departures := [(64, 500)], arrivals := [(64, 900000)]}) (Me.wrN 0x3440 0xD 65))
def Msw : State := {Msv with pow := {Msv.pow with domains := Msv.pow.domains ||| 0xC0000}}
def Mh := ((((Msw.wrN 0x7010 1 1).wrN 0x7010 2 3).wrN 0x9010 1 0).wrN 0x9010 2 4).wrN 0x9010 3 3
def Mu := Mh.each (List.range 4) fun t l => t.wrN (0x9020 + l) 1 3
def Mg : State := {Msv with pow := {Msv.pow with straps := 4, domains := Msv.pow.domains ||| 0x300000}}
def Mg2 := Mg.wrN 0x8C10 1 3
def Mgd := Mg2.wrN 0x8C10 1 0
def Mp := MwithLan (fun l => {l with perst := false, pcieUp := true}) Msv
def Mw := Mp.wrN 0x9080 7 15
def Ml2 := MwithLan (fun l => {l with pcieUp := false, l2 := true}) Mw
def Osv : State := up .service
def Ofl (b : FlitBody) (d : Nat) (n : Nat) : Flit :=
  {source := 1, dest := d, seqNo := n, acked := 99, vc0 := 1, vc1 := 0, body := b}
def Og : State := {Osv with pow := {Osv.pow with straps := 4, domains := Osv.pow.domains ||| 0x300000}}
def Og2 := (Og.wrN 0x8C10 1 3).wrN 0x8C00 3 2
def Og3 := Og2.wrN 0x8C10 4 100
def Otb := FlitBody.tenant 5 true false 112 0 7 0 none [1,2]
def Og22 := Og3.wrN 0x8C11 1 3
def Ogr := Og3.setLink 0 {Link.start with retry := [Ofl .null 1 5, Ofl Otb 1 6], txSeq := 7}
def Ogr2 := Og3.setLink 0 {Link.start with retry := [Ofl .null 1 5, Ofl Otb 1 6], txSeq := 7, resends := 7}
def Ogi := (Og3.wrN 0x8C10 1 2)
def Ogm : State := {Og3 with pow := {Og3.pow with straps := 1}}
def Ogmi := Ogm.wrN 0x8C10 1 2
def Orq := Ofl (.request true 4 8 0x40000010 [1,2,3,4,5,6,7,8]) 0 0
def Oh := (Og3.wrN 0x8D03 2 5).wrN 0x8D03 3 6
def Ohm := (Ogm.wrN 0x8D03 2 5).wrN 0x8D03 3 6
def Op0 := (((Og3.wrN 0x8D03 2 5).wrN 0x8D03 3 6).wrN 0x8D03 1 1).wrN 0x8D03 5 1
def Oraw (s : State) (c : Nat) (w : Bool) := s.setProt 3 {(s.prot 3) with rawWorking := w, command := c}
def Ost : State := {Osv with dict := Op0.dict}
def Oqz : QFrame :=
  {id := 7, len := 900, bytes := [], cells := 4, port := 1, cls := 0, headroom := false, seqNo := some 12, ready := true}
def Ogz := ((((Ogm.wrS 0x8C00 0xC [1]).wrN 0x4000 1 1).wrN 0x4000 5 1).wrN 0x4000 6 0)
def Ogq := Ogz.setQueue 1 {Queue.free with frames := [Oqz]}
def Psv : State := up .service
def PwithEng (f : Engines → Engines) (s : State) : State := {s with eng := f s.eng}
def Pclus (s : State) : State := (s.each (List.range 12) fun u n => (u.wrN (0x9410+n) 1 (if n = 11 then 3 else 2)).wrN
  (0x9410+n) 2 (if n = 11 then 255 else n)).each (List.range 11) fun u w => (u.wrN (0x9420+w) 1 w).wrN (0x9420+w) 3 0
def Pe := {Pclus Psv with uptime := 5000}
def Pns := Pe.wrN 0x941B 1 5
def Pmv (fa st re : Bool) : Move :=
  { fault := fa, item := 3, src := 3, dst := 11, retire := re, stopped := st, follow := none }
def Pck := Pe.wrN 0x941B 1 1
def Pun := 0x30000000
def Pd := (Pe.wrN 0x9503 0xA 1).wrN 0x9503 5 0
def Pch : Chan :=
  { src := {next := 0, addr := 0x40000100, left := 128, count := 1, last := true}, dst := {next := 0, addr := 0x40000200, left := 64, count := 2, last := true}, gathered := []}
def Pk : State :=
  {Pd with mat := {Pd.mat with chans := [(3, Pch)]}, mem := [(0x40000100, 5), (0x40000101, 6), (0x40000203, 9), (0x40000300, 9)]}
def Pch2 : Chan := {Pch with src := {Pch.src with left := 0, last := false}}
def Pk2 := {Pk with mat := {Pk.mat with chans := [(3, Pch2)]}}
def Pch3 : Chan := {Pch with src := {Pch.src with left := 0, last := true}}
def Pk3 := {Pk with mat := {Pk.mat with chans := [(3, Pch3)]}}
def Pch4 : Chan := {Pch3 with dst := {Pch.dst with left := 0, last := true}}
def Pk4 := {Pk with mat := {Pk.mat with chans := [(3, Pch4)]}}
def PlogE (a : Nat) : LogEntry :=
  {time := 0, mem := 4, kind := 1, action := 0, syndrome := 3, addr := a, inst := 0, count := 7}
def Pe2 := {Psv with uptime := 5000}
def Pr := ((Pe2.wrN 0x9830 1 4).wrN 0x9830 2 0x3000).wrN 0x9830 3 0x40008000
def Pr2 : State := {Pr with mem := [(0x40003001, 5), (0x40008000, 4), (0x40009000, 3)]}
def Prw := ((Pr2.wrN 0x94A3 2 0x40008000).wrN 0x94A3 4 0x40010000).wrN 0x94A3 1 1
def Prf := Pr2.each (List.range 16) fun u w => (((u.wrN (0x94A0+w) 2 0x40100000).wrN (0x94A0+w) 4 0x40200000).wrN (0x94A0+w) 1
  1)
def Pb := ((Pe2.wrN 0x9830 1 1).wrN 0x9830 2 33).wrS 0x9831 1 (List.replicate 32 0)
def Qsv : State := up .service
def QwithTel (f : Telem → Telem) (s : State) : State := {s with tel := f s.tel}
def Qhs : HkSlot := {input := 0, curve := 0, settling := 0, discharge := 0, excitation := 0, averaging := 2}
def Qe : State := {Qsv with uptime := 5000, devTime := 65536 * 1000 * 100, events := [(3, 4)]}
def Qd : Dump := {number := 9, time := 5, second := 1, trigger := 2, body := [1,2,3]}
def Qy := QwithTel (fun t => {t with source := 1}) Qe
def Qw := (QwithTel (fun t => {t with writing := some Qd}) Qe)
def Qc := QwithTel (fun t => {t with copied := [9]}) ({Qe with lan := {Qe.lan with pcieUp := true}}.wrN 0xA010 4 1)
def Qh := QwithTel (fun t => {t with hkOn := true, interval := 1000, regSlots := [Qhs, Qhs], injSlots := [Qhs, Qhs]}) Qe
def Qp := (Qh.wrN 0xA020 3 5).wrN 0xA020 5 2

/-! ### Witnesses: states and operands that meet the premises of each statement, clause by clause -/
theorem witness_StepTakesTheFrontCommand :
    ∃ (c : Instr) (r : List Instr) (s : State), s.pending = c :: r :=
  ⟨.por, [.pmBoundary], { State.reset with pending := [.por, .pmBoundary] }, rfl⟩

theorem witness_EmptyQueueLetsAMicrosecondPass :
    ∃ (s : State), s.pending = [] :=
  ⟨State.reset, rfl⟩

theorem witness_EveryStepKeepsCanonicalForm :
    ∃ (s : State) (t : State), s.canonical ∧ step s = Host.Outcome.next t :=
  ⟨State.reset, _, by decide, rfl⟩

theorem witness_CommandsLeaveQueueFusesAndClock :
    (∃ (c : Instr) (s : State) (t : State), exec c s = Host.Outcome.next t) ∧
    (∃ (c : Instr) (s : State) (t : State), exec c s = Host.Outcome.next t) ∧
    (∃ (c : Instr) (s : State) (t : State), exec c s = Host.Outcome.next t) :=
  ⟨⟨.errorCounterLeak 0, State.reset, _, rfl⟩,
   ⟨.errorCounterLeak 0, State.reset, _, rfl⟩,
   ⟨.errorCounterLeak 0, State.reset, _, rfl⟩⟩

theorem witness_OnlyAnUndefinedResetPulseStops :
    (∃ (n : Nat) (s : State), 1000 ≤ n ∧ n < 0x2710) ∧
    (∃ (c : Instr) (s : State), (∀ (n : Nat), c = Instr.pinReset n → n < 1000 ∨ 0x2710 ≤ n)) :=
  ⟨⟨1000, State.reset, by decide⟩,
   ⟨.por, State.reset, fun n h => by cases h⟩⟩

theorem witness_SuppliesRiseAndResetsActByKind :
    (∃ (g : Fin 3) (s : State), s.pow.groups = g.val) ∧
    (∃ (g : Fin 3) (s : State), s.pow.groups ≠ g.val) ∧
    (∃ (s : State), s.pow.groups = 3 ∧ s.pow.released = false ∧ s.pow.pinLow = false) ∧
    (∃ (s : State), s.boot.job = FlashJob.none ∧ s.boot.commit = none ∧ s.boot.write = RecordWrite.none) ∧
    (∃ (n : Nat), n < 1000) ∧
    (∃ (n : Nat) (s : State), 0x2710 ≤ n ∧ s.pow.released = true ∧ s.pow.pinLow = false) ∧
    (∃ (s : State), s.pow.pinLow = true ∧ s.pow.released = true) ∧
    (∃ (r : Fin 9) (s : State), r.val < 7 ∧ 2 ≤ s.pow.groups ∧ s.pow.released = true) ∧
    (∃ (r : Fin 9), 7 ≤ r.val) ∧
    (∃ (s : State), s.serves) ∧
    (∃ (s : State), s.pow.warmDue = true) ∧
    (∃ (s : State), s.pow.warmDue = false) ∧
    (∃ (s : State), s.serves ∧ s.eng.move = none ∧ s.boot.update = none ∧ s.pow.restartDue = none) ∧
    (∃ (s : State), s.serves ∧ (s.eng.move.isSome = true ∨ s.boot.update.isSome = true ∨ s.pow.restartDue.isSome = true)) ∧
    (∃ (s : State), s.pow.restartDue.isSome = true ∧ s.pow.restarting = false ∧ s.eng.move = none ∧ s.ctl.mode ≠ Mode.reset ∧
      s.ctl.mode ≠ Mode.boot) ∧
    (∃ (s : State), s.pow.restarting = true ∧ s.boot.update = none) :=
  ⟨⟨0, (State.reset), by decide⟩,
   ⟨0, ((up .service)), by decide⟩,
   ⟨({State.reset with pow := {State.reset.pow with groups := 3}}), by decide⟩,
   ⟨((up .service)), by decide⟩,
   ⟨5, by decide⟩,
   ⟨20000, ((up .service)), by decide⟩,
   ⟨({up .quiet with pow := {(up .quiet).pow with pinLow := true}}), by decide⟩,
   ⟨3, ((up .service)), by decide⟩,
   ⟨8, by decide⟩,
   ⟨((up .service)), by decide⟩,
   ⟨({up .quiet with pow := {(up .quiet).pow with warmDue := true}}), by decide⟩,
   ⟨((up .quiet)), by decide⟩,
   ⟨((up .service)), by decide⟩,
   ⟨(Ad), by decide⟩,
   ⟨(Ad), by decide⟩,
   ⟨({up .service with pow := {(up .service).pow with restarting := true}}), by decide⟩⟩

theorem witness_SecondLockstepMismatchLeadsToSafe :
    (∃ (s : State), s.on 1 = true ∧ s.ctl.mode ≠ Mode.reset ∧ s.ctl.mode ≠ Mode.boot ∧ (∀ (u : Nat), s.pow.lastMismatch = some
      u → u + 0xF4240 < s.uptime)) ∧
    (∃ (s : State) (u : Nat), s.on 1 = true ∧ s.ctl.mode ≠ Mode.reset ∧ s.ctl.mode ≠ Mode.boot ∧ (s.pow.lastMismatch = some u)
      ∧ s.uptime ≤ u + 0xF4240) :=
  ⟨⟨((up .service)), by decide⟩,
   ⟨({up .safe with pow := {(up .safe).pow with lastMismatch := some 0}, ctl := {(up .safe).ctl with target := some .quiet}}),
     0, by decide⟩⟩

theorem witness_ModeRequestsRunToTheirTarget :
    (∃ (s : State), s.serves ∧ (s.ctl.mode = Mode.discover ∨ s.ctl.mode = Mode.service ∨ s.ctl.mode = Mode.test ∧
      s.leaveChecks = []) ∧ s.rdN (0x1001) 2 ≠ 2) ∧
    (∃ (s : State), s.serves ∧ s.ctl.mode = Mode.safe ∧ s.pow.safeCauses = [] ∧ s.ctl.target ≠ some Mode.quiet) ∧
    (∃ (s : State), s.serves ∧ s.ctl.mode = Mode.quiet ∧ s.rdN (0x1001) 2 ≠ 2) ∧
    (∃ (s : State), s.serves ∧ s.ctl.mode = Mode.quiet ∧ s.rdN (0x1001) 2 ≠ 3 ∧ s.inTransition = false ∧ s.leaveChecks = []) ∧
    (∃ (s : State), s.serves ∧ (s.ctl.mode = Mode.service ∨ s.ctl.mode = Mode.test ∧ s.leaveChecks = []) ∧ s.rdN (0x1001) 2 ≠
      3 ∧ s.inTransition = false) ∧
    (∃ (s : State), s.serves ∧ s.ctl.mode = Mode.quiet ∧ s.rdN (0x1001) 2 ≠ 6 ∧ s.inTransition = false ∧ s.leaveChecks = []) ∧
    (∃ (s : State), s.serves ∧ s.ctl.mode = Mode.discover ∧ s.rdN (0x1001) 2 ≠ 4 ∧ s.inTransition = false) ∧
    (∃ (s : State), s.serves ∧ (s.ctl.mode = Mode.quiet ∨ s.ctl.mode = Mode.test) ∧ s.rdN (0x1001) 2 ≠ 4 ∧ s.inTransition =
      false ∧ s.leaveChecks = []) ∧
    (∃ (s : State), s.serves ∧ s.ctl.mode ≠ Mode.safe ∧ (s.ctl.mode = Mode.shed ∨ s.rdN (0x1001) 2 ≠ 7) ∧ (s.ctl.mode =
      Mode.quiet ∨ s.ctl.mode = Mode.test → s.leaveChecks = [])) ∧
    (∃ (s : State), s.serves ∧ s.requestInForce 2 = true) ∧
    (∃ (s : State), s.serves ∧ s.requestInForce 3 = true) ∧
    (∃ (s : State), s.serves ∧ s.requestInForce 4 = true) ∧
    (∃ (s : State), s.serves ∧ s.requestInForce 6 = true) ∧
    (∃ (s : State), s.serves ∧ s.requestInForce 7 = true) ∧
    (∃ (s : State), s.pow.restarting = false ∧ s.ctl.target = some Mode.quiet) ∧
    (∃ (s : State), s.pow.restarting = false ∧ s.ctl.target = some Mode.safe) ∧
    (∃ (s : State) (m : Mode), s.pow.restarting = false ∧ (m = Mode.discover ∨ m = Mode.test) ∧ s.ctl.target = some m ∧
      s.ctl.mode ≠ Mode.service ∧ s.rdN (0x2000) 9 ≠ 1 ∧ s.configCheck = 0) ∧
    (∃ (s : State) (m : Mode), s.pow.restarting = false ∧ (m = Mode.discover ∨ m = Mode.test) ∧ s.ctl.target = some m ∧
      s.ctl.mode ≠ Mode.service ∧ (s.rdN (0x2000) 9 = 1 ∨ s.configCheck ≠ 0)) ∧
    (∃ (s : State), s.pow.restarting = false ∧ s.ctl.target = some Mode.discover ∧ s.ctl.mode = Mode.service ∧ s.rdN (0x2000)
      9 ≠ 1) ∧
    (∃ (s : State), s.pow.restarting = false ∧ s.ctl.target = none) :=
  ⟨⟨(((up .service).wrN 0x1001 2 4)), by decide⟩,
   ⟨({up .safe with pow := {(up .safe).pow with safeCauses := []}}), by decide⟩,
   ⟨(((up .quiet).wrN 0x1001 2 3)), by decide⟩,
   ⟨((up .quiet)), by decide⟩,
   ⟨((up .service)), by decide⟩,
   ⟨((up .quiet)), by decide⟩,
   ⟨((up .discover)), by decide⟩,
   ⟨((up .quiet)), by decide⟩,
   ⟨((up .discover)), by decide⟩,
   ⟨(((up .quiet).wrN 0x1001 2 2)), by decide⟩,
   ⟨(((up .quiet).wrN 0x1001 2 3)), by decide⟩,
   ⟨(((up .service).wrN 0x1001 2 4)), by decide⟩,
   ⟨(((up .test).wrN 0x1001 2 6)), by decide⟩,
   ⟨(((up .safe).wrN 0x1001 2 6)), by decide⟩,
   ⟨((Btg .service .quiet)), by decide⟩,
   ⟨((Btg .service .safe)), by decide⟩,
   ⟨((Btg .quiet .discover)), .discover, by decide⟩,
   ⟨(((Btg .quiet .test).wrN 0x2000 9 1)), .test, by decide⟩,
   ⟨((Btg .service .discover)), by decide⟩,
   ⟨((up .service)), by decide⟩⟩

theorem witness_PowerDomainsFollowTheMode :
    (∃ (s : State), s.serves ∧ s.ctl.mode = Mode.quiet ∧ s.inTransition = false ∧ s.leaveChecks = [] ∧ s.rdN (0x1001) 2 ≠ 3) ∧
    (∃ (s : State), s.serves ∧ s.ctl.mode = Mode.quiet ∧ s.inTransition = false ∧ s.leaveChecks = [] ∧ s.rdN (0x1001) 2 ≠ 6) ∧
    (∃ (s : State), s.pow.restarting = false ∧ s.ctl.target = some Mode.quiet) :=
  ⟨⟨((up .quiet)), by decide⟩,
   ⟨((up .quiet)), by decide⟩,
   ⟨((Btg .test .quiet)), by decide⟩⟩

theorem witness_ServiceConditionsAndBootOutcomes :
    (∃ (s : State), s.ctl.mode = Mode.discover ∧ s.rdN (0x1001) 2 = 4 ∧ s.conditions = true ∧ s.ctl.target = none ∧ s.shedDue
      = false ∧ s.pow.restarting = false) ∧
    (∃ (s : State), (s.conditions = false ∨ s.rdN (0x1001) 2 ≠ 4 ∨ s.ctl.mode ≠ Mode.discover)) ∧
    (∃ (s : State), s.ctl.mode = Mode.discover ∧ s.conditions = false ∧ s.ctl.target = none ∧ s.pow.restarting = false) ∧
    (∃ (s : State), s.ctl.mode = Mode.boot ∧ s.pow.configured = true ∧ s.pow.hold = BootHold.none ∧ s.rdN (0x1011) 2 < 4 ∧
      s.rdN (0x1011) 3 < 4 ∧ s.rdN (0x1011) 4 < 4) ∧
    (∃ (n : Nat) (s : State), s.on 1 = true ∧ n < 24 ∧ n ≠ 18) ∧
    (∃ (n : Nat), (24 ≤ n ∨ n = 18)) :=
  ⟨⟨(((((up .discover).wrN 0x1001 2 4).wrN 0x1001 7 31).each (List.range 32) fun u k => u.wrN (0x3450 + k) 1 3)), by decide⟩,
   ⟨((up .discover)), by decide⟩,
   ⟨(((up .discover).wrN 0x1001 7 0x501)), by decide⟩,
   ⟨((up .boot)), by decide⟩,
   ⟨2, ((up .service)), by decide⟩,
   ⟨18, by decide⟩⟩

theorem witness_ShedStepsSetPointAndThermalSamples :
    (∃ (n : Fin 4) (mv : Nat) (s : State), s.ladderOn = true ∧ 100 * mv < (97 - 2 * n.val) * s.rdN (0x1010) 2) ∧
    (∃ (mv : Nat) (s : State), s.ladderOn = true ∧ 98 * s.rdN (0x1010) 2 < 100 * mv) ∧
    (∃ (w : Nat) (s : State), s.ladderOn = true ∧ 100 ≤ w) ∧
    (∃ (w : Nat), w < 20) ∧
    (∃ (s : State), s.pow.warnLow = true) ∧
    (∃ (s : State), s.shedDue = true ∧ s.ctl.mode ≠ Mode.shed ∧ s.pow.restarting = false) ∧
    (∃ (s : State), s.shedDue = true ∧ s.ctl.mode = Mode.shed ∧ s.pow.restarting = false) ∧
    (∃ (s : State), s.s3Acts = true ∧ s.rdN (0x1011) 7 = 0) ∧
    (∃ (s : State), s.s3Acts = true ∧ s.rdN (0x1011) 7 = 1 ∧ s.grm.darkAt + 1000 ≤ s.uptime) ∧
    (∃ (s : State), s.rdN (0x1011) 7 ≠ 0 ∧ s.rdN (0x1011) 1 < 3) ∧
    (∃ (s : State), s.on 1 = true) ∧
    (∃ (mv : Nat) (s : State), s.serves ∧ s.ctl.mode ≠ Mode.shed ∧ s.ctl.mode ≠ Mode.safe ∧ 600 ≤ mv ∧ mv ≤ 750 ∧ mv % 5 = 0 ∧
      mv ≤ s.rdN (0x1010) 2 + 10 ∧ s.rdN (0x1010) 2 ≤ mv + 10 ∧ s.rdN (0x1010) 1 ≤ mv) ∧
    (∃ (mv : Nat) (s : State), s.serves ∧ s.ctl.mode ≠ Mode.shed ∧ s.ctl.mode ≠ Mode.safe ∧ 600 ≤ mv ∧ mv ≤ 750 ∧ (mv % 5 ≠ 0
      ∨ s.rdN (0x1010) 2 + 10 < mv ∨ mv + 10 < s.rdN (0x1010) 2)) ∧
    (∃ (temps : List Int) (s : State), s.ladderOn = true ∧ temps.length = 16 ∧ (∀ (v : Int), v ∈ temps → -1000 ≤ v ∧ v ≤
      2000)) :=
  ⟨⟨2, 600, ((up .service)), by decide⟩,
   ⟨750, ((up .service)), by decide⟩,
   ⟨100, ((up .service)), by decide⟩,
   ⟨10, by decide⟩,
   ⟨({up .service with pow := {(up .service).pow with warnLow := true}}), by decide⟩,
   ⟨(((up .service).wrN 0x1011 1 2)), by decide⟩,
   ⟨(((up .shed).wrN 0x1001 5 3)), by decide⟩,
   ⟨(((up .shed).wrN 0x1011 1 3)), by decide⟩,
   ⟨({((up .shed).wrN 0x1011 1 3).wrN 0x1011 7 1 with uptime := 5000}), by decide⟩,
   ⟨((((up .shed).wrN 0x1011 1 2).wrN 0x1011 7 1)), by decide⟩,
   ⟨((up .service)), by decide⟩,
   ⟨740, ((((up .service).wrN 0x1010 2 735).wrN 0x1010 1 600)), by decide⟩,
   ⟨741, ((up .service)), by decide⟩,
   ⟨[1,2,3,4,5,-6,7,8,900,10,11,12,900,14,15,16], ((up .service)), by decide⟩⟩

theorem witness_MultiframesCountAndReferenceModesConfigure :
    (∃ (s : State), (s.base = Mode.discover ∨ s.base = Mode.service ∨ s.base = Mode.test) ∧ s.on 16 = true) ∧
    (∃ (s : State), (¬(s.base = Mode.discover ∨ s.base = Mode.service ∨ s.base = Mode.test) ∨ s.on 16 = false)) ∧
    (∃ (m : Nat) (s : State), s.serves ∧ (s.ctl.mode = Mode.quiet ∨ s.ctl.mode = Mode.test) ∧ 1 ≤ m ∧ m ≤ 6) ∧
    (∃ (m : Nat) (s : State), s.serves ∧ s.ctl.mode ≠ Mode.quiet ∧ s.ctl.mode ≠ Mode.test ∧ m ≤ 6) :=
  ⟨⟨((up .service)), by decide⟩,
   ⟨((up .quiet)), by decide⟩,
   ⟨3, ((up .quiet)), by decide⟩,
   ⟨3, ((up .service)), by decide⟩⟩

theorem witness_BanksAreCheckedAndBootRecordsWritten :
    (∃ (b : Fin 2) (s : State), s.booting = true ∧ s.boot.checked = false ∧ s.bank = b.val) ∧
    (∃ (b : Fin 2) (ok : Bool) (s : State), s.booting = true ∧ s.bank = b.val ∧ (ok = false ∨ s.boot.checked = false ∧
      s.checkManifest (s.manifest b.val) ≠ 1)) ∧
    (∃ (b : Fin 2) (ok : Bool) (s : State), (s.booting = false ∨ s.bank ≠ b.val)) ∧
    (∃ (s : State), s.booting = true ∧ s.boot.checked = true ∧ s.bank < 2 ∧ s.running.sections.all (s.sectionOk s.bank) =
      true) ∧
    (∃ (s : State), s.booting = true ∧ s.boot.checked = true ∧ s.bank < 2 ∧ s.running.sections.all (s.sectionOk s.bank) =
      false) ∧
    (∃ (s : State), (s.booting = false ∨ s.boot.checked = false)) ∧
    (∃ (s : State), s.serves ∧ s.flashBusy = false) ∧
    (∃ (s : State), s.serves ∧ s.flashBusy = false ∧ s.rdN (0x9C00) 9 = 1) ∧
    (∃ (s : State), s.serves ∧ s.flashBusy = false ∧ s.rdN (0x9C00) 9 ≠ 1) ∧
    (∃ (s : State), s.serves ∧ s.flashBusy = false ∧ s.rdN (0x9C00) 9 ≠ 1 ∧ s.rdN (0x9C00) 6 ≤ (s.manifest (1 -
      s.bank)).security) ∧
    (∃ (s : State), s.serves ∧ s.flashBusy = false ∧ (s.rdN (0x9C00) 9 = 1 ∨ (s.manifest (1 - s.bank)).security < s.rdN
      (0x9C00) 6)) ∧
    (∃ (s : State), s.serves ∧ s.flashBusy = true) ∧
    (∃ (s : State), s.serves ∧ s.flashBusy = true) ∧
    (∃ (s : State), s.serves ∧ s.flashBusy = true) ∧
    (∃ (i : Nat) (r : BootRecord) (s : State), s.recordInForce = some (i, r) ∧ i < 2 ∧ s.boot.write = RecordWrite.rewrite) ∧
    (∃ (i : Nat) (r : BootRecord) (s : State), s.recordInForce = some (i, r) ∧ i < 2 ∧ s.boot.write = RecordWrite.clearTrial)
      ∧
    (∃ (i : Nat) (r : BootRecord) (s : State) (b : Nat) (hitless : Bool), s.recordInForce = some (i, r) ∧ i < 2 ∧ s.boot.write
      = RecordWrite.activate b hitless) :=
  ⟨⟨0, CwithBoot Cbs (fun q => { q with checked := false }), by decide⟩,
   ⟨0, false, Cbs, by decide⟩,
   ⟨1, true, Cbs, by decide⟩,
   ⟨((CwithBoot Cbs fun b => {b with checked := true})), by decide⟩,
   ⟨((CwithBoot Cbs fun b => {b with checked := true, manifest := CbadMan})), by decide⟩,
   ⟨((up .service)), by decide⟩,
   ⟨(Csvc), by decide⟩,
   ⟨((Csvc.wrN 0x9C00 9 1)), by decide⟩,
   ⟨(Csvc), by decide⟩,
   ⟨up .service, by decide, by decide, by decide, securityVersion_small⟩,
   ⟨(up .service).wrN 0x9C00 9 1, by decide, by decide, Or.inl (by decide)⟩,
   ⟨(Cbz), by decide⟩,
   ⟨(Cbz), by decide⟩,
   ⟨(Cbz), by decide⟩,
   ⟨1, Crec1, Cwr Crec1.bytes (CwithBoot (up .service) fun b => { b with write := .rewrite }), by decide⟩,
   ⟨1, Crec1, Cwr Crec1.bytes (CwithBoot (up .service) fun b => { b with write := .clearTrial }), by decide⟩,
   ⟨1, Crec1, Cwr Crec1.bytes (CwithBoot (up .service) fun b => { b with write := .activate 1 true }), 1, true, by decide⟩⟩

theorem witness_SettingsAreCommittedToTheOtherSlot :
    (∃ (s : State), s.serves ∧ s.ctl.mode ≠ Mode.shed ∧ s.boot.commit = none ∧ s.boot.job = FlashJob.none ∧ s.boot.update =
      none) ∧
    (∃ (s : State), s.serves ∧ s.ctl.mode ≠ Mode.shed ∧ s.boot.commit = none ∧ s.boot.job = FlashJob.none ∧ s.boot.update =
      none) ∧
    (∃ (s : State), s.serves ∧ s.ctl.mode = Mode.shed) ∧
    (∃ (s : State), s.serves ∧ s.ctl.mode = Mode.shed) ∧
    (∃ (s : State), s.serves ∧ s.ctl.mode ≠ Mode.shed ∧ (s.boot.commit.isSome = true ∨ s.boot.job ≠ FlashJob.none ∨
      s.boot.update.isSome = true)) ∧
    (∃ (s : State), s.serves ∧ s.ctl.mode ≠ Mode.shed ∧ (s.boot.commit.isSome = true ∨ s.boot.job ≠ FlashJob.none ∨
      s.boot.update.isSome = true)) ∧
    (∃ (slot : Nat) (b : List Byte) (s : State), s.boot.commit = some (slot, b) ∧ b.length ≤ 0x400000) ∧
    (∃ (slot : Nat) (b : List Byte) (s : State), s.boot.commit = some (slot, b)) :=
  ⟨⟨(Csvc), by decide⟩,
   ⟨(Csvc), by decide⟩,
   ⟨((up .shed)), by decide⟩,
   ⟨((up .shed)), by decide⟩,
   ⟨(Ccm), by decide⟩,
   ⟨(Ccm), by decide⟩,
   ⟨1, [1,2,0xFF,4], (Ccm), by decide⟩,
   ⟨1, [1,2,0xFF,4], (Ccm), by decide⟩⟩

theorem witness_FlashCommandsStartAndEnd :
    (∃ (s : State), s.serves ∧ s.ctl.mode ≠ Mode.shed ∧ s.flashBusy = false ∧ s.rdN (0x9C20) 1 % 0x1000 = 0 ∧ s.rdN (0x9C20) 1
      + 0x1000 ≤ s.flashSize ∧ s.protectedRange (s.rdN (0x9C20) 1) (0x1000) = false) ∧
    (∃ (s : State), s.serves ∧ s.ctl.mode ≠ Mode.shed ∧ s.flashBusy = false ∧ s.rdN (0x9C20) 1 % 0x10000 = 0 ∧ s.rdN (0x9C20)
      1 + 0x10000 ≤ s.flashSize ∧ s.protectedRange (s.rdN (0x9C20) 1) (0x10000) = false) ∧
    (∃ (s : State), s.serves ∧ s.ctl.mode ≠ Mode.shed ∧ s.flashBusy = false ∧ s.rdN (0x9C20) 2 ≤ (s.rdS (0x9C20) 3).length ∧
      s.rdN (0x9C20) 1 + s.rdN (0x9C20) 2 ≤ s.flashSize ∧ s.protectedRange (s.rdN (0x9C20) 1) (s.rdN (0x9C20) 2) = false) ∧
    (∃ (s : State), s.serves ∧ s.ctl.mode ≠ Mode.shed ∧ s.flashBusy = false ∧ s.rdN (0x9C20) 1 + s.rdN (0x9C20) 2 ≤
      s.flashSize) ∧
    (∃ (s : State), s.serves ∧ s.ctl.mode ≠ Mode.shed ∧ s.flashBusy = false ∧ s.rdN (0x9C20) 1 + s.rdN (0x9C20) 2 ≤
      s.flashSize) ∧
    (∃ (s : State), s.serves ∧ s.ctl.mode ≠ Mode.shed ∧ s.flashBusy = false ∧ s.flashSize < s.rdN (0x9C20) 1 + s.rdN (0x9C20)
      2) ∧
    (∃ (s : State), s.serves ∧ s.ctl.mode ≠ Mode.shed ∧ s.flashBusy = false ∧ s.flashSize < s.rdN (0x9C20) 1 + s.rdN (0x9C20)
      2) ∧
    (∃ (s : State), s.serves ∧ s.ctl.mode ≠ Mode.shed ∧ s.flashBusy = false ∧ s.protectedRange (s.rdN (0x9C20) 1) (0x1000) =
      true) ∧
    (∃ (a : Nat) (n : Nat) (s : State), s.boot.job = FlashJob.erase a n) ∧
    (∃ (a : Nat) (n : Nat) (s : State), s.boot.job = FlashJob.erase a n) ∧
    (∃ (a : Nat) (b : List Byte) (s : State), s.boot.job = FlashJob.program a b ∧ s.firstUnerased a b.length = 0xFFFFFFFF) ∧
    (∃ (a : Nat) (b : List Byte) (s : State), s.boot.job = FlashJob.program a b ∧ s.firstUnerased a b.length = 0xFFFFFFFF) ∧
    (∃ (a : Nat) (b : List Byte) (s : State), s.boot.job = FlashJob.program a b ∧ s.firstUnerased a b.length ≠ 0xFFFFFFFF) ∧
    (∃ (a : Nat) (n : Nat) (ok : Bool) (s : State), s.boot.job = FlashJob.read a n) ∧
    (∃ (a : Nat) (n : Nat) (ok : Bool) (s : State), s.boot.job = FlashJob.blank a n) ∧
    (∃ (s : State), s.on 1 = true) :=
  ⟨⟨(Cg), by decide⟩,
   ⟨(Cg), by decide⟩,
   ⟨(Cg), by decide⟩,
   ⟨(Cg), by decide⟩,
   ⟨(Cg), by decide⟩,
   ⟨(Ch), by decide⟩,
   ⟨(Ch), by decide⟩,
   ⟨((up .service)), by decide⟩,
   ⟨4, 10, ((CwithBoot (up .service) fun b => {b with job := .erase 4 10})), by decide⟩,
   ⟨4, 10, ((CwithBoot (up .service) fun b => {b with job := .erase 4 10})), by decide⟩,
   ⟨4, [1,2,0xFF], (Cpj), by decide⟩,
   ⟨4, [1,2,0xFF], (Cpj), by decide⟩,
   ⟨4, [1,2,0xFF], ({Cpj with flash := [(5, 3)]}), by decide⟩,
   ⟨4, 10, true, CwithBoot (up .service) (fun b => { b with job := .read 4 10 }), by decide⟩,
   ⟨4, 10, true, CwithBoot (up .service) (fun b => { b with job := .blank 4 10 }), by decide⟩,
   ⟨((up .service)), by decide⟩⟩

theorem witness_BytesStandOutsideWhatIsStored :
    (∃ (a : Nat) (n : Nat) (x : Nat) (ok : Bool) (s : State) (t : State), s.boot.job = FlashJob.erase a n ∧ (x < a ∨ a + n ≤
      x) ∧ exec (Instr.flashCommandDone ok) s = Host.Outcome.next t) ∧
    (∃ (a : Nat) (x : Nat) (b : List Byte) (ok : Bool) (s : State) (t : State), s.boot.job = FlashJob.program a b ∧ (x < a ∨ a
      + b.length ≤ x) ∧ exec (Instr.flashCommandDone ok) s = Host.Outcome.next t) ∧
    (∃ (slot : Nat) (x : Nat) (b : List Byte) (ok : Bool) (s : State) (t : State), s.boot.commit = some (slot, b) ∧ (x <
      slotBase slot ∨ slotBase slot + b.length ≤ x) ∧ exec (Instr.commitComplete ok) s = Host.Outcome.next t) ∧
    (∃ (x : Nat) (s : State) (t : State), s.boot.write ≠ RecordWrite.none ∧ 0x2000 ≤ x ∧ exec Instr.bootRecordWriteDone s =
      Host.Outcome.next t) ∧
    (∃ (x : Nat) (s : State) (t : State), s.serves ∧ s.ctl.mode ≠ Mode.shed ∧ s.flashBusy = false ∧ exec
      Instr.erasePersistence s = Host.Outcome.next t) ∧
    (∃ (c : Instr) (s : State) (t : State), exec c s = Host.Outcome.next t) ∧
    (∃ (c : Instr) (s : State) (t : State), exec c s = Host.Outcome.next t) ∧
    (∃ (c : Instr) (s : State) (t : State), exec c s = Host.Outcome.next t) :=
  ⟨⟨4, 10, 3, true, CwithBoot (up .service) (fun b => {b with job := .erase 4 10}), _, rfl, by decide, rfl⟩,
   ⟨4, 6, [1, 2], true, CwithBoot (up .service) (fun b => {b with job := .program 4 [1, 2]}), _, rfl, by decide, rfl⟩,
   ⟨1, 0, [1, 2], true, CwithBoot (up .service) (fun b => {b with commit := some (1, [1, 2])}), _, rfl, by decide, rfl⟩,
   ⟨0x2000, CwithBoot (up .service) (fun b => {b with write := .rewrite}), _, by decide, by decide, rfl⟩,
   ⟨0x900000, up .service, _, by decide, by decide, by decide, rfl⟩,
   ⟨.errorCounterLeak 0, State.reset, _, rfl⟩,
   ⟨.errorCounterLeak 0, State.reset, _, rfl⟩,
   ⟨.errorCounterLeak 0, State.reset, _, rfl⟩⟩

theorem witness_BankCommandsUpdatesAndEntropyRetests :
    (∃ (ok : Bool) (s : State), s.serves ∧ s.flashBusy = false) ∧
    (∃ (s : State), s.serves ∧ s.flashBusy = false ∧ (s.ctl.mode = Mode.quiet ∨ s.ctl.mode = Mode.discover ∨ s.ctl.mode =
      Mode.service ∨ s.ctl.mode = Mode.test) ∧ s.bootSrc = 0) ∧
    (∃ (s : State), s.serves ∧ s.flashBusy = false ∧ (s.ctl.mode = Mode.quiet ∨ s.ctl.mode = Mode.discover ∨ s.ctl.mode =
      Mode.service ∨ s.ctl.mode = Mode.test) ∧ s.bootSrc = 0) ∧
    (∃ (s : State), s.serves ∧ s.flashBusy = false ∧ (s.ctl.mode = Mode.quiet ∨ s.ctl.mode = Mode.discover ∨ s.ctl.mode =
      Mode.service ∨ s.ctl.mode = Mode.test ∨ s.ctl.mode = Mode.safe) ∧ s.bootSrc = 0) ∧
    (∃ (s : State), s.serves ∧ s.flashBusy = false ∧ (s.ctl.mode = Mode.quiet ∨ s.ctl.mode = Mode.discover ∨ s.ctl.mode =
      Mode.service ∨ s.ctl.mode = Mode.test ∨ s.ctl.mode = Mode.safe) ∧ s.bootSrc = 0) ∧
    (∃ (u : Update) (w : Nat) (d : Nat) (s : State), s.boot.update = some u ∧ s.eng.move = none ∧ u.supervisor = false ∧ s.rdN
      (0x1011) 1 = 0 ∧ s.pow.restarting = false ∧ s.updateNext u = some w ∧ s.spareFor w = some d ∧ s.updateImageOk u (if
      u.reversing = true then s.bank else 1 - s.bank) (some w) = true) ∧
    (∃ (u : Update) (s : State), s.boot.update = some u ∧ s.eng.move = none ∧ u.supervisor = false ∧ u.reversing = false ∧
      s.rdN (0x1011) 1 = 0 ∧ s.pow.restarting = false ∧ s.updateLeft u = [] ∧ s.updateImageOk u (1 - s.bank) none = true) ∧
    (∃ (u : Update) (s : State), s.boot.update = some u ∧ s.eng.move = none ∧ u.supervisor = false ∧ u.reversing = false ∧
      s.rdN (0x1011) 1 = 0 ∧ s.pow.restarting = false ∧ s.updateLeft u = []) ∧
    (∃ (u : Update) (s : State), s.boot.update = some u ∧ s.eng.move = none ∧ u.supervisor = false ∧ u.reversing = true ∧
      s.rdN (0x1011) 1 = 0 ∧ s.pow.restarting = false ∧ s.updateLeft u = []) ∧
    (∃ (bits : List Bool) (s : State), s.rdN (0x1040) 2 ≠ 0 ∧ s.on 0 = true ∧ 0x1000 ≤ bits.length ∧ repetitionFails bits =
      false ∧ proportionFails bits = false) ∧
    (∃ (bits : List Bool) (s : State), s.rdN (0x1040) 2 ≠ 0 ∧ s.on 0 = true ∧ 0x1000 ≤ bits.length ∧ (repetitionFails bits =
      true ∨ proportionFails bits = true)) :=
  ⟨⟨true, up .service, by decide⟩,
   ⟨(Csvc), by decide⟩,
   ⟨(Csvc), by decide⟩,
   ⟨(Csvc), by decide⟩,
   ⟨(Csvc), by decide⟩,
   ⟨Cu, 10, 11, Cus.wrN 0x941B 1 3, by decide⟩,
   ⟨Cu3, (Cus3), by decide⟩,
   ⟨Cu3, (Cus3), by decide⟩,
   ⟨Cu4, (Cus4), by decide⟩,
   ⟨altBits 2048, (up .service).wrN 0x1040 2 2, by decide, by decide, by decide, altBits_pass, by decide⟩,
   ⟨List.replicate 4096 true, (up .service).wrN 0x1040 2 2, by decide, by decide, (List.length_replicate ..).ge, Or.inl
     (ones_fail 4095 (by decide))⟩⟩

theorem witness_ReadsAndWritesAreJudgedAndAnswered :
    (∃ (r : Req) (l : List RdItem) (s : State), s.takes r (Body.read l) ∧ (∀ (x : RspItem), x ∈ ((s.serving r).readItems r.src
      (roomFor r) l).fst → x.status ≠ Status.busy)) ∧
    (∃ (r : Req) (x : RdItem) (e : Entry) (s : State), s.takes r (Body.read [x]) ∧ r.src ≠ Source.mdio ∧ x.idx < 0xF000 ∧
      s.hasIdx x.idx = true ∧ entryOf x.idx x.sub = some e ∧ e.acc ≠ Acc.wo ∧ e.acc ≠ Acc.key ∧ (s.serving r).captureBusy
      x.idx x.sub = [] ∧ 8 + 4 * ceilDiv (e.ty.bytes ((s.serving r).view x.idx x.sub)).length 4 ≤ roomFor r) ∧
    (∃ (r : Req) (i : Nat) (j : Nat) (off : Nat) (len : Nat) (e : Entry) (s : State), s.takes r (Body.readBlock i j off len) ∧
      r.src ≠ Source.mdio ∧ i < 0xF000 ∧ s.hasIdx i = true ∧ entryOf i j = some e ∧ e.acc ≠ Acc.wo ∧ e.acc ≠ Acc.key ∧
      e.ty.isString = true ∧ off + len ≤ e.ty.size ∧ (s.serving r).captureBusy i j = [] ∧ 12 + 4 * ceilDiv len 4 ≤ roomFor r)
      ∧
    (∃ (r : Req) (x : RdItem) (s : State), s.takes r (Body.read [x]) ∧ r.src ≠ Source.mdio ∧ s.hasIdx x.idx = false ∧ x.idx <
      0xF000) ∧
    (∃ (r : Req) (x : RdItem) (s : State), s.takes r (Body.read [x]) ∧ r.src ≠ Source.mdio ∧ 0xF000 ≤ x.idx) ∧
    (∃ (r : Req) (x : RdItem) (s : State), s.takes r (Body.read [x]) ∧ r.src ≠ Source.mdio ∧ x.idx < 0xF000 ∧ s.hasIdx x.idx =
      true ∧ entryOf x.idx x.sub = none) ∧
    (∃ (r : Req) (x : WrItem) (e : Entry) (s : State), s.takes r (Body.write [x]) ∧ r.src ≠ Source.mdio ∧ x.idx < 0xF000 ∧
      s.hasIdx x.idx = true ∧ entryOf x.idx x.sub = some e ∧ e.acc = Acc.ro) ∧
    (∃ (r : Req) (l : List WrItem) (s : State), s.takes r (Body.write l) ∧ ((s.serving r).writeItems r.src l).waits = false ∧
      ((s.serving r).writeItems r.src l).retry = 0) ∧
    (∃ (r : Req) (x : WrItem) (s : State), s.takes r (Body.write [x]) ∧ ((s.serving r).writeItemOf r.src [x] x).fst =
      Status.done ∧ s.waitsHome x = false ∧ key x.idx x.sub ≠ key (0x1030) 6) ∧
    (∃ (r : Req) (i : Nat) (j : Nat) (off : Nat) (d : List Byte) (s : State), s.takes r (Body.writeBlock i j off d) ∧
      ((s.serving r).writeBlockItem r.src i j off d).fst ≠ Status.busy ∧ key i j ≠ key (0x1030) 6) :=
  ⟨⟨Drq, [⟨0x1001, 1⟩, ⟨0x1011, 9⟩, ⟨0xF000, 0⟩, ⟨0x1111, 0⟩], (Dmb), by decide⟩,
   ⟨Drq, ⟨0x1001, 1⟩, (Den 0x1001 1), (Dmb), by decide⟩,
   ⟨Drq, 0x1011, 9, 4, 5, (Den 0x1011 9), (Dmb), by decide⟩,
   ⟨Drq, ⟨0x1111, 9⟩, (Dmb), by decide⟩,
   ⟨Drq, ⟨0xF111, 9⟩, (Dmb), by decide⟩,
   ⟨Drq, ⟨0x1011, 99⟩, (Dmb), by decide⟩,
   ⟨Drq, ⟨0x1011, 1, 2, [4]⟩, (Den 0x1011 1), (Dmb), by decide⟩,
   ⟨Drq, [⟨0x1012, 3, 6, [4, 0]⟩, ⟨0x1012, 4, 2, [1]⟩, ⟨0x1001, 2, 10, [3]⟩], (Dmb), by decide⟩,
   ⟨Drq, ⟨0x1012, 3, 6, [4, 0]⟩, (Dmb), by decide⟩,
   ⟨Drq, 0x3440, 5, 0, (List.replicate 64 3), (Dmb), by decide⟩⟩

theorem witness_TransactionsAreStagedOrRejectedWhole :
    (∃ (r : Req) (target : Nat) (l : List WrItem) (s : State), s.takes r (Body.transaction target l) ∧ ((s.serving
      r).transactionFailure target l).fst = Status.done) ∧
    (∃ (r : Req) (target : Nat) (l : List WrItem) (s : State), s.takes r (Body.transaction target l) ∧ ((s.serving
      r).transactionFailure target l).fst ≠ Status.done) ∧
    (∃ (r : Req) (l : List (RdItem × Nat)) (s : State), s.takes r (Body.subscribe l)) ∧
    (∃ (r : Req) (i : Nat) (j : Nat) (p : Nat) (e : Entry) (s : State), s.takes r (Body.subscribe [({ idx := i, sub := j },
      p)]) ∧ 10 ≤ p ∧ i < 0xF000 ∧ s.hasIdx i = true ∧ entryOf i j = some e ∧ e.acc ≠ Acc.wo ∧ e.acc ≠ Acc.key ∧
      s.srv.subs.length < 256 ∧ (∀ (x : Machine.Sub), x ∈ s.srv.subs → ¬(x.src = r.src ∧ x.idx = i ∧ x.sub = j)) ∧ 0 <
      s.srv.nextSub) :=
  ⟨⟨Drq, 1000, [⟨0x3411, 2, 2, [40]⟩], ((Dmb.latchCarrier.wrN 0x1020 0x0A 1)), by decide⟩,
   ⟨Drq, 100, [⟨0x3411, 2, 3, [0, 160]⟩], (Dmb), by decide⟩,
   ⟨Drq, [({idx := 0x1001, sub := 1}, 20), ({idx := 0x1001, sub := 1}, 0), ({idx := 0x1001, sub := 2}, 5),
     ({idx := 0x1001, sub := 99}, 50)], (Dmb), by decide⟩,
   ⟨Drq, 0x1001, 1, 20, (Den 0x1001 1), (Dmb), by decide⟩⟩

theorem witness_RequestsAreServedOnceAndSegmentsAnswered :
    (∃ (r : Req) (l : List WrItem) (s : State), s.hears r (Body.write l) = true ∧ s.discards r (Body.write l) = false ∧
      (r.src, r.seq) ∈ s.srv.held) ∧
    (∃ (r : Req) (l : List WrItem) (x : Served) (s : State), s.hears r (Body.write l) = true ∧ s.discards r (Body.write l) =
      false ∧ (∀ (p : Source × Nat), p ∈ s.srv.held → p ≠ (r.src, r.seq)) ∧ List.find? (fun y => decide (y.src = r.src) &&
      y.seq == r.seq) s.srv.served = some x) ∧
    (∃ (r : Req) (l : List WrItem) (s : State), s.hears r (Body.write l) = true ∧ s.discards r (Body.write l) = true) ∧
    (∃ (r : Req) (l : List WrItem) (s : State), s.hears r (Body.write l) = false) ∧
    (∃ (r : Req) (l : List RdItem) (src : Source) (s : State), s.hears r (Body.read l) = true ∧ s.discards r (Body.read l) =
      false ∧ (∀ (p : Source × Nat), p ∈ s.srv.held → p ≠ (r.src, r.seq)) ∧ (∀ (x : Served), x ∈ s.srv.served → ¬(x.src =
      r.src ∧ x.seq = r.seq)) ∧ s.admits r (Body.read l) = true ∧ s.serverBusy = false ∧ s.srv.engaged = some src ∧ 1 ≤
      l.length ∧ l.length ≤ 64 ∧ s.queueFull r.src = false) ∧
    (∃ (r : Req) (l : List RdItem) (src : Source) (s : State), s.hears r (Body.read l) = true ∧ s.discards r (Body.read l) =
      false ∧ (∀ (p : Source × Nat), p ∈ s.srv.held → p ≠ (r.src, r.seq)) ∧ (∀ (x : Served), x ∈ s.srv.served → ¬(x.src =
      r.src ∧ x.seq = r.seq)) ∧ s.admits r (Body.read l) = true ∧ s.serverBusy = false ∧ s.srv.engaged = some src ∧ 1 ≤
      l.length ∧ l.length ≤ 64 ∧ s.queueFull r.src = true) ∧
    (∃ (n : Nat) (x : Machine.Sub) (a : Nat) (p : Nat) (s : State), List.find? (fun y => y.number == n) s.srv.subs = some x ∧
      x.src = Source.udp a p ∧ s.serverBusy = false ∧ s.t1sUp = true ∧ s.hasTurn = true) ∧
    (∃ (s : State), s.t1sUp = true ∧ s.hasTurn = true) ∧
    (∃ (s : State), s.t1sUp = true ∧ s.hasTurn = true) ∧
    (∃ (a : Nat) (s : State), a ≠ s.linkLocal) ∧
    (∃ (a : Nat) (s : State), a ≠ s.linkLocal) ∧
    (∃ (s : State), s.pow.released = true ∧ s.srv.addrValid = false ∧ s.srv.silent = false) ∧
    (∃ (s : State), s.pow.released = true ∧ s.srv.silent = false) :=
  ⟨⟨Drq, [⟨0x1012, 3, 6, [1, 4]⟩], ({Dmb with srv := {Dmb.srv with held := [(.mailbox, 5)]}}), by decide⟩,
   ⟨Drq, [⟨0x1012, 3, 6, [1, 4]⟩], Dsv, ({Dmb with srv := {Dmb.srv with served := [Dsv]}}), by decide⟩,
   ⟨{Drq with version := 2}, [⟨0x1012, 3, 6, [1, 4]⟩], (Dmb), by decide⟩,
   ⟨Drq, [⟨0x1012, 3, 6, [1, 4]⟩], ((up .service)), by decide⟩,
   ⟨Drq, [⟨0x1001, 1⟩], .mdio, { Dmb with srv := { Dmb.srv with engaged := some .mdio } }, by decide⟩,
   ⟨Drq, [⟨0x1001, 1⟩], .mdio,
     { Dmb with srv := { Dmb.srv with engaged := some .mdio, queue := (List.range 32).map fun i => .message { Drq with seq := i + 100 } (.read [⟨0x1001, 1⟩]) } },
     by decide⟩,
   ⟨3, Dsb, 9, 9, ({Dud with srv := {Dud.srv with subs := [Dsb]}}), by decide⟩,
   ⟨(Dud), by decide⟩,
   ⟨(Dud), by decide⟩,
   ⟨5, (Dud), by decide⟩,
   ⟨5, (Dud), by decide⟩,
   ⟨((up .boot)), by decide⟩,
   ⟨((up .boot)), by decide⟩⟩

theorem witness_WindowOperationsLeaveTheirStatus :
    (∃ (op : MdioOp) (s : State), s.windowHears op = true ∧ s.serverBusy = false ∧ s.srv.engaged = none ∧ s.srv.queue = [] ∧
      s.windowKey Source.mdio (op.index % 0x10000) (op.sub % 256) = false ∧ ((s.windowGo op 1).enqueue.readItem Source.mdio
      (op.index % 0x10000) (op.sub % 256)).snd.snd.length ≤ 256) ∧
    (∃ (op : MdioOp) (s : State), s.windowHears op = true ∧ s.serverBusy = false ∧ s.srv.engaged = none ∧ s.srv.queue = [] ∧
      s.windowKey Source.mdio (op.index % 0x10000) (op.sub % 256) = false ∧ op.len ≤ 256 ∧ ¬(0x8D00 ≤ op.index % 0x10000 ∧
      op.index % 0x10000 < 0x8E00)) ∧
    (∃ (op : MdioOp) (s : State), s.windowHears op = true ∧ s.serverBusy = false ∧ s.srv.engaged = none ∧ s.srv.queue = [] ∧
      s.windowKey Source.mdio (op.index % 0x10000) (op.sub % 256) = false ∧ op.len ≤ 256) ∧
    (∃ (op : MdioOp) (s : State), s.windowHears op = true ∧ s.serverBusy = false ∧ s.srv.engaged = none ∧ s.srv.queue = [] ∧
      s.windowKey Source.mdio (op.index % 0x10000) (op.sub % 256) = false ∧ op.len ≤ 256) ∧
    (∃ (op : MdioOp) (s : State), s.windowHears op = true ∧ s.windowKey Source.mdio (op.index % 0x10000) (op.sub % 256) =
      true) ∧
    (∃ (op : MdioOp) (s : State), s.windowHears op = true ∧ s.windowKey Source.mdio (op.index % 0x10000) (op.sub % 256) =
      true) ∧
    (∃ (op : MdioOp) (c : Nat) (s : State), s.windowHears op = true ∧ (c = 0 ∨ c = 5 ∨ c = 6 ∨ c = 7)) ∧
    (∃ (s : State), s.srv.mdioOn = true ∧ s.srv.winPtr < 128) ∧
    (∃ (s : State), s.srv.mdioOn = true ∧ s.srv.winPtr < 128 ∧ s.srv.winData.length = 256) ∧
    (∃ (reg : Nat) (s : State), s.srv.mdioOn = true ∧ reg ≠ 0x8008) ∧
    (∃ (a : RegAccess) (s : State), (s.srv.mdioOn = false ∨ a.prtad ≠ field s.pow.straps 9 5 ∨ a.dev ≠ 30)) :=
  ⟨⟨Dop, (Dud), by decide⟩,
   ⟨Dop, (Dwd), by decide⟩,
   ⟨Dopb, (Dwd), by decide⟩,
   ⟨{Dop with index := 0x3440, sub := 5, len := 64}, (Dwd), by decide⟩,
   ⟨{Dop with index := 0x1050, sub := 2}, (Dau), by decide⟩,
   ⟨{Dop with index := 0x1050, sub := 2}, (Dau), by decide⟩,
   ⟨Dop, 0, Dwd, by decide⟩,
   ⟨(Dwd), by decide⟩,
   ⟨(Dwd), by decide⟩,
   ⟨2, Dwd, by decide⟩,
   ⟨⟨7, 30, 0x8008, none⟩, (Dwd), by decide⟩⟩

theorem witness_MailboxAndMasterCarryRequests :
    (∃ (ctrl : BitVec 32) (len : Nat) (msg : List Byte) (r : Req) (l : List RdItem) (s : State), s.mailboxUp = true ∧ bit
      ctrl.toNat 0 = true ∧ bit s.srv.mbxStatus 0 = false ∧ 24 ≤ len ∧ len ≤ 0x1000 ∧ parseMessage (padTo len (List.take len
      msg)) = (r, some (Body.read l))) ∧
    (∃ (ctrl : BitVec 32) (len : Nat) (msg : List Byte) (r : Req) (l : List WrItem) (s : State), s.mailboxUp = true ∧ bit
      ctrl.toNat 0 = true ∧ bit s.srv.mbxStatus 0 = false ∧ 24 ≤ len ∧ len ≤ 0x1000 ∧ parseMessage (padTo len (List.take len
      msg)) = (r, some (Body.write l))) ∧
    (∃ (s : State), s.mailboxUp = true ∧ bit s.srv.mbxStatus 0 = true) ∧
    (∃ (s : State), s.mailboxUp = true) ∧
    (∃ (s : State), s.mailboxUp = false) ∧
    (∃ (s : State), s.mailboxUp = false) ∧
    (∃ (x : WrItem) (e : Entry) (s : State), s.identityServed = true ∧ entryOf x.idx x.sub = some e ∧ e.groupWide = true ∧
      (s.writeItemOf Source.mailbox [x] x).fst = Status.done ∧ s.waitsHome x = false) ∧
    (∃ (x : WrItem) (e : Entry) (v : DVal) (s : State), s.serves ∧ s.hasIdx x.idx = true ∧ x.idx < 0xF000 ∧ x.idx ≠ 0 ∧
      entryOf x.idx x.sub = some e ∧ e.groupWide = true ∧ e.acc = Acc.rw ∧ entryValue e x.ty x.val = ([], v) ∧ s.groupRole = 2
      ∧ firstFailure (s.entryEffect x.idx x.sub v).fails = Status.done) ∧
    (∃ (x : WrItem) (e : Entry) (v : DVal) (s : State), entryOf x.idx x.sub = some e ∧ e.groupWide = true ∧ e.acc ≠ Acc.wo ∧
      x.idx = 0x8C00 ∧ s.groupRole = 2 ∧ entryValue e x.ty x.val = ([], v)) :=
  ⟨⟨1, Dmsg.length, Dmsg, Drq, [⟨0x1001, 1⟩], (Dmb), by decide⟩,
   ⟨1, Dmsg2.length, Dmsg2, Drq, [⟨0x1012, 3, 6, [1, 4]⟩], (Dmb), by decide⟩,
   ⟨({Dmb with srv := {Dmb.srv with mbxStatus := 1}}), by decide⟩,
   ⟨({Dmb with srv := {Dmb.srv with mbxStatus := 15}}), by decide⟩,
   ⟨(Dud), by decide⟩,
   ⟨(Dud), by decide⟩,
   ⟨⟨0x8C00, 0xB, 3, [0,64]⟩, (Den 0x8C00 0xB), ((Dst 4)), by decide⟩,
   ⟨⟨0x8C00, 0xB, 3, [0,64]⟩, (Den 0x8C00 0xB), (.num 64), ((Dst 1)), by decide⟩,
   ⟨⟨0x8C00, 0xB, 3, [0,64]⟩, (Den 0x8C00 0xB), (.num 64), ((Dst 1)), by decide⟩⟩

theorem witness_MailboxRequestsReadBackFromTheirBytes :
    (∃ (r : Req) (tag : List Byte) (l : List RdItem), r.src = Source.mailbox ∧ r.dst = Dest.own ∧ r.port = 0 ∧ r.version = 1 ∧
      (tag = match r.auth with | some a => a.tag | none => []) ∧ (Instr.read r l).wf = true) ∧
    (∃ (r : Req) (tag : List Byte) (l : List WrItem), r.src = Source.mailbox ∧ r.dst = Dest.own ∧ r.port = 0 ∧ r.version = 1 ∧
      (tag = match r.auth with | some a => a.tag | none => []) ∧ (Instr.write r l).wf = true) ∧
    (∃ (r : Req) (tag : List Byte) (i : Nat) (j : Nat) (off : Nat) (len : Nat), r.src = Source.mailbox ∧ r.dst = Dest.own ∧
      r.port = 0 ∧ r.version = 1 ∧ (tag = match r.auth with | some a => a.tag | none => []) ∧ (Instr.readBlock r i j off
      len).wf = true) ∧
    (∃ (r : Req) (tag : List Byte) (i : Nat) (j : Nat) (off : Nat) (d : List Byte), r.src = Source.mailbox ∧ r.dst = Dest.own
      ∧ r.port = 0 ∧ r.version = 1 ∧ (tag = match r.auth with | some a => a.tag | none => []) ∧ (Instr.writeBlock r i j off
      d).wf = true) ∧
    (∃ (r : Req) (tag : List Byte) (target : Nat) (l : List WrItem), r.src = Source.mailbox ∧ r.dst = Dest.own ∧ r.port = 0 ∧
      r.version = 1 ∧ (tag = match r.auth with | some a => a.tag | none => []) ∧ (Instr.transaction r target l).wf = true) ∧
    (∃ (r : Req) (tag : List Byte) (l : List (RdItem × Nat)), r.src = Source.mailbox ∧ r.dst = Dest.own ∧ r.port = 0 ∧
      r.version = 1 ∧ (tag = match r.auth with | some a => a.tag | none => []) ∧ (Instr.subscribe r l).wf = true) :=
  ⟨⟨Dra, Dau2.tag, [⟨0x1001, 1⟩, ⟨1, 2⟩], by decide⟩,
   ⟨Dra, Dau2.tag, [⟨0x1012, 3, 6, [1, 4]⟩, ⟨0x1012, 3, 6, [1, 4,5,6,7]⟩], by decide⟩,
   ⟨Dra, Dau2.tag, 65535, 255, 0xFFFFFFFF, 65535, by decide⟩,
   ⟨Dra, Dau2.tag, 65535, 255, 0xFFFFFFFF, [1,2,3,4,5], by decide⟩,
   ⟨Drq, [], (2^64-1), [⟨0x1012, 3, 6, [1, 4]⟩, ⟨0x1012, 3, 6, [1, 4,5,6,7]⟩], by decide⟩,
   ⟨Dra, Dau2.tag, [({idx := 65535, sub := 255}, 65535), ({idx := 1, sub := 2}, 65535)], by decide⟩⟩

theorem witness_ThreadsAndTransactionsFollowTheChannel :
    (∃ (k : Fin 32) (m : Nat) (s : State), lget k.val s.cfg.retireAt = some m ∧ m + 16 ≤ s.mf) ∧
    (∃ (k : Fin 32) (m : Nat) (s : State), lget k.val s.cfg.retireAt = some m ∧ s.mf < m + 16) ∧
    (∃ (k : Fin 32) (s : State), s.rxStatus k.val = 0) ∧
    (∃ (k : Fin 32) (s : State), s.rxStatus k.val ≠ 0) ∧
    (∃ (k : Fin 32) (m : Nat) (s : State), s.txStatus k.val = 3 ∧ lget k.val s.cfg.readmitAt = some m ∧ m + s.readmitLimit ≤
      s.mf) ∧
    (∃ (k : Fin 32) (m : Nat) (s : State), s.rxStatus k.val = 3 ∧ lget k.val s.cfg.rxReadmitAt = some m ∧ m + s.readmitLimit ≤
      s.rdN (0x3440) 13) ∧
    (∃ (k : Fin 32) (s : State), (∀ (m : Nat), lget k.val s.cfg.readmitAt = some m → s.txStatus k.val ≠ 3 ∨ s.mf < m +
      s.readmitLimit) ∧ (∀ (m : Nat), lget k.val s.cfg.rxReadmitAt = some m → s.rdN (0x3440) 13 < m + s.readmitLimit)) ∧
    (∃ (num : Nat) (target : Nat) (x : Staged) (s : State), x ∈ s.tra.staged ∧ x.twoEnded = true ∧ x.num = num ∧ x.target =
      target) ∧
    (∃ (num : Nat) (target : Nat) (s : State), (∀ (x : Staged), x ∈ s.tra.staged → ¬(x.twoEnded = true ∧ x.num = num ∧
      x.target = target))) ∧
    (∃ (num : Nat) (target : Nat) (s : State), (∀ (x : Staged), x ∈ s.tra.staged → ¬(x.twoEnded = true ∧ x.num = num ∧
      x.target = target))) ∧
    (∃ (num : Nat) (target : Nat) (x : Staged) (s : State), List.find? (fun x => x.twoEnded && x.num == num && x.target ==
      target) s.tra.staged = some x) ∧
    (∃ (num : Nat) (x : Staged) (s : State), List.find? (fun x => x.twoEnded && x.num == num && !x.acked) s.tra.staged = some
      x) ∧
    (∃ (p : Propose) (pages : List (Nat × List Byte)) (s : State), s.on 16 = true ∧ (∀ (x : FarPart), x ∈ s.tra.far →
      x.prop.num ≠ p.num) ∧ (∀ (k : Nat), k ∈ bitsOf 32 p.mapMask → Option.map pageDigest (lget k pages) = some
      (p.digests.getD k 0)) ∧ firstListed (s.proposeFails p pages) = Status.done) ∧
    (∃ (p : Propose) (pages : List (Nat × List Byte)) (s : State), s.on 16 = true ∧ (∀ (x : FarPart), x ∈ s.tra.far →
      x.prop.num ≠ p.num) ∧ (∀ (k : Nat), k ∈ bitsOf 32 p.mapMask → Option.map pageDigest (lget k pages) = some
      (p.digests.getD k 0)) ∧ firstListed (s.proposeFails p pages) ≠ Status.done) ∧
    (∃ (num : Nat) (target : Nat) (x : FarPart) (s : State), x ∈ s.tra.far ∧ x.prop.num = num ∧ x.prop.target = target ∧ s.rdN
      (0x3440) 13 < target ∧ target ≤ s.rdN (0x3440) 13 + 4) ∧
    (∃ (target : Nat) (s : State), (target ≤ s.rdN (0x3440) 13 ∨ s.rdN (0x3440) 13 + 4 < target)) ∧
    (∃ (num : Nat) (x : FarPart) (s : State), List.find? (fun x => x.prop.num == num) s.tra.far = some x) ∧
    (∃ (num : Nat) (x : FarPart) (s : State), List.find? (fun x => x.prop.num == num && !x.confirmed) s.tra.far = some x) :=
  ⟨⟨3, 7, ((Er.wrN 0x1020 1 30)), by decide⟩,
   ⟨3, 7, ((Er.wrN 0x1020 1 20)), by decide⟩,
   ⟨3, ((Er.wrN 0x3413 6 0)), by decide⟩,
   ⟨3, ((Er.wrN 0x3413 6 3)), by decide⟩,
   ⟨3, 7, ((Era.wrN 0x3413 5 3)), by decide⟩,
   ⟨3, 7, ((Era.wrN 0x3413 6 3)), by decide⟩,
   ⟨3, ((((Era.wrN 0x3413 5 3).wrN 0x1020 1 9).wrN 0x3440 0xD 9)), by decide⟩,
   ⟨3, 50, Esx, (Eq), by decide⟩,
   ⟨4, 50, (Eq), by decide⟩,
   ⟨4, 50, (Eq), by decide⟩,
   ⟨3, 50, Esx, (Eq), by decide⟩,
   ⟨3, Esx, (Eq), by decide⟩,
   ⟨Epp, [(0, emptyPage)], (Els), by decide⟩,
   ⟨{Epp with entMask := 2 ^ 31}, [(0, emptyPage)], (Els), by decide⟩,
   ⟨3, 50, Efp, ((Eq2.wrN 0x3440 0xD 46)), by decide⟩,
   ⟨50, ((Eq2.wrN 0x3440 0xD 45)), by decide⟩,
   ⟨3, Efp, (Eq2), by decide⟩,
   ⟨3, Efp, (Eq2), by decide⟩⟩

theorem witness_CalibrationsEndAndSlicesAreReplaced :
    (∃ (s : State), s.rdN (0x2000) 9 = 1) ∧
    (∃ (s : State), s.on 2 = true) ∧
    (∃ (s : State), s.rdBit (0x2000) 12 0 = true) ∧
    (∃ (uv : Nat) (s : State), s.on 2 = true ∧ s.rdN (0x2000) 7 < 50 * (max uv (s.rdN (0x2000) 7) - min uv (s.rdN (0x2000)
      7))) ∧
    (∃ (uv : Nat) (s : State), s.on 2 = true ∧ 50 * (max uv (s.rdN (0x2000) 7) - min uv (s.rdN (0x2000) 7)) ≤ s.rdN (0x2000)
      7) ∧
    (∃ (a : Fin 4) (n : Fin 152) (w : SliceWatch) (c : Nat) (h : Nat) (s : State), (s.adcSlice a.val n.val).role = 0 ∧
      sliceCause w = some c ∧ ¬(a.val, n.val) ∈ s.cnv.retires ∧ lget a.val s.cnv.rotations = none ∧ (s.faulty a.val n.val
      c).hotSpare a.val = some h ∧ h ≠ n.val) ∧
    (∃ (w : SliceWatch), (w.run < 0x1000 ∨ w.input ≤ 1024) ∧ w.meanOff.natAbs ≤ 2048) ∧
    (∃ (a : Nat) (n : Nat) (s : State), s.serves ∧ s.lineMode = true ∧ s.cursorSlice = (a, n) ∧ a < 4 ∧ n < 152 ∧ (s.adcSlice
      a n).role = 1 ∧ 2 ≤ (s.inRole a 1).length ∧ lget a s.cnv.rotations = none ∧ (∀ (x : Nat × Nat), x ∈ s.cnv.retires →
      x.fst ≠ a)) ∧
    (∃ (a : Nat) (n : Nat) (m : SliceMeasure) (s : State), s.serves ∧ s.lineMode = true ∧ s.cursorSlice = (a, n) ∧ a < 4 ∧ n <
      152 ∧ ((s.adcSlice a n).role = 5 ∨ (s.adcSlice a n).role = 6) ∧ s.rotates = true ∧ (∀ (x : Nat × Nat), x ∈ s.cnv.retires
      → x.fst ≠ a) ∧ s.cnv.startDue.contains a = false ∧ withinLimits m.left = true) ∧
    (∃ (a : Nat) (n : Nat) (m : SliceMeasure) (s : State), s.serves ∧ s.lineMode = true ∧ s.cursorSlice = (a, n) ∧ a < 4 ∧ n <
      152 ∧ ((s.adcSlice a n).role = 5 ∨ (s.adcSlice a n).role = 6) ∧ s.rotates = true ∧ (∀ (x : Nat × Nat), x ∈ s.cnv.retires
      → x.fst ≠ a) ∧ s.cnv.startDue.contains a = false ∧ withinLimits m.left = false) ∧
    (∃ (a : Nat) (n : Nat) (m : SliceMeasure) (s : State), s.serves ∧ s.lineMode = true ∧ s.cursorSlice = (a, n) ∧ a < 4 ∧ n <
      152 ∧ s.rotates = false ∧ ((s.adcSlice a n).role = 5 ∨ (s.adcSlice a n).role = 6)) ∧
    (∃ (a : Nat) (n : Nat) (m : SliceMeasure) (s : State), s.serves ∧ s.lineMode = true ∧ s.cursorSlice = (a, n) ∧ a < 4 ∧ n <
      152 ∧ s.rotates = false ∧ (s.adcSlice a n).role = 0 ∧ 2 ≤ (s.inRole a 1).length ∧ lget a s.cnv.rotations = none ∧ (∀ (x
      : Nat × Nat), x ∈ s.cnv.retires → x.fst ≠ a)) :=
  ⟨⟨((Fsv.wrN 0x2000 9 1)), by decide⟩,
   ⟨(Fsv), by decide⟩,
   ⟨((Fsv.wrN 0x2000 0xC 1)), by decide⟩,
   ⟨5, ((Fsv.wrN 0x2000 7 1000)), by decide⟩,
   ⟨990, ((Fsv.wrN 0x2000 7 1000)), by decide⟩,
   ⟨1, 7, { run := 5000, input := 2000, meanOff := 0 }, 1, 21, (Fr0), by decide⟩,
   ⟨{ run := 5, input := 2000, meanOff := 0 }, by decide⟩,
   ⟨1, 20, (Fcs), by decide⟩,
   ⟨1, 20, Fmo, Fcs.setSlice 1 20 (Fslc 5 255 3), by decide⟩,
   ⟨1, 20, Fmn, Fcs.setSlice 1 20 (Fslc 5 255 3), by decide⟩,
   ⟨1, 20, Fmo, FwithCnv (fun c => { c with frozen := true }) (Fcs.setSlice 1 20 (Fslc 5 255 3)), by decide⟩,
   ⟨1, 7, Fmo, FwithCnv (fun c => { c with frozen := true }) (Fcs.wrN 0x2020 2 7), by decide⟩⟩

theorem witness_RotationsRunStepByStep :
    (∃ (a : Fin 4) (n : Nat) (l : Nat) (s : State), s.rdN (0x2000) 9 = 2 ∧ s.rotates = true ∧ lget a.val s.cnv.rotations =
      none ∧ 2 ≤ (s.inRole a.val 1).length ∧ s.oldestSpare a.val = some n ∧ s.liveAt a.val (s.rdN (0x2010 + a.val) 13) = some
      l) ∧
    (∃ (a : Fin 4) (r : Rotation) (s : State), s.rdN (0x2000) 9 = 2 ∧ s.rotates = true ∧ lget a.val s.cnv.rotations = some r)
      ∧
    (∃ (a : Fin 4) (m : SliceMeasure) (r : Rotation) (s : State), lget a.val s.cnv.rotations = some r ∧ r.shadowing = false ∧
      r.swapped = false ∧ s.rotates = true ∧ withinLimits m.left = true) ∧
    (∃ (a : Fin 4) (m : SliceMeasure) (r : Rotation) (s : State), lget a.val s.cnv.rotations = some r ∧ r.shadowing = false ∧
      r.swapped = false ∧ s.rotates = true ∧ withinLimits m.left = false ∧ (∀ (x : Nat × Nat), x ∈ s.cnv.retires → x.fst ≠
      a.val) ∧ s.cnv.startDue.contains a.val = false) ∧
    (∃ (a : Fin 4) (d : Residual) (r : Rotation) (s : State), lget a.val s.cnv.rotations = some r ∧ r.shadowing = true ∧
      r.swapped = false ∧ s.rotates = true ∧ withinLimits d = true ∧ r.retire = false ∧ r.spare ≠ r.live) ∧
    (∃ (a : Fin 4) (d : Residual) (r : Rotation) (s : State), lget a.val s.cnv.rotations = some r ∧ r.shadowing = true ∧
      r.swapped = false ∧ s.rotates = true ∧ withinLimits d = false ∧ r.windows < 3) ∧
    (∃ (a : Fin 4) (d : Residual) (r : Rotation) (s : State), lget a.val s.cnv.rotations = some r ∧ r.shadowing = true ∧
      r.swapped = false ∧ s.rotates = true ∧ withinLimits d = false ∧ 3 ≤ r.windows) ∧
    (∃ (a : Fin 4) (r : Rotation) (s : State), lget a.val s.cnv.rotations = some r ∧ r.swapped = true ∧ s.rotates = true ∧ (∀
      (x : Nat × Nat), x ∈ s.cnv.retires → x.fst ≠ a.val) ∧ s.cnv.startDue.contains a.val = false) :=
  ⟨⟨1, 20, 7, (Fr0), by decide⟩,
   ⟨1, Frt, (Frs), by decide⟩,
   ⟨1, Fmo, Frt, (Frs), by decide⟩,
   ⟨1, Fmn, Frt, (Frs), by decide⟩,
   ⟨1, Fok, {Frt with shadowing := true}, (Frs2), by decide⟩,
   ⟨1, Fno, {Frt with shadowing := true}, (Frs2), by decide⟩,
   ⟨1, Fno, Frt3, ((FwithCnv (fun c => {c with rotations := [(1, Frt3)]}) Frs2)), by decide⟩,
   ⟨1, Frt4, (Frs3), by decide⟩⟩

theorem witness_TrimsAndGainsMoveOneStep :
    (∃ (d : Fin 4) (s : State), s.dacBackground = 0 ∧ s.on (6 + d.val) = true) ∧
    (∃ (d : Fin 4) (level : Int) (s : State), s.on (6 + d.val) = true ∧ level ≠ s.rdI (0x2030 + d.val) 9) ∧
    (∃ (j : Fin 8) (s : State), j.val < 4 ∧ 2 ≤ s.rdN (0x2000) 9) ∧
    (∃ (j : Fin 8) (m : Nat) (s : State), s.rdB (0x2050 + j.val) 1 = true ∧ s.gainHeld j.val = false ∧ s.rdB (0x2041 + s.rdN
      (0x2050 + j.val) 2) 1 = true ∧ 2 ≤ s.rdN (0x2000) 9 ∧ s.itemRuns 9 = true ∧ s.rdN (0x2050 + j.val) 6 = 0 ∧ gainWish
      (decide (j.val < 4)) (s.rdN (0x2050 + j.val) 8) m = 1 ∧ s.rdN (0x2050 + j.val) 9 < s.rdN (0x2050 + j.val) 5 ∧ s.rdN
      (0x2050 + j.val) 4 ≤ s.rdN (0x2050 + j.val) 9) ∧
    (∃ (j : Fin 8) (m : Nat) (s : State), s.rdB (0x2050 + j.val) 1 = true ∧ s.gainHeld j.val = false ∧ s.rdB (0x2041 + s.rdN
      (0x2050 + j.val) 2) 1 = true ∧ 2 ≤ s.rdN (0x2000) 9 ∧ s.itemRuns 9 = true ∧ gainWish (decide (j.val < 4)) (s.rdN (0x2050
      + j.val) 8) m = 0) ∧
    (∃ (j : Fin 8) (s : State), s.gainHeld j.val = true ∧ s.itemRuns 9 = true) ∧
    (∃ (j : Fin 8) (s : State), (s.gainHeld j.val = false ∨ s.itemRuns 9 = false)) :=
  ⟨⟨2, ((Fsv.wrN 0x2000 9 2)), by decide⟩,
   ⟨2, 5, (Fsv), by decide⟩,
   ⟨2, (Fg), by decide⟩,
   ⟨2, 500, (Fg), by decide⟩,
   ⟨2, 1000, (Fg), by decide⟩,
   ⟨2, ((FwithCnv (fun c => {c with gainHold := [2]}) Fg)), by decide⟩,
   ⟨2, (Fg), by decide⟩⟩

theorem witness_MutingAndLowPowerFollowTheirCauses :
    (∃ (s : State), s.serves ∧ s.on 14 = true ∧ s.rdBit (0x2400) 6 0 = false) ∧
    (∃ (s : State), s.serves ∧ s.on 14 = true ∧ s.lineMode = true ∧ s.rdN (0x2400) 6 = 1 ∧ s.tx.muted = true ∧ s.tx.settling =
      false ∧ s.tx.ramping ≠ some true) ∧
    (∃ (s : State), s.tx.settling = true ∧ s.txEnableOk = true) ∧
    (∃ (s : State), s.tx.ramping = some true) ∧
    (∃ (s : State), s.tx.ramping = some false) ∧
    (∃ (s : State), s.on 14 = true ∧ s.rdBit (0x1001) 7 4 = false ∧ s.mayRise = true) ∧
    (∃ (s : State), s.tx.rising = true) :=
  ⟨⟨((Fsv.wrN 0x2400 6 0)), by decide⟩,
   ⟨((Fsv.wrN 0x2400 6 1)), by decide⟩,
   ⟨((Fst.wrN 0x2400 1 0)), by decide⟩,
   ⟨((FwithTx (fun t => {t with ramping := some true}) Fsv)), by decide⟩,
   ⟨((FwithTx (fun t => {t with ramping := some false}) Fsv)), by decide⟩,
   ⟨(((Fsv).each (List.range 32) fun u k => u.wrN (0x3450 + k) 1 3)), by decide⟩,
   ⟨((FwithTx (fun t => {t with attenuation := 7, rising := true}) Fsv)), by decide⟩⟩

theorem witness_CoefficientSetsAreStagedForABoundary :
    (∃ (set : List Byte) (s : State), s.on 14 = true ∧ s.dpdMode = 1 ∧ s.itemRuns 9 = true ∧ s.tx.dpdCheck = [] ∧
      s.tx.dpdReversion = false ∧ set.length = 192) ∧
    (∃ (rx : PicotRx) (m : DpdMsg) (s : State), (s.ctl.mode = Mode.service ∨ s.ctl.mode = Mode.shed) ∧ s.dpdMode = 2 ∧
      s.picotFound rx = true ∧ s.itemRuns 8 = true ∧ s.rdN (0x2401) 5 ≤ m.first ∧ m.first ≤ m.last ∧ m.last ≤ s.mf ∧
      s.tx.dpdShadow = none ∧ s.tx.dpdHeld = none) ∧
    (∃ (rx : PicotRx) (m : DpdMsg) (h : DpdMsg) (s : State), (s.ctl.mode = Mode.service ∨ s.ctl.mode = Mode.shed) ∧ s.dpdMode
      = 2 ∧ s.picotFound rx = true ∧ s.itemRuns 8 = true ∧ s.rdN (0x2401) 5 ≤ m.first ∧ m.first ≤ m.last ∧ m.last ≤ s.mf ∧
      s.tx.dpdShadow = none ∧ s.tx.dpdHeld = some h ∧ h.first = m.first ∧ h.last = m.last ∧ h.pol ≠ m.pol ∧ s.tx.dpdCheck =
      []) ∧
    (∃ (rx : PicotRx) (m : DpdMsg) (s : State), (s.ctl.mode = Mode.service ∨ s.ctl.mode = Mode.shed) ∧ s.dpdMode = 2 ∧
      s.picotFound rx = true ∧ s.itemRuns 8 = true ∧ (m.first < s.rdN (0x2401) 5 ∨ m.last < m.first ∨ s.mf < m.last)) ∧
    (∃ (rx : PicotRx) (m : DpdMsg) (s : State), (s.ctl.mode ≠ Mode.service ∧ s.ctl.mode ≠ Mode.shed ∨ s.dpdMode ≠ 2) ∧
      s.picotFound rx = true ∧ s.itemRuns 8 = true) ∧
    (∃ (rx : PicotRx) (m : DpdMsg) (s : State), (s.picotFound rx = false ∨ s.itemRuns 8 = false)) ∧
    (∃ (s : State), s.on 14 = true ∧ s.dpdMode = 2) :=
  ⟨⟨Fst2, (Fd1), by decide⟩,
   ⟨Frxs, Fm, FwithTx (fun t => { t with dpdMode := 2 }) ((up .service).wrN 0x1020 1 50), by decide⟩,
   ⟨Frxs, Fm, { Fm with pol := 1 }, FwithTx (fun t => { t with dpdHeld := some { Fm with pol := 1 } }) (FwithTx (fun t =>
     { t with dpdMode := 2 }) ((up .service).wrN 0x1020 1 50)), by decide⟩,
   ⟨Frxs, { Fm with last := 90 }, FwithTx (fun t => { t with dpdMode := 2 }) ((up .service).wrN 0x1020 1 50), by decide⟩,
   ⟨Frxs, Fm, Fd1, by decide⟩,
   ⟨{ Frxs with correlation := 5 }, Fm, FwithTx (fun t => { t with dpdMode := 2 }) ((up .service).wrN 0x1020 1 50), by
     decide⟩,
   ⟨FwithTx (fun t => { t with dpdMode := 2 }) ((up .service).wrN 0x1020 1 50), by decide⟩⟩

theorem witness_AcquisitionRunsStepByStep :
    (∃ (s : State), s.acqRuns = true ∧ s.rx.step = AcqStep.signal ∧ s.rdBit (0x2800) 13 0 = false ∧ s.rdBit (0x2800) 13 4 =
      false) ∧
    (∃ (f : Int) (s : State), s.acqRuns = true ∧ s.rx.step = AcqStep.frequency) ∧
    (∃ (l : List Nat) (s : State), s.acqRuns = true ∧ s.rx.step = AcqStep.warm ∧ l.length = 9) ∧
    (∃ (p : Int) (s : State), s.acqRuns = true ∧ s.rx.step = AcqStep.cold ∧ s.sweepPlace = some p ∧ s.rx.fine = none ∧ p ≠ 16
      * s.coarse.snd) ∧
    (∃ (p : Int) (s : State), s.acqRuns = true ∧ s.rx.step = AcqStep.cold ∧ s.sweepPlace = some p ∧ s.rx.fine = none ∧ p = 16
      * s.coarse.snd) ∧
    (∃ (p : Int) (s : State), s.acqRuns = true ∧ s.rx.step = AcqStep.cold ∧ s.sweepPlace = some p ∧ s.rx.fine ≠ none) ∧
    (∃ (b : Int × Nat) (s : State), s.acqRuns = true ∧ s.rx.step = AcqStep.cold ∧ s.sweepWhole = true ∧ peakOk s.rx.metrics =
      true ∧ s.rx.best = some b) ∧
    (∃ (s : State), s.acqRuns = true ∧ s.rx.step = AcqStep.cold ∧ s.sweepWhole = true ∧ peakOk s.rx.metrics = false) ∧
    (∃ (s : State), s.acqRuns = true ∧ s.rx.step = AcqStep.clock ∧ s.cfg.threads ≤ 32) ∧
    (∃ (k : Fin 32) (s : State), s.threadRuns k.val = true ∧ s.rx.cdDone = true ∧ s.rxAcquires k.val = true ∧ s.rdN (0x2810 +
      k.val) 1 = 1) ∧
    (∃ (k : Fin 32) (s : State), s.threadRuns k.val = true ∧ s.rx.cdDone = true ∧ s.rxAcquires k.val = true ∧ s.rdN (0x2810 +
      k.val) 1 = 2) ∧
    (∃ (k : Fin 32) (s : State), s.threadRuns k.val = true ∧ s.rx.cdDone = true ∧ s.rxAcquires k.val = true ∧ s.rdN (0x2810 +
      k.val) 1 = 3 ∧ s.cfg.threads ≤ 32) ∧
    (∃ (s : State), s.acqRuns = true ∧ s.rx.step = AcqStep.warm) ∧
    (∃ (k : Fin 32) (s : State), s.acqRuns = true ∧ s.rx.step = AcqStep.clock) ∧
    (∃ (k : Fin 32) (n : Fin 3) (s : State), s.threadRuns k.val = true ∧ s.rx.cdDone = true ∧ s.rxAcquires k.val = true ∧
      s.rdN (0x2810 + k.val) 1 = n.val + 1) :=
  ⟨⟨((Ha .signal)), by decide⟩,
   ⟨0, (Ha .frequency).wrN 0x2800 4 0, by decide⟩,
   ⟨[1,2,3,9,5,6,7,8,9], ((Ha .warm)), by decide⟩,
   ⟨Hp0, (Hco), by decide⟩,
   ⟨(Hlast.sweepPlace.getD 0), (Hlast), by decide⟩,
   ⟨(Hfine.sweepPlace.getD 0), (Hfine), by decide⟩,
   ⟨(3, 4), (Hwhole), by decide⟩,
   ⟨(Hbad), by decide⟩,
   ⟨((Ha .clock)), by decide⟩,
   ⟨3, ((Hlocked 1 Hd)), by decide⟩,
   ⟨3, ((Hlocked 2 Hd)), by decide⟩,
   ⟨3, ((((Hlocked 4 Hd).wrN 0x2813 1 3).wrN 0x2800 1 5)), by decide⟩,
   ⟨((Ha .warm)), by decide⟩,
   ⟨3, Ha .clock, by decide⟩,
   ⟨3, 0, ((Hlocked 1 Hd)), by decide⟩⟩

theorem witness_ReceiveDefectsAndEaselCaptures :
    (∃ (s : State), s.on 10 = true ∧ s.losBelow = true ∧ s.cfg.threads ≤ 32) ∧
    (∃ (s : State), (s.on 10 = false ∨ s.losBelow = false)) ∧
    (∃ (s : State), s.rdBit (0x2800) 13 0 = true ∧ s.losAbove = true) ∧
    (∃ (s : State), s.on 10 = true ∧ s.rx.cdDone = true ∧ s.cfg.threads ≤ 32) ∧
    (∃ (s : State), s.rdBit (0x2800) 13 1 = true) ∧
    (∃ (s : State), s.on 10 = true ∧ s.rdN (0x2800) 10 < s.offsetMhz.natAbs) ∧
    (∃ (s : State), s.on 10 = true ∧ s.offsetMhz.natAbs + 100 < s.rdN (0x2800) 10) ∧
    (∃ (k : Fin 32) (s : State), s.rxActive k.val = true ∧ s.rdBit (0x2810 + k.val) 10 0 = false) ∧
    (∃ (k : Fin 32) (b : Bool) (s : State), s.rxActive k.val = true ∧ (if b = true then s.rdI (0x2810 + k.val) 11 ≠ 0 ∧
      s.threadSnr k.val < s.rdI (0x2810 + k.val) 11 else s.rdI (0x2810 + k.val) 11 + 50 < s.threadSnr k.val)) ∧
    (∃ (s : State), s.on 10 = true ∧ s.itemRuns 0 = true) ∧
    (∃ (s : State), s.rdN (0x2800) 1 = 6 ∧ s.itemRuns 0 = true) ∧
    (∃ (k : Fin 32) (s : State), s.rdB (0x2800) 18 = true ∧ s.rdN (0x2810 + k.val) 1 = 4 ∧ s.itemRuns (k.val / 8) = true) ∧
    (∃ (k : Fin 32) (s : State), s.rdN (0x2810 + k.val) 1 = 4) ∧
    (∃ (s : State), s.serves ∧ s.ctl.mode ≠ Mode.shed) ∧
    (∃ (s : State), s.serves ∧ s.ctl.mode = Mode.shed) ∧
    (∃ (s : State), s.serves ∧ (s.rdN (0x2840) 8 = 1 ∨ s.rdN (0x2840) 8 = 2)) ∧
    (∃ (s : State), s.rdN (0x2840) 8 = 1 ∧ s.rdN (0x2840) 5 ≠ 0) ∧
    (∃ (s : State), (s.rdN (0x2840) 8 ≠ 1 ∨ s.rdN (0x2840) 5 = 0)) ∧
    (∃ (d : List (List Int)) (s : State), s.rdN (0x2840) 8 = 2 ∧ s.rdN (0x2840) 1 ≠ 4 ∧ s.easelLength ≤ d.length) ∧
    (∃ (s : State), s.rdN (0x2840) 8 = 2 ∧ s.rdN (0x2840) 1 = 4) :=
  ⟨⟨(Hlo), by decide⟩,
   ⟨(Hhi), by decide⟩,
   ⟨((Hhi.wrN 0x2800 0xD 1)), by decide⟩,
   ⟨(Hd), by decide⟩,
   ⟨((Hsv.wrN 0x2800 0xD 2)), by decide⟩,
   ⟨((Hfo.wrN 0x2800 0xA 1500)), by decide⟩,
   ⟨(((Hfo.wrN 0x2800 0xA 3500).wrN 0x2800 0xD 8)), by decide⟩,
   ⟨2, ((Hlocked 4 Hd)), by decide⟩,
   ⟨2, true, (((Hlocked 4 Hd).wrN 0x2812 0xB 1)), by decide⟩,
   ⟨((Hlocked 4 Hd)), by decide⟩,
   ⟨((Hd.wrN 0x2800 1 6)), by decide⟩,
   ⟨2, (((Hlocked 4 Hd).wrN 0x2800 0x12 1)), by decide⟩,
   ⟨2, ((Hlocked 4 Hd)), by decide⟩,
   ⟨(Hsv), by decide⟩,
   ⟨((up .shed)), by decide⟩,
   ⟨((Hsv.wrN 0x2840 8 1)), by decide⟩,
   ⟨(Hsv.wrN 0x2840 8 1).wrN 0x2840 5 1, by decide⟩,
   ⟨(Hsv), by decide⟩,
   ⟨List.replicate 2000 [7, -9], ((Hsv.wrN 0x2840 8 2).wrN 0x2840 1 0).wrN 0x2840 3 10, by decide⟩,
   ⟨((((Hsv.wrN 0x2840 8 2).wrN 0x2840 1 4).wrN 0x2840 3 10)), by decide⟩⟩

theorem witness_CodewordsWindowsAndTheBudgetCap :
    (∃ (k : Fin 32) (s : State), s.rdN (0x2810 + k.val) 1 ≠ 4) ∧
    (∃ (k : Fin 32) (s : State), s.rdN (0x2810 + k.val) 1 = 4) ∧
    (∃ (k : Fin 32) (s : State), (s.fecOf k.val).winAll ≠ 0 ∧ s.rdN (0x2810 + k.val) 1 = 4) ∧
    (∃ (s : State), s.on 15 = true ∧ s.itemRuns 4 = true ∧ s.itemRuns 5 = true ∧ s.rdN (0x3000) 5 ≠ 0) ∧
    (∃ (c : Fin (0x10000)) (s : State), c.val ≠ 0 ∧ s.serves ∧ s.rdN (0x3000) 11 = 3) ∧
    (∃ (c : Fin (0x10000)) (s : State), c.val ≠ 0 ∧ s.serves ∧ s.rdN (0x3000) 11 ≠ 3) :=
  ⟨⟨3, ((Isv.setFec 3 {IF with pos := 5, lfMark := true})), by decide⟩,
   ⟨3, ((Ifs {IF with force := 5})), by decide⟩,
   ⟨3, ((Ifs Iw)), by decide⟩,
   ⟨(Ib), by decide⟩,
   ⟨77, ((Isv.wrN 0x3000 0xB 3)), by decide⟩,
   ⟨77, ((Isv.wrN 0x3000 0xB 2)), by decide⟩⟩

theorem witness_HeadersAreHuntedAndLinesTimed :
    (∃ (k : Fin 32) (lf : LfIn) (s : State), s.framed k.val = true) ∧
    (∃ (k : Fin 32) (lf : LfIn) (s : State), s.framed k.val = false) ∧
    (∃ (k : Fin 32) (lf : LfIn) (s : State), s.huntState k.val = 1 ∧ headerValid s.inForce k.val lf.header.toNat = true) ∧
    (∃ (k : Fin 32) (lf : LfIn) (s : State), s.huntState k.val = 1 ∧ headerValid s.inForce k.val lf.header.toNat = false) ∧
    (∃ (k : Fin 32) (s : State), s.huntState k.val = 2 ∧ (s.hunt k.val).expIdx ≠ 0) ∧
    (∃ (k : Fin 32) (s : State), s.huntState k.val = 3 ∧ (s.hunt k.val).expIdx ≠ 0) ∧
    (∃ (k : Fin 32) (s : State), s.huntState k.val = 4 ∧ (s.hunt k.val).expIdx ≠ 0) ∧
    (∃ (k : Fin 32) (s : State), s.rxActive k.val = true ∧ s.huntState k.val = 4) ∧
    (∃ (k : Fin 32) (s : State), s.huntState k.val = 3) ∧
    (∃ (s : State), s.on 16 = true ∧ s.lineMode = true) ∧
    (∃ (n : Fin (0x1000)) (s : State), s.rdBit (0x6000 + n.val) 13 4 = true) ∧
    (∃ (k : Fin 32) (s : State), k.val ∈ s.rx.maskHeld) ∧
    (∃ (k : Fin 32) (s : State), ¬k.val ∈ s.rx.maskHeld) ∧
    (∃ (k : Fin 32) (b : List Byte) (s : State), s.rdBit (0x3450 + k.val) 2 2 = true ∧ pageDigest b = (s.hunt k.val).digest) ∧
    (∃ (k : Fin 32) (b : List Byte) (s : State), pageDigest b ≠ (s.hunt k.val).digest) ∧
    (∃ (x : Verdict) (q : List (List Verdict)) (s : State), 9 ≤ q.length ∧ s.frm.verdicts = q ++ [[x]] ∧ x.excluded = false ∧
      x.unavailable = false) ∧
    (∃ (s : State), s.frm.verdicts.length < 10) :=
  ⟨⟨3, Ilf (Ihd 3 4 7), Ihs 2 Iu0, by decide⟩,
   ⟨3, Ilf (Ihd 3 4 7), State.reset, by decide⟩,
   ⟨3, (Ilf (Ihd 3 4 7)), ((Ihs 1 Iu0)), by decide⟩,
   ⟨3, (Ilf 5), ((Ihs 1 Iu0)), by decide⟩,
   ⟨3, ((Ihs 2 Iu0)), by decide⟩,
   ⟨3, ((Ihs 3 {Iu0 with miss := 1})), by decide⟩,
   ⟨3, ((Ihs 4 {Iu0 with miss := 15})), by decide⟩,
   ⟨3, (((Isv.wrN 0x3453 1 4))), by decide⟩,
   ⟨3, (((Isv.wrN 0x3453 1 3).wrN 0x3453 2 1)), by decide⟩,
   ⟨(Isv), by decide⟩,
   ⟨9, ((Isv.wrN 0x6009 0xD 16)), by decide⟩,
   ⟨9, ((IwithRx (fun r => {r with maskHeld := [9]}) Isv)), by decide⟩,
   ⟨9, (Isv), by decide⟩,
   ⟨3, emptyPage, (((Isv.setHunt 3 {Iu0 with digest := pageDigest emptyPage}).wrN 0x3453 2 4)), by decide⟩,
   ⟨3, emptyPage, (((Isv.setHunt 3 Iu0).wrN 0x3453 2 4)), by decide⟩,
   ⟨Ivd, Iq, ((IwithFrm (fun x => {x with verdicts := Iq ++ [[Ivd]]}) Isv)), by decide⟩,
   ⟨(Isv), by decide⟩⟩

theorem witness_TenantsTakeBlocksAndKeys :
    (∃ (n : Fin (0x1000)) (j : Fin 7) (b : Nat) (s : State), s.serves ∧ s.tenOn n.val = false ∧ s.homeHere n.val = true ∧
      s.blockSize n.val = j.val ∧ j ≠ 0 ∧ s.tenCbr n.val = false ∧ s.portMode (s.portOf n.val) = 1 ∧ classMapOk j.val (s.rdS
      (0x4000 + n.val) 7) = true ∧ s.findBlock j.val = some b ∧ (s.lineMode = false ∨ (s.allocate n.val).laneCheck.fst = 0)) ∧
    (∃ (n : Fin (0x1000)) (j : Fin 7) (s : State), s.serves ∧ s.tenOn n.val = false ∧ s.homeHere n.val = true ∧ s.blockSize
      n.val = j.val ∧ j ≠ 0 ∧ s.tenCbr n.val = false ∧ s.portMode (s.portOf n.val) = 1 ∧ classMapOk j.val (s.rdS (0x4000 +
      n.val) 7) = true ∧ s.findBlock j.val = none ∧ (s.lineMode = false ∨ (s.allocate n.val).laneCheck.fst = 0)) ∧
    (∃ (n : Fin (0x1000)) (s : State), s.serves ∧ s.tenOn n.val = false ∧ s.homeHere n.val = true ∧ s.blockSize n.val = 0 ∧
      s.tenCbr n.val = true ∧ s.portMode (s.portOf n.val) = 2 ∧ classMapOk 0 (s.rdS (0x4000 + n.val) 7) = true ∧ (s.lineMode =
      false ∨ (s.allocate n.val).laneCheck.fst = 0)) ∧
    (∃ (n : Fin (0x1000)) (s : State), s.serves ∧ s.tenOn n.val = true ∧ s.holdsPositions n.val = false ∧ (s.lineMode = false
      ∨ (s.release n.val).laneCheck.fst = 0)) ∧
    (∃ (n : Fin (0x1000)) (s : State), s.serves ∧ s.tenOn n.val = true ∧ s.holdsPositions n.val = true) ∧
    (∃ (s : State), s.serves ∧ (s.rdN (0x7100) 2 ≠ 1 ∨ 1 ≤ s.rdN (0x7100) 3 ∧ s.rdN (0x7100) 3 ≤ 4095) ∧ s.grm.exact.length <
      0x10000) ∧
    (∃ (s : State), s.serves ∧ (s.rdN (0x7100) 2 ≠ 1 ∨ 1 ≤ s.rdN (0x7100) 3 ∧ s.rdN (0x7100) 3 ≤ 4095) ∧ s.grm.exact.length <
      0x10000) ∧
    (∃ (s : State), s.serves ∧ (s.rdN (0x7100) 2 ≠ 1 ∨ 1 ≤ s.rdN (0x7100) 3 ∧ s.rdN (0x7100) 3 ≤ 4095) ∧ s.grm.exact.length <
      0x10000) ∧
    (∃ (s : State), s.serves ∧ s.rdN (0x7100) 2 = 1 ∧ (s.rdN (0x7100) 3 = 0 ∨ 4095 < s.rdN (0x7100) 3)) :=
  ⟨⟨9, 3, 0, (((Jeth Jq).wrN 0x4009 5 3)), by decide⟩,
   ⟨9, 3, ((JwithGrm (fun g => {g with blocks := [(0,18)]}) ((Jeth Jq).wrN 0x4009 5 3))), by decide⟩,
   ⟨9, ((((((Jeth Jq).wrN 0x7010 1 2).wrN 0x4009 5 0).wrN 0x4009 2 1))), by decide⟩,
   ⟨9, (Jtq), by decide⟩,
   ⟨9, ((Jtq.wrN 0x4009 0x20 4)), by decide⟩,
   ⟨(((Jtq.wrN 0x7100 3 4).wrN 0x7100 2 1)), by decide⟩,
   ⟨(((Jtq.wrN 0x7100 3 4).wrN 0x7100 2 1)), by decide⟩,
   ⟨(((Jtq.wrN 0x7100 3 4).wrN 0x7100 2 1)), by decide⟩,
   ⟨(((Jtq.wrN 0x7100 3 0).wrN 0x7100 2 1)), by decide⟩⟩

theorem witness_FramesAreClassifiedQueuedAndSent :
    (∃ (p : Fin 16) (id : Nat) (b : List Byte) (s : State), s.on 17 = true ∧ s.portMode p.val = 1 ∧ ((Frame.ofBytes id
      b).fcsOk = false ∨ b.length < 64 ∨ s.rdN (0x7010 + p.val) 6 < b.length)) ∧
    (∃ (p : Fin 16) (id : Nat) (n : Nat) (b : List Byte) (s : State), s.on 17 = true ∧ s.portMode p.val = 1 ∧ (Frame.ofBytes
      id b).control = false ∧ (Frame.ofBytes id b).fcsOk = true ∧ 64 ≤ b.length ∧ b.length ≤ s.rdN (0x7010 + p.val) 6 ∧
      (s.classify p.val (Frame.ofBytes id b)).fst = n ∧ n < 0x1000 ∧ s.packetTenant n = true ∧ s.portMode (s.portOf n) = 1 ∧
      s.protOf n = none ∧ s.groupHome n = false) ∧
    (∃ (p : Fin 16) (id : Nat) (n : Nat) (b : List Byte) (s : State) (j : Nat) (q : Bool), s.on 17 = true ∧ s.portMode p.val =
      1 ∧ (Frame.ofBytes id b).control = false ∧ (Frame.ofBytes id b).fcsOk = true ∧ 64 ≤ b.length ∧ b.length ≤ s.rdN (0x7010
      + p.val) 6 ∧ (s.classify p.val (Frame.ofBytes id b)).fst = n ∧ n < 0x1000 ∧ s.packetTenant n = true ∧ s.portMode
      (s.portOf n) = 1 ∧ s.protOf n = some (j, q)) ∧
    (∃ (p : Fin 16) (id : Nat) (n : Nat) (b : List Byte) (s : State), s.on 17 = true ∧ s.portMode p.val = 1 ∧ (Frame.ofBytes
      id b).control = false ∧ (Frame.ofBytes id b).fcsOk = true ∧ 64 ≤ b.length ∧ b.length ≤ s.rdN (0x7010 + p.val) 6 ∧
      (s.classify p.val (Frame.ofBytes id b)).fst = n ∧ (n = 0x1000 ∨ s.packetTenant n = false ∨ s.portMode (s.portOf n) ≠ 1))
      ∧
    (∃ (r : CellReq) (x : Inboxed) (s : State), s.on 17 = true ∧ r.egress = false ∧ r.writer.val < 16 ∧ List.find? (fun y =>
      y.port == r.writer.val) s.grm.inbox = some x ∧ s.packetTenant x.tenant = true ∧ x.tenant < 0x1000 ∧ grantOf (s.queue
      (s.queueFor x.tenant x.cls false)).drawn (cellsOf x.frame.len) (s.queue (s.queueFor x.tenant x.cls false)).reserve
      (s.queue (s.queueFor x.tenant x.cls false)).limit (s.queue (s.queueFor x.tenant x.cls false)).threshold s.sharedFree
      (decide (s.sharedFree ≠ 0)) = Grant.grant) ∧
    (∃ (r : CellReq) (s : State), s.on 17 = true ∧ r.egress = true ∧ s.packetTenant r.tenant.val = true ∧ s.groupHome
      r.tenant.val = false ∧ s.standbyStale r.tenant.val r.seqNo = false ∧ (18 ≤ r.writer.val → s.tenantRdiSent r.tenant.val =
      false ∧ (s.ten r.tenant.val).delin.st = 2) ∧ grantOf (s.queue (s.queueFor r.tenant.val (if r.writer.val < 18 then
      r.cls.val else s.egressClass r.tenant.val r.bytes) true)).drawn (cellsOf r.len) (s.queue (s.queueFor r.tenant.val (if
      r.writer.val < 18 then r.cls.val else s.egressClass r.tenant.val r.bytes) true)).reserve (s.queue (s.queueFor
      r.tenant.val (if r.writer.val < 18 then r.cls.val else s.egressClass r.tenant.val r.bytes) true)).limit (s.queue
      (s.queueFor r.tenant.val (if r.writer.val < 18 then r.cls.val else s.egressClass r.tenant.val r.bytes) true)).threshold
      s.sharedFree (decide (s.sharedFree ≠ 0)) = Grant.grant) ∧
    (∃ (r : CellReq) (s : State), s.on 17 = true ∧ r.egress = true ∧ s.packetTenant r.tenant.val = true ∧ s.groupHome
      r.tenant.val = false ∧ s.standbyStale r.tenant.val r.seqNo = false ∧ (18 ≤ r.writer.val → s.tenantRdiSent r.tenant.val =
      false ∧ (s.ten r.tenant.val).delin.st = 2) ∧ grantOf (s.queue (s.queueFor r.tenant.val (if r.writer.val < 18 then
      r.cls.val else s.egressClass r.tenant.val r.bytes) true)).drawn (cellsOf r.len) (s.queue (s.queueFor r.tenant.val (if
      r.writer.val < 18 then r.cls.val else s.egressClass r.tenant.val r.bytes) true)).reserve (s.queue (s.queueFor
      r.tenant.val (if r.writer.val < 18 then r.cls.val else s.egressClass r.tenant.val r.bytes) true)).limit (s.queue
      (s.queueFor r.tenant.val (if r.writer.val < 18 then r.cls.val else s.egressClass r.tenant.val r.bytes) true)).threshold
      s.sharedFree (decide (s.sharedFree ≠ 0)) = Grant.threshold) ∧
    (∃ (r : CellReq) (s : State), s.on 17 = true ∧ r.egress = true ∧ 18 ≤ r.writer.val ∧ (s.tenantRdiSent r.tenant.val = true
      ∨ (s.ten r.tenant.val).delin.st ≠ 2)) ∧
    (∃ (p : Fin 16) (n : Nat) (q : Nat) (f : QFrame) (l : List QFrame) (s : State), s.on 17 = true ∧ s.portMode p.val = 1 ∧
      s.portStopped p.val = false ∧ s.portTenants p.val = [n] ∧ s.tenantQueues n true = [q] ∧ s.eligible n q true = true ∧
      (s.queue q).frames = f :: l ∧ s.protOf n = none ∧ s.groupHome n = false ∧ f.len ≤ 0x3E80 ∧ 1 ≤ (s.queue q).weight ∧
      s.rdBit (0x7010 + p.val) 20 3 = false ∧ (s.flow p.val).sending = none) ∧
    (∃ (p : Fin 16) (n : Nat) (q : Nat) (f : QFrame) (l : List QFrame) (s : State), s.on 17 = true ∧ s.portMode p.val = 1 ∧
      s.portStopped p.val = false ∧ s.portTenants p.val = [n] ∧ s.tenantQueues n true = [q] ∧ s.eligible n q true = true ∧
      (s.queue q).frames = f :: l ∧ s.protOf n = none ∧ s.groupHome n = false ∧ f.len ≤ 0x3E80 ∧ 1 ≤ (s.queue q).weight ∧
      s.rdBit (0x7010 + p.val) 20 3 = false ∧ (s.flow p.val).sending = none) ∧
    (∃ (p : Fin 16) (q : Nat) (f : QFrame) (l : List QFrame) (s : State), s.portStopped p.val = true ∧ (s.flow p.val).sending
      = some (q, f.id) ∧ (s.queue q).frames = f :: l) :=
  ⟨⟨1, 5, (Jeb false), (Jt), by decide⟩,
   ⟨1, 5, 9, (Jeb true), ((Jt.wrN 0x7011 4 9)), by decide⟩,
   ⟨1, 5, 9, (Jeb true), ((((((Jt.wrN 0x7011 4 9).wrN 0x8D02 1 1).wrN 0x8D02 2 9).wrN 0x8D02 3 10))), 2, false, by decide⟩,
   ⟨1, 5, 4096, (Jeb true), ((Jt.wrN 0x7011 4 4096)), by decide⟩,
   ⟨(Jrq 1 false), Jib, ((JwithGrm (fun g => {g with inbox := [Jib]}) Jt)), by decide⟩,
   ⟨(Jrq 20 true), ((Jt.setTen 9 {Jt.ten 9 with delin := {(Jt.ten 9).delin with st := 2}})), by decide⟩,
   ⟨(Jrq 20 true), ((Je0.setTen 9 {Je0.ten 9 with delin := {(Je0.ten 9).delin with st := 2}})), by decide⟩,
   ⟨(Jrq 20 true), (Jt), by decide⟩,
   ⟨0, 9, 1, (Jqf 7), [Jqf 8], (Je1), by decide⟩,
   ⟨0, 9, 1, (Jqf 7), [Jqf 8], (Je1), by decide⟩,
   ⟨0, 1, (Jqf 7), [Jqf 8], ((Je1.setFlow 0 {Je1.flow 0 with sending := some (1, 7), stopped := [8]})), by decide⟩⟩

theorem witness_PositionsPausesAndLocalFault :
    (∃ (n : Fin (0x1000)) (s : State), s.on 17 = true ∧ s.tenOn n.val = true ∧ s.txLit n.val ≠ 0 ∧ s.sealedTenant n.val =
      false) ∧
    (∃ (n : Fin (0x1000)) (s : State), s.on 17 = true ∧ s.tenOn n.val = true ∧ s.txLit n.val ≠ 0 ∧ s.sealedTenant n.val = true
      ∧ (s.sealTen n.val).txEpoch = 0) ∧
    (∃ (p : Fin 16) (s : State), s.on 17 = true ∧ s.portMode p.val = 1 ∧ s.rdN (0x7010 + p.val) 7 ≠ 0) ∧
    (∃ (p : Fin 16) (s : State), s.on 17 = true ∧ s.portMode p.val = 1 ∧ s.rdN (0x7010 + p.val) 7 ≠ 0) ∧
    (∃ (p : Fin 16) (s : State), (s.flow p.val).stopped.contains 8 = true) ∧
    (∃ (p : Fin 16) (c : Fin 8) (s : State), (s.flow p.val).stopped.contains c.val = true) ∧
    (∃ (p : Fin 16) (s : State), (s.flow p.val).xoff.contains 8 = true ∧ (s.watched p.val).contains 8 = true ∧ s.rdN (0x7010 +
      p.val) 10 < s.portCells p.val 8) ∧
    (∃ (p : Fin 16) (s : State), s.on 17 = true ∧ s.portMode p.val = 1 ∧ s.rdB (0x7010 + p.val) 12 = true ∧ s.portFaulty p.val
      = true ∧ s.rdBit (0x7010 + p.val) 20 3 = false) ∧
    (∃ (p : Fin 16) (s : State), s.on 17 = true ∧ s.portMode p.val = 1 ∧ s.rdBit (0x7010 + p.val) 20 3 = true ∧ s.portFaulty
      p.val = false) :=
  ⟨⟨9, (Jtx), by decide⟩,
   ⟨9, ((Jtx.wrN 0x4009 3 1)), by decide⟩,
   ⟨0, ((Jt.wrN 0x7010 7 1)), by decide⟩,
   ⟨0, ((Jt.wrN 0x7010 7 2)), by decide⟩,
   ⟨0, (Jst), by decide⟩,
   ⟨0, 3, (Jst), by decide⟩,
   ⟨0, (((((Jst.wrN 0x7010 7 1).wrN 0x7010 0xA 10).setQueue 0 {Jt.queue 0 with frames := [{Jqf 7 with port := 0}]}))), by
     decide⟩,
   ⟨0, (Jrx), by decide⟩,
   ⟨0, ((Jt.wrN 0x7010 0x14 8)), by decide⟩⟩

theorem witness_SealedTenantsAreKeyedAndChecked :
    (∃ (n : Fin (0x1000)) (d : List Byte) (s : State), s.serves ∧ s.noSeal = false ∧ d.length = 56 ∧ s.foundryBusy = false ∧
      s.lineMode = true ∧ s.derivedMode n.val = false ∧ (s.mgmtSlot (s.rdN (0x3800) 4)).role = 2) ∧
    (∃ (n : Fin (0x1000)) (s : State), s.serves ∧ s.noSeal = false ∧ s.derivedMode n.val = false ∧ s.slotInUse n.val 0 =
      false) ∧
    (∃ (n : Fin (0x1000)) (s : State), s.serves ∧ s.noSeal = false ∧ s.derivedMode n.val = false ∧ s.slotInUse n.val 1 =
      false) ∧
    (∃ (n : Fin (0x1000)) (s : State), s.serves ∧ s.noSeal = false ∧ s.derivedMode n.val = false ∧ s.slotInUse n.val 0 = true)
      ∧
    (∃ (n : Fin (0x1000)) (s : State), s.serves ∧ s.noSeal = false ∧ s.derivedMode n.val = true) ∧
    (∃ (n : Fin (0x1000)) (s : State), s.serves ∧ s.noSeal = false ∧ s.derivedMode n.val = true) ∧
    (∃ (n : Fin (0x1000)) (h : BitVec 64) (s : State), s.on 16 = true ∧ s.sealedTenant n.val = true ∧ s.rxTotal n.val ≠ 0 ∧
      headerCrcOk h.toNat = true) ∧
    (∃ (n : Fin (0x1000)) (m : SealMf) (s : State), s.on 16 = true ∧ s.sealedTenant n.val = true ∧ (s.sealTen n.val).prev =
      some m) ∧
    (∃ (n : Fin (0x1000)) (root : List Byte) (s : State), s.rootKey = some root ∧ s.on 16 = true ∧ s.derivedMode n.val = true
      ∧ s.hasRole = true ∧ s.sls.derive.head? = some n.val) ∧
    (∃ (n : Fin (0x1000)) (e : Nat) (root : List Byte) (r : SealMf) (s : State), (s.sealTen n.val).due = some e ∧ s.rootKey =
      some root ∧ (s.sealTen n.val).rx = some r ∧ s.on 16 = true ∧ s.derivedMode n.val = true ∧ s.hasRole = true) :=
  ⟨⟨9, (List.replicate 56 0), (Ks0), by decide⟩,
   ⟨9, (Ksl), by decide⟩,
   ⟨9, (Ksl), by decide⟩,
   ⟨9, ((Ksl.wrN 0x5009 2 4)), by decide⟩,
   ⟨9, (((Ks0.wrN 0x5009 1 1).wrN 0x3800 5 0)), by decide⟩,
   ⟨9, (((Ks0.wrN 0x5009 1 1).wrN 0x3800 5 0)), by decide⟩,
   ⟨9, (BitVec.ofNat 64 Kh), (Ksl), by decide⟩,
   ⟨9, Km, (Kpv), by decide⟩,
   ⟨9, (Kk32 9), (Kdv), by decide⟩,
   ⟨9, 6, (Kk32 9), Km, ((Kdv.setSealTen 9 {SealTen.start with due := some 6, rx := some Km})), by decide⟩⟩

theorem witness_LinkKeyExchangeRunsByMessages :
    (∃ (s : State), s.sls.link.step = 1 ∧ s.itemRuns 8 = true) ∧
    (∃ (rx : PicotRx) (b : List Byte) (s : State), s.picotFound rx = true ∧ s.itemRuns 8 = true ∧ b.length = 109) ∧
    (∃ (s : State), s.sls.link.step = 3 ∧ s.itemRuns 8 = true) ∧
    (∃ (rx : PicotRx) (b : List Byte) (s : State), s.picotFound rx = true ∧ s.itemRuns 8 = true ∧ b.length = 18 ∧ b.headD 0 =
      2 ∧ s.sls.link.step = 4) ∧
    (∃ (rx : PicotRx) (b : List Byte) (s : State), s.picotFound rx = true ∧ s.itemRuns 8 = true ∧ b.length = 18 ∧ b.headD 0 =
      2 ∧ s.sls.link.step = 3) ∧
    (∃ (l : List Bool) (s : State), s.on 0 = true ∧ (repetitionFails l = true ∨ proportionFails l = true)) ∧
    (∃ (s : State), s.sls.drbgUp = true) :=
  ⟨⟨((Klk (fun l => {l with step := 1}))), by decide⟩,
   ⟨Krx, Ksh, ((Klk (fun l => {l with step := 2}))), by decide⟩,
   ⟨((Klk (fun l => {l with step := 3, scalar := 77, far := pointBytes (some g384), own := pointBytes (some g384)}))), by
     decide⟩,
   ⟨Krx, ([2, 0] ++ Kl4.farTag), (Kl4), by decide⟩,
   ⟨Krx, (2 :: Kb0 17), ((Klk (fun l => {l with step := 3}))), by decide⟩,
   ⟨(List.replicate 41 true), (Kl4), by decide⟩,
   ⟨((KwithSls (fun x => {x with drbgUp := true}) Ks0)), by decide⟩⟩

theorem witness_ManagementSlotsLoadAndErase :
    (∃ (d : List Byte) (s : State), s.serves ∧ s.foundryBusy = false ∧ d.length = 145) ∧
    (∃ (d : List Byte) (s : State), s.serves ∧ s.foundryBusy = false ∧ d.length = 49 ∧ (s.mgmtSlot (beField d 0 1)).role = 2)
      ∧
    (∃ (d : List Byte) (s : State), s.serves ∧ s.foundryBusy = false ∧ d.length = 145) ∧
    (∃ (d : List Byte) (s : State), s.serves ∧ s.foundryBusy = false ∧ d.length = 49) ∧
    (∃ (m : Fin 63) (s : State), s.serves ∧ s.rootStaged m.val = false) ∧
    (∃ (s : State), s.serves) :=
  ⟨⟨(List.replicate 145 0), (Ks0), by decide⟩,
   ⟨((2 : Byte) :: List.replicate 48 0), (Ks0), by decide⟩,
   ⟨(List.replicate 145 0), (Ks0), by decide⟩,
   ⟨(List.replicate 49 0), (Ks0), by decide⟩,
   ⟨2, (Ks0), by decide⟩,
   ⟨(Ks0), by decide⟩⟩

theorem witness_PicotMessagesAreCountedAndTaken :
    (∃ (rx : PicotRx) (b : List Byte) (l : List Int) (at_ : Nat) (s : State) (c : Instr), s.picotFound rx = false ∧ c ∈
      [Instr.helloReceive rx b, Instr.offerReceive rx b, Instr.acceptReceive rx b, Instr.faultReceive rx b, Instr.timeReceive
      rx b at_, Instr.picotBadPacket rx l, Instr.keyshareShareReceive rx b, Instr.keyshareConfirmReceive rx b]) ∧
    (∃ (rx : PicotRx) (b : List Byte) (s : State), s.picotFound rx = true ∧ s.itemRuns 8 = true ∧ b.length = 16 ∧ b.headD 0 =
      1) ∧
    (∃ (rx : PicotRx) (b : List Byte) (s : State), s.picotFound rx = true ∧ s.itemRuns 8 = true ∧ b.length = 82 ∧ b.headD 0 =
      1) ∧
    (∃ (rx : PicotRx) (b : List Byte) (s : State), s.picotFound rx = true ∧ s.itemRuns 8 = true ∧ b.length = 8 ∧ b.headD 0 =
      1) ∧
    (∃ (rx : PicotRx) (b : List Byte) (s : State), s.picotFound rx = true ∧ s.itemRuns 8 = true ∧ b.length = 12) ∧
    (∃ (rx : PicotRx) (b : List Byte) (s : State), s.picotFound rx = true ∧ s.itemRuns 8 = true ∧ b.length = 32) ∧
    (∃ (rx : PicotRx) (b : List Byte) (s : State), s.picotFound rx = true ∧ s.itemRuns 8 = true ∧ b.length ≠ 32) ∧
    (∃ (rx : PicotRx) (l : List Int) (s : State), s.picotFound rx = true ∧ s.itemRuns 8 = true ∧ (s.bodyBytes rx.sync
      l).length ≠ BitVec.toNat ((s.bodyBytes rx.sync l).headD 0) + 6) ∧
    (∃ (rx : PicotRx) (l : List Int) (b : List Byte) (s : State), s.picotFound rx = true ∧ s.itemRuns 8 = true ∧ s.bodyBytes
      rx.sync l = b ∧ b.length = BitVec.toNat (b.headD 0) + 6 ∧ beField b (BitVec.toNat (b.headD 0) + 2) 4 = crc32 (List.take
      (BitVec.toNat (b.headD 0) + 2) b) ∧ (picotLengths (BitVec.toNat (b.getD 1 0))).contains (BitVec.toNat (b.headD 0)) =
      false) :=
  ⟨⟨KrxBad, Kb0 16, [1, 2, 3], 5, Ksv, .helloReceive KrxBad (Kb0 16), by decide⟩,
   ⟨Krx, (Kb0 16), (Ksv), by decide⟩,
   ⟨Krx, (Kb0 82), (Ksv), by decide⟩,
   ⟨Krx, (Kb0 8), (Ksv), by decide⟩,
   ⟨Krx, (Kb0 12), (Ksv), by decide⟩,
   ⟨Krx, (Kb0 32), (Ksv), by decide⟩,
   ⟨Krx, (Kb0 31), (Ksv), by decide⟩,
   ⟨Krx, [1,2,3,3,3,3,4,5], (Ksv), by decide⟩,
   ⟨Krx, ((picotDeviations 9 [4,4] 1).drop 96), (picotPacket 9 [4,4]), (Ksv), by decide⟩⟩

theorem witness_PicotPacketsAreSentInTurn :
    (∃ (k : Nat) (bits : Nat) (b : List Byte) (s : State), s.pic.sending = some (k, b, bits) ∧ s.picotOn = true) ∧
    (∃ (s : State), s.picotEngine = true ∧ s.picotOn = true ∧ s.pic.sending = none ∧ s.pic.due = []) ∧
    (∃ (s : State), s.picotEngine = true ∧ s.picotOn = true ∧ s.pic.sending = none ∧ s.pic.due = [] ∧ s.pic.offerOn = true) ∧
    (∃ (s : State), s.picotEngine = true ∧ s.picotOn = true ∧ s.pic.sending = none ∧ s.pic.due = [] ∧ s.pic.shareOn = true) ∧
    (∃ (s : State), s.picotEngine = true ∧ s.picotOn = true ∧ s.pic.sending = none ∧ s.pic.due = [] ∧ (s.faultFields.any fun x
      => decide (x ≠ 0)) = true) ∧
    (∃ (s : State), s.picotEngine = true ∧ s.picotOn = true ∧ s.pic.sending = none ∧ s.pic.due = []) ∧
    (∃ (s : State), s.picotEngine = true ∧ s.picotOn = true ∧ s.pic.sending.isSome = true) ∧
    (∃ (s : State), s.picotEngine = true ∧ s.picotOn = true ∧ s.pic.sending.isSome = true ∧ s.pic.offerOn = true) ∧
    (∃ (s : State), s.picotEngine = true ∧ s.picotOn = true ∧ s.pic.sending.isSome = true ∧ s.pic.shareOn = true) ∧
    (∃ (s : State), s.picotEngine = true ∧ s.picotOn = true ∧ s.pic.sending.isSome = true ∧ (s.faultFields.any fun x => decide
      (x ≠ 0)) = true) ∧
    (∃ (s : State), s.picotEngine = true ∧ s.picotOn = true ∧ s.pic.sending.isSome = true) ∧
    (∃ (s : State) (c : Instr), s.picotOn = false ∧ c ∈ [Instr.helloTimer, Instr.offerRepeat, Instr.shareRepeat,
      Instr.faultPeriodic, Instr.timePeriod]) ∧
    (∃ (s : State), s.picotEngine = true ∧ s.ctl.mode = Mode.service ∧ s.pic.sending.isSome = true) ∧
    (∃ (s : State), s.on 14 = true ∧ s.inForce.profile = 0 ∧ (s.ctl.mode = Mode.service ∨ s.ctl.mode = Mode.shed)) :=
  ⟨⟨1, 1, [1, 0, 0, 0, 0, 0], ((KwithPic (fun p => {p with sending := some (1, [1, 0, 0, 0, 0, 0], 1)}) Kon)), by decide⟩,
   ⟨(Kon), by decide⟩,
   ⟨(Ko2), by decide⟩,
   ⟨(Ko2), by decide⟩,
   ⟨((Ko2.wrN 0x2800 0xD 1)), by decide⟩,
   ⟨(Ko2), by decide⟩,
   ⟨(KwithPic (fun p => { p with sending := some (7, [], 1) }) Ko2).wrN 0x2800 0x0D 1, by decide⟩,
   ⟨(KwithPic (fun p => { p with sending := some (7, [], 1) }) Ko2).wrN 0x2800 0x0D 1, by decide⟩,
   ⟨(KwithPic (fun p => { p with sending := some (7, [], 1) }) Ko2).wrN 0x2800 0x0D 1, by decide⟩,
   ⟨(KwithPic (fun p => { p with sending := some (7, [], 1) }) Ko2).wrN 0x2800 0x0D 1, by decide⟩,
   ⟨(KwithPic (fun p => { p with sending := some (7, [], 1) }) Ko2).wrN 0x2800 0x0D 1, by decide⟩,
   ⟨up .quiet, .helloTimer, by decide⟩,
   ⟨((KwithPic (fun p => {p with sending := some (7, [], 1), due := [(3, []), (7, []), (7, []), (7, [])]}) Kon)), by decide⟩,
   ⟨(Kon), by decide⟩⟩

theorem witness_CandidatesFailReturnAndTheDpllFollows :
    (∃ (r : Fin 9) (c : RefFail) (s : State), s.candOn r.val = true ∧ ((match c with
      | RefFail.activity => (decide (r.val < 6) && s.on 0) | RefFail.frequency o => (s.itemRuns 8 && decide (s.offsetLimit
        r.val < o.natAbs)) | RefFail.dnu => (s.itemRuns 8 && qlRank (s.candQl r.val) == 4) | RefFail.source => (s.itemRuns 8
        && s.sourceBad r.val) | RefFail.exchange => false) = true)) ∧
    (∃ (s : State), s.candOn 6 = true ∧ s.itemRuns 8 = true) ∧
    (∃ (r : Fin 9) (o : Int) (s : State), s.candOn r.val = true ∧ s.itemRuns 8 = true ∧ o.natAbs ≤ s.offsetLimit r.val ∧
      o.natAbs ≤ 0x4C4B40) ∧
    (∃ (r : Fin 9) (s : State), s.candOn r.val = false) ∧
    (∃ (r : Fin 9) (o : Int) (s : State), s.candOn r.val = true ∧ s.itemRuns 8 = true ∧ s.candBlocked r.val = false ∧ o.natAbs
      ≤ s.offsetLimit r.val ∧ (s.cand r.val).since + 0xF4240 * s.restoreWait r.val ≤ s.uptime) ∧
    (∃ (r : Fin 9) (o : Int) (s : State), (s.candOn r.val = false ∨ s.candBlocked r.val = true ∨ s.offsetLimit r.val <
      o.natAbs ∨ s.uptime < (s.cand r.val).since + 0xF4240 * s.restoreWait r.val)) ∧
    (∃ (s : State), s.dpll = 1) ∧
    (∃ (s : State), s.dpll ≠ 1) ∧
    (∃ (s : State), s.dpll = 3 ∧ s.itemRuns 8 = true) ∧
    (∃ (s : State), s.on 0 = true) ∧
    (∃ (s : State), s.tim.xoFail = true) ∧
    (∃ (s : State), s.tim.xoFail = false) :=
  ⟨⟨2, .activity, (Mc2), by decide⟩,
   ⟨(Ml6), by decide⟩,
   ⟨2, 777, ((Mc2.wrN 0x8012 5 100)), by decide⟩,
   ⟨3, (Mc2), by decide⟩,
   ⟨2, (-44), (({Mc with uptime := 10 ^ 12}.wrN 0x8012 5 100)), by decide⟩,
   ⟨2, (-4400000000), ((Mc.wrN 0x8012 5 100)), by decide⟩,
   ⟨((Mc.wrN 0x8020 3 1)), by decide⟩,
   ⟨((Mc.wrN 0x8020 3 2)), by decide⟩,
   ⟨(((Mc.wrN 0x8020 3 3).wrN 0x8020 9 100000)), by decide⟩,
   ⟨((Mc.wrN 0x8020 3 2)), by decide⟩,
   ⟨((MwithTim (fun t => {t with xoFail := true}) Mc2)), by decide⟩,
   ⟨(Mc2), by decide⟩⟩

theorem witness_TimeIsExchangedSteppedAndSet :
    (∃ (t1 : Int) (t2 : Int) (t3 : Int) (t4 : Int) (s : State), s.exchange = some (t1, t2, t3, t4) ∧ s.rdB (0x8040) 1 = true ∧
      s.on 16 = true ∧ s.lineMode = true ∧ s.itemRuns 8 = true) ∧
    (∃ (s : State), (s.exchange = none ∨ s.rdB (0x8040) 1 = false)) ∧
    (∃ (m : Int) (s : State), s.itemRuns 8 = true ∧ s.on 0 = true ∧ s.tim.secCount ≠ 0 ∧ s.tim.secOffset = 0x20000 *
      s.tim.secCount.cast * m) ∧
    (∃ (s : State), s.itemRuns 8 = true ∧ s.on 0 = true ∧ s.tim.secCount = 0) ∧
    (∃ (s : State), s.on 14 = true ∧ s.on 16 = true) ∧
    (∃ (p : Int) (s : State), s.tim.stepPending = some p) ∧
    (∃ (s : State), s.tim.stepPending = none) ∧
    (∃ (n : Int) (s : State), s.serves ∧ -0x3B9ACA00 ≤ n ∧ n ≤ 0x3B9ACA00 ∧ s.rdN (0x8020) 1 = 1) ∧
    (∃ (n : Int) (s : State), s.serves ∧ -0x3B9ACA00 ≤ n ∧ n ≤ 0x3B9ACA00 ∧ s.rdN (0x8020) 1 ≠ 1) ∧
    (∃ (s : State), s.pow.configured = true ∧ s.rdB (0x8050) 1 = true ∧ s.squelched = false ∧ (∀ (p : Nat), s.tim.lastPulse =
      some p → p + 0x7A120 ≤ s.uptime)) ∧
    (∃ (s : State), (s.pow.configured = false ∨ s.rdB (0x8050) 1 = false ∨ s.squelched = true ∨ ∃ p, s.tim.lastPulse = some p
      ∧ s.uptime < p + 0x7A120)) ∧
    (∃ (s : State), s.on 0 = true) :=
  ⟨⟨500, 1000, 2000, 900000, (Mex), by decide⟩,
   ⟨(Me), by decide⟩,
   ⟨(-7), ((MwithTim (fun t => {t with secCount := 3, secOffset := -21*131072, secRtt := 100}) Me)), by decide⟩,
   ⟨((Msv.wrN 0x8040 1 0)), by decide⟩,
   ⟨(Msv), by decide⟩,
   ⟨(77), ((MwithTim (fun t => {t with stepPending := some 77}) Me)), by decide⟩,
   ⟨(Me), by decide⟩,
   ⟨(-500), ((Me.wrN 0x8020 1 1)), by decide⟩,
   ⟨(-500), (Me), by decide⟩,
   ⟨(Me), by decide⟩,
   ⟨((Me.wrN 0x8050 1 0)), by decide⟩,
   ⟨(Me), by decide⟩⟩

theorem witness_WrittenTimeBecomesTheNextSecond :
    (∃ (v : Nat) (s : State), s.serves ∧ v / 2 ^ 16 % 2 ^ 32 < 0x3B9ACA00 ∧ s.tim.timeSel.isSome = true) ∧
    (∃ (v : Nat) (s : State), s.serves ∧ v / 2 ^ 16 % 2 ^ 32 < 0x3B9ACA00 ∧ s.tim.timeSel = none) ∧
    (∃ (v : Nat) (s : State), s.pending = [] ∧ s.on 0 = true ∧ s.tim.setPending = some v) :=
  ⟨⟨(2^50 + 2^20), ((MwithTim (fun t => {t with timeSel := some 5}) Me)), by decide⟩,
   ⟨(2^50 + 2^20), (Me), by decide⟩,
   ⟨77, ({(MwithTim (fun t => {t with setPending := some 77}) Me) with devTime := 65536000000000 * 7 - 65536000}), by decide⟩⟩

theorem witness_HostLanesAcquireAndAlign :
    (∃ (l : Fin 16) (p : Nat) (s : State), s.lanePort l.val = some p ∧ bit s.lanesPowered l.val = true ∧ (s.laneState l.val =
      1 ∨ s.laneState l.val = 5)) ∧
    (∃ (l : Fin 16) (p : Nat) (s : State), s.lanePort l.val = some p ∧ s.laneState l.val = 2) ∧
    (∃ (l : Fin 16) (p : Nat) (s : State), s.lanePort l.val = some p ∧ s.laneState l.val = 2) ∧
    (∃ (l : Fin 16) (s : State), s.laneState l.val = 5 ∧ bit s.lanesPowered l.val = true) ∧
    (∃ (l : Fin 16) (p : Nat) (s : State), s.lanePort l.val = some p ∧ bit s.lanesPowered l.val = true) ∧
    (∃ (p : Fin 16) (s : State), s.portMode p.val = 1 ∧ (s.laneSpan p.val).snd ≠ 0 ∧ s.portUp p.val = true) ∧
    (∃ (l : Fin 32) (s : State), s.serves ∧ s.is1608 = false ∧ s.laneUsed l.val = false) ∧
    (∃ (l : Fin 32) (s : State), s.serves ∧ s.is1608 = false ∧ s.laneUsed l.val = false) ∧
    (∃ (l : Fin 32) (s : State), s.serves ∧ s.is1608 = false ∧ s.laneUsed l.val = true ∧ s.ctl.mode ≠ Mode.test) :=
  ⟨⟨2, 0, ((Mh.wrN 0x9022 1 1)), by decide⟩,
   ⟨2, 0, ((Mh.wrN 0x9022 1 2)), by decide⟩,
   ⟨2, 0, ((Mh.wrN 0x9022 1 2)), by decide⟩,
   ⟨2, ((Mh.wrN 0x9022 1 5)), by decide⟩,
   ⟨2, 0, ((MwithLan (fun l => {l with aligned := [0]}) (Mh.wrN 0x9022 1 3))), by decide⟩,
   ⟨0, (Mu), by decide⟩,
   ⟨9, (Mu), by decide⟩,
   ⟨9, (Mu), by decide⟩,
   ⟨2, (Mu), by decide⟩⟩

theorem witness_BobbinLanesLockRetireAndIdle :
    (∃ (b : Fin 16) (m : Marker) (s : State), s.bobLit (b.val / 8) = true ∧ (s.bobLane b.val).retired = false ∧ (s.bobLane
      b.val).resume = false ∧ (s.bobLane b.val).locked = false ∧ m.crcOk = true ∧ m.counter = (s.bobLane b.val).lastCounter +
      1 ∧ 1 ≤ (s.bobLane b.val).lockRun ∧ m.skewPs ≤ 0x9C40 ∧ m.uncorrectable ≤ s.rdN (0x9060 + b.val / 8) 7 ∧ s.linkState
      (b.val / 8) = 3 ∧ s.rdN (0x9000) 4 ≤ 8 - max (popcount 8 m.retire) (popcount 8 (s.rdN (0x9060 + b.val / 8) 3))) ∧
    (∃ (b : Fin 16) (m : Marker) (s : State), s.bobLit (b.val / 8) = true ∧ (s.bobLane b.val).retired = false ∧ (s.bobLane
      b.val).resume = true ∧ m.crcOk = true ∧ m.counter = (s.bobLane b.val).lastCounter + 1 ∧ m.skewPs ≤ 0x9C40 ∧
      m.uncorrectable ≤ s.rdN (0x9060 + b.val / 8) 7 ∧ s.linkState (b.val / 8) = 0) ∧
    (∃ (b : Fin 16) (m : Marker) (s : State), s.bobLit (b.val / 8) = true ∧ (s.bobLane b.val).retired = false ∧ (s.bobLane
      b.val).resume = false ∧ (s.bobLane b.val).locked = true ∧ m.crcOk = true ∧ m.counter = (s.bobLane b.val).lastCounter + 1
      ∧ m.skewPs ≤ 0x9C40 ∧ s.rdN (0x9060 + b.val / 8) 7 < m.uncorrectable ∧ s.linkState (b.val / 8) = 0) ∧
    (∃ (q : Fin 2) (s : State), s.bobOn q.val = true ∧ s.rdB (0x9060 + q.val) 8 = true) ∧
    (∃ (q : Fin 2) (mask : Nat) (c : Nat) (s : State), s.bobOn q.val = true ∧ s.rdB (0x9060 + q.val) 8 = false ∧ (s.bobPort
      q.val).pendingMask = some (mask, c) ∧ c = s.rdN (0x9060 + q.val) 4 + 1) ∧
    (∃ (b : Fin 16) (s : State), s.serves ∧ s.is1608 = false ∧ (s.bobLane b.val).retired = false ∧ (s.linkState (b.val / 8) =
      0 ∨ s.rdN (0x9000) 4 + 1 ≤ s.lanesLeft (b.val / 8))) ∧
    (∃ (b : Fin 16) (s : State), s.serves ∧ s.is1608 = false ∧ (s.bobLane b.val).retired = true) ∧
    (∃ (b : Fin 16) (s : State), s.bobLit (b.val / 8) = true ∧ (s.bobLane b.val).retired = true ∧ (s.bobLane b.val).locked =
      true ∧ ((s.bobLane b.val).readmitting = true ∨ s.rdB (0x9060 + b.val / 8) 6 = true) ∧ (s.bobLane b.val).skew ≤ 0x9C40 ∧
      (s.bobLane b.val).cleanAt + 0x186A0 ≤ s.uptime) ∧
    (∃ (q : Fin 2) (s : State), s.linkState q.val = 3 ∧ s.bobLit q.val = true) ∧
    (∃ (q : Fin 2) (s : State), s.linkState q.val = 5 ∧ s.rdB (0x9060 + q.val) 8 = true ∧ s.on (20 + q.val) = true) ∧
    (∃ (q : Fin 2) (s : State), s.linkState q.val ≠ 3) :=
  ⟨⟨1, Mmk, ((Mg2.setBobLane 1 {BobLane.start with lockRun := 1, lastCounter := 4})), by decide⟩,
   ⟨1, Mmk, ((Mgd.setBobLane 1 {BobLane.start with resume := true, lastCounter := 4})), by decide⟩,
   ⟨1, {Mmk with uncorrectable := 999}, ((Mgd.setBobLane 1 {BobLane.start with locked := true, lastCounter := 4})), by
     decide⟩,
   ⟨0, ((Mg2.wrN 0x9060 8 1)), by decide⟩,
   ⟨1, 0x7F, 6, (((Mg2.setBobPort 1 {(Mg2.bobPort 1) with pendingMask := some (0x7F, 6)}).wrN 0x9061 4 5)), by decide⟩,
   ⟨9, (Mg2), by decide⟩,
   ⟨9, ((Mg2.setBobLane 9 {BobLane.start with retired := true})), by decide⟩,
   ⟨9, (({Mg2 with uptime := 200000}.setBobLane 9
     {BobLane.start with retired := true, locked := true, readmitting := true, skew := 5, cleanAt := 0})), by decide⟩,
   ⟨0, (Mg2), by decide⟩,
   ⟨0, (((Mg2.wrN 0x9060 8 1).wrN 0x8C10 1 5)), by decide⟩,
   ⟨1, (Mg2), by decide⟩⟩

theorem witness_PcieSignalsItsWakeCauses :
    (∃ (s : State), s.on 1 = true ∧ s.lan.pcieUp = false) ∧
    (∃ (s : State), s.rdN (0x9080) 1 = 1 ∧ s.lan.perst = false ∧ s.on 1 = true ∧ s.rdN (0x9080) 8 = 0) ∧
    (∃ (s : State), s.lan.pcieUp = true ∧ s.lan.l2 = false ∧ s.lan.crsUntil ≤ s.uptime) ∧
    (∃ (s : State), (s.lan.pcieUp = false ∨ s.uptime < s.lan.crsUntil)) ∧
    (∃ (s : State), s.on 0 = true ∧ s.rdBit (0x9080) 7 1 = true ∧ s.rdN (0x9080) 8 = 0 ∧ s.lan.signalled = 0 ∧ s.lan.l2 = true
      ∧ s.lan.wakeLow = false ∧ s.lan.wakeDue = none) ∧
    (∃ (s : State), s.on 0 = true ∧ s.rdBit (0x9080) 7 1 = true ∧ s.rdN (0x9080) 8 = 0 ∧ s.lan.signalled = 0 ∧ s.lan.l2 = true
      ∧ s.lan.wakeDue.isSome = true) ∧
    (∃ (s : State), s.on 0 = true ∧ s.rdBit (0x9080) 7 1 = true ∧ s.rdN (0x9080) 8 = 0 ∧ s.lan.signalled = 0 ∧ s.lan.l2 =
      false ∧ s.lan.pcieUp = true ∧ s.lan.d3 = true) ∧
    (∃ (s : State), s.on 0 = true ∧ s.rdBit (0x9080) 7 1 = true ∧ s.rdN (0x9080) 8 = 0 ∧ s.lan.signalled = 0 ∧ s.lan.l2 =
      false ∧ s.msixMay 2 = true) ∧
    (∃ (s : State), s.on 0 = true ∧ s.rdBit (0x9080) 7 1 = true ∧ s.rdN (0x9080) 8 = 0 ∧ s.lan.signalled = 0 ∧ s.lan.l2 =
      false ∧ s.lan.pcieUp = true ∧ s.lan.d3 = false ∧ s.lan.msixEnabled = true ∧ s.msixMay 2 = false) ∧
    (∃ (s : State), s.on 0 = true ∧ s.rdN (0x9080) 7 = 0) ∧
    (∃ (s : State), s.lan.pcieUp = true) ∧
    (∃ (s : State), s.lan.pcieUp = true) :=
  ⟨⟨(Msv), by decide⟩,
   ⟨(((MwithLan (fun l => {l with perst := false}) Msv).wrN 0x9080 1 1)), by decide⟩,
   ⟨(Mp), by decide⟩,
   ⟨((MwithLan (fun l => {l with crsUntil := 2^60}) Mp)), by decide⟩,
   ⟨(Ml2), by decide⟩,
   ⟨((MwithLan (fun l => {l with wakeDue := some 5}) Ml2)), by decide⟩,
   ⟨((MwithLan (fun l => {l with d3 := true}) Mw)), by decide⟩,
   ⟨((MwithLan (fun l => {l with msixEnabled := true, msixTable := [(44,0)]}) Mw)), by decide⟩,
   ⟨((MwithLan (fun l => {l with msixEnabled := true}) Mw)), by decide⟩,
   ⟨((Mp.wrN 0x9080 7 0)), by decide⟩,
   ⟨(Mw), by decide⟩,
   ⟨(Mw), by decide⟩⟩

theorem witness_FlitsAreNumberedAcknowledgedAndResent :
    (∃ (q : Fin 2) (n : Nat) (valid : Nat) (piece : Nat) (frame : Nat) (cls : Nat) (first : Bool) (last : Bool) (tag : Option
      Nat) (data : List Byte) (f : Flit) (s : State), f.body = FlitBody.tenant n first last valid piece frame cls tag data ∧
      s.linkUp q.val = true ∧ f.seqNo ≠ (s.link q.val).rxSeq ∧ (s.link q.val).nakAt ≠ some s.uptime ∧ s.rdN (0x8C10 + q.val) 3
      + 1 < s.rdN (0x8C10 + q.val) 4 ∧ s.rdN (0x8C10 + q.val) 4 ≤ 1024) ∧
    (∃ (q : Fin 2) (n : Nat) (valid : Nat) (piece : Nat) (frame : Nat) (cls : Nat) (first : Bool) (last : Bool) (tag : Option
      Nat) (data : List Byte) (f : Flit) (s : State), f.body = FlitBody.tenant n first last valid piece frame cls tag data ∧
      s.linkUp 0 = true ∧ s.linkUp 1 = true ∧ f.seqNo = (s.link q.val).rxSeq ∧ f.dest ≠ s.ownPosition ∧ (s.link q.val).waiting
      = [] ∧ (s.link (1 - q.val)).waiting = [] ∧ (s.link (1 - q.val)).retry.length < 1024 ∧ 0 < (s.link (1 - q.val)).vc0) ∧
    (∃ (q : Fin 2) (n : Nat) (valid : Nat) (piece : Nat) (frame : Nat) (cls : Nat) (first : Bool) (tag : Option Nat) (data :
      List Byte) (f : Flit) (s : State), f.body = FlitBody.tenant n first false valid piece frame cls tag data ∧ s.linkUp
      q.val = true ∧ f.seqNo = (s.link q.val).rxSeq ∧ f.dest = s.ownPosition ∧ (s.link q.val).waiting = []) ∧
    (∃ (q : Fin 2) (e : Nat) (g : Flit) (r : List Flit) (f : Flit) (s : State), f.body = FlitBody.nak e ∧ s.linkUp q.val =
      true ∧ (s.link q.val).retry = g :: r ∧ g.seqNo = e ∧ ((g :: r).any fun h => h.seqNo == f.acked) = false ∧ (s.link
      q.val).waiting = [] ∧ (s.link q.val).resends < 7) ∧
    (∃ (q : Fin 2) (e : Nat) (g : Flit) (r : List Flit) (f : Flit) (s : State), f.body = FlitBody.nak e ∧ s.linkUp q.val =
      true ∧ (s.link q.val).retry = g :: r ∧ g.seqNo = e ∧ ((g :: r).any fun h => h.seqNo == f.acked) = false ∧ 7 ≤ (s.link
      q.val).resends) ∧
    (∃ (q : Fin 2) (s : State), s.linkUp q.val = true ∧ (s.link q.val).nakAt ≠ some s.uptime ∧ s.rdN (0x8C10 + q.val) 3 + 2 <
      s.rdN (0x8C10 + q.val) 4 ∧ s.rdN (0x8C10 + q.val) 4 ≤ 1024) ∧
    (∃ (q : Fin 2) (s : State), s.linkUp q.val = true ∧ (s.link q.val).nakAt ≠ some s.uptime ∧ s.rdN (0x8C10 + q.val) 4 ≤
      s.rdN (0x8C10 + q.val) 3 + 2 ∧ s.rdN (0x8C10 + q.val) 4 ≤ 1024) ∧
    (∃ (q : Fin 2) (s : State), s.linkUp q.val = true) ∧
    (∃ (q : Fin 2) (vc : Fin 2) (s : State), s.linkUp q.val = true ∧ (if vc.val = 0 then (s.link q.val).vc0 = 0 else (s.link
      q.val).vc1 = 0) ∧ ((s.link q.val).waiting.any fun f => flitVc f.body == some vc.val) = true) :=
  ⟨⟨0, 5, 112, 0, 7, 0, true, false, none, [1,2], (Ofl Otb 0 3), (Og3), by decide⟩,
   ⟨0, 5, 112, 0, 7, 0, true, false, none, [1,2], (Ofl Otb 2 0), (Og22), by decide⟩,
   ⟨0, 5, 112, 0, 7, 0, true, none, [1,2], (Ofl Otb 0 0), (Og3), by decide⟩,
   ⟨0, 5, (Ofl .null 1 5), [Ofl Otb 1 6], (Ofl (.nak 5) 0 0), (Ogr), by decide⟩,
   ⟨0, 5, (Ofl .null 1 5), [Ofl Otb 1 6], (Ofl (.nak 5) 0 0), (Ogr2), by decide⟩,
   ⟨0, (Og3), by decide⟩,
   ⟨0, ((Og3.wrN 0x8C10 4 2)), by decide⟩,
   ⟨0, (Og3), by decide⟩,
   ⟨0, 0, ((Og3.setLink 0 {Link.start with vc0 := 0, waiting := [Ofl Otb 1 0]})), by decide⟩⟩

theorem witness_FlitsDoWhatTheirTypeAsks :
    (∃ (q : Fin 2) (pos : Nat) (size : Nat) (code : Nat) (digest : List Byte) (f : Flit) (s : State), f.body = FlitBody.init
      pos size code digest ∧ s.linkState q.val = 2 ∧ (pos ≠ s.neighbour q.val ∨ size ≠ s.groupSize ∨ code = 1 ∨ s.is1608 =
      true)) ∧
    (∃ (q : Fin 2) (pos : Nat) (size : Nat) (code : Nat) (digest : List Byte) (f : Flit) (s : State), f.body = FlitBody.init
      pos size code digest ∧ s.linkState q.val = 2 ∧ pos = s.neighbour q.val ∧ size = s.groupSize ∧ code ≠ 1 ∧ s.is1608 =
      false ∧ s.groupRole ≠ 1 ∧ s.protGroups = [] ∧ s.bob.pendingCmd = []) ∧
    (∃ (q : Fin 2) (write : Bool) (tag : Nat) (len : Nat) (addr : Nat) (data : List Byte) (f : Flit) (s : State), f.body =
      FlitBody.request write tag len addr data ∧ s.linkUp q.val = true ∧ f.seqNo = (s.link q.val).rxSeq ∧ f.dest =
      s.ownPosition ∧ (s.link q.val).waiting = [] ∧ s.route f.source = some q.val ∧ (s.link q.val).retry.length < 1024 ∧ 0 <
      (s.link q.val).vc1 ∧ s.target (s.redirect addr) = none) ∧
    (∃ (q : Fin 2) (write : Bool) (tag : Nat) (len : Nat) (addr : Nat) (data : List Byte) (f : Flit) (s : State) (d : Target ×
      Nat) (u : State), f.body = FlitBody.request write tag len addr data ∧ s.linkUp q.val = true ∧ f.seqNo = (s.link
      q.val).rxSeq ∧ f.dest = s.ownPosition ∧ (s.link q.val).waiting = [] ∧ s.route f.source = some q.val ∧ (s.link
      q.val).retry.length < 1024 ∧ 0 < (s.link q.val).vc1 ∧ s.target (s.redirect addr) = some d ∧ s.matrixWrite (s.redirect
      addr) (List.take len data) = some u ∧ s.reaches (3 + q.val) d.fst true = true ∧ s.mat.isolated.contains d.fst.number =
      false ∧ write = true) ∧
    (∃ (q : Fin 2) (write : Bool) (tag : Nat) (len : Nat) (addr : Nat) (data : List Byte) (f : Flit) (s : State) (d : Target ×
      Nat) (b : List Byte), f.body = FlitBody.request write tag len addr data ∧ s.linkUp q.val = true ∧ f.seqNo = (s.link
      q.val).rxSeq ∧ f.dest = s.ownPosition ∧ (s.link q.val).waiting = [] ∧ s.route f.source = some q.val ∧ (s.link
      q.val).retry.length < 1024 ∧ 0 < (s.link q.val).vc1 ∧ s.target (s.redirect addr) = some d ∧ s.matrixRead (s.redirect
      addr) len = some b ∧ s.reaches (3 + q.val) d.fst false = true ∧ s.mat.isolated.contains d.fst.number = false ∧ write =
      false) ∧
    (∃ (q : Fin 2) (write : Bool) (tag : Nat) (len : Nat) (addr : Nat) (data : List Byte) (f : Flit) (s : State) (d : Target ×
      Nat), f.body = FlitBody.request write tag len addr data ∧ s.linkUp q.val = true ∧ f.seqNo = (s.link q.val).rxSeq ∧
      f.dest = s.ownPosition ∧ (s.link q.val).waiting = [] ∧ s.route f.source = some q.val ∧ (s.link q.val).retry.length <
      1024 ∧ 0 < (s.link q.val).vc1 ∧ s.target (s.redirect addr) = some d ∧ s.mat.isolated.contains d.fst.number = true) ∧
    (∃ (q : Fin 2) (write : Bool) (tag : Nat) (len : Nat) (addr : Nat) (data : List Byte) (f : Flit) (s : State), f.body =
      FlitBody.request write tag len addr data ∧ s.linkUp q.val = true ∧ f.seqNo = (s.link q.val).rxSeq ∧ f.dest =
      s.ownPosition ∧ (s.link q.val).waiting = [] ∧ s.route f.source = some q.val ∧ (s.link q.val).retry.length < 1024 ∧ 0 <
      (s.link q.val).vc1) ∧
    (∃ (q : Fin 2) (tag : Nat) (st : Nat) (data : List Byte) (f : Flit) (s : State), f.body = FlitBody.response tag st data ∧
      s.linkUp q.val = true ∧ f.seqNo = (s.link q.val).rxSeq ∧ f.dest = s.ownPosition ∧ (s.link q.val).waiting = []) ∧
    (∃ (q : Fin 2) (t1 : Fin (0x3B9ACA00)) (t2 : Fin (0x3B9ACA00)) (t3 : Fin (0x3B9ACA00)) (t4 : Fin (0x3B9ACA00)) (ql : Nat)
      (h : Bool) (f : Flit) (s : State), f.body = FlitBody.time t1.val.cast t2.val.cast t3.val.cast t4.val.cast ql h ∧
      s.linkUp q.val = true ∧ f.seqNo = (s.link q.val).rxSeq ∧ f.dest = s.ownPosition ∧ (s.link q.val).waiting = []) ∧
    (∃ (q : Fin 2) (s : State), s.linkUp q.val = true) ∧
    (∃ (q : Fin 2) (j : Fin 256) (cmd : Nat) (number : Nat) (w : Bool) (p : Bool) (f : Flit) (s : State), s.linkUp q.val =
      true ∧ f.seqNo = (s.link q.val).rxSeq ∧ f.dest = s.ownPosition ∧ (s.link q.val).waiting = [] ∧ f.body = FlitBody.prot
      j.val cmd number true w p ∧ s.homeHere (s.rdN (0x8D00 + j.val) 2) = true) ∧
    (∃ (q : Fin 2) (j : Fin 256) (cmd : Nat) (number : Nat) (w : Bool) (p : Bool) (f : Flit) (s : State), s.linkUp q.val =
      true ∧ f.seqNo = (s.link q.val).rxSeq ∧ f.dest = s.ownPosition ∧ (s.link q.val).waiting = [] ∧ f.body = FlitBody.prot
      j.val cmd number true w p ∧ s.homeHere (s.rdN (0x8D00 + j.val) 2) = false) ∧
    (∃ (q : Fin 2) (j : Fin 256) (cmd : Nat) (number : Nat) (w : Bool) (p : Bool) (f : Flit) (s : State), s.linkUp q.val =
      true ∧ f.seqNo = (s.link q.val).rxSeq ∧ f.dest = s.ownPosition ∧ (s.link q.val).waiting = [] ∧ f.body = FlitBody.prot
      j.val cmd number false w p ∧ s.groupRole ≠ 1 ∧ s.homeHere (s.rdN (0x8D00 + j.val) 2) = true ∧ s.route f.source = some
      q.val ∧ (s.link q.val).retry.length < 1023) ∧
    (∃ (q : Fin 2) (j : Fin 256) (cmd : Nat) (number : Nat) (w : Bool) (p : Bool) (f : Flit) (s : State) (c : PendCmd),
      s.linkUp q.val = true ∧ f.seqNo = (s.link q.val).rxSeq ∧ f.dest = s.ownPosition ∧ (s.link q.val).waiting = [] ∧ f.body =
      FlitBody.prot j.val cmd number false w p ∧ s.groupRole = 1 ∧ s.bob.pendingCmd = [c] ∧ c.number = number ∧ c.group =
      j.val) ∧
    (∃ (n : Fin (0x1000)) (a : Nat) (s : State), s.groupHome n.val = true ∧ s.protOf n.val = none ∧ s.headSeqs n.val = [a] ∧ a
      ≠ lgetD n.val 0 s.bob.spanSeq) :=
  ⟨⟨0, 1, 3, 0, [1], (Ofl (.init 1 3 0 [1]) 0 5), (Ogi), by decide⟩,
   ⟨0, (Ogm.neighbour 0), 2, 0, [1], (Ofl (.init (Ogm.neighbour 0) 2 0 [1]) 0 5), (Ogmi), by decide⟩,
   ⟨0, true, 4, 8, 0x30000000, [1,2,3,4,5,6,7,8], (Ofl (.request true 4 8 0x30000000 [1,2,3,4,5,6,7,8]) 0 0), (Og3), by
     decide⟩,
   (by
    obtain ⟨u, hu⟩ := Option.isSome_iff_exists.mp
      (show (Og3.matrixWrite (Og3.redirect 0x40000010) (List.take 8 [1, 2, 3, 4, 5, 6, 7, 8])).isSome = true by decide)
    exact ⟨0, true, 4, 8, 0x40000010, [1, 2, 3, 4, 5, 6, 7, 8], Orq, Og3, (.studio, 0x10), u, rfl, by decide, by decide, by
      decide, by decide, by decide, by decide, by decide, by decide, hu, by decide, by decide, rfl⟩),
   (by
    obtain ⟨b, hb⟩ := Option.isSome_iff_exists.mp
      (show (Og3.matrixRead (Og3.redirect 0x40000010) 8).isSome = true by decide)
    exact ⟨0, false, 4, 8, 0x40000010, [], Ofl (.request false 4 8 0x40000010 []) 0 0, Og3, (.studio, 0x10), b, rfl, by
      decide, by decide, by decide, by decide, by decide, by decide, by decide, by decide, hb, by decide, by decide, rfl⟩),
   ⟨0, true, 4, 8, 0x40000010, [1, 2, 3, 4, 5, 6, 7, 8], Orq,
     { Og3 with mat := { Og3.mat with isolated := [Target.studio.number] } }, (.studio, 0x10), by decide⟩,
   ⟨0, true, 4, 8, 0x40000010, [1, 2, 3, 4, 5, 6, 7, 8], Orq, Og3, by decide⟩,
   ⟨0, 4, 0, [1], (Ofl (.response 4 0 [1]) 0 0), ((Og3.setLink 0
     {Link.start with outstanding := [(3,(2,true)), (4,(1,false))]})), by decide⟩,
   ⟨0, 5, 7, 10, 21, 4, true, (Ofl (.time 5 7 10 21 4 true) 0 0), (Og3), by decide⟩,
   ⟨0, (Og3), by decide⟩,
   ⟨0, 3, 0, 7, true, false, (Ofl (.prot 3 0 7 true true false) 0 0), (Oh), by decide⟩,
   ⟨0, 3, 9, 7, true, false, (Ofl (.prot 3 9 7 true true false) 0 0), ((Oh.wrS 0x8C00 0xC [9,9,9,9,9,1])), by decide⟩,
   ⟨0, 3, 3, 7, true, false, {Ofl (.prot 3 3 7 false true false) Ohm.ownPosition 0 with source := 0}, (Ohm), by decide⟩,
   ⟨0, 3, 3, 7, true, false, (Ofl (.prot 3 3 7 false true false) 0 0),
     ({Oh with bob := {Oh.bob with pendingCmd := [{group := 3, cmd := 3, number := 7, answer := none}]}}),
     {group := 3, cmd := 3, number := 7, answer := none}, by decide⟩,
   ⟨0, 12, (Ogq), by decide⟩⟩

theorem witness_LinksRestartProtectionSelectsAlertsTell :
    (∃ (q : Fin 2) (s : State), s.grouped = true ∧ s.on (20 + q.val) = true ∧ s.linkState q.val = 4 ∧ s.rdN (0x8C10 + q.val)
      12 ≠ 6) ∧
    (∃ (q : Fin 2) (s : State), s.grouped = true ∧ s.on (20 + q.val) = true ∧ s.linkState q.val = 4 ∧ s.rdN (0x8C10 + q.val)
      12 = 6) ∧
    (∃ (q : Fin 2) (s : State), s.grouped = true ∧ s.on (20 + q.val) = true ∧ s.serves ∧ s.is1608 = false ∧ s.linkState q.val
      = 3) ∧
    (∃ (q : Fin 2) (s : State), s.grouped = true ∧ s.on (20 + q.val) = true ∧ s.serves ∧ s.is1608 = false ∧ s.linkState q.val
      = 4) ∧
    (∃ (j : Fin 256) (s : State), s.is1608 = false ∧ s.rdB (0x8D00 + j.val) 1 = true ∧ s.homeHere (s.rdN (0x8D00 + j.val) 2) =
      true ∧ s.rdB (0x8D00 + j.val) 4 = false ∧ s.rawFail (s.rdN (0x8D00 + j.val) 3) (s.prot j.val).carrier (s.prot
      j.val).rawProtect = false ∧ (s.prot j.val).sfProtect = false ∧ s.rawFail (s.rdN (0x8D00 + j.val) 2) (s.prot
      j.val).carrierW (s.prot j.val).rawWorking = true ∧ (s.prot j.val).command = 0) ∧
    (∃ (j : Fin 256) (s : State), s.is1608 = false ∧ s.rdB (0x8D00 + j.val) 1 = true ∧ s.homeHere (s.rdN (0x8D00 + j.val) 2) =
      true ∧ s.rdB (0x8D00 + j.val) 4 = false ∧ s.rawFail (s.rdN (0x8D00 + j.val) 3) (s.prot j.val).carrier (s.prot
      j.val).rawProtect = false ∧ (s.prot j.val).sfProtect = false ∧ s.rawFail (s.rdN (0x8D00 + j.val) 2) (s.prot
      j.val).carrierW (s.prot j.val).rawWorking = true ∧ (s.prot j.val).command = 1) ∧
    (∃ (j : Fin 256) (s : State), s.is1608 = false ∧ s.rdB (0x8D00 + j.val) 1 = true ∧ s.homeHere (s.rdN (0x8D00 + j.val) 2) =
      true ∧ s.rdB (0x8D00 + j.val) 4 = false ∧ s.rawFail (s.rdN (0x8D00 + j.val) 3) (s.prot j.val).carrier (s.prot
      j.val).rawProtect = false ∧ (s.prot j.val).sfProtect = false ∧ s.rawFail (s.rdN (0x8D00 + j.val) 2) (s.prot
      j.val).carrierW (s.prot j.val).rawWorking = false ∧ (s.prot j.val).sfWorking = false ∧ s.rdB (0x8D00 + j.val) 5 = true ∧
      (s.prot j.val).command = 0) ∧
    (∃ (j : Fin 256) (s : State), s.serves ∧ s.is1608 = false ∧ s.groupRole = 0 ∧ s.rdB (0x8D00 + j.val) 1 = true ∧ s.homeHere
      (s.rdN (0x8D00 + j.val) 2) = true ∧ s.rdB (0x8D00 + j.val) 4 = false ∧ s.rawFail (s.rdN (0x8D00 + j.val) 2) (s.prot
      j.val).carrierW (s.prot j.val).rawWorking = false ∧ (s.prot j.val).sfWorking = false ∧ (s.prot j.val).wtr = false) ∧
    (∃ (j : Fin 256) (s : State), s.serves ∧ s.is1608 = false ∧ s.groupRole = 0 ∧ s.rdB (0x8D00 + j.val) 1 = true ∧ s.homeHere
      (s.rdN (0x8D00 + j.val) 2) = true ∧ s.rdB (0x8D00 + j.val) 4 = false ∧ s.rawFail (s.rdN (0x8D00 + j.val) 2) (s.prot
      j.val).carrierW (s.prot j.val).rawWorking = false ∧ (s.prot j.val).sfWorking = false ∧ (s.prot j.val).wtr = false ∧
      s.rawFail (s.rdN (0x8D00 + j.val) 3) (s.prot j.val).carrier (s.prot j.val).rawProtect = false) ∧
    (∃ (j : Fin 256) (s : State), s.serves ∧ s.is1608 = false ∧ s.groupRole = 0 ∧ s.rdB (0x8D00 + j.val) 1 = true ∧ s.homeHere
      (s.rdN (0x8D00 + j.val) 2) = true ∧ s.rdB (0x8D00 + j.val) 4 = false ∧ s.rawFail (s.rdN (0x8D00 + j.val) 2) (s.prot
      j.val).carrierW (s.prot j.val).rawWorking = false ∧ (s.prot j.val).sfWorking = false ∧ (s.prot j.val).wtr = false ∧
      s.rawFail (s.rdN (0x8D00 + j.val) 3) (s.prot j.val).carrier (s.prot j.val).rawProtect = false) ∧
    (∃ (j : Fin 256) (s : State), s.serves ∧ s.is1608 = false ∧ s.groupRole = 0 ∧ s.rdB (0x8D00 + j.val) 1 = true ∧ s.homeHere
      (s.rdN (0x8D00 + j.val) 2) = true ∧ s.rdB (0x8D00 + j.val) 4 = false ∧ s.rawFail (s.rdN (0x8D00 + j.val) 2) (s.prot
      j.val).carrierW (s.prot j.val).rawWorking = false ∧ (s.prot j.val).sfWorking = false ∧ (s.prot j.val).wtr = false ∧
      s.rawFail (s.rdN (0x8D00 + j.val) 3) (s.prot j.val).carrier (s.prot j.val).rawProtect = false ∧ s.rdB (0x8D00 + j.val) 5
      = true) ∧
    (∃ (s : State), s.is1608 = false ∧ s.on 1 = true) ∧
    (∃ (s : State), s.serves ∧ s.is1608 = false) :=
  ⟨⟨0, ((Og3.wrN 0x8C10 1 4)), by decide⟩,
   ⟨0, (((Og3.wrN 0x8C10 1 4).wrN 0x8C10 0xC 6)), by decide⟩,
   ⟨0, (Og3), by decide⟩,
   ⟨0, ((Og3.wrN 0x8C10 1 4)), by decide⟩,
   ⟨3, ((Oraw Op0 0 true)), by decide⟩,
   ⟨3, ((Oraw Op0 1 true)), by decide⟩,
   ⟨3, ((Oraw (Op0.wrN 0x8D03 9 1) 0 false)), by decide⟩,
   ⟨3, Ost, by decide⟩,
   ⟨3, Ost, by decide⟩,
   ⟨3, Ost, by decide⟩,
   ⟨3, Ost, by decide⟩,
   ⟨(Og3), by decide⟩,
   ⟨({Ogm with bob := {Ogm.bob with latched := 3}}), by decide⟩⟩

theorem witness_ClustersFaultMoveAndReturn :
    (∃ (n : Fin 12) (e : Fin 8) (m : Nat) (u : Nat) (s : State), (s.clState n.val = 2 ∨ s.clState n.val = 4) ∧ lgetD (8 *
      n.val + e.val) (0, 0) s.eng.misses = (m, u) ∧ (m = 0 ∨ u + 1500 < s.uptime)) ∧
    (∃ (n : Fin 12) (e : Fin 8) (m : Nat) (u : Nat) (s : State), (s.clState n.val = 2 ∨ s.clState n.val = 4) ∧ lgetD (8 *
      n.val + e.val) (0, 0) s.eng.misses = (m, u) ∧ m = 1 ∧ s.uptime ≤ u + 1500) ∧
    (∃ (n : Fin 12) (e : Fin 8) (m : Nat) (u : Nat) (s : State) (d : Nat), (s.clState n.val = 2 ∨ s.clState n.val = 4) ∧ lgetD
      (8 * n.val + e.val) (0, 0) s.eng.misses = (m, u) ∧ m = 2 ∧ s.uptime ≤ u + 1500 ∧ s.clState n.val = 2 ∧ s.clItem n.val <
      11 ∧ s.eng.move = none ∧ s.spareFor (s.clItem n.val) = some d) ∧
    (∃ (n : Fin 12) (w : Nat) (s : State) (d : Nat), s.clState n.val = 2 ∧ s.clItem n.val = w ∧ w < 11 ∧ s.eng.move = none ∧
      s.spareFor w = some d) ∧
    (∃ (n : Fin 12) (w : Nat) (s : State) (v : Nat), s.clState n.val = 2 ∧ s.clItem n.val = w ∧ w < 11 ∧ s.eng.move = none ∧
      s.clustersIn 3 = [] ∧ (s.lowestItem fun v => decide (itemRank v < itemRank w) && mayPlace w (s.itemAt v)) = some v) ∧
    (∃ (n : Fin 12) (w : Nat) (s : State), s.clState n.val = 2 ∧ s.clItem n.val = w ∧ w < 11 ∧ s.eng.move = none ∧
      s.clustersIn 3 = [] ∧ (s.lowestItem fun v => decide (itemRank v < itemRank w) && mayPlace w (s.itemAt v)) = none) ∧
    (∃ (m : Move) (s : State), s.eng.move = some m ∧ m.stopped = false) ∧
    (∃ (src : Fin 12) (dst : Fin 12) (w : Fin 11) (fault : Bool) (retire : Bool) (s : State), src ≠ dst ∧ s.eng.waiting = [] ∧
      (∀ (v : Fin 11), s.rdN (0x9420 + v.val) 3 ≠ 2) ∧ (fault = true → s.rdN (0x9410 + src.val) 6 ≠ 3) ∧ s.eng.move = some
      { fault := fault, item := w.val, src := src.val, dst := dst.val, retire := retire, stopped := true, follow := none }) ∧
    (∃ (n : Fin 12) (s : State), s.clState n.val = 1 ∧ s.eng.move ≠ none) ∧
    (∃ (n : Fin 12) (s : State), s.clState n.val = 1) ∧
    (∃ (n : Fin 12) (s : State) (w : Fin 11), s.clState n.val = 1 ∧ s.eng.move = none ∧ s.eng.waiting = [] ∧ (∀ (v : Fin 11),
      s.rdN (0x9420 + v.val) 3 = 2 ↔ v = w) ∧ s.clustersIn 3 = [] ∧ mayPlace w.val n.val = true) ∧
    (∃ (w : Fin 11) (s : State), s.itemRuns w.val = true ∧ s.clState (s.itemAt w.val) = 2) ∧
    (∃ (n : Fin 12) (s : State) (d : Nat), s.serves ∧ s.eng.move = none ∧ s.clState n.val = 2 ∧ s.spareFor (s.clItem n.val) =
      some d) ∧
    (∃ (n : Fin 12) (s : State) (d : Nat), s.serves ∧ s.eng.move = none ∧ s.clState n.val = 2 ∧ s.spareFor (s.clItem n.val) =
      some d) ∧
    (∃ (n : Fin 12) (s : State), s.serves ∧ s.eng.move = none ∧ s.clState n.val = 2 ∧ s.spareFor (s.clItem n.val) = none) ∧
    (∃ (n : Fin 12) (s : State), s.serves ∧ s.eng.move = none ∧ s.clState n.val ≠ 2) ∧
    (∃ (n : Fin 12) (s : State), s.serves ∧ s.eng.move = none ∧ (s.clState n.val = 0 ∨ s.clState n.val = 1 ∨ s.clState n.val =
      3 ∨ s.clState n.val = 5)) ∧
    (∃ (n : Fin 12) (s : State), s.serves ∧ s.eng.move = none ∧ (s.clState n.val = 5 ∨ s.clState n.val = 6)) ∧
    (∃ (n : Fin 12) (s : State), s.serves ∧ s.eng.move = none ∧ s.clState n.val < 5) :=
  ⟨⟨3, 2, 0, 0, (Pe), by decide⟩,
   ⟨3, 2, 1, 4000, ((PwithEng (fun x => {x with misses := [(26, (1, 4000))]}) Pe)), by decide⟩,
   ⟨3, 2, 2, 4000, ((PwithEng (fun x => {x with misses := [(26, (2, 4000))]}) Pe)), 11, by decide⟩,
   ⟨3, 3, (Pe), 11, by decide⟩,
   ⟨10, 10, (Pns), 9, by decide⟩,
   ⟨9, 9, (Pns), by decide⟩,
   ⟨(Pmv false false false), ((PwithEng (fun x => {x with move := some (Pmv false false false)}) Pe)), by decide⟩,
   ⟨3, 11, 3, true, true, PwithEng (fun x =>
     { x with move := some { fault := true, item := 3, src := 3, dst := 11, retire := true, stopped := true, follow := none } })
     Pe, by decide⟩,
   ⟨11, ((PwithEng (fun x => {x with move := some (Pmv true true false)}) Pck)), by decide⟩,
   ⟨11, (Pck), by decide⟩,
   ⟨11, ((Pck.suspend 8)), 8, by decide⟩,
   ⟨4, (Pck), by decide⟩,
   ⟨4, (Pe), 11, by decide⟩,
   ⟨4, (Pe), 11, by decide⟩,
   ⟨4, (Pns), by decide⟩,
   ⟨11, (Pe), by decide⟩,
   ⟨11, (Pe), by decide⟩,
   ⟨11, (Pns), by decide⟩,
   ⟨11, (Pe), by decide⟩⟩

theorem witness_UnmappedAccessesAreAnsweredByMode :
    (∃ (m : Fin 18) (c : Fin 64) (a : Nat) (s : State), s.on 1 = true ∧ s.unmapped m.val a = true ∧ m.val < 5) ∧
    (∃ (m : Fin 18) (a : Nat) (s : State), s.on 1 = true ∧ s.unmapped m.val a = true ∧ 5 < m.val ∧ (s.ctl.mode = Mode.boot ∨
      s.ctl.mode = Mode.test ∨ s.ctl.mode = Mode.safe)) ∧
    (∃ (m : Fin 18) (a : Nat) (s : State), s.on 1 = true ∧ s.unmapped m.val a = true ∧ 5 < m.val ∧ (s.ctl.mode = Mode.quiet ∨
      s.ctl.mode = Mode.discover ∨ s.ctl.mode = Mode.service ∨ s.ctl.mode = Mode.shed) ∧ (s.clState (m.val - 6) = 2 ∨
      s.clState (m.val - 6) = 3)) ∧
    (∃ (m : Fin 18) (c : Fin 64) (a : Nat) (s : State), s.on 1 = true ∧ s.unmapped m.val a = true ∧ m.val = 5 ∧ s.rdN (0x9500
      + c.val) 10 = 1 ∧ s.rdN (0x9500 + c.val) 7 = 0 ∧ (s.ctl.mode = Mode.boot ∨ s.ctl.mode = Mode.test ∨ s.ctl.mode =
      Mode.safe)) ∧
    (∃ (m : Fin 18) (c : Fin 64) (a : Nat) (s : State), s.on 1 = true ∧ s.unmapped m.val a = true ∧ m.val = 5 ∧ s.rdN (0x9500
      + c.val) 10 = 1 ∧ s.rdN (0x9500 + c.val) 7 = 0 ∧ (s.ctl.mode = Mode.quiet ∨ s.ctl.mode = Mode.discover ∨ s.ctl.mode =
      Mode.service ∨ s.ctl.mode = Mode.shed)) ∧
    (∃ (m : Fin 18) (c : Fin 64) (a : Nat) (s : State), s.on 1 = true ∧ s.unmapped m.val a = true ∧ m.val = 5 ∧ s.rdN (0x9500
      + c.val) 10 = 0) ∧
    (∃ (m : Fin 18) (a : Nat) (s : State), s.unmapped m.val a = false) :=
  ⟨⟨4, 3, 0x30000000, Pe, by decide⟩,
   ⟨9, Pun, ((Pclus (up .safe))), by decide⟩,
   ⟨9, Pun, (Pe), by decide⟩,
   ⟨5, 3, Pun, (((Pclus (up .safe)).wrN 0x9503 0xA 1)), by decide⟩,
   ⟨5, 3, Pun, (Pd), by decide⟩,
   ⟨5, 3, Pun, (Pe), by decide⟩,
   ⟨5, 0x40000000, (Pe), by decide⟩⟩

theorem witness_DmaJobsMoveBurstsAndEnd :
    (∃ (c : Fin 64) (s : State), s.serves ∧ c.val < 56 ∧ s.ctl.mode ≠ Mode.shed ∧ s.rdN (0x9500 + c.val) 10 ≠ 1 ∧ s.rdN
      (0x9500 + c.val) 10 ≠ 2) ∧
    (∃ (c : Fin 64) (s : State), s.serves ∧ c.val < 56 ∧ s.ctl.mode ≠ Mode.shed ∧ (s.rdN (0x9500 + c.val) 10 = 1 ∨ s.rdN
      (0x9500 + c.val) 10 = 2)) ∧
    (∃ (c : Fin 64) (s : State), s.serves ∧ c.val < 56 ∧ s.ctl.mode ≠ Mode.shed ∧ (s.rdN (0x9500 + c.val) 10 = 1 ∨ s.rdN
      (0x9500 + c.val) 10 = 2) ∧ s.rdN (0x9500 + c.val) 7 = 0) ∧
    (∃ (c : Fin 64) (s : State), s.serves ∧ c.val < 56 ∧ s.ctl.mode = Mode.shed) ∧
    (∃ (c : Fin 64) (s : State), s.serves ∧ 56 ≤ c.val ∧ s.ctl.mode ≠ Mode.shed) ∧
    (∃ (c : Fin 64) (s : State), s.serves ∧ 56 ≤ c.val) ∧
    (∃ (c : Fin 64) (ch : Chan) (n : Nat) (x : Nat) (host : List Byte) (p : Bool) (s : State), s.canonical ∧ s.rdN (0x9500 +
      c.val) 10 = 1 ∧ lget c.val s.mat.chans = some ch ∧ s.rdN (0x9500 + c.val) 3 = 0 ∧ s.rdN (0x9500 + c.val) 5 = 0 ∧ n = min
      256 (min ch.src.left ch.dst.left) ∧ 0 < n ∧ (∀ (d : Nat), d < n → s.windowOf (ch.src.addr + d) = none ∧ s.windowOf
      (ch.dst.addr + d) = none) ∧ [ch.src.next, ch.src.addr, ch.dst.next, ch.dst.addr].any s.remoteWaits = false ∧
      s.mms.poison = [] ∧ s.mat.isolated = [] ∧ 0x40000000 ≤ ch.src.addr ∧ ch.src.addr + n ≤ 0x41000000 ∧ 0x40000000 ≤
      ch.dst.addr ∧ ch.dst.addr + n ≤ 0x41000000) ∧
    (∃ (c : Fin 64) (ch : Chan) (n : Nat) (s : State), s.canonical ∧ s.rdN (0x9500 + c.val) 10 = 1 ∧ lget c.val s.mat.chans =
      some ch ∧ s.rdN (0x9500 + c.val) 3 = 0 ∧ s.rdN (0x9500 + c.val) 5 = 0 ∧ n = min 256 (min ch.src.left ch.dst.left) ∧ 0 <
      n ∧ (∀ (d : Nat), d < n → s.windowOf (ch.src.addr + d) = none ∧ s.windowOf (ch.dst.addr + d) = none) ∧ [ch.src.next,
      ch.src.addr, ch.dst.next, ch.dst.addr].any s.remoteWaits = false ∧ s.mms.poison = [] ∧ s.mat.isolated = [] ∧ 0x40000000
      ≤ ch.src.addr ∧ ch.src.addr + n ≤ 0x41000000 ∧ 0x40000000 ≤ ch.dst.addr ∧ ch.dst.addr + n ≤ 0x41000000 ∧ s.rdN (0x9500 +
      c.val) 7 = 0) ∧
    (∃ (c : Fin 64) (ch : Chan) (n : Nat) (s : State), s.canonical ∧ s.rdN (0x9500 + c.val) 10 = 1 ∧ lget c.val s.mat.chans =
      some ch ∧ s.rdN (0x9500 + c.val) 3 = 0 ∧ s.rdN (0x9500 + c.val) 5 = 0 ∧ n = min 256 (min ch.src.left ch.dst.left) ∧ 0 <
      n ∧ (∀ (d : Nat), d < n → s.windowOf (ch.src.addr + d) = none ∧ s.windowOf (ch.dst.addr + d) = none) ∧ [ch.src.next,
      ch.src.addr, ch.dst.next, ch.dst.addr].any s.remoteWaits = false ∧ s.mms.poison = [] ∧ s.mat.isolated = [] ∧ 0x40000000
      ≤ ch.src.addr ∧ ch.src.addr + n ≤ 0x41000000 ∧ 0x40000000 ≤ ch.dst.addr ∧ ch.dst.addr + n ≤ 0x41000000 ∧ s.rdN (0x9500 +
      c.val) 7 = 0) ∧
    (∃ (c : Fin 64) (ch : Chan) (s : State), s.rdN (0x9500 + c.val) 10 = 1 ∧ lget c.val s.mat.chans = some ch ∧ s.rdN (0x9500
      + c.val) 7 = 0 ∧ [ch.src.next, ch.src.addr, ch.dst.next, ch.dst.addr].any s.remoteWaits = false ∧ s.rdN (0x9500 + c.val)
      3 = 1 ∧ 0 < ch.src.left ∧ 0 < ch.dst.left) ∧
    (∃ (c : Fin 64) (ch : Chan) (host : List Byte) (s : State), s.rdN (0x9500 + c.val) 10 = 1 ∧ lget c.val s.mat.chans = some
      ch ∧ s.rdN (0x9500 + c.val) 7 = 0 ∧ [ch.src.next, ch.src.addr, ch.dst.next, ch.dst.addr].any s.remoteWaits = false ∧
      s.rdN (0x9500 + c.val) 2 = 1 ∧ ch.src.left = 0 ∧ ch.src.last = false ∧ 16 ≤ host.length ∧ 4 ≤ beField host 12 4) ∧
    (∃ (c : Fin 64) (ch : Chan) (s : State), s.rdN (0x9500 + c.val) 10 = 1 ∧ lget c.val s.mat.chans = some ch ∧ s.rdN (0x9500
      + c.val) 7 = 0 ∧ [ch.src.next, ch.src.addr, ch.dst.next, ch.dst.addr].any s.remoteWaits = false ∧ ch.src.left = 0 ∧
      ch.src.last = true ∧ 0 < ch.dst.left) ∧
    (∃ (c : Fin 64) (ch : Chan) (s : State), s.rdN (0x9500 + c.val) 10 = 1 ∧ lget c.val s.mat.chans = some ch ∧ s.rdN (0x9500
      + c.val) 7 = 0 ∧ [ch.src.next, ch.src.addr, ch.dst.next, ch.dst.addr].any s.remoteWaits = false ∧ ch.src.left = 0 ∧
      ch.src.last = true ∧ ch.dst.left = 0 ∧ ch.dst.last = true ∧ ch.gathered = []) ∧
    (∃ (c : Fin 64) (ch : Chan) (s : State), s.rdN (0x9500 + c.val) 10 = 1 ∧ lget c.val s.mat.chans = some ch ∧ ch.src.left =
      0 ∧ ch.src.last = true ∧ ch.dst.left = 0 ∧ ch.dst.last = true ∧ ch.gathered = [] ∧ s.rdN (0x9500 + c.val) 2 = 1 ∧ s.rdN
      (0x9500 + c.val) 7 ≠ 0) ∧
    (∃ (c : Fin 64) (s : State), (s.rdN (0x9500 + c.val) 10 = 3 ∨ s.rdN (0x9500 + c.val) 10 = 4) ∧ (∀ (q : Fin 2) (x : Nat ×
      Nat × Bool), x ∈ (s.link q.val).outstanding → x.snd ≠ (c.val, true))) ∧
    (∃ (c : Fin 64) (s : State), (s.rdN (0x9500 + c.val) 10 = 1 ∨ ¬∀ (q : Fin 2) (x : Nat × Nat × Bool), x ∈ (s.link
      q.val).outstanding → x.snd ≠ (c.val, true))) ∧
    (∃ (c : Fin 64) (ch : Chan) (host : List Byte) (p : Bool) (m : Bool) (k : Bool) (s : State), lget c.val s.mat.chans = some
      ch ∧ [ch.src.next, ch.src.addr, ch.dst.next, ch.dst.addr].any s.remoteWaits = true) ∧
    (∃ (c : Fin 64) (s : State), s.rdN (0x9500 + c.val) 10 = 3 ∧ s.rdB (0x9500 + c.val) 11 = false) :=
  ⟨⟨3, (((Pe.wrN 0x9503 4 640).wrN 0x9503 6 1280)), by decide⟩,
   ⟨3, (Pd), by decide⟩,
   ⟨3, (Pd), by decide⟩,
   ⟨3, ({Pd with ctl := {Pd.ctl with mode := .shed}}), by decide⟩,
   ⟨57, (Pd), by decide⟩,
   ⟨57, (Pd), by decide⟩,
   ⟨3, Pch, 64, 0x40000203, [], false, Pk, by decide⟩,
   ⟨3, Pch, 64, (Pk), by decide⟩,
   ⟨3, Pch, 64, (Pk), by decide⟩,
   ⟨3, Pch, ((Pk.wrN 0x9503 3 1)), by decide⟩,
   ⟨3, Pch2, [0,0,0,0,0,0,0,0,0,0,0,0,0,0,0,4], ((Pk2.wrN 0x9503 2 1)), by decide⟩,
   ⟨3, Pch3, (Pk3), by decide⟩,
   ⟨3, Pch4, (Pk4), by decide⟩,
   ⟨3, Pch4, (((Pk4.wrN 0x9503 2 1).wrN 0x9503 7 0x1000)), by decide⟩,
   ⟨3, ((Pe.wrN 0x9503 0xA 4)), by decide⟩,
   ⟨3, (Pd), by decide⟩,
   ⟨3, { src := Cursor.start 0x200000000, dst := Cursor.start 0, gathered := [] }, [], true, true, true,
     { Og3.setLink 0 { Link.start with outstanding := (List.range 55).map fun i => (i, (0, true)) } with mat := { Og3.mat with chans := [(3, { src := Cursor.start 0x200000000, dst := Cursor.start 0, gathered := [] })] } },
     by decide⟩,
   ⟨3, ((Pe.wrN 0x9503 0xA 3)), by decide⟩⟩

theorem witness_MemoryErrorsAreCountedLoggedAndRetired :
    (∃ (m : Fin 18) (addr : Nat) (syn : Nat) (inst : Nat) (s : State), s.memOn (memId m) inst = true) ∧
    (∃ (m : Fin 18) (master : Fin 18) (addr : Nat) (syn : Nat) (inst : Nat) (both : Bool) (s : State), s.memOn (memId m) inst
      = true ∧ memId m ≠ 7) ∧
    (∃ (master : Fin 18) (addr : Nat) (syn : Nat) (both : Bool) (s : State), s.on 0 = true) ∧
    (∃ (m : Fin 18) (word : Nat) (stored : Nat) (inst : Nat) (s : State), s.memOn (memId m) inst = true ∧ judgeSyndrome
      (syndrome stored word) = Verdict480.good) ∧
    (∃ (m : Fin 18) (word : Nat) (stored : Nat) (inst : Nat) (s : State), s.memOn (memId m) inst = true ∧ judgeSyndrome
      (syndrome stored word) = Verdict480.corrected) ∧
    (∃ (m : Fin 18) (word : Nat) (stored : Nat) (inst : Nat) (s : State), s.memOn (memId m) inst = true ∧ judgeSyndrome
      (syndrome stored word) = Verdict480.uncorrectable ∧ memId m ≠ 7) ∧
    (∃ (m : Fin 18) (n : Nat) (inst : Nat) (s : State), s.memOn (memId m) inst = true ∧ s.rdB (0x9800) 2 = true ∧ memLines
      (memId m) = some n ∧ s.rdN (0x1011) 1 = 0) ∧
    (∃ (m : Fin 18) (n : Nat) (inst : Nat) (s : State), s.memOn (memId m) inst = true ∧ s.rdB (0x9800) 2 = true ∧ memLines
      (memId m) = some n ∧ 1 ≤ s.rdN (0x1011) 1) ∧
    (∃ (id : Nat) (o : Nat) (w : Nat) (x : Nat) (s : State), s.serves ∧ s.canonical ∧ s.memOf (s.rdN (0x9830) 3) = some (id,
      o) ∧ pageOk id o = true ∧ pageOk (s.rdN (0x9830) 1) (s.rdN (0x9830) 2) = true ∧ s.freeWindow = some w ∧ s.pageTaken
      (s.rdN (0x9830) 3) = false) ∧
    (∃ (id : Nat) (o : Nat) (w : Nat) (s : State), s.serves ∧ s.canonical ∧ s.memOf (s.rdN (0x9830) 3) = some (id, o) ∧ pageOk
      id o = true ∧ pageOk (s.rdN (0x9830) 1) (s.rdN (0x9830) 2) = true ∧ s.freeWindow = some w ∧ s.pageTaken (s.rdN (0x9830)
      3) = true) ∧
    (∃ (id : Nat) (o : Nat) (s : State), s.serves ∧ s.canonical ∧ s.memOf (s.rdN (0x9830) 3) = some (id, o) ∧ pageOk id o =
      true ∧ pageOk (s.rdN (0x9830) 1) (s.rdN (0x9830) 2) = true ∧ s.freeWindow = none ∧ s.pageTaken (s.rdN (0x9830) 3) =
      false) ∧
    (∃ (s : State), s.serves ∧ s.rdN (0x9830) 1 = 1 ∧ s.rdN (0x9830) 2 < 256 ∧ (s.rdS (0x9831) 1).length = 32 ∧ s.bankRetired
      (s.rdN (0x9830) 2) = false ∧ s.retiredCells + 1024 + 0x4000 ≤ s.sharedPart) ∧
    (∃ (s : State), s.serves ∧ s.rdN (0x9830) 1 = 1 ∧ s.rdN (0x9830) 2 < 256 ∧ (s.rdS (0x9831) 1).length = 32 ∧ s.bankRetired
      (s.rdN (0x9830) 2) = false ∧ s.sharedPart < s.retiredCells + 1024 + 0x4000) ∧
    (∃ (s : State), s.serves) :=
  ⟨⟨3, 0x2000, 5, 0, Pe2, by decide⟩,
   ⟨3, 0, 0x2000, 5, 0, false, Pe2, by decide⟩,
   ⟨3, 0x2000, 5, false, Pe2, by decide⟩,
   ⟨3, 7, _, 0, Pe2, by decide, (judgeSyndrome_stored 7 0).trans (by decide)⟩,
   ⟨3, 7, _, 0, Pe2, by decide, (judgeSyndrome_stored 7 4).trans judgeSyndrome_check⟩,
   (by
    obtain ⟨x, hx⟩ := exists_uncorrectable
    exact ⟨3, 7, _, 0, Pe2, by decide, (judgeSyndrome_stored 7 x).trans hx, by decide⟩),
   ⟨3, 262144, 0, ((Pe2.wrN 0x9800 2 1)), by decide⟩,
   ⟨3, 262144, 0, (((Pe2.wrN 0x9800 2 1).wrN 0x1011 1 1)), by decide⟩,
   ⟨4, 0x8000, 15, 0x40009000, Pr, by decide⟩,
   ⟨4, 0x8000, 15, (Prw), by decide⟩,
   ⟨4, 0x8000, (Prf), by decide⟩,
   ⟨(Pb), by decide⟩,
   ⟨((Pb.wrS 0x9831 1 (List.replicate 4 0xFF ++ [0xFD] ++ List.replicate 27 0xFF))), by decide⟩,
   ⟨({Pe2 with mms := {Pe2.mms with log := [PlogE 0x2000]}}), by decide⟩⟩

theorem witness_BoundariesLatchCountsAndDumps :
    (∃ (s : State), s.on 0 = true ∧ s.tel.source = 0) ∧
    (∃ (s : State), s.tel.source = 1) ∧
    (∃ (n : Nat) (s : State), s.on 0 = true ∧ s.tel.source = 1 ∧ s.rdN (0xA010) 2 = 0 ∧ n.cast - s.rdI (0xA000) 2 <
      0x35A4E900) ∧
    (∃ (n : Nat) (s : State), s.on 0 = true ∧ s.tel.source = 1 ∧ s.rdN (0xA010) 2 = 0 ∧ 0x35A4E900 ≤ n.cast - s.rdI (0xA000)
      2) ∧
    (∃ (n : Nat) (s : State), s.on 0 = true ∧ s.tel.source = 1 ∧ s.rdN (0xA010) 2 = 0) ∧
    (∃ (s : State), s.serves ∧ s.tel.writing = none ∧ s.tel.due = none ∧ s.rdN (0x1011) 1 = 0) ∧
    (∃ (s : State), s.serves ∧ s.tel.writing = none ∧ s.tel.due = none ∧ 1 ≤ s.rdN (0x1011) 1) ∧
    (∃ (s : State), s.serves ∧ s.tel.writing ≠ none) ∧
    (∃ (d : Dump) (x : Nat) (s : State), s.canonical ∧ s.tel.writing = some d ∧ s.mms.poison = [] ∧ d.body.length ≤ 0x1FFF8 ∧
      (∀ (i : Fin 16), s.rdB (0x94A0 + i.val) 1 = false) ∧ d.number < 2 ^ 32) ∧
    (∃ (q : Nat) (r : List Nat) (s : State), s.tel.copied = q :: r ∧ s.rdB (0xA010) 4 = true ∧ s.rdN (0x1011) 1 = 0 ∧
      s.itemRuns 10 = true ∧ s.lan.pcieUp = true ∧ s.rdN (0xA010) 6 ≤ (s.rdN (0xA010) 9 + 2 ^ 32 - s.rdN (0xA010) 7) % 2 ^ 32)
      ∧
    (∃ (q : Nat) (r : List Nat) (s : State) (b : List Byte), s.tel.copied = q :: r ∧ s.rdB (0xA010) 4 = true ∧ s.rdN (0x1011)
      1 = 0 ∧ s.itemRuns 10 = true ∧ s.lan.pcieUp = true ∧ (s.rdN (0xA010) 9 + 2 ^ 32 - s.rdN (0xA010) 7) % 2 ^ 32 < s.rdN
      (0xA010) 6 ∧ s.rdB (0xA010) 11 = false ∧ s.masterRead (dumpAddr q) (0x100000) = some b) ∧
    (∃ (q : Nat) (r : List Nat) (s : State), s.tel.copied = q :: r ∧ s.rdB (0xA010) 4 = true ∧ s.rdN (0x1011) 1 = 0 ∧
      s.itemRuns 10 = true ∧ s.lan.pcieUp = true ∧ (s.rdN (0xA010) 9 + 2 ^ 32 - s.rdN (0xA010) 7) % 2 ^ 32 < s.rdN (0xA010) 6
      ∧ s.rdB (0xA010) 11 = false ∧ s.masterRead (dumpAddr q) (0x100000) = none) :=
  ⟨⟨(Qe), by decide⟩,
   ⟨(Qy), by decide⟩,
   ⟨899999999, Qy, by decide⟩,
   ⟨900000000, Qy, by decide⟩,
   ⟨5, Qy, by decide⟩,
   ⟨(Qe), by decide⟩,
   ⟨((Qe.wrN 0x1011 1 2)), by decide⟩,
   ⟨(Qw), by decide⟩,
   ⟨Qd, 0x500FFFFF, { Qw with mem := [(0x500FFFFF, 4), (0x50100007, 4)] }, by decide⟩,
   ⟨9, [], ((Qc.wrN 0xA010 9 8)), by decide⟩,
   (by
    obtain ⟨b, hb⟩ := ((Qc.wrN 0xA010 9 7).wrN 0xA010 0x0B 0).masterRead_of_no_poison rfl (dumpAddr 9) 0x100000
    exact ⟨9, [], (Qc.wrN 0xA010 9 7).wrN 0xA010 0x0B 0, b, by decide, by decide, by decide, by decide, by decide, by decide,
      by decide, hb⟩),
   ⟨9, [], { (Qc.wrN 0xA010 9 7).wrN 0xA010 0x0B 0 with mms := { Qc.mms with poison := [(5, 0x20000)] } }, by decide, by
     decide, by decide, by decide, by decide, by decide, by decide,
      State.masterRead_of_poison _ (p := (0x50100000, 256)) (List.mem_map.mpr ⟨0, List.mem_range.mpr (by decide), by decide⟩)
        (by decide)⟩⟩

theorem witness_HousekeepingRunsPassesAndInjections :
    (∃ (s : State), s.tel.hkOn = true ∧ s.tel.regular ≠ none) ∧
    (∃ (s : State), s.tel.hkOn = true ∧ s.tel.regular = none ∧ 0 < s.rdN (0xA020) 3) ∧
    (∃ (s : State), s.tel.hkOn = true ∧ s.tel.regular = none ∧ s.rdN (0xA020) 3 = 0) ∧
    (∃ (i : Fin 64) (x : HkSlot) (cs : List (BitVec 16 × Nat)) (s : State), s.tel.hkOn = true ∧ s.tel.regular = some i.val ∧
      s.tel.regSlots[i.val]? = some x ∧ cs.length = x.averaging ∧ 0 < x.averaging ∧ x.averaging ≤ 16 ∧ (s.tel.reference = 0 ∨
      s.rdBit (0xA020) 13 0 = false ∧ ∀ (c : BitVec 16 × Nat), c ∈ cs → 100 * (c.snd - s.tel.declared * 1000) ≤ s.tel.declared
      * 1000 ∧ 100 * (s.tel.declared * 1000 - c.snd) ≤ s.tel.declared * 1000) ∧ s.tel.interval ≠ 0 ∧ s.tel.passDue = false) ∧
    (∃ (j : Fin 8) (x : HkSlot) (cs : List (BitVec 16 × Nat)) (s : State), s.tel.hkOn = true ∧ s.tel.injected = some j.val ∧
      s.tel.injSlots[j.val]? = some x ∧ cs.length = x.averaging ∧ 0 < x.averaging ∧ s.tel.reference = 0) ∧
    (∃ (c : Fin 4) (s : State), s.tel.hkOn = true ∧ 0 < s.rdN (0xA020) 5 ∧ c.val ≠ 0 ∧ s.rdN (0xA020) 6 = c.val ∧
      s.tel.injected = none) ∧
    (∃ (c : Fin 4) (s : State), s.tel.hkOn = true ∧ 0 < s.rdN (0xA020) 5 ∧ c.val ≠ 0 ∧ s.rdN (0xA020) 6 = c.val ∧
      s.tel.injected ≠ none) ∧
    (∃ (c : Fin 4) (s : State), s.tel.hkOn = true ∧ 0 < s.rdN (0xA020) 5 ∧ (c.val = 0 ∨ s.rdN (0xA020) 6 ≠ c.val)) ∧
    (∃ (s : State), s.serves ∧ s.tel.hkOn = true ∧ 0 < s.rdN (0xA020) 5 ∧ s.tel.injected = none) ∧
    (∃ (s : State), s.serves ∧ s.tel.hkOn = true ∧ 0 < s.rdN (0xA020) 5 ∧ s.tel.injected ≠ none) :=
  ⟨⟨((QwithTel (fun t => {t with regular := some 1}) Qp)), by decide⟩,
   ⟨(Qp), by decide⟩,
   ⟨(Qh), by decide⟩,
   ⟨1, Qhs, [(5, 0), (6, 0)], QwithTel (fun t => {t with regular := some 1}) Qp, by decide⟩,
   ⟨1, Qhs, [(5, 0), (6, 0)], QwithTel (fun t => {t with injected := some 1}) Qp, by decide⟩,
   ⟨2, ((Qp.wrN 0xA020 6 2)), by decide⟩,
   ⟨2, ((QwithTel (fun t => {t with injected := some 1}) (Qp.wrN 0xA020 6 2))), by decide⟩,
   ⟨2, ((Qp.wrN 0xA020 6 1)), by decide⟩,
   ⟨(Qp), by decide⟩,
   ⟨((QwithTel (fun t => {t with injected := some 1}) Qp)), by decide⟩⟩

theorem witness_EventsChangeOnlyTheirParts :
    ∃ (c : Instr) (s : State) (t : State), exec c s = Host.Outcome.next t :=
  ⟨.errorCounterLeak 0, State.reset, _, rfl⟩

theorem witness_HostCommandsChangeOnlyTheirParts :
    ∃ (c : Instr) (s : State) (t : State), exec c s = Host.Outcome.next t :=
  ⟨.clearLog, up .service, _, rfl⟩

theorem witness_StrapsDecideTheRole :
    (∃ (master : Bool) (pos : Fin 4) (rest : Fin (0x2000)) (mv : Nat) (rom : Bool) (s : State), s.is1608 = false ∧
      s.pow.groups = 3 ∧ s.pow.released = false ∧ s.pow.pinLow = false) ∧
    (∃ (c : Instr) (s : State) (t : State), (s.grouped = false → s.on 20 = false ∧ s.on 21 = false) ∧ exec c s =
      Host.Outcome.next t ∧ t.grouped = false) ∧
    (∃ (c : Instr) (s : State) (t : State), (s.grouped = false → s.on 20 = false ∧ s.on 21 = false) ∧ exec c s =
      Host.Outcome.next t ∧ t.grouped = false) :=
  ⟨⟨true, 0, 0, 750, true, { State.reset with pow := { State.reset.pow with groups := 3, domains := 1 } }, by decide⟩,
   ⟨.errorCounterLeak 0, State.reset, _, by decide, rfl, by decide⟩,
   ⟨.errorCounterLeak 0, State.reset, _, by decide, rfl, by decide⟩⟩


/-! ### Ill-formed commands, one for each check of WellFormed -/

/-- A well-formed request header, and a well-formed WRITE item, flit, marker and Clause 45 access. -/
def okReq : Req := ⟨.mdio, .own, 4660, 1, 1, none⟩
def okItem : WrItem := ⟨0x1001, 1, 10, [4]⟩
def okFlit : Flit := ⟨0, 1, 0, 0, 0, 0, .null⟩
def okMarker : Marker := ⟨0, 0, 0, false, 0, 0, 0, 0, 0, true, 0, 0, 0, 0⟩
def okMdio : MdioOp := ⟨0, 30, 0x1001, 1, 10, 1, 0⟩
def okPropose : Propose := ⟨0, 0, 0, 0, 0, 0, List.replicate 32 0, List.replicate 32 0⟩
def okCorr : SliceCorr := ⟨0, 0, 0, 0, List.replicate 10 0⟩
def okResidual : Residual := ⟨0, 0, 0, 0⟩
def okMeasure : SliceMeasure := ⟨okResidual, okResidual, okCorr⟩
def okSet : List Byte := List.replicate 192 0
def okPicot : PicotRx := ⟨1000, -3, 0x2E4BD1A7⟩
def okLf : LfIn := ⟨0, List.replicate 2048 0, 0, 0, [(5, [1])], [(5, [7])]⟩

theorem test_wellformed_accepted :
    ([.read okReq [⟨1, 1⟩], .write okReq [okItem], .mdioRead okMdio, .proposeReceive okPropose [], .markerReceive 0 okMarker,
      .nullFlitDue 0, .nakReceive 0 { okFlit with body := .nak 5 }, .lfReceive 0 okLf, .sliceReadmit okMeasure,
      .dpdFeedbackReceive okPicot ⟨0, 0, 0, okSet, 0, 0⟩, .thermalSample [0], .mdioBadOpcode okMdio 0,
      .subscribe okReq [(⟨1, 1⟩, 10), (⟨1, 2⟩, 0)], .winDataAccess ⟨0, 30, 0x8008, some 7⟩] : List Instr).all Instr.wf = true := by
  decide

theorem test_illformed_requests :
    ([.read { okReq with src := .udp (2 ^ 128) 0 } [], .read { okReq with src := .dma 64 } [], .read { okReq with port := 65536 } [],
      .read { okReq with version := 256 } [], .read { okReq with seq := 65536 } [],
      .read { okReq with auth := some ⟨256, 0, List.replicate 16 0⟩ } [],
      .read { okReq with auth := some ⟨0, 2 ^ 64, List.replicate 16 0⟩ } [], .read { okReq with auth := some ⟨0, 0, []⟩ } [],
      .read okReq [⟨65536, 0⟩], .read okReq [⟨0, 256⟩], .read okReq (List.replicate 256 ⟨0, 0⟩),
      .write okReq [{ okItem with idx := 65536 }], .write okReq [{ okItem with sub := 256 }], .write okReq [{ okItem with ty := 256 }],
      .readBlock okReq 65536 0 0 0, .readBlock okReq 0 256 0 0, .readBlock okReq 0 0 (2 ^ 32) 0, .readBlock okReq 0 0 0 65536,
      .writeBlock okReq 65536 0 0 [], .transaction okReq (2 ^ 64) [], .subscribe okReq [(⟨65536, 0⟩, 0)],
      .subscribe okReq [(⟨0, 0⟩, 65536)], .notify (2 ^ 32), .pendingCopyExpiry (2 ^ 24), .neighbourSolicitation (2 ^ 128),
      .icmpEcho (2 ^ 128) 0 0 [], .icmpEcho 0 65536 0 [], .icmpEcho 0 0 65536 [], .mailboxDoorbell 0 (2 ^ 32) [],
      .mdioRead { okMdio with prtad := 32 }, .mdioWrite { okMdio with dev := 32 }, .mdioReadBlock { okMdio with index := 65536 },
      .mdioWriteBlock { okMdio with sub := 256 }, .mdioRead { okMdio with ty := 256 }, .mdioRead { okMdio with len := 65536 },
      .mdioRead { okMdio with off := 2 ^ 32 }, .mdioBadOpcode okMdio 4, .mdioBadOpcode okMdio 8,
      .winDataAccess ⟨32, 30, 0, none⟩, .winDataAccess ⟨0, 32, 0, none⟩, .winDataAccess ⟨0, 30, 65536, none⟩] : List Instr).all
      (fun i => !i.wf) = true := by decide

theorem test_illformed_line_commands :
    ([.porRelease 0 65536 true, .pinReset (2 ^ 64), .warmReset 65536 true, .multiframeBoundary [(4096, [])],
      .proposeReceive { okPropose with num := 2 ^ 32 } [], .proposeReceive { okPropose with target := 2 ^ 64 } [],
      .proposeReceive { okPropose with entMask := 2 ^ 32 } [], .proposeReceive { okPropose with codes := [] } [],
      .proposeReceive { okPropose with digests := [] } [], .proposeReceive okPropose [(32, [])], .ackReceive (2 ^ 32) 0,
      .ackReceive 0 (2 ^ 64), .refuseReceive 0 0 16, .confirmReceive (2 ^ 32) 0, .withdrawReceive (2 ^ 32), .ackDeadline (2 ^ 32),
      .confirmDeadline (2 ^ 32), .referenceModeWrite 256, .resizeCalendarBuild (2 ^ 32), .pageAdopt 0 [],
      .lfReceive 0 { okLf with overhead := [] }, .lfReceive 0 { okLf with stamp := 2 ^ 96 }, .lfReceive 0 { okLf with index := 2 ^ 32 },
      .lfReceive 0 { okLf with payload := [(4096, [])] }, .lfReceive 0 { okLf with frames := [(4096, [])] },
      .cellRequest (2 ^ 64) [], .cellRequest 0 [⟨0, true, 0, 0, 0, 0, 65536, none, []⟩],
      .cellRequest 0 [⟨0, true, 0, 0, 0, 0, 64, some (2 ^ 32), []⟩],
      .pauseReceive 0 65536, .pfcReceive 0 [(0, 65536)], .codewordRelease 0 [], .budgetCapUpdate (2 ^ 32), .forcedFailure 256,
      .sealHeaderReceive 0 0 (2 ^ 32), .tagReceive 0 [] true [], .helloReceive okPicot (List.replicate 256 0),
      .offerReceive { okPicot with correlation := 1001 } [], .acceptReceive { okPicot with afc := 2 ^ 31 } [],
      .faultReceive okPicot (List.replicate 256 0), .timeReceive okPicot [] (2 ^ 96), .picotBadPacket okPicot (List.replicate 2089 0),
      .keyshareShareReceive okPicot (List.replicate 256 0), .keyshareConfirmReceive okPicot (List.replicate 256 0)] : List Instr).all
      (fun i => !i.wf) = true := by decide

theorem test_illformed_cell_bytes (r : CellReq) (h : 16000 < r.bytes.length) : (Instr.cellRequest 0 [r]).wf = false := by
  have h : decide (r.bytes.length ≤ 16000) = false := decide_eq_false (by omega)
  simp only [Instr.wf, CellReq.wf, List.all_cons, h, Bool.and_false, Bool.false_and]

theorem test_illformed_analogue_commands :
    ([.foregroundCalibrationDone ⟨[((4, 0), okResidual)], 0, 0⟩, .foregroundCalibrationDone ⟨[((0, 152), okResidual)], 0, 0⟩,
      .foregroundCalibrationDone ⟨[], 2 ^ 32, 0⟩, .foregroundCalibrationDone ⟨[], 0, 2 ^ 32⟩, .calrefCheck (2 ^ 32),
      .spareMeasurementDone 0 { okMeasure with corr := { okCorr with trim := 2 ^ 64 } },
      .releasedSliceMeasured 0 { okMeasure with corr := { okCorr with offset := 32768 } },
      .sliceReadmit { okMeasure with corr := { okCorr with gain := -32769 } },
      .sliceReadmit { okMeasure with left := { okResidual with skew := 32768 } },
      .sliceReadmit { okMeasure with corr := { okCorr with bandwidth := [] } }, .shadowWindowEnd 0 { okResidual with offset := 32768 } [],
      .shadowWindowEnd 0 okResidual [0, 0, 0, 0, 0, 0], .dacTrimStep 0 32768 0 0, .dacImageTimer 0 32768,
      .gainLoopUpdate 0 65536 0, .fespiRetry 0 65536, .dpdLocalProposal 0 [] 0, .dpdLocalProposal 0 okSet 32768,
      .dpdFeedbackReceive okPicot ⟨0, 2 ^ 64, 0, okSet, 0, 0⟩, .dpdFeedbackReceive okPicot ⟨0, 0, 0, [], 0, 0⟩,
      .acqFrequencyFound (2 ^ 31), .dpdWindowComplete (okSet, 32768) (okSet, 0), .cdCandidateDone (2 ^ 32), .carrierLock 0 (2 ^ 64),
      .acqStepTimeout 256 0, .frontEndUpdate 0 32768 0 0, .warmVerifyDone true [0], .cdTrackUpdate (2 ^ 31), .nlScaleAdapt 0 32768,
      .candidateFail 0 (.frequency (2 ^ 31)), .waitToRestoreExpiry 0 (2 ^ 31), .holdoverUpdate (2 ^ 64), .crossingCalibration (2 ^ 31),
      .setTime (2 ^ 96), .phaseAdjust (2 ^ 63), .laneAdaptationDone 0 true (List.replicate 33 0), .avsTargetUpdate 65536,
      .setPointWrite 65536, .voltageStepRise 0 65536, .voltageStepReturn 65536, .pwrWarnAssert (2 ^ 64), .thermalSample [32768],
      .pmSyncEdge (2 ^ 64), .hkSlotDone 0 [(0, 2 ^ 64)], .pinResetRelease 0 65536 true] : List Instr).all (fun i => !i.wf) = true := by
  decide

theorem test_illformed_fabric_commands :
    ([.markerReceive 0 { okMarker with lane := 8 }, .markerReceive 0 { okMarker with port := 2 },
      .markerReceive 0 { okMarker with position := 4 }, .markerReceive 0 { okMarker with maskNow := 256 },
      .markerReceive 0 { okMarker with switchAt := 2 ^ 64 }, .nakReceive 0 okFlit, .nakReceive 0 { okFlit with body := .nak 4096 },
      .nakReceive 0 { okFlit with source := 4, body := .nak 0 }, .nakReceive 0 { okFlit with seqNo := 4096, body := .nak 0 },
      .nakReceive 0 { okFlit with vc0 := 256, body := .nak 0 }, .initReceive 0 { okFlit with body := .init 4 0 0 [0, 0, 0, 0] } [],
      .initReceive 0 { okFlit with body := .init 0 0 0 [] } [],
      .initReceive 0 { okFlit with body := .init 0 0 0 [0, 0, 0, 0] } [(2 ^ 24, .num 0)],
      .tenantFlitReceive 0 { okFlit with body := .tenant 4096 true true 1 0 0 0 none [] },
      .tenantFlitReceive 0 { okFlit with body := .tenant 0 true true 0 0 0 0 none [] }, .requestFlitReceive 0 { okFlit with body := .request true 0 65 0 [] },
      .responseFlitReceive 0 { okFlit with body := .response 0 16 [] }, .timeFlitReceive 0 { okFlit with body := .time 0 0 0 0 256 true },
      .protFlitReceive 0 { okFlit with body := .prot 256 0 0 true true true }, .requestAcceptTimeout 0 okFlit,
      .dridaWriteGroupWide { okItem with ty := 256 } true, .alertReport [32] true, .matrixDecodeFault 0 0 (2 ^ 40), .targetTimeout 32,
      .dmaBurst 0 (List.replicate 257 0) true true true, .correctedError 0 (2 ^ 40) 0 0, .correctedError 0 0 256 0, 
      .uncorrectableRead 0 0 0 65536 0 false, .scrubRead 0 (2 ^ 40) 0 0, .scrubRead 0 0 (2 ^ 72) 0, .marchTestLine 0 (2 ^ 40) 0 false,
      .deviceStateWrite false true [(1024, 0)], .pcieLinkTrained 256 0] : List Instr).all (fun i => !i.wf) = true := by decide

/-! ### The spec's worked examples -/

/-- The carrier of the worked examples: L3200 with 16 threads (spec/03_line_modes.md). -/
def l3200 : Carrier := (State.reset.applyReference 1).written

/-- spec/03_line_modes.md, worked example: at 6.875 bits a thread offers 1 303 positions per LF, at 6.5 bits 1 216 with 256 fill bits. -/
theorem test_stitches_of_l3200 :
    l3200.stitches 15 = 1303 ∧ { l3200 with codes := List.replicate 32 52 }.stitches 15 = 1216 ∧
      { l3200 with codes := List.replicate 32 52 }.fill 15 = 256 := by decide

/-- The same example: an LF of 6.553 6 µs, a multiframe of 104.857 6 µs and a tenant grain of 9.765 625 Mb/s. -/
theorem test_times_of_l3200 :
    l3200.lfFs = 6553600000 ∧ l3200.multiframeFs = 104857600000 ∧ l3200.grain = 9765625 := by decide

/-- spec/11_picot.md, worked example: 2-level HELLO 272 symbols, OFFER 800, ACCEPT 208, SHARE 1 016 and CONFIRM 288; and
spec/05_transmit.md: 213 bytes at 4-level make 972. -/
theorem test_picot_durations :
    picotSymbols 16 1 = 272 ∧ picotSymbols 82 1 = 800 ∧ picotSymbols 8 1 = 208 ∧ picotSymbols 109 1 = 1016 ∧
      picotSymbols 18 1 = 288 ∧ picotSymbols 213 2 = 972 := by decide

/-- spec/09_tenants.md, worked example: 10 241 sealed positions hold 10 486 592 bits per multiframe. -/
theorem test_container_bits : containerBits 10241 true = 10486592 := by decide

/-- spec/08_line_frame.md, worked example: the OTU4 client of 111.809 973 568 Gb/s needs 11 452 positions less 256 bits. -/
theorem test_cbr_positions :
    l3200.cbrFits 111809973568 (1024 * 11452 - 256) = true ∧ l3200.cbrFits 111809973568 (1024 * 11451 - 256) = false := by decide

/-- spec/10_sealing.md, worked example: the bytes before the session salt in the message for tenant 42 at epoch 8. -/
theorem test_kdf_message :
    (kdfMessage (ascii "RINEZ-TENANT") 42 0 0 8 []).take 25 =
      [0, 0, 0, 1, 0x52, 0x49, 0x4E, 0x45, 0x5A, 0x2D, 0x54, 0x45, 0x4E, 0x41, 0x4E, 0x54, 0, 0, 0x2A, 0, 0, 0, 0, 0, 8] := by decide

end Sys2Proof.Tests
end

section
/-! SUPPORT. `LineOnly s t`: going from `s` to `t`, nothing but the dictionary store, the event counters, what is sent and the
state of the server, the transactions, the converters, the receiver, the framer and the lanes has changed. One lemma for each
operation that the judgement of the converters (R28, R135) and the alert line (R444) run through. -/

namespace Sys2Proof.Machine

/-- `s` with the nine parts that the line's own judgements may write as `t` has them. -/
def State.withLineOf (s t : State) : State :=
  { s with dict := t.dict, events := t.events, out := t.out, srv := t.srv, tra := t.tra, cnv := t.cnv, rx := t.rx, frm := t.frm,
           lan := t.lan }

/-- Every part of the state but those nine stands. -/
def LineOnly (s t : State) : Prop := t = s.withLineOf t

namespace LineOnly

variable {s t u : State}

theorem refl (s : State) : LineOnly s s := rfl

/-- The last act first, as the model's operations are read from the outside in. -/
theorem after (k : LineOnly t u) (h : LineOnly s t) : LineOnly s u :=
  Eq.trans k (congrArg (·.withLineOf u) h)

/-- A record update of parts among the nine. -/
theorem upd {dict events out srv tra cnv rx frm lan} (h : LineOnly s t) :
    LineOnly s (State.mk t.pending t.uptime t.devTime t.free dict events t.latched t.levels out t.mem t.flash t.fuse t.pow t.ctl srv
      tra t.cfg cnv t.tx rx t.fec frm t.grm t.sls t.pic t.tim lan t.bob t.eng t.mat t.mms t.boot t.tel) :=
  .after rfl h

theorem ite {c : Prop} [Decidable c] (h : LineOnly s t) (k : LineOnly s u) : LineOnly s (if c then t else u) := by
  split <;> assumption

theorem each {β : Type} {l : List β} {f : State → β → State} (h : LineOnly s t) (hf : ∀ v b, LineOnly v (f v b)) :
    LineOnly s (t.each l f) :=
  State.each_keeps (LineOnly s) l f (fun _ b hv => .after (hf _ b) hv) t h

theorem whenB {c : Bool} {f : State → State} (h : LineOnly s t) (hf : ∀ v, LineOnly v (f v)) : LineOnly s (t.whenB c f) :=
  State.whenB_keeps (LineOnly s) t c f h (.after (hf t) h)

theorem pow_eq (h : LineOnly s t) : t.pow = s.pow := Eq.trans (congrArg State.pow h) rfl
theorem ctl_eq (h : LineOnly s t) : t.ctl = s.ctl := Eq.trans (congrArg State.ctl h) rfl
theorem uptime_eq (h : LineOnly s t) : t.uptime = s.uptime := Eq.trans (congrArg State.uptime h) rfl
theorem eng_eq (h : LineOnly s t) : t.eng = s.eng := Eq.trans (congrArg State.eng h) rfl

end LineOnly

/-! ### Entries, events and what is sent -/

theorem State.wrN_lineOnly (s : State) (idx sub v : Nat) : LineOnly s (s.wrN idx sub v) := rfl
theorem State.wrB_lineOnly (s : State) (idx sub : Nat) (v : Bool) : LineOnly s (s.wrB idx sub v) := rfl
theorem State.wrBit_lineOnly (s : State) (idx sub i : Nat) (v : Bool) : LineOnly s (s.wrBit idx sub i v) := rfl
theorem State.inc32_lineOnly (s : State) (idx sub : Nat) : LineOnly s (s.inc32 idx sub) := rfl
theorem State.emit_lineOnly (s : State) (o : Out) : LineOnly s (s.emit o) := rfl

theorem State.vector_lineOnly (s : State) (v : Nat) : LineOnly s (s.vector v) := by
  unfold State.vector
  exact .ite rfl rfl

theorem State.countCode_lineOnly (s : State) (c n : Nat) : LineOnly s (s.countCode c n) := by
  unfold State.countCode
  exact .ite rfl rfl

theorem State.count_lineOnly (s : State) (e : Ev) : LineOnly s (s.count e) := State.countCode_lineOnly ..

theorem State.countRaise_lineOnly (s : State) (e : Ev) : LineOnly s (s.countRaise e) := by
  unfold State.countRaise
  exact .ite rfl (State.count_lineOnly ..)

theorem State.defect_lineOnly (s : State) (idx sub i : Nat) (v : Bool) : LineOnly s (s.defect idx sub i v) := by
  unfold State.defect
  have seen : ∀ t : State, LineOnly s t → LineOnly s (if v then
      { t with frm := { t.frm with seen := lmod (key idx sub) 0 (fun x => setBit x i) t.frm.seen } } else t) :=
    fun t h => .ite (.upd h) h
  refine .ite ?_ (seen _ (State.wrBit_lineOnly ..))
  exact .after (State.countCode_lineOnly ..) (seen _ (State.wrBit_lineOnly ..))

theorem State.raise_lineOnly (s : State) (idx sub i : Nat) : LineOnly s (s.raise idx sub i) := State.defect_lineOnly ..

theorem State.ssf_lineOnly (s : State) : LineOnly s s.ssf :=
  .each (.refl _) fun _ _ => State.defect_lineOnly ..

/-! ### Withdrawing staged transactions (R88) -/

theorem State.sendAnswer_lineOnly (s : State) (o : Out) : LineOnly s (s.sendAnswer o) := by
  unfold State.sendAnswer
  split
  · exact .whenB (.upd (.refl _)) fun _ => State.vector_lineOnly ..
  · exact rfl
  · exact rfl

theorem State.respond_lineOnly (s : State) (src : Source) (seq : Nat) (o : Out) : LineOnly s (s.respond src seq o) := by
  unfold State.respond
  refine .after (State.inc32_lineOnly ..) ?_
  exact .after (State.sendAnswer_lineOnly ..) rfl

theorem State.makeResponse_lineOnly (s : State) (src : Source) (op seq : Nat) (slot : Option Nat) (st : Status) (retry tag : Nat)
    (items : List RspItem) : LineOnly s (s.makeResponse src op seq slot st retry tag items).2 := by
  cases slot <;> rfl

theorem State.mapReport_lineOnly (s : State) : LineOnly s s.mapReport :=
  .each (.refl _) fun _ _ => State.wrB_lineOnly ..

theorem State.finish_lineOnly (s : State) (x : Staged) (st : Status) : LineOnly s (s.finish x st) := by
  unfold State.finish
  refine .after (State.respond_lineOnly ..) ?_
  refine .after (State.makeResponse_lineOnly ..) ?_
  exact .after (State.mapReport_lineOnly ..) rfl

theorem State.withdrawSelf_lineOnly (s : State) (x : Staged) (st : Status) : LineOnly s (s.withdrawSelf x st) := by
  unfold State.withdrawSelf
  exact .ite (.upd (State.finish_lineOnly ..)) (State.finish_lineOnly ..)

theorem State.withdrawOver_lineOnly (n : Nat) (s : State) : LineOnly s (State.withdrawOver n s) := by
  induction n generalizing s with
  | zero => exact .refl _
  | succ n ih =>
    unfold State.withdrawOver
    split
    · exact .after (ih _) (State.withdrawSelf_lineOnly ..)
    · exact .refl _

theorem State.withdrawOne_lineOnly (s : State) (x : Staged) (st : Status) : LineOnly s (s.withdrawOne x st) := by
  unfold State.withdrawOne
  exact .ite (.after (State.withdrawOver_lineOnly ..) (State.withdrawSelf_lineOnly ..)) (.refl _)

theorem State.withdraw_lineOnly (s : State) (p : Staged → Bool) (st : Status) : LineOnly s (s.withdraw p st) :=
  .each (.refl _) fun _ _ => State.withdrawOne_lineOnly ..

theorem State.withdrawThread_lineOnly (s : State) (k : Nat) : LineOnly s (s.withdrawThread k) := State.withdraw_lineOnly ..

/-! ### Losing threads and acquiring again (R190, R234) -/

theorem State.setHunt_lineOnly (s : State) (k : Nat) (h : HuntState) : LineOnly s (s.setHunt k h) := rfl

theorem State.easelEvent_lineOnly (s : State) (n k : Nat) : LineOnly s (s.easelEvent n k) :=
  .whenB (.refl _) fun _ => rfl

theorem State.badStitches_lineOnly (s : State) (n count : Nat) : LineOnly s (s.badStitches n count) := by
  unfold State.badStitches
  exact .ite rfl rfl

theorem State.countLf_lineOnly (s : State) (k : Nat) (accepted : Bool) : LineOnly s (s.countLf k accepted) := by
  unfold State.countLf
  exact .ite rfl rfl

theorem State.lfCut_lineOnly (s : State) (k : Nat) : LineOnly s (s.lfCut k) :=
  .each (State.countLf_lineOnly ..) fun _ _ => .after (State.badStitches_lineOnly ..) rfl

theorem State.huntOff_lineOnly (s : State) (k : Nat) : LineOnly s (s.huntOff k) := by
  unfold State.huntOff
  refine .whenB ?_ fun _ => State.withdrawThread_lineOnly ..
  refine .after (State.setHunt_lineOnly ..) ?_
  refine .after (State.wrN_lineOnly ..) ?_
  exact .whenB (.refl _) fun _ => State.lfCut_lineOnly ..

theorem State.setLock_lineOnly (s : State) (k v : Nat) : LineOnly s (s.setLock k v) := by
  unfold State.setLock
  refine .ite (.ite rfl rfl) (.ite rfl ?_)
  exact .after (State.huntOff_lineOnly ..) (State.wrN_lineOnly ..)

theorem State.loseThread_lineOnly (s : State) (k v : Nat) : LineOnly s (s.loseThread k v) := by
  unfold State.loseThread
  refine .ite (State.setLock_lineOnly ..) ?_
  refine .after (State.easelEvent_lineOnly ..) ?_
  refine .after (State.setLock_lineOnly ..) ?_
  refine .after (State.count_lineOnly ..) ?_
  exact .after (State.inc32_lineOnly ..) (State.raise_lineOnly ..)

theorem State.loseAll_lineOnly (s : State) : LineOnly s s.loseAll :=
  .each (.refl _) fun _ _ => State.loseThread_lineOnly ..

theorem State.startAcquisition_lineOnly (s : State) (cold : Bool) : LineOnly s (s.startAcquisition cold) := rfl

theorem State.rxInvalidJudge_lineOnly (s : State) : LineOnly s s.rxInvalidJudge := by
  unfold State.rxInvalidJudge
  refine .ite (.refl _) (.ite ?_ (.ite ?_ (State.defect_lineOnly ..)))
  · refine .after (State.ssf_lineOnly ..) ?_
    refine .after (State.startAcquisition_lineOnly ..) ?_
    exact .after (State.loseAll_lineOnly ..) (State.defect_lineOnly ..)
  · refine .after (State.ssf_lineOnly ..) ?_
    exact .after (State.startAcquisition_lineOnly ..) (State.defect_lineOnly ..)

/-! ### Slices and rotation (R126 to R135) -/

theorem State.setSlice_lineOnly (s : State) (a n : Nat) (x : Slice) : LineOnly s (s.setSlice a n x) := rfl

theorem State.setRole_lineOnly (s : State) (a n r : Nat) : LineOnly s (s.setRole a n r) := rfl

theorem State.trimReport_lineOnly (s : State) (a : Nat) : LineOnly s (s.trimReport a) := rfl

theorem State.adcReport_lineOnly (s : State) (a : Nat) : LineOnly s (s.adcReport a) := by
  unfold State.adcReport
  refine .after (State.rxInvalidJudge_lineOnly ..) ?_
  refine .after (State.defect_lineOnly ..) ?_
  exact .after (State.defect_lineOnly ..) rfl

theorem State.fillDegraded_lineOnly (s : State) (a : Nat) : LineOnly s (s.fillDegraded a) := by
  unfold State.fillDegraded
  split
  · exact .after (State.count_lineOnly ..) rfl
  · exact .refl _

theorem State.abandon_lineOnly (s : State) (a : Nat) : LineOnly s (s.abandon a) := by
  unfold State.abandon
  refine .after (State.count_lineOnly ..) ?_
  refine .after (State.inc32_lineOnly ..) ?_
  refine .upd ?_
  split
  · exact .ite rfl rfl
  · exact .refl _

theorem State.freezeConverters_lineOnly (s : State) : LineOnly s s.freezeConverters := by
  unfold State.freezeConverters
  refine .after (State.wrN_lineOnly ..) ?_
  refine .upd (.each (.refl _) fun u a => ?_)
  split
  · refine .ite (State.setRole_lineOnly ..) ?_
    refine .after (State.adcReport_lineOnly ..) ?_
    refine .after (State.fillDegraded_lineOnly ..) ?_
    exact .after (State.abandon_lineOnly ..) (State.setSlice_lineOnly ..)
  · exact .refl _

theorem State.startRotation_lineOnly (s : State) (a p : Nat) (retire : Bool) : LineOnly s (s.startRotation a p retire) := by
  unfold State.startRotation
  split <;> rfl

theorem State.roundRobin_lineOnly (s : State) (a : Nat) : LineOnly s (s.roundRobin a) := by
  unfold State.roundRobin
  refine .ite ?_ (.refl _)
  refine .after (State.adcReport_lineOnly ..) ?_
  exact .after (State.wrN_lineOnly ..) (State.startRotation_lineOnly ..)

theorem State.servedRetires_lineOnly (s : State) (a : Nat) : LineOnly s (s.servedRetires a) := by
  unfold State.servedRetires
  refine .each (.refl _) fun t x => .ite ?_ rfl
  exact .after (State.adcReport_lineOnly ..) rfl

theorem State.nextRetire_lineOnly (s : State) (a : Nat) : LineOnly s (s.nextRetire a) := by
  have served := State.servedRetires_lineOnly s a
  unfold State.nextRetire
  refine .ite served ?_
  split
  · refine .ite served ?_
    refine .after (State.adcReport_lineOnly ..) ?_
    exact .after (State.startRotation_lineOnly ..) (.upd served)
  · exact .ite (.after (State.roundRobin_lineOnly ..) (.upd served)) served

theorem State.readmitted_lineOnly (s : State) (a n : Nat) (m : SliceMeasure) : LineOnly s (s.readmitted a n m) := by
  unfold State.readmitted
  refine .after (State.nextRetire_lineOnly ..) ?_
  refine .after (State.adcReport_lineOnly ..) ?_
  refine .after (State.trimReport_lineOnly ..) ?_
  exact .ite (.after (State.fillDegraded_lineOnly ..) (State.setSlice_lineOnly ..)) rfl

theorem State.resumeConverters_lineOnly (s : State) : LineOnly s s.resumeConverters := by
  unfold State.resumeConverters
  refine .each ?_ fun _ _ => State.nextRetire_lineOnly ..
  refine .after (State.wrN_lineOnly ..) ?_
  refine .each ?_ fun _ _ => State.readmitted_lineOnly ..
  refine .upd (.each rfl fun u a => ?_)
  split
  · exact .ite (State.setRole_lineOnly ..) (.refl _)
  · exact .refl _

theorem State.convJudge_lineOnly (s : State) : LineOnly s s.convJudge := by
  unfold State.convJudge
  refine .ite (.refl _) (.ite ?_ (.ite ?_ (.refl _)))
  · exact State.freezeConverters_lineOnly ..
  · exact State.resumeConverters_lineOnly ..

/-! ### Wake causes and the alert line (R420, R444) -/

theorem State.wakeMark_lineOnly (s : State) (path : Nat) (cs : List Nat) : LineOnly s (s.wakeMark path cs) := rfl

theorem State.wakeN_lineOnly (s : State) (low : Bool) : LineOnly s (s.wakeN low) := by
  unfold State.wakeN
  refine .ite (.refl _) ?_
  exact .after (State.emit_lineOnly ..) (.whenB rfl fun _ => State.inc32_lineOnly ..)

theorem State.wakeSignal_lineOnly (s : State) : LineOnly s s.wakeSignal := by
  unfold State.wakeSignal
  refine .ite (.ite (.refl _) ?_) (.ite (.refl _) (.ite ?_ (.ite ?_ (.refl _)))) <;> split
  · exact .refl _
  · exact .after (State.wakeN_lineOnly ..) (State.wakeMark_lineOnly ..)
  · exact .refl _
  · exact rfl
  · exact .refl _
  · exact .after (State.vector_lineOnly ..) (State.wakeMark_lineOnly ..)

theorem State.wakeRaise_lineOnly (s : State) (c : Nat) : LineOnly s (s.wakeRaise c) := by
  unfold State.wakeRaise
  exact .ite (.after (State.wakeSignal_lineOnly ..) (State.wrBit_lineOnly ..)) (.refl _)

theorem State.alertUpdate_lineOnly (s : State) : LineOnly s s.alertUpdate := by
  unfold State.alertUpdate
  refine .ite (.refl _) (.ite ?_ rfl)
  refine .after (State.wakeRaise_lineOnly ..) ?_
  refine .after (State.vector_lineOnly ..) ?_
  exact .after (State.countRaise_lineOnly ..) rfl

end Sys2Proof.Machine
end


section
/-! SUPPORT. The mode after a change of mode and after ENTER_SAFE, and what the rows of a HITLESS RESTART do (R23, R28, R32,
R38). -/

namespace Sys2Proof.Machine

theorem State.inMode_of_ne {s : State} {m : Mode} (h : s.ctl.mode ≠ m) : s.inMode m = false := decide_eq_false h

/-! ### The control part -/

@[simp] theorem State.count_pow (s : State) (e : Ev) : (s.count e).pow = s.pow := (State.count_lineOnly ..).pow_eq
@[simp] theorem State.count_ctl (s : State) (e : Ev) : (s.count e).ctl = s.ctl := (State.count_lineOnly ..).ctl_eq
@[simp] theorem State.vector_ctl (s : State) (v : Nat) : (s.vector v).ctl = s.ctl := (State.vector_lineOnly ..).ctl_eq
@[simp] theorem State.wakeRaise_ctl (s : State) (c : Nat) : (s.wakeRaise c).ctl = s.ctl := (State.wakeRaise_lineOnly ..).ctl_eq
@[simp] theorem State.alertUpdate_ctl (s : State) : s.alertUpdate.ctl = s.ctl := (State.alertUpdate_lineOnly s).ctl_eq
@[simp] theorem State.picotCancel_ctl (s : State) (k : Nat) : (s.picotCancel k).ctl = s.ctl := rfl
@[simp] theorem State.modeReport_ctl (s : State) : s.modeReport.ctl = s.ctl := rfl

theorem State.whenB_ctl {s : State} {c : Bool} {f : State → State} (hf : ∀ u, (f u).ctl = u.ctl) :
    (s.whenB c f).ctl = s.ctl :=
  State.whenB_keeps (fun u => u.ctl = s.ctl) s c f rfl (hf s)

/-- Once the old mode is left, a change of mode changes only the mode of the control part (R32). -/
theorem State.setMode_ctl (s : State) (m : Mode) : (s.setMode m).ctl = { (s.modeLeft m).ctl with mode := m } := by
  have entered : ∀ t : State, (((t.inc32 0x1001 6).count (.modeEntry m.num)).whenB (m != .shed) fun u => u.wrN 0x1001 5 0).ctl
      = t.ctl := fun t => (State.whenB_ctl fun _ => State.wrN_ctl ..).trans (State.count_ctl ..)
  unfold State.setMode
  refine (State.whenB_ctl fun _ => State.wakeRaise_ctl ..).trans ?_
  refine (State.whenB_ctl fun _ => State.vector_ctl ..).trans ?_
  refine (State.whenB_ctl fun _ => State.alertUpdate_ctl _).trans ?_
  refine (State.whenB_ctl fun _ => State.picotCancel_ctl ..).trans ?_
  split <;> exact entered _

/-- ENTER_SAFE ends in SAFE from every mode but RESET and BOOT (R32, R38). -/
theorem State.toSafe_mode {s : State} (hreset : s.ctl.mode ≠ .reset) (hboot : s.ctl.mode ≠ .boot) (cause : Nat) :
    (s.toSafe cause).ctl.mode = .safe := by
  by_cases hsafe : s.ctl.mode = .safe
  · have hin : s.inMode .safe = true := decide_eq_true hsafe
    simp only [State.toSafe, State.inMode_of_ne hreset, State.inMode_of_ne hboot, hin, Bool.or_self, Bool.false_eq_true,
      if_false, if_true]
    split <;> split <;> exact hsafe
  · simp only [State.toSafe, State.inMode_of_ne hreset, State.inMode_of_ne hboot, State.inMode_of_ne hsafe, Bool.or_self,
      Bool.false_eq_true, if_false, State.modeReport_ctl, State.setMode_ctl]

/-! ### A HITLESS RESTART starts (R28, R526) -/

/-- Once it is due, with no restart and no move under way, a HITLESS RESTART starts; the device's parts outside the line stand. -/
theorem exec_hitlessRestart_starts {s : State} (hreset : s.ctl.mode ≠ .reset) (hboot : s.ctl.mode ≠ .boot)
    (hdue : s.pow.restartDue.isSome) (hidle : s.pow.restarting = false) (hmove : s.eng.move = none) :
    ∃ t, exec .hitlessRestart s = .next t ∧
      LineOnly { s with pow := { s.pow with restartDue := none, restarting := true } } t := by
  obtain ⟨cause, hcause⟩ := Option.isSome_iff_exists.mp hdue
  refine ⟨_, rfl, ?_⟩
  simp only [hcause, hidle, hmove, State.inMode_of_ne hreset, State.inMode_of_ne hboot, Option.isSome_none, Bool.or_self,
    Bool.false_eq_true, if_false]
  exact .after (State.convJudge_lineOnly _) (.after (State.count_lineOnly ..) rfl)

/-! ### A lockstep mismatch outside RESET and BOOT (R23) -/

/-- A mismatch counted, and its time remembered. -/
def State.mismatchNoted (s : State) : State :=
  let t := s.count .lockstep
  { t with pow := { t.pow with lastMismatch := some t.uptime } }

theorem State.mismatchNoted_ctl (s : State) : s.mismatchNoted.ctl = s.ctl := State.count_ctl ..

theorem State.mismatchNoted_eng (s : State) : s.mismatchNoted.eng = s.eng := (State.count_lineOnly ..).eng_eq

theorem State.mismatchNoted_pow (s : State) : s.mismatchNoted.pow = { s.pow with lastMismatch := some s.uptime } := by
  simp [State.mismatchNoted, (State.count_lineOnly s .lockstep).uptime_eq]

/-- Whether the last mismatch was at most 1 s ago. -/
def State.mismatchedLately (s : State) : Bool :=
  match s.pow.lastMismatch with
  | some u => decide (s.uptime ≤ u + 1000000)
  | none => false

/-- A HITLESS RESTART falls due for a mismatch; an update whose supervisor is not being restarted reverses. -/
def State.mismatchRestart (s : State) : State :=
  let t := s.restartFor .lockstep
  match t.boot.update with
  | some u => if u.supervisor then t else t.updateReverse u .aborted
  | none => t

/-- An update that reverses leaves the mode, the engines and what is due as they stand. -/
theorem State.mismatchRestart_parts (s : State) :
    s.mismatchRestart.ctl = s.ctl ∧ s.mismatchRestart.eng = s.eng ∧ s.mismatchRestart.pow = (s.restartFor .lockstep).pow := by
  unfold State.mismatchRestart
  dsimp only
  split
  · split <;> exact ⟨rfl, rfl, rfl⟩
  · exact ⟨rfl, rfl, rfl⟩

/-- Outside RESET and BOOT a mismatch is noted, and leads to SAFE or to a HITLESS RESTART. -/
theorem exec_lockstepMismatch {s : State} (hon : s.on 1 = true) (hreset : s.ctl.mode ≠ .reset) (hboot : s.ctl.mode ≠ .boot) :
    exec .lockstepMismatch s =
      .next (if s.mismatchedLately then s.mismatchNoted.toSafe 3 else s.mismatchNoted.mismatchRestart) := by
  have counted : ¬ ((!s.on 1 || s.inMode .reset) = true) := by simp [hon, State.inMode_of_ne hreset]
  have booted : ¬ (s.mismatchNoted.inMode .boot = true) :=
    ne_true_of_eq_false (State.inMode_of_ne (s.mismatchNoted_ctl ▸ hboot))
  exact congrArg Host.Outcome.next ((if_neg counted).trans (if_neg booted))

end Sys2Proof.Machine
end

section
/-! PROOF. R23: a first lockstep mismatch takes a HITLESS RESTART, a second within 1 s of it leads to SAFE. -/

namespace Sys2Proof.Machine

section
variable {s : State} (hon : s.on 1 = true) (hreset : s.ctl.mode ≠ .reset) (hboot : s.ctl.mode ≠ .boot)
include hon hreset hboot

/-- With no mismatch in the second before, a HITLESS RESTART is due in the same mode, and starts at once where nothing holds it
off. -/
theorem firstLockstepMismatch_restarts (hfirst : ∀ u, s.pow.lastMismatch = some u → u + 1000000 < s.uptime) :
    ∃ t, exec .lockstepMismatch s = .next t ∧ t.pow.restartDue.isSome ∧ t.pow.lastMismatch = some s.uptime ∧ t.ctl = s.ctl ∧
      (s.eng.move = none → s.pow.restarting = false → ∃ u, exec .hitlessRestart t = .next u ∧ u.pow.restarting = true) := by
  have alone : s.mismatchedLately = false := by
    unfold State.mismatchedLately
    split
    · next u hlast => exact decide_eq_false (Nat.not_le.mpr (hfirst u hlast))
    · rfl
  obtain ⟨hctl, heng, hpow⟩ := s.mismatchNoted.mismatchRestart_parts
  rw [State.mismatchNoted_ctl] at hctl
  rw [State.mismatchNoted_eng] at heng
  simp only [State.restartFor, State.mismatchNoted_pow] at hpow
  refine ⟨s.mismatchNoted.mismatchRestart, ?_, by simp [hpow], by simp [hpow], hctl, fun hmove hidle => ?_⟩
  · rw [exec_lockstepMismatch hon hreset hboot, alone]
    rfl
  · obtain ⟨u, hu, hline⟩ := exec_hitlessRestart_starts (s := s.mismatchNoted.mismatchRestart) (hctl ▸ hreset) (hctl ▸ hboot)
      (by simp [hpow]) (by simp [hpow, hidle]) (heng ▸ hmove)
    exact ⟨u, hu, by rw [hline.pow_eq]⟩

/-- A mismatch within 1 s of the last is fatal. -/
theorem secondLockstepMismatch_safe {u : Nat} (hlast : s.pow.lastMismatch = some u) (hsoon : s.uptime ≤ u + 1000000) :
    ∃ t, exec .lockstepMismatch s = .next t ∧ t.ctl.mode = .safe := by
  have again : s.mismatchedLately = true := by
    simp only [State.mismatchedLately, hlast, decide_eq_true hsoon]
  refine ⟨s.mismatchNoted.toSafe 3, ?_, ?_⟩
  · rw [exec_lockstepMismatch hon hreset hboot, again]
    rfl
  · exact State.toSafe_mode (s.mismatchNoted_ctl ▸ hreset) (s.mismatchNoted_ctl ▸ hboot) 3

end

/-- Settles O8: the mismatch is noted with its time, and the time of the one before decides between the restart and SAFE. -/
theorem secondLockstepMismatchLeadsToSafe : Obligations.SecondLockstepMismatchLeadsToSafe := by
  unfold Obligations.SecondLockstepMismatchLeadsToSafe
  intro s hon hreset hboot
  exact ⟨firstLockstepMismatch_restarts hon hreset hboot, fun _ => secondLockstepMismatch_safe hon hreset hboot⟩

end Sys2Proof.Machine
end

section
/-! PROOF. R424: a strap conflict raises GRP_STRAP, but the release can clear it again: in BOOT, held by a standing TEMP_SHUTDOWN, the
calibration loops of a converter that does not exist write over it. -/

namespace Sys2Proof.Machine

/-- The state a release boots from: the straps are latched, and duplicate address detection starts where no address stands
(R519, R526). -/
def State.strapsLatched (s : State) (straps : BitVec 16) : State :=
  let t : State := { s with pow := { s.pow with released := true, straps := straps.toNat } }
  if t.srv.addrValid then { t with srv := { t.srv with mdioOn := true } } else t.emit (.neighbourSolicit t.linkLocal)

/-- With every rail good and RESET_N high a release boots with the straps it latches. -/
theorem exec_porRelease_boots {s : State} (straps : BitVec 16) (mv : Nat) (rom : Bool) (hgroups : s.pow.groups = 3)
    (hreleased : s.pow.released = false) (hpin : s.pow.pinLow = false) :
    exec (.porRelease straps mv rom) s = .next ((s.strapsLatched straps).enterBoot mv rom) := by
  have due : ¬ (s.pow.groups ≠ 3 ∨ s.pow.released = true ∨ s.pow.pinLow = true) := by simp [hgroups, hreleased, hpin]
  exact congrArg Host.Outcome.next (if_neg due)

/-- A converter number that no device has: the entry 0D of its record at `2010` + number is 8C00:0D, where GRP_STRAP stands. -/
def strayConverter : Nat := 0x8C00 - 0x2010

/-- A device before its release whose TEMP_SHUTDOWN of 1012:06 stands. The calibration loops of 2000:09 are in state 2 and
frozen; the stray converter waits with one ready spare, a rotation that fell due and the re-admission of a second spare. -/
def strayRelease : State := { State.reset with
  dict := [(key 0x1012 6, .num 4), (key 0x2000 9, .num 2)]
  pow := { State.reset.pow with groups := 3, domains := bootMask }
  cnv := { State.reset.cnv with
    frozen := true
    startDue := [strayConverter]
    readmits := [((strayConverter, 1), { found := ⟨0, 0, 0, 0⟩, left := ⟨0, 0, 0, 0⟩, corr := ⟨0, 0, 0, 0, []⟩ })]
    slices := [(sliceKey strayConverter 0, { Slice.off with role := 1 })] } }

/-- The shutdown holds BOOT and gates PD22, whose engines report to the calibration loops. These resume, re-admit the second
spare, and take up the rotation of the stray converter: its next position moves from 1, the bit of GRP_STRAP, to 2. -/
theorem strayRelease_clears_grpStrap :
    ((strayRelease.strapsLatched 5).enterBoot 750 false).rdBit 0x8C00 0x0D 0 = false := by decide +kernel

/-- Refutes O60: `strayRelease` meets the premises, straps of a master at position 1 are a conflict, and the release answers a
state with GRP_STRAP clear. The statement ranges over all states; a premise that the converters' waiting work names only
converters 0 to 3 would exclude this one. -/
theorem not_strapsDecideTheRole : ¬ Obligations.StrapsDecideTheRole := by
  unfold Obligations.StrapsDecideTheRole
  rintro ⟨latched, -⟩
  obtain ⟨t, ht, -, -, -, conflict⟩ :=
    latched true 1 0 750 false strayRelease (by decide) (by decide) (by decide) (by decide)
  obtain ⟨-, -, raised⟩ := conflict rfl (by decide)
  have answers := exec_porRelease_boots (s := strayRelease) 5 750 false (by decide) (by decide) (by decide)
  have ht' : t = (strayRelease.strapsLatched 5).enterBoot 750 false := Host.Outcome.next.inj (ht.symm.trans answers)
  rw [ht', strayRelease_clears_grpStrap] at raised
  exact Bool.noConfusion raised

end Sys2Proof.Machine
end
